-- ==== Sys2Proof/Word.lean ====
section
/-!
DEFINITION. The word types of the IDN8400 model (R8: registers are 32 bits wide; R49: LT48 is a
48-bit count; R158: a row entry is 64 bits).
-/
namespace Sys2Proof

/-- One byte of a wire format (big-endian, R8). -/
abbrev Byte := BitVec 8
/-- One 32-bit register (R8, R545). -/
abbrev W32 := BitVec 32
/-- One row entry (R158). -/
abbrev W64 := BitVec 64
/-- Linear time: 8 ns ticks modulo 2^48 (R49). -/
abbrev LT48 := BitVec 48
/-- A SHA-384 digest. -/
abbrev Digest := BitVec 384
/-- A sparse table: keys strictly rising, one value a key. -/
abbrev Tab (α : Type) := List (Nat × α)

/-- An exact fraction, kept in lowest terms with a positive denominator by the operations of Machine/Ops. -/
structure Q where
  num : Int
  den : Nat
  deriving DecidableEq, Repr

end Sys2Proof
end

