-- ==== Sys2Proof/Syntax.lean ====
section
/-!
DEFINITION. The commands of the IDN8400: one constructor for each row of the operation table, with its operands, and the
types the operands have.
-/
namespace Sys2Proof

/-- One literal of bell logic (R328). -/
structure Literal where
  neg    : Bool
  kind   : Nat
  engine : Nat
  index  : Nat
  deriving DecidableEq, Repr

/-- One bell's entry in BELL_LOGIC (R328 to R331): an OR of terms, each an AND of literals. -/
structure BellEntry where
  terms   : List (List Literal)
  pickup  : Nat
  dropout : Nat
  latch   : Bool
  deriving DecidableEq, Repr

/-- One ENVELOPES entry (R326). -/
structure EnvEntry where
  param : Nat
  min   : Nat
  max   : Nat
  deriving DecidableEq, Repr

/-- The NETWORK section (R321). -/
structure NetSection where
  bellfPort : Nat
  group1    : Nat
  vlan1     : Nat
  dscp1     : Nat
  group2    : Nat
  vlan2     : Nat
  dscp2     : Nat
  gooseApp  : Nat
  gooseMac  : Nat
  gooseVlan : Nat
  gooseT0   : Nat
  gocbRef   : List Byte
  datSet    : List Byte
  goId      : List Byte
  deriving DecidableEq, Repr

/-- A guard setting package as read from its bytes (R320, R321). -/
structure GspPkg where
  magic     : Nat
  format    : Nat
  bind      : Bool
  version   : Nat
  topId     : Nat
  device    : BitVec 256
  totalLen  : Nat
  /-- TYPE of each section present, in order. -/
  sections  : List Nat
  groupId   : Nat
  evTimeout : Nat
  fwWdt     : Nat
  signSlot  : Nat
  envelopes : List EnvEntry
  logic     : List BellEntry
  bellMap   : List Nat
  failsafe  : List Nat
  pinRoles  : List Nat
  net       : NetSection
  roles     : List Nat
  /-- Every body has exactly the fields its section lists, and every reserved or padding byte is 0 (R320, R321). -/
  wellFormed : Bool
  deriving DecidableEq, Repr

/-- What a received frame is, as R94 and R105 distinguish it. -/
inductive FrameClass where
  | ptp | lldp | mka | prpSup
  /-- A GOOSE message, by its APPID. -/
  | goose (appid : Nat)
  | sv
  /-- An ARP request for an address the device holds, or a reply to a request it sent. -/
  | arpOwn
  | udp (dport : Nat)
  /-- A TCP segment of a C37.118 connection firmware holds or accepts. -/
  | tcpC37
  /-- An IPv4 fragment: datagram id, and whether the first fragment has arrived and admits the datagram. -/
  | fragment (id : Nat) (first : Bool) (admits : Bool)
  | icmpEcho
  | other
  deriving DecidableEq, Repr

/-- A received Ethernet frame, as the MAC measures it (R91 to R108). -/
structure RxFrame where
  length : Nat
  fcsOk  : Bool
  ether  : Nat
  cls    : FrameClass
  /-- VID and PCP of its 802.1Q tag. -/
  tag    : Option (Nat × Nat)
  mac    : Nat
  ip     : Option Nat
  /-- PRP redundancy control trailer: sequence number. -/
  prp    : Option Nat
  /-- On the controlled port: the ICV passes, and the packet number. None on the uncontrolled port. -/
  sec    : Option (Bool × Nat)
  /-- Bytes of its pool taken out by the device since the pool's last frame. -/
  drained : Nat
  deriving DecidableEq, Repr

/-- Session and TAG of a Yelteilo command that passed the checks 1 to 6 of R430 (R428). -/
structure Hdr where
  session : Nat
  tag     : Nat
  deriving DecidableEq, Repr
/-- What the DRAM answers to the reads of one row (R190, R191): blocks whose first read fails its CRC, by the number of their
first row channel over 32, each with whether a re-read passes; flits retransmitted. -/
structure DramReads where
  fails : List (Nat × Bool)
  flits : Nat
  deriving DecidableEq, Repr


/-- One entry of an output-set definition (R180, R433). -/
structure OutEntry where
  rowCh : Nat
  block : Nat
  pos   : Nat
  /-- 0 integer, 1 float. -/
  fmt   : Nat
  deriving DecidableEq, Repr

/-- Where a datagram came from and where it is bound: port as W02.PORT codes it, VID or 0xFFF untagged. -/
structure NetSrc where
  port  : Nat
  mac   : Nat
  vlan  : Nat
  ip    : Nat
  dport : Nat
  deriving DecidableEq, Repr

/-- One PMU block of a data frame: STAT and the entry of each channel in the order of R566 with its PRESENT bit and value
field (R158, R159), 0 where the frame holds no value. -/
structure PmuBlock where
  stat    : Nat
  entries : List W64
  deriving DecidableEq, Repr

/-- A datagram on a data port, as decoded (R124 to R126). -/
structure C37Data where
  src       : NetSrc
  /-- It came over TCP (R121). -/
  tcp       : Bool
  /-- UDP payload length. -/
  len       : Nat
  /-- First byte; frame type and version of the second. -/
  sync      : Nat
  ftype     : Nat
  version   : Nat
  frameSize : Nat
  crcOk     : Bool
  idcode    : Nat
  soc       : Nat
  /-- FRACSEC[23:0]; the time-quality code; the leap-occurred bit. -/
  frac      : Nat
  code      : Nat
  leapOcc   : Bool
  /-- Corrected arrival timestamp in ns of TAI (R47, R104). -/
  arrival   : Nat
  blocks    : List PmuBlock
  deriving DecidableEq, Repr

/-- One PMU block of a parsed configuration. -/
structure CfgBlock where
  kinds  : List Nat
  scales : List W32
  format : Nat
  /-- CFGCNT. -/
  conf   : Nat
  deriving DecidableEq, Repr

/-- A CFG-2 or CFG-3 frame as parsed (R121). -/
structure CfgFrame where
  /-- DATA_RATE. -/
  rate     : Int
  timeBase : Nat
  /-- Size of a data frame under it. -/
  size     : Nat
  blocks   : List CfgBlock
  deriving DecidableEq, Repr

/-- A sampled-value frame and what the estimator made of it (R129 to R132). -/
structure SvFrame where
  src     : NetSrc
  /-- 4,800 samples/s, two ASDUs, the dataset of R129. -/
  inScope : Bool
  appid   : Nat
  svid    : List Byte
  confRev : Nat
  sim     : Bool
  synch   : Nat
  /-- Declared class of the merging unit. -/
  declared : Option Nat
  /-- TAI tick of the frame's last sample; samples lost since the frame before; validity of its two samples. -/
  last    : Nat
  lost    : Nat
  valid0  : Bool
  valid1  : Bool
  /-- Corrected arrival timestamp in ns of TAI. -/
  arrival : Nat
  /-- Slot times whose estimator window the frame completes, with the 12 channels. -/
  out     : List (Nat × List W64)
  deriving DecidableEq, Repr

/-- One phase's line cycle as integrated from its samples (R233): EP in J, EQ in var·s, ES in VA·s. -/
structure PhaseCycle where
  ep      : Q
  eq      : Q
  es      : Q
  /-- The window holds an INVALID sample (R236). -/
  invalid : Bool
  deriving DecidableEq, Repr

/-- One line cycle: its length Tc in s and the three phases (R233). -/
structure LineCycle where
  tc : Q
  a  : PhaseCycle
  b  : PhaseCycle
  c  : PhaseCycle
  deriving DecidableEq, Repr

/-- One mode an identification yields (R273), before it is matched. Numbers that software reads are IEEE 754
single precision; f and ζ are also exact, since alarms compare them. -/
structure ModeEst where
  freq   : Q
  zeta   : Q
  amp    : W32
  sigF   : W32
  sigZ   : W32
  /-- σ_f and σ_ζ in units of 10^-4 of f and 10^-4, and the quarters the mode is absent from (R273). -/
  sigFx  : Nat
  sigZx  : Nat
  absentQ : Nat
  /-- The three tests of R276 held in this update. -/
  forced : Bool
  suspect : Bool
  refCh  : Nat
  shape  : List W32
  /-- Learned damping when this update completes the 24 h of R274. -/
  median : Q
  deriving DecidableEq, Repr

/-- One member of a GOOSE message's allData, with the validity of the Quality that follows it (R296, R297). -/
inductive GooseMember where
  | dbpos (v : Nat) (goodQuality : Bool)
  | bool (v : Bool) (goodQuality : Bool)
  | other
  deriving DecidableEq, Repr

/-- A GOOSE message as decoded from its frame (R297). -/
structure GooseMsg where
  appid   : Nat
  hash    : W32
  confRev : W32
  /-- timeAllowedToLive in ms. -/
  ttl     : Nat
  ndsCom  : Bool
  sim     : Bool
  members : List GooseMember
  deriving DecidableEq, Repr

namespace Machine

/-- A station's quantities in one slot (R294). -/
structure StaObs where
  /-- Representative supplying F (7 none: UNOBSERVED), F in Hz and |V| in V; worst class among the entries used. -/
  rep   : Nat
  tq    : Nat
  f     : Q
  vMag  : Q
  /-- Representative supplying θ, and θ in degrees. -/
  theta : Option (Nat × Q)
  deriving DecidableEq, Repr

/-- One island entry (R300 to R303, R312). -/
structure Island where
  /-- 0 FREE, 1 CANDIDATE, 2 DECLARED, 3 SYNC_OK, 4 STALE. -/
  state    : Nat
  members  : List Nat
  count    : Nat
  id       : Nat
  /-- S of the slot where its count began. -/
  firstS   : Nat
  /-- Cause bits: 0 FREQ, 1 ANGLE, 2 TOPO (R312). -/
  cause    : Nat
  unmatched : Nat
  deadRun  : Nat
  mergeRun : Nat
  degraded : Bool
  blocked  : Bool
  /-- Mean F, Δf, Δθ, ΔV, advised tie, T_CLOSE (R307). -/
  meanF    : Option Q
  df       : Option Q
  da       : Option Q
  dv       : Option Q
  adv      : Option Nat
  tClose   : Option Q
  /-- ALN_LDG_LAST_SEQ of the slot evaluated last. -/
  seq      : W32
  deriving DecidableEq, Repr

/-- One bell as the guard runs it (R330 to R335). -/
structure Bell where
  /-- Asserted in the logic or by fail-safe, before the gate (GRD_BELL.LOGIC). -/
  on        : Bool
  /-- Logic value at the last evaluation. -/
  logic     : Bool
  /-- S of the first of the unbroken run of true (false) evaluations (R330). -/
  trueFrom  : Option Nat
  falseFrom : Option Nat
  /-- In fail-safe, and the engine whose misses put it there (R334). -/
  fs        : Bool
  fsEngine  : Nat
  /-- Released at the next evaluation: 2 by BELL_RESET, 3 by a commit that changed its entry; 0 not (R331, R332). -/
  release   : Nat
  /-- The state handed to the land's driver by the pins stage (R336). -/
  drive     : Bool
  deriving DecidableEq, Repr

end Machine

/-- A partner heartbeat as received on the TDM controlled port (R352, R353, R366, R367). -/
structure Heartbeat where
  digest  : W64
  /-- Partner's TDM_STAT.STATE. -/
  state   : Nat
  prefer  : Bool
  mac     : Nat
  /-- Its ISL evidence is fresh (R357). -/
  islFresh : Bool
  /-- Known-answer result: 0 none, 1 pass, 2 fail (R366). -/
  kat     : Nat
  deriving DecidableEq, Repr

/-- One association of a RADIO message (R376). -/
structure RadioEntry where
  idx    : Nat
  evc    : Nat
  mapVer : Nat
  fc     : Nat
  slot   : Nat
  phase  : Nat
  gear   : Nat
  deriving DecidableEq, Repr

/-- What catch-up brings (R369): the guard's state and the ISLAND_ID counter in stage 1; the island entries, the stations'
histories and DEAD states and the radio's association table in stage 2. -/
structure CatchupData where
  bseq    : Nat
  bells   : List Machine.Bell
  stNum   : Nat
  sqNum   : Nat
  nextId  : Nat
  entries : List Machine.Island
  hists   : List (Nat × List Machine.StaObs)
  dead    : List Nat
  radio   : List RadioEntry
  deriving DecidableEq, Repr

/-- A radio frame as the receiver measures and decodes it (R386, R390, R406, R409). -/
structure RadFrame where
  psdu    : Nat
  /-- PHR with the mode-switch bit or a reserved bit set (R386). -/
  phrRej  : Bool
  fcsOk   : Bool
  /-- Its PAN ID, stated or compressed. -/
  pan     : Nat
  /-- Destination: 0 the short address 0x0000, 1 the coordinator's EUI-64, 2 broadcast, 3 any other. -/
  dest    : Nat
  /-- Source: a short address, or an EUI-64. -/
  srcShort : Option Nat
  srcEui  : Nat
  /-- Acknowledgement request. -/
  ar      : Bool
  keyIdx  : Nat
  /-- The MIC verifies under the key that RAD_KEYMAP maps the index to. -/
  micOk   : Bool
  fc      : Nat
  /-- Preamble start minus slot start, and the end of the frame after slot start, in µs. -/
  early   : Int
  endUs   : Nat
  /-- End of the frame as an absolute tick (arrival time, R405). -/
  arrival : Nat
  deriving DecidableEq, Repr

/-- A bundle (R405). -/
structure Bundle where
  flags : Nat
  evc   : Nat
  words : List W32
  deriving DecidableEq, Repr

/-- What a frame carries (R403, R405). -/
inductive RadBody where
  | bundle (b : Bundle)
  | assocReq (clkPpm gear nch cap : Nat)
  | poll
  | disassoc (reason : Nat)
  | other
  deriving DecidableEq, Repr

/-- The captain's beacon as the stoker receives it (R374, R389). -/
structure Beacon where
  sfn    : Nat
  mapVer : Nat
  mapAct : Nat
  mapPending : Bool
  npend  : Nat
  deriving DecidableEq, Repr


/-- The captain's RADIO message (R374, R376, R408). -/
structure RadioMsg where
  sfn     : Nat
  map     : Nat
  coordFc : Nat
  entries : List RadioEntry
  deriving DecidableEq, Repr

/-- What a HELLO carries on UDP (R422, R468): peer, the port it came in on (0 MGT0, 1 MGT1), the host's ephemeral key,
and for each signature its role and whether it verifies. -/
structure HelloUdp where
  ip   : Nat
  port : Nat
  mgt  : Nat
  qh   : BitVec 768
  sigs : List (Nat × Bool)
  deriving DecidableEq, Repr

/-- A UDP datagram on a management port (R421, R429). -/
structure Datagram where
  ip      : Nat
  port    : Nat
  mgt     : Nat
  dport   : Nat
  pkt     : List Byte
  counter : Nat
  mac     : List Byte
  deriving DecidableEq, Repr

/-- How a pannier operation comes: by the register of PCIe function `f`, or by opcode (R439). -/
inductive PanVia where
  | reg (f : Nat)
  | ycp (h : Hdr)
  deriving DecidableEq, Repr

/-- The content of a KEY_GEN (R462). -/
inductive KeyContent where
  | none
  /-- MODE 1: LABEL. -/
  | label (l : List Byte)
  /-- MODE 2: the public key. -/
  | pub (p : BitVec 768)
  /-- MODE 3: transport slot, EPUB, what WRAPPED unwraps to under the derived key (none when the unwrap fails)
  and the CKN. -/
  | wrapped (tslot : Nat) (epub : BitVec 768) (secret : Option (BitVec 384)) (ckn : BitVec 128)
  deriving DecidableEq, Repr

/-- A firmware bank as the boot loader judges it (R514): whether header, images and VERSION check out but for the floor, its VERSION,
and MF with it. -/
structure BankImage where
  valid   : Bool
  version : Nat
  mf      : BitVec 384
  deriving DecidableEq, Repr

/-- What the boot loader finds at a start (R514, R459): M1 of the boot loader that verified, the two banks, the recovery
firmware, and the slots whose stored key does not unwrap. -/
structure BootFind where
  m1       : BitVec 384
  bank0    : BankImage
  bank1    : BankImage
  recovery : BankImage
  badKeys  : List Nat
  deriving DecidableEq, Repr

/-- The content of a complete FW_UPDATE as the firmware judges it (R515): header length, MAGIC and FORMAT, whether SIG verifies
against FW_KEY_HASH, whether the bank serves the fitted TOP_ID, VERSION, and whether each image read back matches. `ok0` and `ok1`
say which banks pass the checks of R514, and count in KICKSTAND. -/
structure FwContent where
  headLen : Nat
  magicOk : Bool
  sigOk   : Bool
  serves  : Bool
  version : Nat
  readOk  : Bool
  ok0     : Bool
  ok1     : Bool
  deriving DecidableEq, Repr

/-- The commands. -/
inductive Instr where
  /-- TOP_NOMF_WRITE (R6): a host write of TOP_NOMF. -/
  | topNomfWrite (acc : Nat) (value : W32)
  /-- REGISTER_WRITE (R564): a PCIe write of `size` bytes by accessor `acc`. -/
  | registerWrite (acc addr size : Nat) (value : W32)
  /-- RL_GROUP_LATCH (R444): a read of the first register of an RL group. -/
  | rlGroupLatch (acc addr : Nat)
  /-- SLOT_START (R163): S as an absolute tick. -/
  | slotStart (slot : Nat)
  /-- SLOT_CLOSE (R164): S, the ticks the close-and-fast-lane-extract stage takes, and what the reads of the slot's DRAM row
  meet. -/
  | slotClose (slot run : Nat) (reads : DramReads)
  /-- ISLAND_EVALUATION (R301). -/
  | islandEvaluation (run : Nat)
  /-- GUARD_EVALUATION (R330). -/
  | guardEvaluation (run : Nat)
  /-- BELL_PINS (R336). -/
  | bellPins (run : Nat)
  /-- BELLF_SEND (R341). -/
  | bellfSend (run : Nat)
  /-- LEDGER_OVERRUN (R30): the bit of ALN_LDG_OVR. -/
  | ledgerOverrun (cls : Nat)
  /-- LEDGER_RESTORE (R35). -/
  | ledgerRestore
  /-- WORST_CLR (R38). -/
  | worstClr (acc : Nat)
  /-- SHED_MODE_SET (R37): a write of ALN_LDG_CTRL. -/
  | shedModeSet (acc : Nat) (value : W32)
  /-- LEDGER_SHARE_WRITE (R28): 0 ALN_LDG_SHARE_A, 1 ALN_LDG_SHARE_B. -/
  | ledgerShareWrite (acc which : Nat) (value : W32)
  /-- DRAM_ROW_FILL (R165): S. -/
  | dramRowFill (slot : Nat) (reads : DramReads)
  /-- OUTSET_DATA_FRAME (R181): output set and S. -/
  | outsetDataFrame (set slot : Nat)
  /-- ROW_SETTLE (R179): S. -/
  | rowSettle (slot : Nat)
  /-- SCREENING_UPDATE (R263): S of the settled row, and the ratio and RMS each channel-band now has. -/
  | screeningUpdate (slot : Nat) (vals : List (Nat × Q × W32))
  /-- PTP_SYNC_RECEIVE (R62): source 0 to 5, PTP domain, origin time plus correction and arrival timestamp, both in 2^-1 ns
  of TAI. -/
  | ptpSyncReceive (src domain origin arrival : Nat)
  /-- PTP_ANNOUNCE_RECEIVE (R58): the bound announced in ns, currentUtcOffset where valid, leap61 and leap59. -/
  | ptpAnnounceReceive (src domain bound : Nat) (utcOfs : Option Nat) (leap61 leap59 : Bool)
  /-- PDELAY_REQ_RECEIVE (R77): PTP port, sequence number, and departure of the answer minus arrival in ns × 2^16. -/
  | pdelayReqReceive (port seq turn : Nat)
  /-- PDELAY_RESP_RECEIVE (R51): arrival of the answer and the responder's turnaround, in 2^-1 ns. -/
  | pdelayRespReceive (port arrival turn : Nat)
  /-- E2E_DELAY_DISCARD (R51). -/
  | e2eDelayDiscard
  /-- PPS_IN_EDGE (R57): timestamp of the edge, in 2^-1 ns of TAI. -/
  | ppsInEdge (stamp : Nat)
  /-- IRIGB_FRAME_RECEIVE (R56): without error; UTC in ns of the on-time mark and its timestamp in ns; bound of the time-quality
  code in ns; leap pending and its direction, 1 a deletion. -/
  | irigbFrameReceive (ok : Bool) (utc stamp bound : Nat) (leapPend leapDel : Bool)
  /-- SOURCE_LOSS (R59). -/
  | sourceLoss
  /-- SW_HOLD_EXPIRY (R59). -/
  | swHoldExpiry
  /-- TIME_LOCK (R63). -/
  | timeLock
  /-- TIME_STEP (R65). -/
  | timeStep
  /-- ERR_EST_UPDATE (R67). -/
  | errEstUpdate
  /-- TOD_LOAD (R57): a write of TIM_CTRL.TOD_LOAD. -/
  | todLoad (acc : Nat)
  /-- SOURCE_PIN_WRITE (R60): a write of TIM_SRC_CTRL. -/
  | sourcePinWrite (acc : Nat) (value : W32)
  /-- LEAP_APPLY (R74). -/
  | leapApply
  /-- PPS_OUT_PULSE (R84). -/
  | ppsOutPulse
  /-- PTP_SYNC_SEND (R77): port, and the interpolator reading at departure. -/
  | ptpSyncSend (port phase : Nat)
  /-- FRAME_RECEIVE (R91): a frame at port `p`. -/
  | frameReceive (p : Nat) (f : RxFrame)
  /-- PRP_SUPERVISION_SEND (R90): network 0 NET1, 1 NET2. -/
  | prpSupervisionSend (net : Nat)
  /-- PAUSE_REPEAT (R95). -/
  | pauseRepeat (p prio : Nat)
  /-- PAUSE_END (R95): the pool holds `fill` bytes. -/
  | pauseEnd (p prio fill : Nat)
  /-- PAUSE_RECEIVE (R97): quanta of each priority; `link` for an 802.3x pause, whose quanta come first. -/
  | pauseReceive (p : Nat) (link : Bool) (prios : Nat) (quanta : Nat)
  /-- PAUSE_EXPIRY (R97). -/
  | pauseExpiry (p prio : Nat)
  /-- UTILISATION_MEASURE (R99): octets received and sent in the second. -/
  | utilisationMeasure (p rx tx : Nat)
  /-- LINK_UP (R114): the rate code at which the link came up; `allowed` says R89 supports it. -/
  | linkUp (p rate : Nat) (allowed : Bool)
  /-- LINK_DOWN (R114). -/
  | linkDown (p : Nat)
  /-- NET_STEP_FAIL (R102). -/
  | netStepFail (p : Nat)
  /-- SNAPSHOT (R109): a write of MAC_SNAP_CTRL with REQ by accessor `acc`. -/
  | snapshot (acc : Nat) (ports : Nat) (clr : Bool)
  /-- STRANGER_CLEAR (R106): a write of MAC_STR_IDX.CLR of port `p` by accessor `acc`. -/
  | strangerClear (acc p : Nat)
  /-- WATERMARK_WRITE (R98): a write of MAC_POOLn_WM by accessor `acc`. -/
  | watermarkWrite (acc p pool : Nat) (hi lo : Nat)
  /-- REASSEMBLY_TIMEOUT (R105). -/
  | reassemblyTimeout (p id : Nat)
  /-- C37_DATA_FRAME (R124). -/
  | c37DataFrame (d : C37Data)
  /-- C37_CONFIG_FRAME (R120): IDCODE; 2 CFG-2, 3 CFG-3, 1 CFG-1; none where it fails to parse. -/
  | c37ConfigFrame (src : NetSrc) (idcode kind : Nat) (cfg : Option CfgFrame)
  /-- C37_HEADER_FRAME (R123). -/
  | c37HeaderFrame (src : NetSrc) (idcode : Nat) (text : List Byte)
  /-- CFG_REQUEST_TIMEOUT (R567). -/
  | cfgRequestTimeout (spoke : Nat)
  /-- CFG_RETRY (R120). -/
  | cfgRetry (spoke : Nat)
  /-- SPOKE_SILENT (R120). -/
  | spokeSilent (spoke : Nat)
  /-- SV_FRAME (R129). -/
  | svFrame (f : SvFrame)
  /-- SPOKE_DEFINE (R118): the words W00 to W17 and the svID. -/
  | spokeDefine (h : Hdr) (spoke : Nat) (words : List W32) (svid : List Byte)
  /-- SPOKE_REMOVE (R119). -/
  | spokeRemove (h : Hdr) (spoke : Nat)
  /-- SPOKE_STATUS (R433): OPT bit 0 histogram, bit 1 header text. -/
  | spokeStatus (h : Hdr) (spoke opt : Nat)
  /-- SPOKE_CONTEXT_LOAD (R147): a write of ING_CTX_SEL with LOAD. -/
  | spokeContextLoad (acc spoke : Nat)
  /-- SPOKE_CONTEXT_COMMIT (R146): a write of ING_CTX_SEL with COMMIT. -/
  | spokeContextCommit (acc spoke : Nat)
  /-- CHANNEL_DESC_LOAD (R149): a write of ING_CH_SEL with LOAD. -/
  | channelDescLoad (acc spoke ch : Nat)
  /-- HIST_DECAY (R135). -/
  | histDecay
  /-- PERCENTILE_UPDATE (R136). -/
  | percentileUpdate
  /-- WAIT_BUDGET_UPDATE (R170). -/
  | waitBudgetUpdate
  /-- WAIT_LIMIT_WRITE (R173): 0 ALN_WAIT_MIN, 1 ALN_WAIT_MAX. -/
  | waitLimitWrite (acc which : Nat) (value : W32)
  /-- CADENCE_SET (R153). -/
  | cadenceSet (h : Hdr) (code : Nat)
  /-- CADENCE_CODE_WRITE (R153): a write of ALN_CADENCE.CODE. -/
  | cadenceCodeWrite (acc code : Nat)
  /-- CADENCE_APPLY (R153). -/
  | cadenceApply
  /-- OUTSET_DEFINE (R180): SET, PART, FINAL; the words of part 0; the entries of this part. -/
  | outsetDefine (h : Hdr) (set part : Nat) (final : Bool) (words : List W32) (entries : List OutEntry)
  /-- OUTSET_COMMAND_FRAME (R184): the command. -/
  | outsetCommandFrame (src : NetSrc) (idcode cmd : Nat)
  /-- OUTSET_REDEFINE_APPLY (R184). -/
  | outsetRedefineApply (set : Nat)
  /-- OUTSET_AMEND_FRAME (R185): output set and S. -/
  | outsetAmendFrame (set slot : Nat)
  /-- OUTSET_WINDOW_LOAD (R194): a write of ALN_OUT_SEL with LOAD. -/
  | outsetWindowLoad (acc set : Nat)
  /-- CAPTURE_ARM (R187): BAY, 0xFF for any; TAI seconds and ns of trigger 2. -/
  | captureArm (h : Hdr) (bay pre post trigger mask sec ns : Nat) (release : Bool)
  /-- CAPTURE_TRIGGER (R188): the bay and S of the trigger slot. -/
  | captureTrigger (bay slot : Nat)
  /-- CAPTURE_ROW_COPY (R189). -/
  | captureRowCopy (bay : Nat) (reads : DramReads)
  /-- CAPTURE_RELEASE (R188): a write of ALN_CAP_CTRL.RELEASE. -/
  | captureRelease (acc bay : Nat)
  /-- CAPTURE_WINDOW_LOAD (R195): a write of ALN_CAP_SEL with LOAD. -/
  | captureWindowLoad (acc bay : Nat)
  /-- CAPTURE_READ (R443). -/
  | captureRead (h : Hdr) (bay first rows : Nat)
  /-- ROW_READ (R443): LT48 of S. -/
  | rowRead (h : Hdr) (slot first grans : Nat) (reads : DramReads)
  /-- OVERLOAD_DETECT (R200): channel `ch` exceeds 105 % of the full scale of every range above `fits`
  (0 ×1, 1 ×4, 2 ×16); `clips` that it exceeds full scale at ×1. -/
  | overloadDetect (ch fits : Nat) (clips : Bool)
  /-- RANGE_UP (R201): the half-cycle RMS × √2 stayed below 20 % of the next gain's full scale for `cycles` cycles. -/
  | rangeUp (ch cycles : Nat)
  /-- SETTLE_END (R207): lane. -/
  | settleEnd (lane : Nat)
  /-- MODULATOR_FAULT (R208): modulator and cause, 0 ones density, 1 saturation. -/
  | modulatorFault (m cause : Nat)
  /-- ROTATION_START (R210). -/
  | rotationStart
  /-- ROTATION_PHASE_ADVANCE (R210): whether the reference readings of the phase are within ±1 %, and at the end the
  change of the gain trim in ppm and of the offset trim in µV. -/
  | rotationPhaseAdvance (readingsOk : Bool) (gainPpm offsetUv : Int)
  /-- TRIM_STEP (R211): modulator. -/
  | trimStep (m : Nat)
  /-- THRESHOLD_TRANSITION (R214): unit, new state, TAI tick of the sample and its value in IEEE 754 single precision. -/
  | thresholdTransition (u : Nat) (on : Bool) (at_ : Nat) (value : W32)
  /-- FLT_EVIDENCE_POST (R215): S of the slot. -/
  | fltEvidencePost (slot : Nat)
  /-- QC_PHASOR_DELIVERY (R220): its instant as a tick of TAI, the entries of channels 14 to 17 at it (their value fields), and which
  of the four have a window that holds an INVALID sample, or a SETTLE or CLIP sample, one bit each. -/
  | qcPhasorDelivery (at_ : Nat) (v1 freq dig0 dig1 : W64) (invalid srcErr : Nat)
  /-- LOM_HOLD_EXPIRY (R304): element 0 vector shift, 1 ROCOF, and its present value in the unit of ISL_LOM's P2. -/
  | lomHoldExpiry (which value : Nat)
  /-- ESTIMATOR_REPORT (R218): S, the entries of channels 0 to 13 (PRESENT and value field), and which of them have a window that
  holds an INVALID sample, or a SETTLE or CLIP sample. -/
  | estimatorReport (slot : Nat) (vals : List W64) (invalid srcErr : Nat)
  /-- PMU_CLASS_APPLY (R218). -/
  | pmuClassApply
  /-- CAL_QUEUE (R223): a write of FLT_CAL_CTRL.QUEUE with channel QCH by accessor `acc`. -/
  | calQueue (acc qch : Nat)
  /-- TE_LOAD (R228). -/
  | teLoad (acc unit : Nat)
  /-- TE_COMMIT (R228). -/
  | teCommit (acc unit : Nat)
  /-- SELFTEST_REQUEST (R222): a write of FLT_ST_CTRL.REQ with LEVEL. -/
  | selftestRequest (acc level : Nat)
  /-- SELFTEST (R222). -/
  | selftest (h : Hdr) (block level : Nat)
  /-- L0_PERIODIC (R222): whether slack was there, and whether the replay passed. -/
  | l0Periodic (slack pass : Bool)
  /-- SELFTEST_COMPLETE (R222): result and FAIL_CODE. -/
  | selftestComplete (pass : Bool) (failCode : Nat)
  /-- CALIBRATE (R223). -/
  | calibrate (h : Hdr) (channel : Nat)
  /-- CALIBRATION_COMPLETE (R223): of a full calibration, the modulators whose reference readings fail under R211, one bit each,
  and the trims of M0 to M8: gain in ppm and offset in µV. -/
  | calibrationComplete (bad : Nat) (trims : List (Int × Int))
  /-- LINE_CYCLE_END (R234). -/
  | lineCycleEnd (c : LineCycle)
  /-- ENERGY_LATCH (R243). -/
  | energyLatch
  /-- NRG_TIME_LATCH (R244). -/
  | nrgTimeLatch
  /-- TIME_LATCH_RETURN (R244): the part cycle that the crossing ends. -/
  | timeLatchReturn (c : LineCycle)
  /-- PULSE_OUTPUT (R247): output. -/
  | pulseOutput (n : Nat)
  /-- NRG_EVIDENCE_POST (R250). -/
  | nrgEvidencePost (slot : Nat)
  /-- ENERGY_SAVE (R248). -/
  | energySave
  /-- ENERGY_READ (R245). -/
  | energyRead (h : Hdr) (clear : Bool)
  /-- PULSE_ASSIGN (R247): PUL_n_CFG and PUL_n_K. -/
  | pulseAssign (h : Hdr) (out : Nat) (cfg k : W32)
  /-- SCREENING_HIT (R263): row channel and band; the ratio held for `ms` milliseconds. -/
  | screeningHit (ch band : Nat) (ratio : Q) (ms : Nat)
  /-- HIT_CLEAR (R263): the ratio stayed below 0.8 for `ms` milliseconds. -/
  | hitClear (ch band : Nat) (ratio : Q) (ms : Nat)
  /-- LEARNING_SAMPLE (R266): one channel-band's 20 log10(RMS) in dB, and μ and σ after it. -/
  | learningSample (ch band : Nat) (mu sigma : Q)
  /-- THRESHOLD_UPDATE (R267): DEF_dB, 20 log10 of REL_DEF and of FREQ_DEF of B1, then of B2, B3 and B4. -/
  | thresholdUpdate (defDb : List Q)
  /-- MOD_WATCH_RETIRE (R270). -/
  | modWatchRetire (ctx : Nat)
  /-- WATCH_WINDOW_FILLED (R272): the first update's modes. -/
  | watchWindowFilled (ctx : Nat) (modes : List ModeEst) (dropped : Nat)
  /-- IDENTIFICATION_UPDATE (R273): the modes found; channels dropped under R261. -/
  | identificationUpdate (ctx : Nat) (modes : List ModeEst) (dropped : Nat)
  /-- SOURCE_LOCATION (R278): usable branches with their rates in kW (exact and in single precision). -/
  | sourceLocation (rates : List (Nat × Q × W32))
  /-- MOD_EVIDENCE_POST (R279). -/
  | modEvidencePost (slot : Nat)
  /-- LOCATE (R277). -/
  | locate (h : Hdr) (ctx mode : Nat)
  /-- LOCATE_REQUEST (R277): a write of MOD_LOC_SEL.REQ. -/
  | locateRequest (acc ctx mode : Nat)
  /-- WATCH_DEFINE (R268): words W00 to W02 and the channels. -/
  | watchDefine (h : Hdr) (ctx band nch nmMax winS upd zetaAlarm zetaDrop : Nat) (chans : List Nat)
  /-- WATCH_REMOVE (R270). -/
  | watchRemove (h : Hdr) (ctx : Nat)
  /-- MODE_REPORT (R445). -/
  | modeReport (h : Hdr) (ctx mode : Nat)
  /-- BRANCH_DEFINE (R287). -/
  | branchDefine (h : Hdr) (br : Nat) (w0 w1 w2 w3 w4 : W32)
  /-- WATCH_WINDOW_LOAD (R284). -/
  | watchWindowLoad (acc ctx : Nat)
  /-- WATCH_WINDOW_COMMIT (R284). -/
  | watchWindowCommit (acc ctx : Nat)
  /-- WATCH_WINDOW_REMOVE (R284). -/
  | watchWindowRemove (acc ctx : Nat)
  /-- BRANCH_WINDOW_LOAD (R287). -/
  | branchWindowLoad (acc br : Nat)
  /-- BRANCH_WINDOW_COMMIT (R287). -/
  | branchWindowCommit (acc br : Nat)
  /-- CHANNEL_WINDOW_LOAD (R286). -/
  | channelWindowLoad (acc ch : Nat)
  /-- GOOSE_MESSAGE_RECEIVE (R297). -/
  | gooseMessageReceive (m : GooseMsg)
  /-- ISL_GOOSE_TAL (R297): subscription. -/
  | islGooseTal (sub : Nat)
  /-- STATION_DEFINE (R292): words W00 to W10. -/
  | stationDefine (h : Hdr) (st : Nat) (w : List W32)
  /-- AREA_DEFINE (R292): area, and the stations named. -/
  | areaDefine (h : Hdr) (area : Nat) (stations : List Nat)
  /-- TIE_DEFINE (R292): words W00 to W02. -/
  | tieDefine (h : Hdr) (tie : Nat) (w : List W32)
  /-- GOOSE_SUB (R297): words W00 to W02. -/
  | gooseSub (h : Hdr) (sub : Nat) (w : List W32)
  /-- ISLAND_REPORT (R445). -/
  | islandReport (h : Hdr) (isl : Nat)
  /-- STATION_WINDOW_LOAD (R311). -/
  | stationWindowLoad (acc st : Nat)
  /-- STATION_WINDOW_COMMIT (R311). -/
  | stationWindowCommit (acc st : Nat)
  /-- TIE_WINDOW_LOAD (R311). -/
  | tieWindowLoad (acc tie : Nat)
  /-- TIE_WINDOW_COMMIT (R311). -/
  | tieWindowCommit (acc tie : Nat)
  /-- GOOSE_WINDOW_LOAD (R311). -/
  | gooseWindowLoad (acc sub : Nat)
  /-- GOOSE_WINDOW_COMMIT (R311). -/
  | gooseWindowCommit (acc sub : Nat)
  /-- GSP_SUBMIT (R435): a fragment. -/
  | gspSubmit (h : Hdr) (offset total : Nat) (bytes : List Byte)
  /-- GSP_CHECK (R322): what the section bodies of the package hold (its header is read from its bytes), and whether SIG verifies
  against the key of slot 3. -/
  | gspCheck (body : GspPkg) (sigOk : Bool)
  /-- GSP_COMMIT (R323). -/
  | gspCommit
  /-- EVIDENCE_MISS (R333): engine and the S of the slot. -/
  | evidenceMiss (engine slot : Nat)
  /-- FAILSAFE_ENTRY (R334): engine. -/
  | failsafeEntry (engine : Nat)
  /-- BELL_RESET (R331). -/
  | bellReset (h : Hdr) (mask : Nat)
  /-- GUARD_STATUS (R433). -/
  | guardStatus (h : Hdr)
  /-- FIRMWARE_KICK (R318). -/
  | firmwareKick
  /-- WATCHDOG_STAGE1 (R318). -/
  | watchdogStage1
  /-- WATCHDOG_STAGE2 (R318). -/
  | watchdogStage2
  /-- GOOSE_RETRANSMIT (R345). -/
  | gooseRetransmit
  /-- HEARTBEAT_SEND (R367). -/
  | heartbeatSend
  /-- HEARTBEAT_RECEIVE (R352). -/
  | heartbeatReceive (hb : Heartbeat)
  /-- HEARTBEAT_LOSS (R367). -/
  | heartbeatLoss
  /-- TDM_DELAY_MEASURE (R350): δ and Δ in ns, from the departure and arrival times of heartbeats. -/
  | tdmDelayMeasure (delta : Nat) (offset : Int)
  /-- CLAIM_PRESENT (R354): the intervals before the last three of four consecutive edges, in ns. -/
  | claimPresent (gaps : List Nat)
  /-- CLAIM_ABSENT (R354): 30 µs have passed with no edge. -/
  | claimAbsent
  /-- TDM_CLAIM (R354). -/
  | tdmClaim
  /-- GATE_OPEN (R355). -/
  | gateOpen
  /-- LOCKOUT_END (R358). -/
  | lockoutEnd
  /-- SCHED_RECEIVE (R359): S and the captain's D, absolute ticks. -/
  | schedReceive (slot d : Nat)
  /-- SCHED_TIMEOUT (R359). -/
  | schedTimeout (slot : Nat)
  /-- TDM_RELAY_RECEIVE (R360): spoke, report time and values. -/
  | tdmRelayReceive (spoke t : Nat) (vals : List W64)
  /-- TDM_RELAY_DROP (R360). -/
  | tdmRelayDrop
  /-- TDM_CUT (R361): S. -/
  | tdmCut (slot : Nat)
  /-- CUT_RECEIVE (R361, R363): S, the partner's bitmap, the EARLY flag and P′ (absolute ticks). -/
  | cutReceive (slot : Nat) (bitmap : List Nat) (early : Bool) (p : Nat)
  /-- NEED_RECEIVE (R361). -/
  | needReceive (slot spoke : Nat)
  /-- FILL_RECEIVE (R361). -/
  | fillReceive (slot spoke : Nat) (vals : List W64)
  /-- DIGEST_RECEIVE (R366). -/
  | digestReceive (slot : Nat) (digest : W64) (incomplete : Bool)
  /-- DIGEST_TIMEOUT (R366). -/
  | digestTimeout (slot : Nat)
  /-- TDM_KAT (R366): whether this unit's replay gave the stored answer. -/
  | tdmKat (pass : Bool)
  /-- KAT_PARTNER_TIMEOUT (R366). -/
  | katPartnerTimeout
  /-- EVIDENCE_FORWARD_RECEIVE (R365): a record of the captain's: engine, VALID, DEGRADED, BLOCKED, SHED, RSEQ, S, TQ,
  ITEMS. -/
  | evidenceForwardReceive (engine : Nat) (valid degraded blocked shed : Bool) (rseq slot tq : Nat) (items : BitVec 128)
  /-- TDM_EVIDENCE_POST (R379). -/
  | tdmEvidencePost (slot : Nat)
  /-- CATCHUP_REQUEST (R369). -/
  | catchupRequest
  /-- CATCHUP_COMPLETE (R369): what the claim holder has sent; `whole` once stage 2 has come. -/
  | catchupComplete (d : CatchupData) (whole : Bool)
  /-- CATCHUP_TIMEOUT (R369). -/
  | catchupTimeout
  /-- CATCHUP_RETRY (R369). -/
  | catchupRetry
  /-- HOLDOFF_MET (R372). -/
  | holdoffMet
  /-- TDM_SLOW (R364). -/
  | tdmSlow
  /-- TAKE_RECEIVE (R372). -/
  | takeReceive
  /-- HANDOVER (R372): a write of TDM_CTRL.HANDOVER. -/
  | handover (acc : Nat)
  /-- TDM_HANDOVER (R372). -/
  | tdmHandover (h : Hdr)
  /-- TDM_STATUS (R445). -/
  | tdmStatus (h : Hdr)
  /-- RADIO_MESSAGE_RECEIVE (R376): the associations that changed. -/
  | radioMessageReceive (m : RadioMsg)
  /-- SUPERFRAME_START (R388): whether a reception is in progress (R391). -/
  | superframeStart (busy : Bool)
  /-- SLOT_WINDOW_OPEN (R390): slot 0 to 29: A0, A1, D0 to D23, C0 to C3; whether a reception is in progress. -/
  | slotWindowOpen (slot : Nat) (busy : Bool)
  /-- BUNDLE_RECEIVE (R405): data slot. -/
  | bundleReceive (slot : Nat) (f : RadFrame) (b : Bundle)
  /-- ASSOC_REQ (R399): association slot 0 or 1. -/
  | assocReq (slot : Nat) (f : RadFrame) (clkPpm gear nch cap : Nat)
  /-- POLL (R403): contention slot. -/
  | poll (slot : Nat) (f : RadFrame)
  /-- DISASSOC (R399). -/
  | disassoc (slot : Nat) (f : RadFrame) (reason : Nat)
  /-- RELAY (R401): the relay's frame and its inner frames. -/
  | relay (slot : Nat) (f : RadFrame) (inner : List (RadFrame × RadBody))
  /-- ENH_ACK_RECEIVE (R404): sequence number acknowledged. -/
  | enhAckReceive (seqNo : Nat)
  /-- BEACON_RECEIVE (R374). -/
  | beaconReceive (b : Beacon)
  /-- RADIO_FORWARD_RECEIVE (R375): the frame the stoker received in `slot`, with its body. -/
  | radioForwardReceive (slot : Nat) (f : RadFrame) (body : RadBody)
  /-- DOWNLINK_SLOT (R404): 0 C0, 1 C1; whether a reception is in progress (R391). -/
  | downlinkSlot (c : Nat) (busy : Bool)
  /-- SUPERVISION_TIMEOUT (R399): entry. -/
  | supervisionTimeout (idx : Nat)
  /-- CHANNEL_REINSTATE (R397): channel. -/
  | channelReinstate (ch : Nat)
  /-- FRAME_COUNTER_SAVE (R407). -/
  | frameCounterSave
  /-- COORD_FC_SAVE (R408). -/
  | coordFcSave
  /-- BEACONING_START (R378). -/
  | beaconingStart
  /-- RAD_EVIDENCE_POST (R414). -/
  | radEvidencePost (slot : Nat)
  /-- ASSOC_LIST (R433): first entry and count. -/
  | assocList (h : Hdr) (first count : Nat)
  /-- ASSOC_SET (R416): entry, EN, EUI-64 and GEAR. -/
  | assocSet (h : Hdr) (idx : Nat) (en : Bool) (eui gear : Nat)
  /-- ASSOC_DROP (R399). -/
  | assocDrop (h : Hdr) (idx : Nat)
  /-- CHANMAP_SET (R396): bit c for channel c. -/
  | chanmapSet (h : Hdr) (map : Nat)
  /-- ASSOC_WINDOW_LOAD (R416). -/
  | assocWindowLoad (acc idx : Nat)
  /-- ASSOC_WINDOW_COMMIT (R416). -/
  | assocWindowCommit (acc idx : Nat)
  /-- ASSOC_WINDOW_DROP (R416). -/
  | assocWindowDrop (acc idx : Nat)
  /-- RADIO_ENABLE (R415): a write of RAD_CTRL. -/
  | radioEnable (acc : Nat) (value : W32)
  /-- PCIE_LINK_DOWN (R419). -/
  | pcieLinkDown
  /-- FUNCTION_LEVEL_RESET (R419). -/
  | functionLevelReset (f : Nat)
  /-- PAN_CMD_CELL_APPEND (R437): a write of PAN_CMD_CELL15 through function `f`. -/
  | panCmdCellAppend (f : Nat) (value : W32)
  /-- PAN_CMD_PUSH (R437). -/
  | panCmdPush (f n : Nat)
  /-- YCP_DATAGRAM_RECEIVE (R421). -/
  | ycpDatagramReceive (d : Datagram)
  /-- UDP_SESSION_TIMEOUT (R422): session. -/
  | udpSessionTimeout (session : Nat)
  /-- SADDLE_EXPIRY (R427). -/
  | saddleExpiry
  /-- HELLO (R424): VERSION, sizes, and on UDP what R468 adds; a tamper event was latched before the commit point. -/
  | hello (h : Hdr) (version cmdSz rplSz evtSz : Nat) (udp : Option HelloUdp) (tampered : Bool)
  /-- BYE (R423). -/
  | bye (h : Hdr)
  /-- CREDIT_QUERY (R433). -/
  | creditQuery (h : Hdr)
  /-- SADDLE_TAKE (R426). -/
  | saddleTake (h : Hdr) (leaseS : Nat) (force : Bool)
  /-- SADDLE_DROP (R427). -/
  | saddleDrop (h : Hdr)
  /-- PAN_MARK (R439): pannier 0 reply, 1 event. -/
  | panMark (via : PanVia) (pannier : Nat)
  /-- PAN_REWIND (R439). -/
  | panRewind (via : PanVia) (pannier : Nat)
  /-- PAN_RELEASE (R439). -/
  | panRelease (via : PanVia) (pannier n : Nat)
  /-- PAN_RPL_NEXT (R439): of function `f`'s reply or event pannier. -/
  | panRplNext (f pannier : Nat)
  /-- TAG_QUERY (R431). -/
  | tagQuery (h : Hdr) (tag : Nat)
  /-- REG_READ (R433). -/
  | regRead (h : Hdr) (addr : Nat)
  /-- REG_WRITE (R564). -/
  | regWrite (h : Hdr) (addr : Nat) (value mask : W32)
  /-- REG_READ_BLOCK (R445). -/
  | regReadBlock (h : Hdr) (addr count : Nat)
  /-- PENDING_COMMAND_COMPLETE (R431): the command's result. -/
  | pendingCommandComplete (session tag status : Nat) (payload : List Byte)
  /-- REPLY_FRAGMENT (R442). -/
  | replyFragment (session : Nat)
  /-- HOST_EVT_GAP (R448). -/
  | hostEvtGap (session sub : Nat)
  /-- SUB_ADD (R446). -/
  | subAdd (h : Hdr) (kind filter : Nat)
  /-- SUB_REMOVE (R446). -/
  | subRemove (h : Hdr) (sub : Nat)
  /-- SUB_LIST (R446). -/
  | subList (h : Hdr)
  /-- HOST_SHARE_WRITE (R425): 0 HST_SHARE_A, 1 HST_SHARE_B. -/
  | hostShareWrite (acc which : Nat) (value : W32)
  /-- DUK_REGENERATE (R454): for each attempt, whether the corrected reading passes its check; bits corrected. -/
  | dukRegenerate (tries : List Bool) (bits : Nat)
  /-- KEY_GEN (R462): SLOT, MODE, ENGINE, ALG, content; a tamper event was latched before the commit point (R477). -/
  | keyGen (h : Hdr) (slot mode engine alg : Nat) (c : KeyContent) (tampered : Bool)
  /-- KEY_CERTIFY (R467). -/
  | keyCertify (h : Hdr) (slot : Nat) (nonce : BitVec 256) (tampered : Bool)
  /-- ATTEST_QUOTE (R466). -/
  | attestQuote (h : Hdr) (nonce : BitVec 256) (tampered : Bool)
  /-- TAMPER_ACK (R475): TSEQ, and whether SIG verifies against slot 3. -/
  | tamperAck (h : Hdr) (tseq : Nat) (sigOk : Bool)
  /-- LIFECYCLE (R470): TARGET, and whether SIG verifies against slot 3. -/
  | lifecycle (h : Hdr) (target : Nat) (sigOk tampered : Bool)
  /-- KEY_SLOT_LOAD (R480). -/
  | keySlotLoad (acc slot : Nat)
  /-- TAMPER_EVENT (R473): source bit 0 to 7. -/
  | tamperEvent (src : Nat)
  /-- MESH_CHECK (R472): the pattern read back unbroken. -/
  | meshCheck (ok : Bool)
  /-- RECORD_ACCEPT (R493): the record offered first. -/
  | recordAccept
  /-- RECORD_COMMIT (R493): the oldest record queued. -/
  | recordCommit
  /-- LOG_DROPPED (R495). -/
  | logDropped
  /-- TIME_MARK (R488). -/
  | timeMark
  /-- LOG_SEAL (R497). -/
  | logSeal
  /-- SEAL_VERIFY (R497): a write of LOG_CTRL.VERIFY, or at a start by firmware. -/
  | sealVerify (acc : Nat)
  /-- LOG_READ (R498). -/
  | logRead (h : Hdr) (first count : Nat)
  /-- LOG_CLEAR (R499): the token, and whether its SIG verifies against slot 3. -/
  | logClear (h : Hdr) (clrNo newSize newFixed : Nat) (sigOk : Bool)
  /-- OPSEC_SAVE (R487). -/
  | opsecSave
  /-- POR (R505): VIN and the store in 10 mV. -/
  | por (vin vstore : Nat)
  /-- BOR (R505): a core rail browned out; VIN and the store in 10 mV. -/
  | bor (rail : Bool) (vin vstore : Nat)
  /-- RESET_PIN (R505): consecutive CK_AON samples that read RESET_N low. -/
  | resetPin (samples : Nat)
  /-- DBG_RESET (R505). -/
  | dbgReset
  /-- PLL_LOCK_LOSS (R538): time without lock in µs; ROOTCLK off its frequency in 0.01 %. -/
  | pllLockLoss (lostUs off : Nat)
  /-- LOCKUP (R317): the compare point. -/
  | lockup (point : Nat)
  /-- SYS_REQ (R506): a write of RST_CTRL.SYS_REQ. -/
  | sysReq (acc : Nat)
  /-- FW_REQ (R505): a write of RST_CTRL.FW_REQ. -/
  | fwReq (acc : Nat)
  /-- RESET (R506). -/
  | reset (h : Hdr) (reach : Nat)
  /-- RESET_END (R509): sources still asserted, one bit each. -/
  | resetEnd (held : Nat)
  /-- OPTION_TRIM_LOAD (R511): whether REFCLK_IN is valid (R537). -/
  | optionTrimLoad (refin : Bool)
  /-- FIRMWARE_START (R514). -/
  | firmwareStart (f : BootFind)
  /-- START_COMPLETE (R529). -/
  | startComplete
  /-- RUN_S_LIMIT (R518). -/
  | runSLimit
  /-- FSC_CLEAR (R517): a write of RST_FSC.CLR. -/
  | fscClear (acc : Nat)
  /-- STATE_SET (R529): TARGET, and VIN in 10 mV. -/
  | stateSet (h : Hdr) (target vin : Nat)
  /-- WATCH_ENTRY (R529, R530): VIN in 10 mV and the ms it has stayed below WATCH_THR. -/
  | watchEntry (vin lowMs : Nat)
  /-- WATCH_EXIT (R529): VIN in 10 mV and the ms it has stayed at or above WATCH_THR + HYS. -/
  | watchExit (vin highMs : Nat)
  /-- PFAIL_ASSERT (R532, R535): VIN and the store in 10 mV, and the energies of the line cycle in progress (R248). -/
  | pfailAssert (vin vstore : Nat) (part : LineCycle)
  /-- PFAIL_CLEAR (R532): VIN and the store in 10 mV, and the µs VIN has stayed within its limits. -/
  | pfailClear (vin vstore goodUs : Nat)
  /-- REFCLK_INVALID (R538). -/
  | refclkInvalid
  /-- TCXO_FAIL (R538): whether REFCLK_IN is valid. -/
  | tcxoFail (refin : Bool)
  /-- CK_AON_BAD (R538): its frequency in Hz. -/
  | ckAonBad (hz : Nat)
  /-- REF_SWITCH_REQUEST (R537): a write of CLK_CTRL; whether REFCLK_IN is valid. -/
  | refSwitchRequest (acc : Nat) (value : W32) (refin : Bool)
  /-- PLL_RELOCK (R538). -/
  | pllRelock
  /-- TEMP_MEASURE (R541): in 0.1 °C. -/
  | tempMeasure (t : Int)
  /-- POWER_THRESHOLD_WRITE (R533): a write of PWR_THR. -/
  | powerThresholdWrite (acc : Nat) (value : W32)
  /-- FW_UPDATE (R515): a fragment, and what the complete content is found to be. -/
  | fwUpdate (h : Hdr) (offset total : Nat) (bytes : List Byte) (c : FwContent)
  /-- TIM_EVIDENCE_POST (R71): S of the slot. -/
  | timEvidencePost (slot : Nat)
  /-- PDELAY_REQ_SEND (R51): port, and the interpolator reading at departure. -/
  | pdelayReqSend (port phase : Nat)
  /-- ANNOUNCE_SEND (R55). -/
  | announceSend (port : Nat)
  /-- PPS_IN_EDGE_MISSING (R86). -/
  | ppsInEdgeMissing
  /-- TIME_FALLBACK_CYCLE_END (R244). -/
  | timeFallbackCycleEnd (c : LineCycle)
  /-- TAMPER_SOURCE_CLEAR (R472): the source has been out of its condition for `out` ms. -/
  | tamperSourceClear (src out : Nat)
  /-- OVERVOLTAGE_RECONNECT (R531): VIN and the store in 10 mV. -/
  | overvoltageReconnect (vin vstore : Nat)
  /-- STORE_REACHES_VIN (R532): VIN and the store in 10 mV. -/
  | storeReachesVin (vin vstore : Nat)
  deriving DecidableEq, Repr

end Sys2Proof
end

