-- ==== Sys2Proof/WellFormed.lean ====
section
/-!
DEFINITION. Which commands are well formed: each operand lies in the range its field, its register or the spec's count gives it. The
meanings do not rely on it.
-/
namespace Sys2Proof

/-- A number that a field of `w` bits holds. -/
def fits (w n : Nat) : Bool := decide (n < 2 ^ w)

/-- One of `k` numbered things. -/
def below (k n : Nat) : Bool := decide (n < k)

/-- An accessor: PCIe functions 0 to 3, YCP sessions 0 to 7 at 4 to 11, firmware at 12 (R444). -/
def accOk (n : Nat) : Bool := decide (n < 13)

/-- A port index: NET1A, NET1B, NET2A, NET2B, MGT0, MGT1, TDM (R88). -/
def portOk (n : Nat) : Bool := decide (n < 7)

/-- A YCP header: sessions 0 to 7, a TAG of 16 bits (R428). -/
def hdrOk (h : Hdr) : Bool := decide (h.session < 8) && fits 16 h.tag

/-- A pannier operation comes from a PCIe function or from a session (R439). -/
def viaOk : PanVia → Bool
  | .reg f => decide (f < 4)
  | .ycp h => hdrOk h

/-- The command is well formed. -/
def Instr.wellFormed : Instr → Bool
  | .topNomfWrite acc _ => accOk acc
  | .registerWrite acc addr _ _ => accOk acc && fits 32 addr
  | .rlGroupLatch acc addr => accOk acc && fits 32 addr
  | .ledgerOverrun cls => below 16 cls
  | .worstClr acc => accOk acc
  | .shedModeSet acc _ => accOk acc
  | .ledgerShareWrite acc which _ => accOk acc && below 2 which
  | .outsetDataFrame set _ => below 16 set
  | .ptpSyncReceive src domain _ _ => below 8 src && fits 8 domain
  | .ptpAnnounceReceive src domain _ _ _ _ => below 8 src && fits 8 domain
  | .pdelayReqReceive port seq _ => portOk port && fits 16 seq
  | .pdelayRespReceive port _ _ => portOk port
  | .todLoad acc => accOk acc
  | .sourcePinWrite acc _ => accOk acc
  | .ptpSyncSend port _ => portOk port
  | .frameReceive p _ => portOk p
  | .prpSupervisionSend net => below 2 net
  | .pauseRepeat p prio => portOk p && below 8 prio
  | .pauseEnd p prio _ => portOk p && below 8 prio
  | .pauseReceive p _ prios quanta => portOk p && fits 8 prios && fits 16 quanta
  | .pauseExpiry p prio => portOk p && below 8 prio
  | .utilisationMeasure p _ _ => portOk p
  | .linkUp p rate _ => portOk p && below 4 rate
  | .linkDown p => portOk p
  | .netStepFail p => portOk p
  | .snapshot acc ports _ => accOk acc && fits 7 ports
  | .strangerClear acc p => accOk acc && portOk p
  | .watermarkWrite acc p pool hi lo => accOk acc && portOk p && below 8 pool && fits 16 hi && fits 16 lo
  | .reassemblyTimeout p _ => portOk p
  | .c37ConfigFrame _ idcode _ _ => fits 16 idcode
  | .c37HeaderFrame _ idcode _ => fits 16 idcode
  | .cfgRequestTimeout spoke => fits 12 spoke
  | .cfgRetry spoke => fits 12 spoke
  | .spokeSilent spoke => fits 12 spoke
  | .spokeDefine h spoke _ _ => hdrOk h && fits 16 spoke
  | .spokeRemove h spoke => hdrOk h && fits 16 spoke
  | .spokeStatus h spoke opt => hdrOk h && fits 16 spoke && fits 8 opt
  | .spokeContextLoad acc spoke => accOk acc && fits 12 spoke
  | .spokeContextCommit acc spoke => accOk acc && fits 12 spoke
  | .channelDescLoad acc spoke ch => accOk acc && fits 12 spoke && fits 6 ch
  | .waitLimitWrite acc which _ => accOk acc && below 2 which
  | .cadenceSet h code => hdrOk h && fits 8 code
  | .cadenceCodeWrite acc code => accOk acc && fits 4 code
  | .outsetDefine h set part _ _ _ => hdrOk h && fits 8 set && fits 16 part
  | .outsetCommandFrame _ idcode cmd => fits 16 idcode && fits 16 cmd
  | .outsetRedefineApply set => below 16 set
  | .outsetAmendFrame set _ => below 16 set
  | .outsetWindowLoad acc set => accOk acc && fits 4 set
  | .captureArm h bay pre post trigger mask sec ns _ => hdrOk h && fits 8 bay && fits 32 pre && fits 32 post && fits 8 trigger && fits 8 mask && fits 48 sec && fits 32 ns
  | .captureTrigger bay _ => below 8 bay
  | .captureRowCopy bay _ => below 8 bay
  | .captureRelease acc bay => accOk acc && fits 3 bay
  | .captureWindowLoad acc bay => accOk acc && fits 3 bay
  | .captureRead h bay first rows => hdrOk h && fits 8 bay && fits 32 first && fits 32 rows
  | .rowRead h slot first grans _ => hdrOk h && fits 48 slot && fits 32 first && fits 16 grans
  | .overloadDetect ch fits _ => below 8 ch && below 3 fits
  | .rangeUp ch _ => below 8 ch
  | .settleEnd lane => below 9 lane
  | .modulatorFault m _ => below 9 m
  | .trimStep m => below 9 m
  | .thresholdTransition u _ _ _ => below 32 u
  | .lomHoldExpiry which _ => below 2 which
  | .calQueue acc qch => accOk acc && fits 4 qch
  | .teLoad acc unit => accOk acc && fits 5 unit
  | .teCommit acc unit => accOk acc && fits 5 unit
  | .selftestRequest acc level => accOk acc && fits 2 level
  | .selftest h block level => hdrOk h && fits 8 block && fits 8 level
  | .selftestComplete _ failCode => fits 16 failCode
  | .calibrate h channel => hdrOk h && fits 8 channel
  | .calibrationComplete bad _ => fits 9 bad
  | .pulseOutput n => below 4 n
  | .energyRead h _ => hdrOk h
  | .pulseAssign h out _ _ => hdrOk h && fits 8 out
  | .screeningHit _ band _ _ => below 5 band
  | .hitClear _ band _ _ => below 5 band
  | .learningSample _ band _ _ => below 5 band
  | .modWatchRetire ctx => fits 7 ctx
  | .watchWindowFilled ctx _ _ => fits 7 ctx
  | .identificationUpdate ctx _ _ => fits 7 ctx
  | .locate h ctx mode => hdrOk h && fits 8 ctx && fits 8 mode
  | .locateRequest acc ctx mode => accOk acc && fits 7 ctx && fits 3 mode
  | .watchDefine h ctx band nch nmMax winS upd zetaAlarm zetaDrop _ => hdrOk h && fits 8 ctx && fits 8 band && fits 8 nch && fits 8 nmMax && fits 16 winS && fits 16 upd && fits 16 zetaAlarm && fits 16 zetaDrop
  | .watchRemove h ctx => hdrOk h && fits 8 ctx
  | .modeReport h ctx mode => hdrOk h && fits 8 ctx && fits 8 mode
  | .branchDefine h br _ _ _ _ _ => hdrOk h && fits 16 br
  | .watchWindowLoad acc ctx => accOk acc && fits 7 ctx
  | .watchWindowCommit acc ctx => accOk acc && fits 7 ctx
  | .watchWindowRemove acc ctx => accOk acc && fits 7 ctx
  | .branchWindowLoad acc br => accOk acc && fits 10 br
  | .branchWindowCommit acc br => accOk acc && fits 10 br
  | .channelWindowLoad acc ch => accOk acc && fits 18 ch
  | .islGooseTal sub => fits 8 sub
  | .stationDefine h st _ => hdrOk h && fits 16 st
  | .areaDefine h area _ => hdrOk h && fits 8 area
  | .tieDefine h tie _ => hdrOk h && fits 16 tie
  | .gooseSub h sub _ => hdrOk h && fits 8 sub
  | .islandReport h isl => hdrOk h && fits 8 isl
  | .stationWindowLoad acc st => accOk acc && fits 10 st
  | .stationWindowCommit acc st => accOk acc && fits 10 st
  | .tieWindowLoad acc tie => accOk acc && fits 12 tie
  | .tieWindowCommit acc tie => accOk acc && fits 12 tie
  | .gooseWindowLoad acc sub => accOk acc && fits 8 sub
  | .gooseWindowCommit acc sub => accOk acc && fits 8 sub
  | .gspSubmit h offset total _ => hdrOk h && fits 32 offset && fits 32 total
  | .evidenceMiss engine _ => below 9 engine
  | .failsafeEntry engine => below 9 engine
  | .bellReset h mask => hdrOk h && fits 8 mask
  | .guardStatus h => hdrOk h
  | .tdmRelayReceive spoke _ _ => fits 12 spoke
  | .cutReceive _ _ _ p => portOk p
  | .needReceive _ spoke => fits 12 spoke
  | .fillReceive _ spoke _ => fits 12 spoke
  | .evidenceForwardReceive engine _ _ _ _ _ _ _ _ => below 9 engine
  | .handover acc => accOk acc
  | .tdmHandover h => hdrOk h
  | .tdmStatus h => hdrOk h
  | .slotWindowOpen slot _ => below 32 slot
  | .enhAckReceive seqNo => fits 8 seqNo
  | .downlinkSlot c _ => below 4 c
  | .supervisionTimeout idx => fits 8 idx
  | .channelReinstate ch => below 72 ch
  | .assocList h first count => hdrOk h && fits 8 first && fits 16 count
  | .assocSet h idx _ eui gear => hdrOk h && fits 8 idx && fits 64 eui && fits 2 gear
  | .assocDrop h idx => hdrOk h && fits 8 idx
  | .chanmapSet h map => hdrOk h && fits 72 map
  | .assocWindowLoad acc idx => accOk acc && fits 8 idx
  | .assocWindowCommit acc idx => accOk acc && fits 8 idx
  | .assocWindowDrop acc idx => accOk acc && fits 8 idx
  | .radioEnable acc _ => accOk acc
  | .functionLevelReset f => below 4 f
  | .panCmdCellAppend f _ => below 4 f
  | .panCmdPush f n => below 4 f && fits 7 n
  | .udpSessionTimeout session => below 8 session
  | .hello h version cmdSz rplSz evtSz _ _ => hdrOk h && fits 8 version && fits 8 cmdSz && fits 8 rplSz && fits 8 evtSz
  | .bye h => hdrOk h
  | .creditQuery h => hdrOk h
  | .saddleTake h leaseS _ => hdrOk h && fits 16 leaseS
  | .saddleDrop h => hdrOk h
  | .panMark via pannier => viaOk via && fits 8 pannier
  | .panRewind via pannier => viaOk via && fits 8 pannier
  | .panRelease via pannier n => viaOk via && fits 8 pannier && fits 16 n
  | .panRplNext f pannier => below 4 f && below 2 pannier
  | .tagQuery h tag => hdrOk h && fits 16 tag
  | .regRead h addr => hdrOk h && fits 32 addr
  | .regWrite h addr _ _ => hdrOk h && fits 32 addr
  | .regReadBlock h addr count => hdrOk h && fits 32 addr && fits 16 count
  | .pendingCommandComplete session tag status _ => below 8 session && fits 16 tag && fits 8 status
  | .replyFragment session => below 8 session
  | .hostEvtGap session sub => below 8 session && below 16 sub
  | .subAdd h kind filter => hdrOk h && fits 8 kind && fits 32 filter
  | .subRemove h sub => hdrOk h && fits 8 sub
  | .subList h => hdrOk h
  | .hostShareWrite acc which _ => accOk acc && below 2 which
  | .keyGen h slot mode engine alg _ _ => hdrOk h && fits 8 slot && fits 8 mode && fits 8 engine && fits 8 alg
  | .keyCertify h slot _ _ => hdrOk h && fits 8 slot
  | .attestQuote h _ _ => hdrOk h
  | .tamperAck h tseq _ => hdrOk h && fits 32 tseq
  | .lifecycle h target _ _ => hdrOk h && fits 8 target
  | .keySlotLoad acc slot => accOk acc && fits 6 slot
  | .tamperEvent src => below 8 src
  | .sealVerify acc => accOk acc
  | .logRead h first count => hdrOk h && fits 32 first && fits 16 count
  | .logClear h clrNo newSize newFixed _ => hdrOk h && fits 32 clrNo && fits 32 newSize && fits 32 newFixed
  | .lockup point => below 6 point
  | .sysReq acc => accOk acc
  | .fwReq acc => accOk acc
  | .reset h reach => hdrOk h && fits 8 reach
  | .resetEnd held => fits 8 held
  | .fscClear acc => accOk acc
  | .stateSet h target _ => hdrOk h && fits 8 target
  | .refSwitchRequest acc _ _ => accOk acc
  | .powerThresholdWrite acc _ => accOk acc
  | .fwUpdate h offset total _ _ => hdrOk h && fits 32 offset && fits 32 total
  | .pdelayReqSend port _ => portOk port
  | .announceSend port => portOk port
  | .tamperSourceClear src _ => below 8 src
  | .slotStart .. | .slotClose .. | .islandEvaluation .. | .guardEvaluation .. | .bellPins .. | .bellfSend .. | .ledgerRestore
  | .dramRowFill .. | .rowSettle .. | .screeningUpdate .. | .e2eDelayDiscard | .ppsInEdge .. | .irigbFrameReceive ..
  | .sourceLoss | .swHoldExpiry | .timeLock | .timeStep | .errEstUpdate | .leapApply | .ppsOutPulse | .c37DataFrame ..
  | .svFrame .. | .histDecay | .percentileUpdate | .waitBudgetUpdate | .cadenceApply | .rotationStart | .rotationPhaseAdvance ..
  | .fltEvidencePost .. | .qcPhasorDelivery .. | .estimatorReport .. | .pmuClassApply | .l0Periodic .. | .lineCycleEnd ..
  | .energyLatch | .nrgTimeLatch | .timeLatchReturn .. | .nrgEvidencePost .. | .energySave | .thresholdUpdate ..
  | .sourceLocation .. | .modEvidencePost .. | .gooseMessageReceive .. | .gspCheck .. | .gspCommit | .firmwareKick
  | .watchdogStage1 | .watchdogStage2 | .gooseRetransmit | .heartbeatSend | .heartbeatReceive .. | .heartbeatLoss
  | .tdmDelayMeasure .. | .claimPresent .. | .claimAbsent | .tdmClaim | .gateOpen | .lockoutEnd | .schedReceive ..
  | .schedTimeout .. | .tdmRelayDrop | .tdmCut .. | .digestReceive .. | .digestTimeout .. | .tdmKat .. | .katPartnerTimeout
  | .tdmEvidencePost .. | .catchupRequest | .catchupComplete .. | .catchupTimeout | .catchupRetry | .holdoffMet | .tdmSlow
  | .takeReceive | .radioMessageReceive .. | .superframeStart .. | .bundleReceive .. | .assocReq .. | .poll .. | .disassoc ..
  | .relay .. | .beaconReceive .. | .radioForwardReceive .. | .frameCounterSave | .coordFcSave | .beaconingStart
  | .radEvidencePost .. | .pcieLinkDown | .ycpDatagramReceive .. | .saddleExpiry | .dukRegenerate .. | .meshCheck ..
  | .recordAccept | .recordCommit | .logDropped | .timeMark | .logSeal | .opsecSave | .por .. | .bor .. | .resetPin ..
  | .dbgReset | .pllLockLoss .. | .optionTrimLoad .. | .firmwareStart .. | .startComplete | .runSLimit | .watchEntry ..
  | .watchExit .. | .pfailAssert .. | .pfailClear .. | .refclkInvalid | .tcxoFail .. | .ckAonBad .. | .pllRelock
  | .tempMeasure .. | .timEvidencePost .. | .ppsInEdgeMissing | .timeFallbackCycleEnd .. | .overvoltageReconnect ..
  | .storeReachesVin .. => true

end Sys2Proof
end

