-- ==== Sys2Proof/Decode.lean ====
section
/-!
DEFINITION. The block decodes no instructions. Its operation table gives its rows no bits, so a word spells no command
(notes/assumptions/2.md).
-/
namespace Sys2Proof

/-- The command that a word spells by the bits of the operation table: the table gives no row any bits. -/
def decodeTableWord (_nbits _w : Nat) : Option Instr := none

end Sys2Proof
end

