-- ==== Sys2Proof/Config.lean ====
section
/-!
DEFINITION. What an implementation fixes and what the spec leaves open. Every constant here is OPAQUE: it has
no body, nothing in Lean can evaluate it, and a statement about it holds whatever it is.
-/
namespace Sys2Proof.Config

/-- FREE VALUE. A value the spec does not state; applied to the state's counter `freeCtr` and a width's worth of
bits taken from it (notes/assumptions/3.md). -/
opaque freeValue : Nat → BitVec 64

/-- FREE VALUE. Rounding of a fraction that IEEE 754 single precision cannot hold exactly: the spec names no
rounding mode (notes/assumptions/4.md). -/
opaque roundSingle : Q → BitVec 32

/-- SHA-256, an external standard: kept abstract (notes/assumptions/5.md). -/
opaque sha256 : List Byte → BitVec 256

/-- SHA-384, an external standard: kept abstract (notes/assumptions/5.md). -/
opaque sha384 : List Byte → BitVec 384

/-- HMAC-SHA-256 under a key: kept abstract (notes/assumptions/5.md). -/
opaque hmac256 : BitVec 384 → List Byte → BitVec 256

/-- KDF of SP 800-108 in counter mode: key, label and context give derived key material (R458). -/
opaque kdf : BitVec 384 → List Byte → BitVec 384

/-- ECDSA signature over a message by a private key: kept abstract (notes/assumptions/5.md). -/
opaque ecdsaSign : BitVec 384 → List Byte → BitVec 768

/-- The public key of a private key (R467, R468). -/
opaque publicKey : BitVec 384 → BitVec 768

/-- The device unique key the PUF yields in this device (R454). -/
opaque duk : BitVec 384

/-- The key the random generator of the key block yields at its n-th draw (R462). -/
opaque randomKey : Nat → BitVec 384

/-- AES-256 check value of a key: its first 32 bits (R480). -/
opaque kcv : BitVec 384 → BitVec 32

/-- AEAD of the radio's and MACsec's frames: kept abstract. -/
opaque aead : BitVec 384 → List Byte → BitVec 128

/-- Shared secret of ECDH (R468). -/
opaque ecdh : BitVec 384 → BitVec 768 → BitVec 384

/-- FREE VALUE. 10 to the power x / 20 in single precision, for a threshold kept in dB: the spec names no rounding
(notes/assumptions/4.md). -/
opaque fromDb : Q → BitVec 32

/-- FREE VALUE. A default threshold moved by an offset in dB to the bound of its envelope, in single precision
(notes/assumptions/4.md). -/
opaque offsetDb : Nat → Q → BitVec 32

/-- FREE VALUE. What a converted value is where the reports give no frequency, or no finite number, to convert it from: R141
and R142 state none. Applied to the two entries and to the ticks since the first report (notes/assumptions/22.md). -/
opaque openEntry : BitVec 64 → BitVec 64 → Nat → BitVec 64

/-- FREE VALUE. The 16-bit checksum of a report's values (R134): the spec names no function (notes/assumptions/23.md). -/
opaque reportChecksum : List (BitVec 64) → BitVec 16

/-- FREE VALUE. KIND (modulo 6) and scale factor of a channel of a line sensor, by association and channel: no command brings
them (notes/assumptions/24.md). -/
opaque radioKind : Nat → Nat → Nat
opaque radioScale : Nat → Nat → BitVec 32

/-- FREE VALUES. How many superframes ahead the START of an association or a move lies, beyond the least that R399 and R400 need,
and which of the free slots and phases is taken: the spec states neither (notes/assumptions/36.md). -/
opaque radioLead : Nat
opaque radioPick : Nat → Nat

/-- MAC address of the TDM port of this device (R353, R354). -/
opaque tdmMac : Nat

/-- FREE VALUE. How much later than 60 µs after sending an early cut instant lies, in ticks: R363 names only the least
(notes/assumptions/41.md). -/
opaque earlyLead : Nat

/-- Gain in ppm and offset in µV of the default trims of modulator `m` in the boot ROM (R513): the spec names no values
(notes/assumptions/43.md). -/
opaque bootRomTrim : Nat → Int × Int

/-- FW_KEY_HASH in the boot ROM (R513). -/
opaque bootRomKeyHash : Nat

/-- FREE VALUE. The domains powered during START: R527 lists none for it (notes/assumptions/43.md). -/
opaque startDomains : Nat

end Sys2Proof.Config
end

