-- ==== Sys2Proof/Machine/RegNames.lean ====
section
/-!
DEFINITION. Addresses of the registers and places of their fields, by the names of the spec (chapter 17 and the
register tables of each chapter). A register that occurs several times has a stride; `Fld.at` shifts a field.
-/
namespace Sys2Proof.Machine

/-- A field: address of its register, highest and lowest bit. -/
structure Fld where
  addr : Nat
  hi   : Nat
  lo   : Nat
  deriving DecidableEq, Repr

/-- The same field of the register `off` bytes on. -/
def Fld.at (f : Fld) (off : Nat) : Fld := { f with addr := f.addr + off }

namespace Reg

abbrev ING_CTX_W : Nat := 0x40100
abbrev FLT_TE_CFG : Nat := 0x60304
abbrev MOD_W_W : Nat := 0x80104
abbrev MOD_BR_W : Nat := 0x80404
abbrev ISL_ST_W : Nat := 0x90104
abbrev ISL_TIE_W : Nat := 0x90204
abbrev ISL_GS_W : Nat := 0x90304
abbrev RAD_AS_W : Nat := 0xC0104
abbrev TOP_ID : Nat := 0x00000
abbrev TOP_STATE : Nat := 0x00004
abbrev TOP_FW : Nat := 0x00008
abbrev TOP_FW_VER : Nat := 0x0000C
abbrev TOP_FW_FLOOR : Nat := 0x00010
abbrev TOP_STRAP : Nat := 0x00014
abbrev TOP_NOMF : Nat := 0x00018
abbrev RST_CAUSE : Nat := 0x10000
abbrev RST_LOAD : Nat := 0x1000C
abbrev RST_CTRL : Nat := 0x10004
abbrev RST_FSC : Nat := 0x10008
abbrev CLK_CTRL : Nat := 0x10100
abbrev CLK_STAT : Nat := 0x10104
abbrev CLK_AON_HZ : Nat := 0x10108
abbrev PWR_CTRL : Nat := 0x10200
abbrev PWR_THR : Nat := 0x10204
abbrev PWR_WATCH : Nat := 0x10208
abbrev PWR_STAT : Nat := 0x1020C
abbrev PWR_DOM : Nat := 0x10210
abbrev PWR_VIN : Nat := 0x10214
abbrev PWR_TEMP : Nat := 0x10218
abbrev RST_CNT_B : Nat := 0x10800
abbrev RST_CNT_C : Nat := 0x10804
abbrev PWR_CNT_PFAIL : Nat := 0x10808
abbrev PWR_CNT_RIDE : Nat := 0x1080C
abbrev PWR_CNT_WATCH : Nat := 0x10810
abbrev CLK_CNT_REF_SW : Nat := 0x10814
abbrev TIM_CTRL : Nat := 0x20000
abbrev TIM_STAT : Nat := 0x20004
abbrev TIM_SRC_CTRL : Nat := 0x20008
abbrev TIM_SRC_PRIO : Nat := 0x2000C
abbrev TIM_SERVO : Nat := 0x20010
abbrev TIM_LIMITS : Nat := 0x20014
abbrev TIM_HO_MODEL : Nat := 0x20018
abbrev TIM_UTC : Nat := 0x2001C
abbrev TIM_PPS_OUT : Nat := 0x20020
abbrev TIM_PPS_DLY : Nat := 0x20024
abbrev TIM_SRC_ACC : Nat := 0x20028
abbrev TIM_TOD_SEC_LO : Nat := 0x20030
abbrev TIM_TOD_SEC_HI : Nat := 0x20034
abbrev TIM_NOW_NS : Nat := 0x20040
abbrev TIM_NOW_SEC_LO : Nat := 0x20044
abbrev TIM_NOW_SEC_HI : Nat := 0x20048
abbrev TIM_NOW_LT_LO : Nat := 0x2004C
abbrev TIM_NOW_LT_HI : Nat := 0x20050
abbrev TIM_OFFSET : Nat := 0x20060
abbrev TIM_FREQ_ADJ : Nat := 0x20064
abbrev TIM_ERR_EST : Nat := 0x20068
abbrev TIM_HO_TIME : Nat := 0x2006C
abbrev TIM_CNT_SYNC : Nat := 0x20080
abbrev TIM_CNT_PDELAY : Nat := 0x20084
abbrev TIM_CNT_E2E_DROP : Nat := 0x20088
abbrev TIM_CNT_OUTLIER : Nat := 0x2008C
abbrev TIM_CNT_SWITCH : Nat := 0x20090
abbrev TIM_CNT_STEP : Nat := 0x20094
abbrev TIM_CNT_PPS_MISS : Nat := 0x20098
abbrev TIM_CNT_IRIG_ERR : Nat := 0x2009C
abbrev TIM_CNT_LEAP : Nat := 0x200A0
abbrev MAC_CTRL : Nat := 0x30000
abbrev MAC_STAT : Nat := 0x30004
abbrev MAC_MAXLEN : Nat := 0x30008
abbrev MAC_PFC : Nat := 0x30010
abbrev MAC_POOL0_WM : Nat := 0x30020
abbrev MAC_POOL1_WM : Nat := 0x30024
abbrev MAC_POOL2_WM : Nat := 0x30028
abbrev MAC_POOL3_WM : Nat := 0x3002C
abbrev MAC_POOL4_WM : Nat := 0x30030
abbrev MAC_POOL5_WM : Nat := 0x30034
abbrev MAC_POOL6_WM : Nat := 0x30038
abbrev MAC_POOL7_WM : Nat := 0x3003C
abbrev MAC_STEP : Nat := 0x30040
abbrev MAC_STEP_STAT : Nat := 0x30044
abbrev MAC_LAT0 : Nat := 0x30050
abbrev MAC_LAT1 : Nat := 0x30054
abbrev MAC_LAT2 : Nat := 0x30058
abbrev MAC_LAT3 : Nat := 0x3005C
abbrev MAC_STR_IDX : Nat := 0x30080
abbrev MAC_STR_DATA0 : Nat := 0x30084
abbrev MAC_STR_DATA1 : Nat := 0x30088
abbrev MAC_STR_DATA2 : Nat := 0x3008C
abbrev MAC_STR_DATA3 : Nat := 0x30090
abbrev MAC_STR_DATA4 : Nat := 0x30094
abbrev MAC_STR_DATA5 : Nat := 0x30098
abbrev MAC_STR_DATA6 : Nat := 0x3009C
abbrev MAC_SEC_CTRL : Nat := 0x300A0
abbrev MAC_BANK0 : Nat := 0x30800
abbrev MAC_BANK1 : Nat := 0x30804
abbrev MAC_BANK2 : Nat := 0x30808
abbrev MAC_BANK3 : Nat := 0x3080C
abbrev MAC_BANK4 : Nat := 0x30810
abbrev MAC_BANK5 : Nat := 0x30814
abbrev MAC_BANK6 : Nat := 0x30818
abbrev MAC_BANK7 : Nat := 0x3081C
abbrev MAC_BANK8 : Nat := 0x30820
abbrev MAC_BANK9 : Nat := 0x30824
abbrev MAC_BANK10 : Nat := 0x30828
abbrev MAC_BANK11 : Nat := 0x3082C
abbrev MAC_BANK12 : Nat := 0x30830
abbrev MAC_BANK13 : Nat := 0x30834
abbrev MAC_BANK14 : Nat := 0x30838
abbrev MAC_BANK15 : Nat := 0x3083C
abbrev MAC_BANK16 : Nat := 0x30840
abbrev MAC_BANK17 : Nat := 0x30844
abbrev MAC_BANK18 : Nat := 0x30848
abbrev MAC_BANK19 : Nat := 0x3084C
abbrev MAC_BANK20 : Nat := 0x30850
abbrev MAC_BANK21 : Nat := 0x30854
abbrev MAC_BANK22 : Nat := 0x30858
abbrev MAC_BANK23 : Nat := 0x3085C
abbrev MAC_BANK24 : Nat := 0x30860
abbrev MAC_BANK25 : Nat := 0x30864
abbrev MAC_BANK26 : Nat := 0x30868
abbrev MAC_BANK27 : Nat := 0x3086C
abbrev MAC_BANK28 : Nat := 0x30870
abbrev MAC_BANK29 : Nat := 0x30874
abbrev MAC_BANK30 : Nat := 0x30878
abbrev MAC_BANK31 : Nat := 0x3087C
abbrev MAC_BANK32 : Nat := 0x30880
abbrev MAC_BANK33 : Nat := 0x30884
abbrev MAC_BANK34 : Nat := 0x30888
abbrev MAC_BANK35 : Nat := 0x3088C
abbrev MAC_BANK36 : Nat := 0x30890
abbrev MAC_BANK37 : Nat := 0x30894
abbrev MAC_SNAP_CTRL : Nat := 0x37000
abbrev MAC_SNAP_SEQ : Nat := 0x37004
abbrev MAC_SNAP_LT_LO : Nat := 0x37008
abbrev MAC_SNAP_LT_HI : Nat := 0x3700C
abbrev ING_CTRL : Nat := 0x40000
abbrev ING_STAT : Nat := 0x40004
abbrev ING_STAT2 : Nat := 0x40008
abbrev ING_LOAD_CV : Nat := 0x4000C
abbrev ING_LOAD_FR : Nat := 0x40010
abbrev ING_CTX_SEL : Nat := 0x40020
abbrev ING_CH_SEL : Nat := 0x40024
abbrev ING_HIST_B : Nat := 0x401C0
abbrev ING_CH_DESC : Nat := 0x40200
abbrev ING_CNT_NO_SPOKE : Nat := 0x40400
abbrev ING_CNT_SYNC : Nat := 0x40404
abbrev ING_CNT_NO_CFG : Nat := 0x40408
abbrev ING_CNT_TCP_DATA : Nat := 0x4040C
abbrev ING_CNT_SV_REJ : Nat := 0x40410
abbrev ING_CNT_LATE_WRITE : Nat := 0x40414
abbrev ING_CNT_BUDGET_REJ : Nat := 0x40418
abbrev ALN_CTRL : Nat := 0x50000
abbrev ALN_STAT : Nat := 0x50004
abbrev ALN_CADENCE : Nat := 0x50008
abbrev ALN_WAIT_MIN : Nat := 0x5000C
abbrev ALN_WAIT_MAX : Nat := 0x50010
abbrev ALN_WAIT_CTRL : Nat := 0x50014
abbrev ALN_WAIT_PIN : Nat := 0x50018
abbrev ALN_WAIT_NOW : Nat := 0x5001C
abbrev ALN_LATE_HZN : Nat := 0x50020
abbrev ALN_FILL : Nat := 0x50024
abbrev ALN_ROW_STAT : Nat := 0x50028
abbrev ALN_STORE_HZN : Nat := 0x5002C
abbrev ALN_FL_STAT : Nat := 0x50030
abbrev ALN_OUT_SEL : Nat := 0x50400
abbrev ALN_OUT_W : Nat := 0x50404
abbrev ALN_CAP_SEL : Nat := 0x50600
abbrev ALN_CAP_CTRL : Nat := 0x50604
abbrev ALN_CAP_W : Nat := 0x50610
abbrev ALN_CAP_POOL : Nat := 0x50640
abbrev ALN_CNT_TOO_EARLY : Nat := 0x50800
abbrev ALN_CNT_EARLY_CLOSE : Nat := 0x50804
abbrev ALN_CNT_CRIT_MISS : Nat := 0x50808
abbrev ALN_CNT_BUMP : Nat := 0x5080C
abbrev ALN_CNT_AMEND : Nat := 0x50810
abbrev ALN_CNT_FILL : Nat := 0x50814
abbrev ALN_CNT_CRC_CORR : Nat := 0x50818
abbrev ALN_CNT_POISON : Nat := 0x5081C
abbrev ALN_CNT_FLIT_RETRY : Nat := 0x50820
abbrev ALN_CNT_STEP_DROP : Nat := 0x50824
abbrev ALN_CNT_CAP_RETRIG : Nat := 0x50828
abbrev ALN_LDG_CTRL : Nat := 0x50C00
abbrev ALN_LDG_STAT : Nat := 0x50C04
abbrev ALN_LDG_OVR : Nat := 0x50C08
abbrev ALN_LDG_SHARE_A : Nat := 0x50C0C
abbrev ALN_LDG_SHARE_B : Nat := 0x50C10
abbrev ALN_LDG_LAST_SEQ : Nat := 0x50C20
abbrev ALN_LDG_LAST_C_LO : Nat := 0x50C24
abbrev ALN_LDG_LAST_C_HI : Nat := 0x50C28
abbrev ALN_LDG_LAST_ : Nat := 0x50C2C
abbrev ALN_LDG_WORST_ : Nat := 0x50C40
abbrev ALN_LDG_CNT_STAGE : Nat := 0x50C60
abbrev ALN_LDG_CNT_SHARED : Nat := 0x50C74
abbrev ALN_LDG_CNT_SHED : Nat := 0x50C78
abbrev ALN_LDG_CNT_RESERVE : Nat := 0x50C7C
abbrev ALN_LDG_CNT_BREACH : Nat := 0x50C80
abbrev ALN_LDG_CNT_EVREJ : Nat := 0x50C84
abbrev AFE_CTRL : Nat := 0x60000
abbrev AFE_STAT : Nat := 0x60004
abbrev AFE_CH_CFG : Nat := 0x60010
abbrev AFE_CH_SCALE : Nat := 0x60030
abbrev FLT_VNOM : Nat := 0x60050
abbrev FLT_INOM : Nat := 0x60054
abbrev FLT_CAL_CTRL : Nat := 0x60100
abbrev FLT_CAL_STAT : Nat := 0x60104
abbrev FLT_PMU : Nat := 0x60200
abbrev FLT_TE_SEL : Nat := 0x60300
abbrev FLT_TE_STATE : Nat := 0x60320
abbrev FLT_TE_LATCH : Nat := 0x60324
abbrev FLT_ST_CTRL : Nat := 0x60400
abbrev FLT_ST_STAT : Nat := 0x60404
abbrev AFE_CNT_RANGE : Nat := 0x60800
abbrev AFE_CNT_CLIP : Nat := 0x60804
abbrev AFE_CNT_SETTLE : Nat := 0x60808
abbrev FLT_CNT_ROT_ABORT : Nat := 0x6080C
abbrev FLT_CNT_L0_RUN : Nat := 0x60810
abbrev FLT_CNT_L0_SKIP : Nat := 0x60814
abbrev FLT_CNT_L0_FAIL : Nat := 0x60818
abbrev FLT_CNT_TE_SUPP : Nat := 0x6081C
abbrev NRG_CTRL : Nat := 0x70000
abbrev NRG_STAT : Nat := 0x70004
abbrev NRG_NOLOAD : Nat := 0x70008
abbrev NRG_PFS : Nat := 0x7000C
abbrev NRG_PFS_NEXT : Nat := 0x70010
abbrev NRG_SAVE : Nat := 0x70014
abbrev NRG_SAVE_STAT : Nat := 0x70018
abbrev NRG_LAT_SEQ : Nat := 0x70040
abbrev NRG_LAT_T_LO : Nat := 0x70044
abbrev NRG_LAT_T_HI : Nat := 0x70048
abbrev NRG_LAT_FLAGS : Nat := 0x7004C
abbrev NRG_LAT_ : Nat := 0x70100
abbrev PUL_CFG : Nat := 0x70400
abbrev PUL_K : Nat := 0x70404
abbrev PUL_STAT : Nat := 0x70420
abbrev NRG_CNT_SUBST : Nat := 0x70800
abbrev NRG_CNT_SAVE : Nat := 0x70804
abbrev NRG_CNT_SAVE_ABORT : Nat := 0x70808
abbrev NRG_CNT_LATCH : Nat := 0x7080C
abbrev PUL_CNT_DROP : Nat := 0x70820
abbrev PUL_CNT_ : Nat := 0x70810
abbrev MOD_CTRL : Nat := 0x80000
abbrev MOD_STAT : Nat := 0x80004
abbrev MOD_ADAPT : Nat := 0x80008
abbrev MOD_WATCH_CTRL : Nat := 0x8000C
abbrev MOD_SCR_THR : Nat := 0x80010
abbrev MOD_SCR_THR4 : Nat := 0x8001C
abbrev MOD_SCR_PERS : Nat := 0x80020
abbrev MOD_DEF_CTRL : Nat := 0x80030
abbrev MOD_W_SEL : Nat := 0x80100
abbrev MOD_M_SEL : Nat := 0x80200
abbrev MOD_M_ : Nat := 0x80204
abbrev MOD_CH_SEL : Nat := 0x80300
abbrev MOD_CH_ : Nat := 0x80310
abbrev MOD_BR_SEL : Nat := 0x80400
abbrev MOD_LOC_SEL : Nat := 0x80500
abbrev MOD_LOC_ : Nat := 0x80504
abbrev MOD_CNT_HIT : Nat := 0x80800
abbrev MOD_CNT_SPAWN : Nat := 0x80804
abbrev MOD_CNT_RETIRE : Nat := 0x80808
abbrev MOD_CNT_SPAWN_FULL : Nat := 0x8080C
abbrev MOD_CNT_UPDATE : Nat := 0x80810
abbrev MOD_CNT_GAP : Nat := 0x80814
abbrev MOD_CNT_ALARM : Nat := 0x80818
abbrev MOD_CNT_LOC : Nat := 0x8081C
abbrev MOD_CNT_HIT_SUPP : Nat := 0x80820
abbrev ISL_CTRL : Nat := 0x90000
abbrev ISL_STAT : Nat := 0x90004
abbrev ISL_CRIT : Nat := 0x90008
abbrev ISL_BLOCK : Nat := 0x9000C
abbrev ISL_LOM : Nat := 0x90010
abbrev ISL_MERGE : Nat := 0x90014
abbrev ISL_CLEAR : Nat := 0x90018
abbrev ISL_ST_SEL : Nat := 0x90100
abbrev ISL_TIE_SEL : Nat := 0x90200
abbrev ISL_GS_SEL : Nat := 0x90300
abbrev ISL_IS_SEL : Nat := 0x90400
abbrev ISL_IS_ : Nat := 0x90404
abbrev ISL_CNT_DECLARE : Nat := 0x90800
abbrev ISL_CNT_CLEAR : Nat := 0x90804
abbrev ISL_CNT_CAND_DROP : Nat := 0x90808
abbrev ISL_CNT_FULL : Nat := 0x9080C
abbrev ISL_CNT_BLOCK : Nat := 0x90810
abbrev ISL_CNT_LOM_VS : Nat := 0x90814
abbrev ISL_CNT_LOM_ROCOF : Nat := 0x90818
abbrev ISL_CNT_UNOBS : Nat := 0x9081C
abbrev ISL_CNT_BACKUP : Nat := 0x90820
abbrev ISL_CNT_GOOSE_REJ : Nat := 0x90824
abbrev ISL_CNT_GOOSE_TAL : Nat := 0x90828
abbrev GRD_STAT : Nat := 0xA0000
abbrev GRD_GSP_VER : Nat := 0xA0004
abbrev GRD_GSP_FLOOR : Nat := 0xA0008
abbrev GRD_GSP_REJ : Nat := 0xA0040
abbrev GRD_BELL : Nat := 0xA0044
abbrev GRD_EVID : Nat := 0xA0048
abbrev GRD_WDT : Nat := 0xA004C
abbrev GRD_GOOSE_ST : Nat := 0xA0058
abbrev GRD_GOOSE_SQ : Nat := 0xA005C
abbrev GRD_RSVD : Nat := 0xA000C
abbrev GRD_GSP_DIG : Nat := 0xA0010
abbrev GRD_BSEQ_LO : Nat := 0xA0050
abbrev GRD_BSEQ_HI : Nat := 0xA0054
abbrev GRD_CNT_EVAL : Nat := 0xA0800
abbrev GRD_CNT_MISS : Nat := 0xA0804
abbrev GRD_CNT_FAILSAFE : Nat := 0xA0808
abbrev GRD_CNT_GSP_ACC : Nat := 0xA080C
abbrev GRD_CNT_GSP_REJ : Nat := 0xA0810
abbrev GRD_CNT_BELLF : Nat := 0xA0814
abbrev GRD_CNT_GOOSE : Nat := 0xA0818
abbrev GRD_CNT_BELL_CHG : Nat := 0xA081C
abbrev GRD_CNT_WDT1 : Nat := 0xA0820
abbrev GRD_CNT_WDT2 : Nat := 0xA0824
abbrev TDM_CTRL : Nat := 0xB0000
abbrev TDM_STAT : Nat := 0xB0004
abbrev TDM_XCHG : Nat := 0xB0008
abbrev TDM_TIMERS : Nat := 0xB000C
abbrev TDM_SPOKES : Nat := 0xB0010
abbrev TDM_DELAY : Nat := 0xB0014
abbrev TDM_OFFSET : Nat := 0xB0018
abbrev TDM_HOLD : Nat := 0xB0030
abbrev TDM_DIG_SEQ : Nat := 0xB0040
abbrev TDM_CFG_DIG_LO : Nat := 0xB0020
abbrev TDM_CFG_DIG_HI : Nat := 0xB0024
abbrev TDM_PCFG_DIG_LO : Nat := 0xB0028
abbrev TDM_PCFG_DIG_HI : Nat := 0xB002C
abbrev TDM_RSVD : Nat := 0xB001C
abbrev TDM_DIG_OWN_LO : Nat := 0xB0044
abbrev TDM_DIG_OWN_HI : Nat := 0xB0048
abbrev TDM_DIG_PART_LO : Nat := 0xB004C
abbrev TDM_DIG_PART_HI : Nat := 0xB0050
abbrev TDM_RSVD2 : Nat := 0xB0034
abbrev TDM_CNT_RELAY_TX : Nat := 0xB0800
abbrev TDM_CNT_RELAY_RX : Nat := 0xB0804
abbrev TDM_CNT_RELAY_DROP : Nat := 0xB0808
abbrev TDM_CNT_NEED : Nat := 0xB080C
abbrev TDM_CNT_INCOMPLETE : Nat := 0xB0810
abbrev TDM_CNT_MISMATCH : Nat := 0xB0814
abbrev TDM_CNT_KAT : Nat := 0xB0818
abbrev TDM_CNT_KAT_FAIL : Nat := 0xB081C
abbrev TDM_CNT_HB_LOSS : Nat := 0xB0820
abbrev TDM_CNT_CLAIM : Nat := 0xB0824
abbrev TDM_CNT_HANDOVER : Nat := 0xB0828
abbrev TDM_CNT_RADIO_FWD : Nat := 0xB082C
abbrev RAD_CTRL : Nat := 0xC0000
abbrev RAD_STAT : Nat := 0xC0004
abbrev RAD_PHY : Nat := 0xC0008
abbrev RAD_ID : Nat := 0xC000C
abbrev RAD_EUI_LO : Nat := 0xC0010
abbrev RAD_EUI_HI : Nat := 0xC0014
abbrev RAD_SUP : Nat := 0xC0018
abbrev RAD_MAP : Nat := 0xC0020
abbrev RAD_MAP_EFF : Nat := 0xC0030
abbrev RAD_EXC : Nat := 0xC0040
abbrev RAD_SEC : Nat := 0xC0044
abbrev RAD_KEYMAP : Nat := 0xC0048
abbrev RAD_FC_OUT : Nat := 0xC004C
abbrev RAD_LOAD : Nat := 0xC0050
abbrev RAD_SFN : Nat := 0xC0054
abbrev RAD_DUTY : Nat := 0xC0080
abbrev RAD_AS_SEL : Nat := 0xC0100
abbrev RAD_CNT_BEACON : Nat := 0xC0800
abbrev RAD_CNT_RX : Nat := 0xC0804
abbrev RAD_CNT_FCS : Nat := 0xC0808
abbrev RAD_CNT_DRIFT_REJ : Nat := 0xC080C
abbrev RAD_CNT_ADDR_REJ : Nat := 0xC0810
abbrev RAD_CNT_SEC_FAIL : Nat := 0xC0814
abbrev RAD_CNT_REPLAY : Nat := 0xC0818
abbrev RAD_CNT_PHR_REJ : Nat := 0xC081C
abbrev RAD_CNT_SHORT : Nat := 0xC0820
abbrev RAD_CNT_RX_ABORT : Nat := 0xC0824
abbrev RAD_CNT_ACK_SKIP : Nat := 0xC0828
abbrev RAD_CNT_DWELL_HOLD : Nat := 0xC082C
abbrev RAD_CNT_DUTY_HOLD : Nat := 0xC0830
abbrev RAD_CNT_DL_DROP : Nat := 0xC0834
abbrev RAD_CNT_ASSOC_REJ : Nat := 0xC0838
abbrev HST_CTRL : Nat := 0xD0000
abbrev HST_STAT : Nat := 0xD0004
abbrev HST_SADDLE : Nat := 0xD0008
abbrev HST_SHARE_A : Nat := 0xD000C
abbrev HST_SHARE_B : Nat := 0xD0010
abbrev HST_S_STAT : Nat := 0xD0100
abbrev HST_S_SIZE : Nat := 0xD0104
abbrev HST_S_PEER : Nat := 0xD0108
abbrev HST_S_PORT : Nat := 0xD010C
abbrev HST_S_CNT_CMD : Nat := 0xD0800
abbrev HST_S_CNT_REJ : Nat := 0xD0804
abbrev HST_S_CNT_CRC : Nat := 0xD0808
abbrev HST_S_CNT_AUTH : Nat := 0xD080C
abbrev HST_S_CNT_NOCRED : Nat := 0xD0810
abbrev HST_S_CNT_FRAG : Nat := 0xD0814
abbrev HST_S_CNT_EVT_DROP : Nat := 0xD0818
abbrev HST_S_CNT_WR_DENIED : Nat := 0xD081C
abbrev PAN_CMD_CELL00 : Nat := 0xD8000
abbrev PAN_CMD_CELL01 : Nat := 0xD8004
abbrev PAN_CMD_CELL02 : Nat := 0xD8008
abbrev PAN_CMD_CELL03 : Nat := 0xD800C
abbrev PAN_CMD_CELL04 : Nat := 0xD8010
abbrev PAN_CMD_CELL05 : Nat := 0xD8014
abbrev PAN_CMD_CELL06 : Nat := 0xD8018
abbrev PAN_CMD_CELL07 : Nat := 0xD801C
abbrev PAN_CMD_CELL08 : Nat := 0xD8020
abbrev PAN_CMD_CELL09 : Nat := 0xD8024
abbrev PAN_CMD_CELL10 : Nat := 0xD8028
abbrev PAN_CMD_CELL11 : Nat := 0xD802C
abbrev PAN_CMD_CELL12 : Nat := 0xD8030
abbrev PAN_CMD_CELL13 : Nat := 0xD8034
abbrev PAN_CMD_CELL14 : Nat := 0xD8038
abbrev PAN_CMD_CELL15 : Nat := 0xD803C
abbrev PAN_CMD_PUSH : Nat := 0xD8040
abbrev PAN_CMD_CREDIT : Nat := 0xD8044
abbrev PAN_CMD_STAT : Nat := 0xD8048
abbrev PAN_RPL_CELL00 : Nat := 0xD8080
abbrev PAN_RPL_CELL01 : Nat := 0xD8084
abbrev PAN_RPL_CELL02 : Nat := 0xD8088
abbrev PAN_RPL_CELL03 : Nat := 0xD808C
abbrev PAN_RPL_CELL04 : Nat := 0xD8090
abbrev PAN_RPL_CELL05 : Nat := 0xD8094
abbrev PAN_RPL_CELL06 : Nat := 0xD8098
abbrev PAN_RPL_CELL07 : Nat := 0xD809C
abbrev PAN_RPL_CELL08 : Nat := 0xD80A0
abbrev PAN_RPL_CELL09 : Nat := 0xD80A4
abbrev PAN_RPL_CELL10 : Nat := 0xD80A8
abbrev PAN_RPL_CELL11 : Nat := 0xD80AC
abbrev PAN_RPL_CELL12 : Nat := 0xD80B0
abbrev PAN_RPL_CELL13 : Nat := 0xD80B4
abbrev PAN_RPL_CELL14 : Nat := 0xD80B8
abbrev PAN_RPL_CELL15 : Nat := 0xD80BC
abbrev PAN_RPL_NEXT : Nat := 0xD80C0
abbrev PAN_MARK : Nat := 0xD80C4
abbrev PAN_REWIND : Nat := 0xD80C8
abbrev PAN_RELEASE : Nat := 0xD80CC
abbrev PAN_RPL_STAT : Nat := 0xD80D0
abbrev PAN_RPL_UNREAD : Nat := 0xD80D4
abbrev PAN_EVT_CELL00 : Nat := 0xD8100
abbrev PAN_EVT_CELL01 : Nat := 0xD8104
abbrev PAN_EVT_CELL02 : Nat := 0xD8108
abbrev PAN_EVT_CELL03 : Nat := 0xD810C
abbrev PAN_EVT_CELL04 : Nat := 0xD8110
abbrev PAN_EVT_CELL05 : Nat := 0xD8114
abbrev PAN_EVT_CELL06 : Nat := 0xD8118
abbrev PAN_EVT_CELL07 : Nat := 0xD811C
abbrev PAN_EVT_CELL08 : Nat := 0xD8120
abbrev PAN_EVT_CELL09 : Nat := 0xD8124
abbrev PAN_EVT_CELL10 : Nat := 0xD8128
abbrev PAN_EVT_CELL11 : Nat := 0xD812C
abbrev PAN_EVT_CELL12 : Nat := 0xD8130
abbrev PAN_EVT_CELL13 : Nat := 0xD8134
abbrev PAN_EVT_CELL14 : Nat := 0xD8138
abbrev PAN_EVT_CELL15 : Nat := 0xD813C
abbrev PAN_EVT_NEXT : Nat := 0xD8140
abbrev PAN_EVT_MARK : Nat := 0xD8144
abbrev PAN_EVT_REWIND : Nat := 0xD8148
abbrev PAN_EVT_RELEASE : Nat := 0xD814C
abbrev PAN_EVT_STAT : Nat := 0xD8150
abbrev PAN_EVT_UNREAD : Nat := 0xD8154
abbrev KEY_STAT : Nat := 0xE0004
abbrev KEY_DEV_ID : Nat := 0xE0010
abbrev KEY_M1 : Nat := 0xE0040
abbrev KEY_MF : Nat := 0xE0070
abbrev KEY_TMP_CTRL : Nat := 0xE0100
abbrev KEY_TMP_STAT : Nat := 0xE0104
abbrev KEY_TMP_SEQ : Nat := 0xE0108
abbrev KEY_TMP_ACKED : Nat := 0xE010C
abbrev KEY_SLOT_SEL : Nat := 0xE0200
abbrev KEY_SLOT_INFO : Nat := 0xE0204
abbrev KEY_SLOT_GEN : Nat := 0xE0208
abbrev KEY_SLOT_KCV : Nat := 0xE020C
abbrev KEY_CNT_TAMPER : Nat := 0xE0800
abbrev KEY_CNT_ABORT : Nat := 0xE0804
abbrev KEY_CNT_OP : Nat := 0xE0808
abbrev KEY_CNT_AUTH_FAIL : Nat := 0xE080C
abbrev KEY_CNT_PUF_RETRY : Nat := 0xE0810
abbrev LOG_CTRL : Nat := 0xF0000
abbrev LOG_STAT : Nat := 0xF0004
abbrev LOG_SIZE : Nat := 0xF0008
abbrev LOG_FIXED : Nat := 0xF000C
abbrev LOG_RNUM_NEXT : Nat := 0xF0010
abbrev LOG_RNUM_OLDEST : Nat := 0xF0014
abbrev LOG_SEQ_LO : Nat := 0xF0018
abbrev LOG_SEQ_HI : Nat := 0xF001C
abbrev LOG_OPSEC_LO : Nat := 0xF0020
abbrev LOG_OPSEC_HI : Nat := 0xF0024
abbrev LOG_PCC : Nat := 0xF0028
abbrev LOG_CLR_CNT : Nat := 0xF002C
abbrev LOG_LOST : Nat := 0xF0030
abbrev LOG_RD_IDX : Nat := 0xF0100
abbrev LOG_RD_STAT : Nat := 0xF0104
abbrev LOG_RD_W : Nat := 0xF0108
abbrev LOG_CNT_WRITTEN : Nat := 0xF0800
abbrev LOG_CNT_DROP : Nat := 0xF0804
abbrev LOG_CNT_OVERWRITE : Nat := 0xF0808
abbrev LOG_CNT_CRC : Nat := 0xF080C
abbrev LOG_CNT_SEAL : Nat := 0xF0810

end Reg

namespace F

abbrev TOP_STATE_KICK_REASON : Fld := ⟨0x00004, 13, 12⟩
abbrev TOP_STATE_WATCH_CAUSE : Fld := ⟨0x00004, 9, 8⟩
abbrev TOP_STATE_STATE : Fld := ⟨0x00004, 2, 0⟩
abbrev TOP_FW_RUNNING : Fld := ⟨0x00008, 31, 31⟩
abbrev TOP_FW_RECOVERY : Fld := ⟨0x00008, 30, 30⟩
abbrev TOP_FW_BANK : Fld := ⟨0x00008, 0, 0⟩
abbrev TOP_STRAP_PREFER : Fld := ⟨0x00014, 2, 2⟩
abbrev TOP_STRAP_REF_SRC : Fld := ⟨0x00014, 1, 1⟩
abbrev TOP_STRAP_BOOT_MODE : Fld := ⟨0x00014, 0, 0⟩
abbrev TOP_NOMF_ACTIVE : Fld := ⟨0x00018, 8, 8⟩
abbrev TOP_NOMF_SEL : Fld := ⟨0x00018, 0, 0⟩
abbrev RST_CAUSE_LAST_REACH : Fld := ⟨0x10000, 17, 16⟩
abbrev RST_CAUSE_SELF : Fld := ⟨0x10000, 8, 8⟩
abbrev RST_CAUSE_SRC : Fld := ⟨0x10000, 7, 0⟩
abbrev RST_LOAD_OPT_SRC : Fld := ⟨0x1000C, 7, 6⟩
abbrev RST_LOAD_TRIM_SRC : Fld := ⟨0x1000C, 5, 4⟩
abbrev RST_LOAD_BAD : Fld := ⟨0x1000C, 3, 0⟩
abbrev RST_CTRL_SYS_REQ : Fld := ⟨0x10004, 1, 1⟩
abbrev RST_CTRL_FW_REQ : Fld := ⟨0x10004, 0, 0⟩
abbrev RST_FSC_CLR : Fld := ⟨0x10008, 31, 31⟩
abbrev RST_FSC_RUN_S : Fld := ⟨0x10008, 23, 8⟩
abbrev RST_FSC_COUNT : Fld := ⟨0x10008, 3, 0⟩
abbrev CLK_CTRL_REF_SEL : Fld := ⟨0x10100, 1, 1⟩
abbrev CLK_CTRL_REF_AUTO : Fld := ⟨0x10100, 0, 0⟩
abbrev CLK_STAT_HOLDOVER : Fld := ⟨0x10104, 4, 4⟩
abbrev CLK_STAT_AON_BAD : Fld := ⟨0x10104, 3, 3⟩
abbrev CLK_STAT_REFIN_OK : Fld := ⟨0x10104, 2, 2⟩
abbrev CLK_STAT_REF_ACTIVE : Fld := ⟨0x10104, 1, 1⟩
abbrev CLK_STAT_PLL_LOCK : Fld := ⟨0x10104, 0, 0⟩
abbrev CLK_AON_HZ_HZ : Fld := ⟨0x10108, 15, 0⟩
abbrev PWR_CTRL_WATCH_AUTO : Fld := ⟨0x10200, 0, 0⟩
abbrev PWR_THR_WATCH_THR : Fld := ⟨0x10204, 25, 16⟩
abbrev PWR_THR_PFAIL_THR : Fld := ⟨0x10204, 9, 0⟩
abbrev PWR_WATCH_DWELL : Fld := ⟨0x10208, 15, 8⟩
abbrev PWR_WATCH_HYS : Fld := ⟨0x10208, 5, 0⟩
abbrev PWR_STAT_CFG_ERR : Fld := ⟨0x1020C, 3, 3⟩
abbrev PWR_STAT_HOLDUP_OK : Fld := ⟨0x1020C, 2, 2⟩
abbrev PWR_STAT_ON_STORE : Fld := ⟨0x1020C, 1, 1⟩
abbrev PWR_STAT_PFAIL : Fld := ⟨0x1020C, 0, 0⟩
abbrev PWR_DOM_ON : Fld := ⟨0x10210, 14, 0⟩
abbrev PWR_VIN_VSTORE : Fld := ⟨0x10214, 31, 16⟩
abbrev PWR_VIN_VIN : Fld := ⟨0x10214, 15, 0⟩
abbrev PWR_TEMP_TEMP : Fld := ⟨0x10218, 15, 0⟩
abbrev TIM_CTRL_DOMAIN : Fld := ⟨0x20000, 31, 24⟩
abbrev TIM_CTRL_TOD_LOAD : Fld := ⟨0x20000, 17, 17⟩
abbrev TIM_CTRL_STEP_RUN : Fld := ⟨0x20000, 16, 16⟩
abbrev TIM_CTRL_PROFILE : Fld := ⟨0x20000, 8, 8⟩
abbrev TIM_CTRL_GM_EN : Fld := ⟨0x20000, 1, 1⟩
abbrev TIM_STAT_SRC_VALID : Fld := ⟨0x20004, 31, 24⟩
abbrev TIM_STAT_SRC : Fld := ⟨0x20004, 19, 16⟩
abbrev TIM_STAT_ENVELOPE_HOLD : Fld := ⟨0x20004, 11, 11⟩
abbrev TIM_STAT_PINNED : Fld := ⟨0x20004, 10, 10⟩
abbrev TIM_STAT_GM : Fld := ⟨0x20004, 9, 9⟩
abbrev TIM_STAT_LEAP_ACTIVE : Fld := ⟨0x20004, 8, 8⟩
abbrev TIM_STAT_TQ : Fld := ⟨0x20004, 6, 4⟩
abbrev TIM_STAT_STATE : Fld := ⟨0x20004, 2, 0⟩
abbrev TIM_SRC_CTRL_SRC_EN : Fld := ⟨0x20008, 31, 24⟩
abbrev TIM_SRC_CTRL_LOSS_TMO : Fld := ⟨0x20008, 23, 18⟩
abbrev TIM_SRC_CTRL_SW_HOLD : Fld := ⟨0x20008, 15, 8⟩
abbrev TIM_SRC_CTRL_PIN_EN : Fld := ⟨0x20008, 4, 4⟩
abbrev TIM_SRC_CTRL_PIN_SRC : Fld := ⟨0x20008, 3, 0⟩
abbrev TIM_SRC_PRIO_PRIO0 : Fld := ⟨0x2000C, 3, 0⟩
abbrev TIM_SRC_PRIO_PRIO1 : Fld := ⟨0x2000C, 7, 4⟩
abbrev TIM_SRC_PRIO_PRIO2 : Fld := ⟨0x2000C, 11, 8⟩
abbrev TIM_SRC_PRIO_PRIO3 : Fld := ⟨0x2000C, 15, 12⟩
abbrev TIM_SRC_PRIO_PRIO4 : Fld := ⟨0x2000C, 19, 16⟩
abbrev TIM_SRC_PRIO_PRIO5 : Fld := ⟨0x2000C, 23, 20⟩
abbrev TIM_SRC_PRIO_PRIO6 : Fld := ⟨0x2000C, 27, 24⟩
abbrev TIM_SRC_PRIO_PRIO7 : Fld := ⟨0x2000C, 31, 28⟩
abbrev TIM_SERVO_LOCK_CNT : Fld := ⟨0x20010, 23, 16⟩
abbrev TIM_SERVO_KI_SH : Fld := ⟨0x20010, 11, 8⟩
abbrev TIM_SERVO_KP_SH : Fld := ⟨0x20010, 3, 0⟩
abbrev TIM_LIMITS_STEP_THR : Fld := ⟨0x20014, 31, 16⟩
abbrev TIM_LIMITS_SLEW_MAX : Fld := ⟨0x20014, 9, 0⟩
abbrev TIM_HO_MODEL_AGE : Fld := ⟨0x20018, 31, 16⟩
abbrev TIM_HO_MODEL_Y0_FLOOR : Fld := ⟨0x20018, 15, 0⟩
abbrev TIM_UTC_LEAP_DIR : Fld := ⟨0x2001C, 17, 17⟩
abbrev TIM_UTC_LEAP_PEND : Fld := ⟨0x2001C, 16, 16⟩
abbrev TIM_UTC_OFS_SRC : Fld := ⟨0x2001C, 9, 8⟩
abbrev TIM_UTC_UTC_OFS : Fld := ⟨0x2001C, 7, 0⟩
abbrev TIM_PPS_OUT_EN : Fld := ⟨0x20020, 31, 31⟩
abbrev TIM_PPS_OUT_SQUELCH_TQ : Fld := ⟨0x20020, 30, 28⟩
abbrev TIM_PPS_OUT_WIDTH : Fld := ⟨0x20020, 16, 0⟩
abbrev TIM_PPS_DLY_OUT_DLY : Fld := ⟨0x20024, 31, 16⟩
abbrev TIM_PPS_DLY_IN_DLY : Fld := ⟨0x20024, 15, 0⟩
abbrev TIM_SRC_ACC_IRIG_ACC : Fld := ⟨0x20028, 31, 16⟩
abbrev TIM_SRC_ACC_PPS_ACC : Fld := ⟨0x20028, 15, 0⟩
abbrev TIM_TOD_SEC_HI_SEC_HI : Fld := ⟨0x20034, 15, 0⟩
abbrev TIM_NOW_SEC_HI_FRAC : Fld := ⟨0x20048, 31, 16⟩
abbrev TIM_NOW_SEC_HI_SEC_HI : Fld := ⟨0x20048, 15, 0⟩
abbrev TIM_NOW_LT_HI_LT_HI : Fld := ⟨0x20050, 15, 0⟩
abbrev MAC_CTRL_DEF_PRIO : Fld := ⟨0x30000, 7, 5⟩
abbrev MAC_CTRL_MODE : Fld := ⟨0x30000, 1, 1⟩
abbrev MAC_CTRL_EN : Fld := ⟨0x30000, 0, 0⟩
abbrev MAC_STAT_CFG_ERR : Fld := ⟨0x30004, 8, 8⟩
abbrev MAC_STAT_RATE : Fld := ⟨0x30004, 5, 4⟩
abbrev MAC_STAT_SEC_UP : Fld := ⟨0x30004, 3, 3⟩
abbrev MAC_STAT_PAUSED : Fld := ⟨0x30004, 2, 2⟩
abbrev MAC_STAT_PAUSING : Fld := ⟨0x30004, 1, 1⟩
abbrev MAC_STAT_LINK : Fld := ⟨0x30004, 0, 0⟩
abbrev MAC_MAXLEN_LEN : Fld := ⟨0x30008, 13, 0⟩
abbrev MAC_PFC_OBEY_EN : Fld := ⟨0x30010, 22, 16⟩
abbrev MAC_PFC_GEN_EN : Fld := ⟨0x30010, 15, 8⟩
abbrev MAC_PFC_MODE : Fld := ⟨0x30010, 0, 0⟩
abbrev MAC_POOL0_WM_HI_WM : Fld := ⟨0x30020, 31, 16⟩
abbrev MAC_POOL0_WM_LO_WM : Fld := ⟨0x30020, 15, 0⟩
abbrev MAC_POOL1_WM_HI_WM : Fld := ⟨0x30024, 31, 16⟩
abbrev MAC_POOL1_WM_LO_WM : Fld := ⟨0x30024, 15, 0⟩
abbrev MAC_POOL2_WM_HI_WM : Fld := ⟨0x30028, 31, 16⟩
abbrev MAC_POOL2_WM_LO_WM : Fld := ⟨0x30028, 15, 0⟩
abbrev MAC_POOL3_WM_HI_WM : Fld := ⟨0x3002C, 31, 16⟩
abbrev MAC_POOL3_WM_LO_WM : Fld := ⟨0x3002C, 15, 0⟩
abbrev MAC_POOL4_WM_HI_WM : Fld := ⟨0x30030, 31, 16⟩
abbrev MAC_POOL4_WM_LO_WM : Fld := ⟨0x30030, 15, 0⟩
abbrev MAC_POOL5_WM_HI_WM : Fld := ⟨0x30034, 31, 16⟩
abbrev MAC_POOL5_WM_LO_WM : Fld := ⟨0x30034, 15, 0⟩
abbrev MAC_POOL6_WM_HI_WM : Fld := ⟨0x30038, 31, 16⟩
abbrev MAC_POOL6_WM_LO_WM : Fld := ⟨0x30038, 15, 0⟩
abbrev MAC_POOL7_WM_HI_WM : Fld := ⟨0x3003C, 31, 16⟩
abbrev MAC_POOL7_WM_LO_WM : Fld := ⟨0x3003C, 15, 0⟩
abbrev MAC_STEP_EN : Fld := ⟨0x30040, 31, 31⟩
abbrev MAC_STEP_FLOOR : Fld := ⟨0x30040, 30, 29⟩
abbrev MAC_STEP_PHY_ADDR : Fld := ⟨0x30040, 28, 24⟩
abbrev MAC_STEP_TMO : Fld := ⟨0x30040, 23, 20⟩
abbrev MAC_STEP_GUARD : Fld := ⟨0x30040, 19, 14⟩
abbrev MAC_STEP_DWELL : Fld := ⟨0x30040, 13, 8⟩
abbrev MAC_STEP_HIGH_UTIL : Fld := ⟨0x30040, 7, 4⟩
abbrev MAC_STEP_LOW_UTIL : Fld := ⟨0x30040, 3, 0⟩
abbrev MAC_STEP_STAT_FAIL : Fld := ⟨0x30044, 2, 2⟩
abbrev MAC_STEP_STAT_HELD : Fld := ⟨0x30044, 1, 1⟩
abbrev MAC_STEP_STAT_BUSY : Fld := ⟨0x30044, 0, 0⟩
abbrev MAC_LAT0_TX_LAT : Fld := ⟨0x30050, 31, 16⟩
abbrev MAC_LAT0_RX_LAT : Fld := ⟨0x30050, 15, 0⟩
abbrev MAC_LAT1_TX_LAT : Fld := ⟨0x30054, 31, 16⟩
abbrev MAC_LAT1_RX_LAT : Fld := ⟨0x30054, 15, 0⟩
abbrev MAC_LAT2_TX_LAT : Fld := ⟨0x30058, 31, 16⟩
abbrev MAC_LAT2_RX_LAT : Fld := ⟨0x30058, 15, 0⟩
abbrev MAC_LAT3_TX_LAT : Fld := ⟨0x3005C, 31, 16⟩
abbrev MAC_LAT3_RX_LAT : Fld := ⟨0x3005C, 15, 0⟩
abbrev MAC_STR_IDX_CLR : Fld := ⟨0x30080, 31, 31⟩
abbrev MAC_STR_IDX_IDX : Fld := ⟨0x30080, 3, 0⟩
abbrev MAC_SEC_CTRL_REQUIRE : Fld := ⟨0x300A0, 31, 31⟩
abbrev MAC_SEC_CTRL_REPLAY_WIN : Fld := ⟨0x300A0, 30, 0⟩
abbrev MAC_SNAP_CTRL_REQ : Fld := ⟨0x37000, 31, 31⟩
abbrev MAC_SNAP_CTRL_CLR_ON_SNAP : Fld := ⟨0x37000, 30, 30⟩
abbrev MAC_SNAP_CTRL_PORTS : Fld := ⟨0x37000, 6, 0⟩
abbrev MAC_SNAP_LT_HI_LT_HI : Fld := ⟨0x3700C, 15, 0⟩
abbrev ING_CTRL_HIST_DECAY : Fld := ⟨0x40000, 23, 12⟩
abbrev ING_CTRL_CFG_TRIES : Fld := ⟨0x40000, 11, 8⟩
abbrev ING_STAT_ACTIVE : Fld := ⟨0x40004, 28, 16⟩
abbrev ING_STAT_DEFINED : Fld := ⟨0x40004, 12, 0⟩
abbrev ING_STAT2_CRITICAL : Fld := ⟨0x40008, 28, 16⟩
abbrev ING_STAT2_SV : Fld := ⟨0x40008, 14, 9⟩
abbrev ING_STAT2_RADIO : Fld := ⟨0x40008, 8, 0⟩
abbrev ING_LOAD_FR_FR : Fld := ⟨0x40010, 19, 0⟩
abbrev ING_CTX_SEL_LOAD : Fld := ⟨0x40020, 31, 31⟩
abbrev ING_CTX_SEL_COMMIT : Fld := ⟨0x40020, 30, 30⟩
abbrev ING_CTX_SEL_BUSY : Fld := ⟨0x40020, 29, 29⟩
abbrev ING_CTX_SEL_ERR : Fld := ⟨0x40020, 28, 26⟩
abbrev ING_CTX_SEL_SPOKE : Fld := ⟨0x40020, 11, 0⟩
abbrev ING_CH_SEL_LOAD : Fld := ⟨0x40024, 31, 31⟩
abbrev ING_CH_SEL_CH : Fld := ⟨0x40024, 17, 12⟩
abbrev ING_CH_SEL_SPOKE : Fld := ⟨0x40024, 11, 0⟩
abbrev ALN_CTRL_EARLY_EN : Fld := ⟨0x50000, 8, 8⟩
abbrev ALN_STAT_OPEN : Fld := ⟨0x50004, 24, 16⟩
abbrev ALN_STAT_CFG_ERR : Fld := ⟨0x50004, 8, 8⟩
abbrev ALN_STAT_STATE : Fld := ⟨0x50004, 1, 0⟩
abbrev ALN_CADENCE_PEND : Fld := ⟨0x50008, 31, 31⟩
abbrev ALN_CADENCE_ACTIVE : Fld := ⟨0x50008, 19, 16⟩
abbrev ALN_CADENCE_CODE : Fld := ⟨0x50008, 3, 0⟩
abbrev ALN_WAIT_MIN_MIN : Fld := ⟨0x5000C, 17, 0⟩
abbrev ALN_WAIT_MAX_MAX : Fld := ⟨0x50010, 17, 0⟩
abbrev ALN_WAIT_CTRL_MODE : Fld := ⟨0x50014, 31, 30⟩
abbrev ALN_WAIT_CTRL_MARGIN_PCT : Fld := ⟨0x50014, 23, 16⟩
abbrev ALN_WAIT_CTRL_MARGIN_ABS : Fld := ⟨0x50014, 15, 8⟩
abbrev ALN_WAIT_CTRL_DECAY_SH : Fld := ⟨0x50014, 7, 4⟩
abbrev ALN_WAIT_CTRL_BUMP : Fld := ⟨0x50014, 3, 0⟩
abbrev ALN_WAIT_PIN_PIN : Fld := ⟨0x50018, 17, 0⟩
abbrev ALN_WAIT_NOW_FL_CAP : Fld := ⟨0x5001C, 31, 31⟩
abbrev ALN_WAIT_NOW_ENV : Fld := ⟨0x5001C, 30, 30⟩
abbrev ALN_WAIT_NOW_W : Fld := ⟨0x5001C, 17, 0⟩
abbrev ALN_LATE_HZN_HZN : Fld := ⟨0x50020, 9, 0⟩
abbrev ALN_FILL_FAST : Fld := ⟨0x50024, 31, 31⟩
abbrev ALN_FILL_MAX : Fld := ⟨0x50024, 15, 8⟩
abbrev ALN_FILL_POLICY : Fld := ⟨0x50024, 1, 0⟩
abbrev ALN_ROW_STAT_FREE_RUN : Fld := ⟨0x50028, 29, 16⟩
abbrev ALN_ROW_STAT_USED : Fld := ⟨0x50028, 13, 0⟩
abbrev ALN_STORE_HZN_HZN : Fld := ⟨0x5002C, 19, 0⟩
abbrev ALN_FL_STAT_USED : Fld := ⟨0x50030, 13, 0⟩
abbrev ALN_OUT_SEL_LOAD : Fld := ⟨0x50400, 31, 31⟩
abbrev ALN_OUT_SEL_SET : Fld := ⟨0x50400, 3, 0⟩
abbrev ALN_CAP_SEL_LOAD : Fld := ⟨0x50600, 31, 31⟩
abbrev ALN_CAP_SEL_BAY : Fld := ⟨0x50600, 2, 0⟩
abbrev ALN_CAP_CTRL_RELEASE : Fld := ⟨0x50604, 0, 0⟩
abbrev ALN_LDG_CTRL_WORST_CLR : Fld := ⟨0x50C00, 31, 31⟩
abbrev ALN_LDG_CTRL_RESTORE_SLOTS : Fld := ⟨0x50C00, 27, 16⟩
abbrev ALN_LDG_CTRL_PIN_LEVEL : Fld := ⟨0x50C00, 8, 4⟩
abbrev ALN_LDG_CTRL_SHED_MODE : Fld := ⟨0x50C00, 1, 0⟩
abbrev ALN_LDG_STAT_CLEAN_SLOTS : Fld := ⟨0x50C04, 31, 16⟩
abbrev ALN_LDG_STAT_ENVELOPE_HOLD : Fld := ⟨0x50C04, 9, 9⟩
abbrev ALN_LDG_STAT_ACTIVE : Fld := ⟨0x50C04, 8, 8⟩
abbrev ALN_LDG_STAT_SHARE_ERR : Fld := ⟨0x50C04, 7, 7⟩
abbrev ALN_LDG_STAT_RESERVE_USED : Fld := ⟨0x50C04, 6, 6⟩
abbrev ALN_LDG_STAT_SATURATED : Fld := ⟨0x50C04, 5, 5⟩
abbrev ALN_LDG_STAT_LEVEL : Fld := ⟨0x50C04, 4, 0⟩
abbrev ALN_LDG_OVR_HOST : Fld := ⟨0x50C08, 12, 12⟩
abbrev ALN_LDG_OVR_STORE : Fld := ⟨0x50C08, 11, 11⟩
abbrev ALN_LDG_OVR_OUTSET : Fld := ⟨0x50C08, 10, 10⟩
abbrev ALN_LDG_OVR_MODAL : Fld := ⟨0x50C08, 9, 9⟩
abbrev ALN_LDG_OVR_SCREEN : Fld := ⟨0x50C08, 8, 8⟩
abbrev ALN_LDG_OVR_BREACH : Fld := ⟨0x50C08, 5, 5⟩
abbrev ALN_LDG_OVR_FRAME : Fld := ⟨0x50C08, 4, 4⟩
abbrev ALN_LDG_OVR_PINS : Fld := ⟨0x50C08, 3, 3⟩
abbrev ALN_LDG_OVR_GUARD : Fld := ⟨0x50C08, 2, 2⟩
abbrev ALN_LDG_OVR_ISLAND : Fld := ⟨0x50C08, 1, 1⟩
abbrev ALN_LDG_OVR_CLOSE : Fld := ⟨0x50C08, 0, 0⟩
abbrev ALN_LDG_SHARE_A_STORE : Fld := ⟨0x50C0C, 31, 24⟩
abbrev ALN_LDG_SHARE_A_OUTSET : Fld := ⟨0x50C0C, 23, 16⟩
abbrev ALN_LDG_SHARE_A_MODAL : Fld := ⟨0x50C0C, 15, 8⟩
abbrev ALN_LDG_SHARE_A_SCREEN : Fld := ⟨0x50C0C, 7, 0⟩
abbrev ALN_LDG_SHARE_B_HOST_MIN : Fld := ⟨0x50C10, 15, 8⟩
abbrev ALN_LDG_SHARE_B_HOST : Fld := ⟨0x50C10, 7, 0⟩
abbrev ALN_LDG_LAST_C_HI_EARLY : Fld := ⟨0x50C28, 16, 16⟩
abbrev ALN_LDG_LAST_C_HI_C_HI : Fld := ⟨0x50C28, 15, 0⟩
abbrev ALN_LDG_LAST__OVR : Fld := ⟨0x50C2C, 31, 31⟩
abbrev ALN_LDG_LAST__ELAPSED : Fld := ⟨0x50C2C, 19, 0⟩
abbrev AFE_CTRL_CH_EN : Fld := ⟨0x60000, 23, 16⟩
abbrev AFE_CTRL_VX_MODE : Fld := ⟨0x60000, 8, 8⟩
abbrev AFE_CTRL_EN : Fld := ⟨0x60000, 0, 0⟩
abbrev AFE_STAT_FAULT : Fld := ⟨0x60004, 31, 23⟩
abbrev AFE_STAT_UNCAL : Fld := ⟨0x60004, 22, 14⟩
abbrev AFE_STAT_SPARE_CH : Fld := ⟨0x60004, 11, 8⟩
abbrev AFE_STAT_SWAPPED : Fld := ⟨0x60004, 4, 4⟩
abbrev AFE_STAT_SPARE_PHASE : Fld := ⟨0x60004, 3, 0⟩
abbrev AFE_CH_CFG_DOWN_CYC : Fld := ⟨0x60010, 31, 16⟩
abbrev AFE_CH_CFG_KIND : Fld := ⟨0x60010, 5, 5⟩
abbrev AFE_CH_CFG_AUTO : Fld := ⟨0x60010, 4, 4⟩
abbrev AFE_CH_CFG_RANGE : Fld := ⟨0x60010, 1, 0⟩
abbrev FLT_CAL_CTRL_QUEUE : Fld := ⟨0x60100, 31, 31⟩
abbrev FLT_CAL_CTRL_QCH : Fld := ⟨0x60100, 27, 24⟩
abbrev FLT_CAL_CTRL_INTERVAL : Fld := ⟨0x60100, 23, 12⟩
abbrev FLT_CAL_CTRL_MAX_STEP : Fld := ⟨0x60100, 11, 4⟩
abbrev FLT_CAL_CTRL_EN : Fld := ⟨0x60100, 0, 0⟩
abbrev FLT_CAL_STAT_ROT_COUNT : Fld := ⟨0x60104, 31, 16⟩
abbrev FLT_CAL_STAT_LAST_CH : Fld := ⟨0x60104, 11, 8⟩
abbrev FLT_CAL_STAT_LAST_OK : Fld := ⟨0x60104, 0, 0⟩
abbrev FLT_PMU_QC_EN : Fld := ⟨0x60200, 5, 5⟩
abbrev FLT_PMU_FREQ_SRC : Fld := ⟨0x60200, 4, 4⟩
abbrev FLT_PMU_CLASS : Fld := ⟨0x60200, 0, 0⟩
abbrev FLT_TE_SEL_LOAD : Fld := ⟨0x60300, 31, 31⟩
abbrev FLT_TE_SEL_COMMIT : Fld := ⟨0x60300, 30, 30⟩
abbrev FLT_TE_SEL_UNIT : Fld := ⟨0x60300, 4, 0⟩
abbrev FLT_ST_CTRL_REQ : Fld := ⟨0x60400, 31, 31⟩
abbrev FLT_ST_CTRL_LEVEL : Fld := ⟨0x60400, 27, 26⟩
abbrev FLT_ST_CTRL_L0_PERIOD : Fld := ⟨0x60400, 15, 8⟩
abbrev FLT_ST_CTRL_L0_EN : Fld := ⟨0x60400, 0, 0⟩
abbrev FLT_ST_STAT_LAST_LEVEL : Fld := ⟨0x60404, 25, 24⟩
abbrev FLT_ST_STAT_BUSY : Fld := ⟨0x60404, 23, 23⟩
abbrev FLT_ST_STAT_LAST_PASS : Fld := ⟨0x60404, 22, 22⟩
abbrev FLT_ST_STAT_STAT_ERR : Fld := ⟨0x60404, 21, 21⟩
abbrev FLT_ST_STAT_FAIL_CODE : Fld := ⟨0x60404, 15, 0⟩
abbrev NRG_CTRL_LATCH_N : Fld := ⟨0x70000, 24, 16⟩
abbrev NRG_CTRL_LSB_SH : Fld := ⟨0x70000, 11, 8⟩
abbrev NRG_CTRL_REF : Fld := ⟨0x70000, 5, 4⟩
abbrev NRG_CTRL_DIR_INV : Fld := ⟨0x70000, 3, 3⟩
abbrev NRG_CTRL_EN : Fld := ⟨0x70000, 0, 0⟩
abbrev NRG_STAT_LOST : Fld := ⟨0x70004, 31, 31⟩
abbrev NRG_STAT_GAP : Fld := ⟨0x70004, 30, 30⟩
abbrev NRG_STAT_SCALE_PEND : Fld := ⟨0x70004, 29, 29⟩
abbrev NRG_STAT_NOLOAD : Fld := ⟨0x70004, 18, 16⟩
abbrev NRG_STAT_TIME_LATCH : Fld := ⟨0x70004, 8, 8⟩
abbrev NRG_NOLOAD_LEVEL : Fld := ⟨0x70008, 15, 0⟩
abbrev NRG_SAVE_INTERVAL : Fld := ⟨0x70014, 5, 0⟩
abbrev NRG_SAVE_STAT_KIND : Fld := ⟨0x70018, 31, 30⟩
abbrev NRG_SAVE_STAT_SLOT : Fld := ⟨0x70018, 29, 29⟩
abbrev NRG_SAVE_STAT_SEQ : Fld := ⟨0x70018, 28, 0⟩
abbrev NRG_LAT_T_HI_TIME : Fld := ⟨0x70048, 16, 16⟩
abbrev NRG_LAT_T_HI_LT_HI : Fld := ⟨0x70048, 15, 0⟩
abbrev NRG_LAT_FLAGS_TIME : Fld := ⟨0x7004C, 4, 4⟩
abbrev NRG_LAT_FLAGS_SUBST : Fld := ⟨0x7004C, 3, 3⟩
abbrev NRG_LAT_FLAGS_NOLOAD : Fld := ⟨0x7004C, 2, 0⟩
abbrev PUL_CFG_EN : Fld := ⟨0x70400, 31, 31⟩
abbrev PUL_CFG_SRC : Fld := ⟨0x70400, 28, 24⟩
abbrev PUL_CFG_WIDTH : Fld := ⟨0x70400, 15, 8⟩
abbrev PUL_STAT_OVF : Fld := ⟨0x70420, 19, 16⟩
abbrev PUL_STAT_LEVEL : Fld := ⟨0x70420, 3, 0⟩
abbrev MOD_CTRL_B4_EN : Fld := ⟨0x80000, 4, 4⟩
abbrev MOD_CTRL_DEF_AUTO : Fld := ⟨0x80000, 3, 3⟩
abbrev MOD_CTRL_ADAPT_EN : Fld := ⟨0x80000, 2, 2⟩
abbrev MOD_CTRL_AUTO_SPAWN : Fld := ⟨0x80000, 1, 1⟩
abbrev MOD_CTRL_EN : Fld := ⟨0x80000, 0, 0⟩
abbrev MOD_STAT_WATCHES : Fld := ⟨0x80004, 31, 24⟩
abbrev MOD_STAT_AUTO : Fld := ⟨0x80004, 23, 16⟩
abbrev MOD_STAT_LOCS : Fld := ⟨0x80004, 15, 8⟩
abbrev MOD_STAT_ENVELOPE_HOLD : Fld := ⟨0x80004, 4, 4⟩
abbrev MOD_STAT_LEARNED : Fld := ⟨0x80004, 3, 3⟩
abbrev MOD_STAT_B3_OFF : Fld := ⟨0x80004, 2, 2⟩
abbrev MOD_STAT_SHED : Fld := ⟨0x80004, 1, 1⟩
abbrev MOD_STAT_OFF : Fld := ⟨0x80004, 0, 0⟩
abbrev MOD_ADAPT_LEARN_H : Fld := ⟨0x80008, 31, 24⟩
abbrev MOD_ADAPT_SLEW_X10 : Fld := ⟨0x80008, 15, 8⟩
abbrev MOD_ADAPT_K_X10 : Fld := ⟨0x80008, 7, 0⟩
abbrev MOD_WATCH_CTRL_RETIRE_S : Fld := ⟨0x8000C, 31, 20⟩
abbrev MOD_WATCH_CTRL_PER_SPOKE : Fld := ⟨0x8000C, 19, 16⟩
abbrev MOD_WATCH_CTRL_RETIRE_RATIO : Fld := ⟨0x8000C, 15, 8⟩
abbrev MOD_WATCH_CTRL_SPAWN_CO : Fld := ⟨0x8000C, 7, 0⟩
abbrev MOD_SCR_THR_FREQ_DEF : Fld := ⟨0x80010, 31, 16⟩
abbrev MOD_SCR_THR_REL_DEF : Fld := ⟨0x80010, 15, 0⟩
abbrev MOD_SCR_THR4_REL_DEF : Fld := ⟨0x8001C, 15, 0⟩
abbrev MOD_SCR_PERS_PERSIST : Fld := ⟨0x80020, 15, 0⟩
abbrev MOD_DEF_CTRL_AUTO : Fld := ⟨0x80030, 31, 31⟩
abbrev MOD_DEF_CTRL_WIN : Fld := ⟨0x80030, 22, 16⟩
abbrev MOD_DEF_CTRL_MIN_KW : Fld := ⟨0x80030, 15, 0⟩
abbrev MOD_W_SEL_LOAD : Fld := ⟨0x80100, 31, 31⟩
abbrev MOD_W_SEL_COMMIT : Fld := ⟨0x80100, 30, 30⟩
abbrev MOD_W_SEL_REMOVE : Fld := ⟨0x80100, 29, 29⟩
abbrev MOD_W_SEL_ERR : Fld := ⟨0x80100, 28, 26⟩
abbrev MOD_W_SEL_CTX : Fld := ⟨0x80100, 6, 0⟩
abbrev MOD_M_SEL_CTX : Fld := ⟨0x80200, 6, 0⟩
abbrev MOD_M_SEL_MODE : Fld := ⟨0x80200, 10, 8⟩
abbrev MOD_CH_SEL_LOAD : Fld := ⟨0x80300, 31, 31⟩
abbrev MOD_CH_SEL_CH : Fld := ⟨0x80300, 17, 0⟩
abbrev MOD_BR_SEL_LOAD : Fld := ⟨0x80400, 31, 31⟩
abbrev MOD_BR_SEL_COMMIT : Fld := ⟨0x80400, 30, 30⟩
abbrev MOD_BR_SEL_ERR : Fld := ⟨0x80400, 28, 26⟩
abbrev MOD_BR_SEL_BR : Fld := ⟨0x80400, 9, 0⟩
abbrev MOD_LOC_SEL_REQ : Fld := ⟨0x80500, 31, 31⟩
abbrev MOD_LOC_SEL_CTX : Fld := ⟨0x80500, 6, 0⟩
abbrev MOD_LOC_SEL_MODE : Fld := ⟨0x80500, 10, 8⟩
abbrev ISL_CTRL_REF_STATION : Fld := ⟨0x90000, 25, 16⟩
abbrev ISL_CTRL_LOM_EN : Fld := ⟨0x90000, 4, 4⟩
abbrev ISL_CTRL_MERGE_EN : Fld := ⟨0x90000, 3, 3⟩
abbrev ISL_CTRL_TOPO_EN : Fld := ⟨0x90000, 2, 2⟩
abbrev ISL_CTRL_COH_EN : Fld := ⟨0x90000, 1, 1⟩
abbrev ISL_CTRL_EN : Fld := ⟨0x90000, 0, 0⟩
abbrev ISL_STAT_UNOBS : Fld := ⟨0x90004, 31, 21⟩
abbrev ISL_STAT_ISLANDS : Fld := ⟨0x90004, 20, 16⟩
abbrev ISL_STAT_PASS_LIMIT : Fld := ⟨0x90004, 12, 12⟩
abbrev ISL_STAT_LOCAL_MODE : Fld := ⟨0x90004, 11, 11⟩
abbrev ISL_STAT_BLOCKED : Fld := ⟨0x90004, 10, 10⟩
abbrev ISL_STAT_FULL : Fld := ⟨0x90004, 9, 9⟩
abbrev ISL_STAT_LOM : Fld := ⟨0x90004, 8, 8⟩
abbrev ISL_STAT_ENVELOPE_HOLD : Fld := ⟨0x90004, 0, 0⟩
abbrev ISL_CRIT_DF_THR : Fld := ⟨0x90008, 31, 24⟩
abbrev ISL_CRIT_DA_THR : Fld := ⟨0x90008, 23, 16⟩
abbrev ISL_CRIT_K : Fld := ⟨0x90008, 15, 12⟩
abbrev ISL_CRIT_K_TOPO : Fld := ⟨0x90008, 11, 8⟩
abbrev ISL_CRIT_RATE_SLOTS : Fld := ⟨0x90008, 7, 4⟩
abbrev ISL_CRIT_MIN_STATIONS : Fld := ⟨0x90008, 3, 0⟩
abbrev ISL_BLOCK_V_DIP : Fld := ⟨0x9000C, 31, 24⟩
abbrev ISL_BLOCK_JUMP : Fld := ⟨0x9000C, 23, 16⟩
abbrev ISL_BLOCK_T_BLOCK : Fld := ⟨0x9000C, 15, 4⟩
abbrev ISL_BLOCK_SCOPE : Fld := ⟨0x9000C, 3, 3⟩
abbrev ISL_BLOCK_TOPO_EXEMPT : Fld := ⟨0x9000C, 2, 2⟩
abbrev ISL_LOM_VS_THR : Fld := ⟨0x90010, 31, 24⟩
abbrev ISL_LOM_ROCOF_THR : Fld := ⟨0x90010, 23, 12⟩
abbrev ISL_LOM_ROCOF_N : Fld := ⟨0x90010, 11, 8⟩
abbrev ISL_LOM_HOLD : Fld := ⟨0x90010, 7, 4⟩
abbrev ISL_LOM_ROCOF_EN : Fld := ⟨0x90010, 3, 3⟩
abbrev ISL_LOM_VS_EN : Fld := ⟨0x90010, 2, 2⟩
abbrev ISL_MERGE_MRG_DF : Fld := ⟨0x90014, 31, 24⟩
abbrev ISL_MERGE_MRG_DA : Fld := ⟨0x90014, 23, 16⟩
abbrev ISL_MERGE_MRG_DV : Fld := ⟨0x90014, 15, 8⟩
abbrev ISL_MERGE_MRG : Fld := ⟨0x90014, 7, 4⟩
abbrev ISL_CLEAR_K_CLEAR : Fld := ⟨0x90018, 7, 0⟩
abbrev ISL_ST_SEL_LOAD : Fld := ⟨0x90100, 31, 31⟩
abbrev ISL_ST_SEL_COMMIT : Fld := ⟨0x90100, 30, 30⟩
abbrev ISL_ST_SEL_ERR : Fld := ⟨0x90100, 28, 26⟩
abbrev ISL_ST_SEL_IDX : Fld := ⟨0x90100, 9, 0⟩
abbrev ISL_TIE_SEL_LOAD : Fld := ⟨0x90200, 31, 31⟩
abbrev ISL_TIE_SEL_COMMIT : Fld := ⟨0x90200, 30, 30⟩
abbrev ISL_TIE_SEL_ERR : Fld := ⟨0x90200, 28, 26⟩
abbrev ISL_TIE_SEL_IDX : Fld := ⟨0x90200, 11, 0⟩
abbrev ISL_GS_SEL_LOAD : Fld := ⟨0x90300, 31, 31⟩
abbrev ISL_GS_SEL_COMMIT : Fld := ⟨0x90300, 30, 30⟩
abbrev ISL_GS_SEL_ERR : Fld := ⟨0x90300, 28, 26⟩
abbrev ISL_GS_SEL_IDX : Fld := ⟨0x90300, 7, 0⟩
abbrev ISL_IS_SEL_ISL : Fld := ⟨0x90400, 3, 0⟩
abbrev GRD_STAT_BELL_OK : Fld := ⟨0xA0000, 15, 15⟩
abbrev GRD_STAT_FAILSAFE : Fld := ⟨0xA0000, 14, 14⟩
abbrev GRD_STAT_CAPTAIN : Fld := ⟨0xA0000, 13, 13⟩
abbrev GRD_STAT_DEG_CAPTAIN : Fld := ⟨0xA0000, 12, 12⟩
abbrev GRD_STAT_WDT_STAGE : Fld := ⟨0xA0000, 11, 10⟩
abbrev GRD_STAT_LOCKSTEP_OK : Fld := ⟨0xA0000, 9, 9⟩
abbrev GRD_STAT_GSP_OK : Fld := ⟨0xA0000, 8, 8⟩
abbrev GRD_STAT_MISS_ISL : Fld := ⟨0xA0000, 7, 0⟩
abbrev GRD_GSP_REJ_STATUS : Fld := ⟨0xA0040, 15, 8⟩
abbrev GRD_GSP_REJ_STEP : Fld := ⟨0xA0040, 7, 0⟩
abbrev GRD_BELL_LATCHED : Fld := ⟨0xA0044, 31, 24⟩
abbrev GRD_BELL_FS : Fld := ⟨0xA0044, 23, 16⟩
abbrev GRD_BELL_PIN : Fld := ⟨0xA0044, 15, 8⟩
abbrev GRD_BELL_LOGIC : Fld := ⟨0xA0044, 7, 0⟩
abbrev GRD_EVID_TIMEOUT : Fld := ⟨0xA0048, 23, 16⟩
abbrev GRD_EVID_FRESH : Fld := ⟨0xA0048, 8, 1⟩
abbrev GRD_WDT_TMO : Fld := ⟨0xA004C, 15, 0⟩
abbrev TDM_CTRL_HANDOVER : Fld := ⟨0xB0000, 31, 31⟩
abbrev TDM_CTRL_M : Fld := ⟨0xB0000, 19, 16⟩
abbrev TDM_CTRL_TAKEBACK_EN : Fld := ⟨0xB0000, 8, 8⟩
abbrev TDM_CTRL_EN : Fld := ⟨0xB0000, 0, 0⟩
abbrev TDM_STAT_PSTATE : Fld := ⟨0xB0004, 27, 24⟩
abbrev TDM_STAT_PREFER : Fld := ⟨0xB0004, 23, 23⟩
abbrev TDM_STAT_PCLAIM : Fld := ⟨0xB0004, 22, 22⟩
abbrev TDM_STAT_CLAIM : Fld := ⟨0xB0004, 21, 21⟩
abbrev TDM_STAT_ELIGIBLE : Fld := ⟨0xB0004, 20, 20⟩
abbrev TDM_STAT_DEG_CAPTAIN : Fld := ⟨0xB0004, 19, 19⟩
abbrev TDM_STAT_LEAD_SHORT : Fld := ⟨0xB0004, 18, 18⟩
abbrev TDM_STAT_CFG_MATCH : Fld := ⟨0xB0004, 17, 17⟩
abbrev TDM_STAT_STRAP_CONFLICT : Fld := ⟨0xB0004, 16, 16⟩
abbrev TDM_STAT_KAT : Fld := ⟨0xB0004, 11, 8⟩
abbrev TDM_STAT_STATE : Fld := ⟨0xB0004, 2, 0⟩
abbrev TDM_XCHG_LEAD : Fld := ⟨0xB0008, 25, 16⟩
abbrev TDM_XCHG_SLOW_N : Fld := ⟨0xB0008, 7, 0⟩
abbrev TDM_TIMERS_HOLDOFF : Fld := ⟨0xB000C, 31, 20⟩
abbrev TDM_TIMERS_HB_TMO : Fld := ⟨0xB000C, 11, 0⟩
abbrev TDM_SPOKES_SPOKE_N : Fld := ⟨0xB0010, 27, 16⟩
abbrev TDM_SPOKES_SPOKE_P : Fld := ⟨0xB0010, 11, 0⟩
abbrev TDM_HOLD_MISMATCH : Fld := ⟨0xB0030, 31, 16⟩
abbrev TDM_HOLD_MATCHED_S : Fld := ⟨0xB0030, 15, 0⟩
abbrev RAD_CTRL_RELAY_EN : Fld := ⟨0xC0000, 5, 5⟩
abbrev RAD_CTRL_ASSOC_EN : Fld := ⟨0xC0000, 4, 4⟩
abbrev RAD_CTRL_EXC_EN : Fld := ⟨0xC0000, 3, 3⟩
abbrev RAD_CTRL_EN : Fld := ⟨0xC0000, 0, 0⟩
abbrev RAD_STAT_MAP_VER : Fld := ⟨0xC0004, 15, 8⟩
abbrev RAD_STAT_MAP_PENDING : Fld := ⟨0xC0004, 7, 7⟩
abbrev RAD_STAT_ENVELOPE_HOLD : Fld := ⟨0xC0004, 6, 6⟩
abbrev RAD_STAT_FC_EXHAUST : Fld := ⟨0xC0004, 5, 5⟩
abbrev RAD_STAT_NO_PROFILE : Fld := ⟨0xC0004, 4, 4⟩
abbrev RAD_STAT_PROFILE : Fld := ⟨0xC0004, 3, 3⟩
abbrev RAD_STAT_STATE : Fld := ⟨0xC0004, 2, 0⟩
abbrev RAD_PHY_PWR : Fld := ⟨0xC0008, 15, 8⟩
abbrev RAD_PHY_PRE_LEN : Fld := ⟨0xC0008, 7, 4⟩
abbrev RAD_PHY_MODE : Fld := ⟨0xC0008, 2, 0⟩
abbrev RAD_ID_PAN_ID : Fld := ⟨0xC000C, 15, 0⟩
abbrev RAD_SUP_TMO : Fld := ⟨0xC0018, 15, 0⟩
abbrev RAD_EXC_MIN_CH : Fld := ⟨0xC0040, 31, 24⟩
abbrev RAD_EXC_THR : Fld := ⟨0xC0040, 23, 16⟩
abbrev RAD_EXC_USES : Fld := ⟨0xC0040, 15, 12⟩
abbrev RAD_EXC_HOLD : Fld := ⟨0xC0040, 11, 0⟩
abbrev RAD_SEC_RX_EN : Fld := ⟨0xC0044, 7, 4⟩
abbrev RAD_SEC_TX_IDX : Fld := ⟨0xC0044, 2, 0⟩
abbrev RAD_LOAD_LOAD8 : Fld := ⟨0xC0050, 7, 0⟩
abbrev RAD_DUTY_EN : Fld := ⟨0xC0080, 31, 31⟩
abbrev RAD_DUTY_LIMIT : Fld := ⟨0xC0080, 27, 16⟩
abbrev RAD_DUTY_LAST_CH : Fld := ⟨0xC0080, 15, 8⟩
abbrev RAD_DUTY_FIRST_CH : Fld := ⟨0xC0080, 7, 0⟩
abbrev RAD_AS_SEL_LOAD : Fld := ⟨0xC0100, 31, 31⟩
abbrev RAD_AS_SEL_COMMIT : Fld := ⟨0xC0100, 30, 30⟩
abbrev RAD_AS_SEL_DROP : Fld := ⟨0xC0100, 29, 29⟩
abbrev RAD_AS_SEL_ERR : Fld := ⟨0xC0100, 28, 26⟩
abbrev RAD_AS_SEL_IDX : Fld := ⟨0xC0100, 7, 0⟩
abbrev HST_CTRL_UDP_PORT : Fld := ⟨0xD0000, 31, 16⟩
abbrev HST_CTRL_UDP_TMO : Fld := ⟨0xD0000, 15, 8⟩
abbrev HST_CTRL_UDP_MGT1 : Fld := ⟨0xD0000, 1, 1⟩
abbrev HST_CTRL_UDP_MGT0 : Fld := ⟨0xD0000, 0, 0⟩
abbrev HST_STAT_OPEN : Fld := ⟨0xD0004, 31, 24⟩
abbrev HST_STAT_SHARE_ERR : Fld := ⟨0xD0004, 19, 19⟩
abbrev HST_STAT_KICK : Fld := ⟨0xD0004, 18, 18⟩
abbrev HST_STAT_WR_DENIED : Fld := ⟨0xD0004, 17, 17⟩
abbrev HST_STAT_SADDLE : Fld := ⟨0xD0004, 16, 16⟩
abbrev HST_STAT_HOLDER : Fld := ⟨0xD0004, 11, 8⟩
abbrev HST_SADDLE_REMAIN_S : Fld := ⟨0xD0008, 31, 20⟩
abbrev HST_SADDLE_LEASE_S : Fld := ⟨0xD0008, 11, 0⟩
abbrev HST_SHARE_A_W0 : Fld := ⟨0xD000C, 7, 0⟩
abbrev HST_SHARE_A_W1 : Fld := ⟨0xD000C, 15, 8⟩
abbrev HST_SHARE_A_W2 : Fld := ⟨0xD000C, 23, 16⟩
abbrev HST_SHARE_A_W3 : Fld := ⟨0xD000C, 31, 24⟩
abbrev HST_SHARE_B_W4 : Fld := ⟨0xD0010, 7, 0⟩
abbrev HST_SHARE_B_W5 : Fld := ⟨0xD0010, 15, 8⟩
abbrev HST_SHARE_B_W6 : Fld := ⟨0xD0010, 23, 16⟩
abbrev HST_SHARE_B_W7 : Fld := ⟨0xD0010, 31, 24⟩
abbrev HST_S_STAT_ROLES : Fld := ⟨0xD0100, 23, 16⟩
abbrev HST_S_STAT_PENDING : Fld := ⟨0xD0100, 7, 4⟩
abbrev HST_S_STAT_TRANSPORT : Fld := ⟨0xD0100, 3, 3⟩
abbrev HST_S_STAT_STATE : Fld := ⟨0xD0100, 1, 0⟩
abbrev HST_S_SIZE_EVT_SZ : Fld := ⟨0xD0104, 23, 16⟩
abbrev HST_S_SIZE_RPL_SZ : Fld := ⟨0xD0104, 15, 8⟩
abbrev HST_S_SIZE_CMD_SZ : Fld := ⟨0xD0104, 7, 0⟩
abbrev HST_S_PORT_MGT : Fld := ⟨0xD010C, 16, 16⟩
abbrev HST_S_PORT_PORT : Fld := ⟨0xD010C, 15, 0⟩
abbrev PAN_CMD_PUSH_CELLS : Fld := ⟨0xD8040, 6, 0⟩
abbrev PAN_CMD_CREDIT_FREE : Fld := ⟨0xD8044, 10, 0⟩
abbrev PAN_CMD_STAT_OVERRUN : Fld := ⟨0xD8048, 15, 15⟩
abbrev PAN_CMD_STAT_STAGED : Fld := ⟨0xD8048, 6, 0⟩
abbrev PAN_RPL_NEXT_NEXT : Fld := ⟨0xD80C0, 0, 0⟩
abbrev PAN_MARK_MARK : Fld := ⟨0xD80C4, 0, 0⟩
abbrev PAN_REWIND_REWIND : Fld := ⟨0xD80C8, 0, 0⟩
abbrev PAN_RELEASE_CELLS : Fld := ⟨0xD80CC, 10, 0⟩
abbrev PAN_RPL_STAT_RESULT : Fld := ⟨0xD80D0, 31, 24⟩
abbrev PAN_RPL_STAT_MARK_VALID : Fld := ⟨0xD80D0, 23, 23⟩
abbrev PAN_RPL_STAT_EMPTY : Fld := ⟨0xD80D0, 22, 22⟩
abbrev PAN_RPL_STAT_HELD : Fld := ⟨0xD80D0, 20, 10⟩
abbrev PAN_RPL_UNREAD_UNREAD : Fld := ⟨0xD80D4, 10, 0⟩
abbrev PAN_EVT_NEXT_NEXT : Fld := ⟨0xD8140, 0, 0⟩
abbrev PAN_EVT_MARK_MARK : Fld := ⟨0xD8144, 0, 0⟩
abbrev PAN_EVT_REWIND_REWIND : Fld := ⟨0xD8148, 0, 0⟩
abbrev PAN_EVT_RELEASE_CELLS : Fld := ⟨0xD814C, 10, 0⟩
abbrev PAN_EVT_STAT_RESULT : Fld := ⟨0xD8150, 31, 24⟩
abbrev PAN_EVT_STAT_MARK_VALID : Fld := ⟨0xD8150, 23, 23⟩
abbrev PAN_EVT_STAT_EMPTY : Fld := ⟨0xD8150, 22, 22⟩
abbrev PAN_EVT_STAT_HELD : Fld := ⟨0xD8150, 20, 10⟩
abbrev PAN_EVT_UNREAD_UNREAD : Fld := ⟨0xD8154, 10, 0⟩
abbrev KEY_STAT_LCS : Fld := ⟨0xE0004, 31, 29⟩
abbrev KEY_STAT_PUF_OK : Fld := ⟨0xE0004, 28, 28⟩
abbrev KEY_STAT_PUF_FAIL : Fld := ⟨0xE0004, 27, 27⟩
abbrev KEY_STAT_PUF_TRIES : Fld := ⟨0xE0004, 26, 24⟩
abbrev KEY_STAT_STORE_OK : Fld := ⟨0xE0004, 23, 23⟩
abbrev KEY_STAT_TAMPER_PEND : Fld := ⟨0xE0004, 22, 22⟩
abbrev KEY_STAT_WITHHELD : Fld := ⟨0xE0004, 21, 21⟩
abbrev KEY_STAT_BUSY : Fld := ⟨0xE0004, 20, 20⟩
abbrev KEY_STAT_SRC_ACTIVE : Fld := ⟨0xE0004, 19, 19⟩
abbrev KEY_STAT_LOADED : Fld := ⟨0xE0004, 6, 0⟩
abbrev KEY_TMP_CTRL_DEBOUNCE : Fld := ⟨0xE0100, 31, 24⟩
abbrev KEY_TMP_CTRL_MESH_EN : Fld := ⟨0xE0100, 23, 23⟩
abbrev KEY_TMP_CTRL_GLITCH_EN : Fld := ⟨0xE0100, 22, 22⟩
abbrev KEY_TMP_CTRL_POL : Fld := ⟨0xE0100, 7, 4⟩
abbrev KEY_TMP_CTRL_EN : Fld := ⟨0xE0100, 3, 0⟩
abbrev KEY_TMP_STAT_LATCH : Fld := ⟨0xE0104, 15, 8⟩
abbrev KEY_TMP_STAT_LIVE : Fld := ⟨0xE0104, 7, 0⟩
abbrev KEY_SLOT_SEL_LOAD : Fld := ⟨0xE0200, 31, 31⟩
abbrev KEY_SLOT_SEL_SLOT : Fld := ⟨0xE0200, 5, 0⟩
abbrev KEY_SLOT_INFO_STATE : Fld := ⟨0xE0204, 31, 30⟩
abbrev KEY_SLOT_INFO_EPHEMERAL : Fld := ⟨0xE0204, 29, 29⟩
abbrev KEY_SLOT_INFO_GEN_INSIDE : Fld := ⟨0xE0204, 28, 28⟩
abbrev KEY_SLOT_INFO_ALG : Fld := ⟨0xE0204, 27, 24⟩
abbrev KEY_SLOT_INFO_ENGINE : Fld := ⟨0xE0204, 23, 16⟩
abbrev KEY_SLOT_INFO_ORIGIN : Fld := ⟨0xE0204, 9, 8⟩
abbrev LOG_CTRL_VERIFY : Fld := ⟨0xF0000, 31, 31⟩
abbrev LOG_CTRL_MARK_MIN : Fld := ⟨0xF0000, 26, 16⟩
abbrev LOG_CTRL_SEAL_N : Fld := ⟨0xF0000, 10, 0⟩
abbrev LOG_STAT_QUEUED : Fld := ⟨0xF0004, 15, 8⟩
abbrev LOG_STAT_TFORM : Fld := ⟨0xF0004, 4, 4⟩
abbrev LOG_STAT_SEAL_BUSY : Fld := ⟨0xF0004, 3, 3⟩
abbrev LOG_STAT_SEAL_FAIL : Fld := ⟨0xF0004, 2, 2⟩
abbrev LOG_STAT_FULL : Fld := ⟨0xF0004, 1, 1⟩
abbrev LOG_STAT_FORENSIC : Fld := ⟨0xF0004, 0, 0⟩
abbrev LOG_SIZE_SIZE : Fld := ⟨0xF0008, 16, 0⟩
abbrev LOG_FIXED_FIXED : Fld := ⟨0xF000C, 16, 0⟩
abbrev LOG_OPSEC_HI_OPSEC : Fld := ⟨0xF0024, 7, 0⟩
abbrev LOG_PCC_PCC : Fld := ⟨0xF0028, 23, 0⟩
abbrev LOG_RD_STAT_CRC_OK : Fld := ⟨0xF0104, 1, 1⟩
abbrev LOG_RD_STAT_HELD : Fld := ⟨0xF0104, 0, 0⟩

end F

end Sys2Proof.Machine
end

