-- ==== Sys2Proof/Machine/RegMap.lean ====
section
/-!
DEFINITION. The register map: every software-visible register with its writable fields and the way each takes a
write (R10, R546, R565), and the role a write needs (R564, R570). Chapter 17 lists the registers; the field tables stand
in the chapters.
-/
namespace Sys2Proof.Machine

/-- How a field takes a write (R10, R565): `clamp` is taken as the nearer end of its range, `only` ignores a code
outside its range. -/
inductive FKind where
  | rw
  | clamp (lo hi : Nat)
  | only (lo hi : Nat)
  | w1c
  | sc
  | wo
  deriving DecidableEq, Repr

/-- What a write of a register needs (R564, R570). -/
inductive WRole where
  /-- No writable field: no role, no effect. -/
  | none
  /-- GW: refused under R11. -/
  | gw
  | obs
  | opr
  | eng
  /-- ENGINEER and the saddle. -/
  | engS
  | mnt
  /-- MAINTENANCE and the saddle (R477). -/
  | mntS
  /-- MAC_STR_IDX: IDX OBSERVER, CLR OPERATOR. -/
  | strIdx
  /-- Select register of a definition window, checked field by field (R570). -/
  | win
  /-- RW word of a definition window: ENGINEER and the saddle (R570). -/
  | word
  /-- Pannier window: its own session only (R420). -/
  | pan
  deriving DecidableEq, Repr

/-- One writable field. -/
structure WField where
  hi   : Nat
  lo   : Nat
  kind : FKind
  deriving DecidableEq, Repr

/-- One register, or `count` registers at `stride` bytes. -/
structure RegDesc where
  base   : Nat
  count  : Nat
  stride : Nat
  role   : WRole
  fields : List WField
  deriving DecidableEq, Repr

/-- Registers of Top. -/
def regMapTop : List RegDesc := [
  ⟨0x00000, 6, 0x4, .none, []⟩,
  ⟨0x00018, 1, 0x4, .engS, [⟨0, 0, .rw⟩]⟩]

/-- Registers of Rst. -/
def regMapRst : List RegDesc := [
  ⟨0x10000, 1, 0x4, .opr, [⟨8, 8, .w1c⟩, ⟨7, 0, .w1c⟩]⟩,
  ⟨0x1000C, 1, 0x4, .none, []⟩,
  ⟨0x10004, 1, 0x4, .mnt, [⟨1, 1, .sc⟩, ⟨0, 0, .sc⟩]⟩,
  ⟨0x10008, 1, 0x4, .mnt, [⟨31, 31, .sc⟩]⟩,
  ⟨0x10100, 1, 0x4, .eng, [⟨1, 1, .rw⟩, ⟨0, 0, .rw⟩]⟩,
  ⟨0x10104, 2, 0x4, .none, []⟩,
  ⟨0x10200, 1, 0x4, .eng, [⟨0, 0, .rw⟩]⟩,
  ⟨0x10204, 1, 0x4, .eng, [⟨25, 16, .clamp 0 550⟩, ⟨9, 0, .clamp 58 500⟩]⟩,
  ⟨0x10208, 1, 0x4, .eng, [⟨15, 8, .clamp 1 255⟩, ⟨5, 0, .clamp 5 50⟩]⟩,
  ⟨0x1020C, 1, 0x4, .opr, [⟨3, 3, .w1c⟩]⟩,
  ⟨0x10210, 3, 0x4, .none, []⟩,
  ⟨0x10800, 6, 0x4, .none, []⟩]

/-- Registers of Tim. -/
def regMapTim : List RegDesc := [
  ⟨0x20000, 1, 0x4, .engS, [⟨31, 24, .rw⟩, ⟨17, 17, .sc⟩, ⟨16, 16, .rw⟩, ⟨8, 8, .rw⟩, ⟨1, 1, .rw⟩]⟩,
  ⟨0x20004, 1, 0x4, .none, []⟩,
  ⟨0x20008, 1, 0x4, .engS, [⟨31, 24, .rw⟩, ⟨23, 18, .clamp 1 60⟩, ⟨15, 8, .clamp 1 255⟩, ⟨4, 4, .rw⟩, ⟨3, 0, .clamp 0 7⟩]⟩,
  ⟨0x2000C, 1, 0x4, .engS, [⟨3, 0, .rw⟩, ⟨7, 4, .rw⟩, ⟨11, 8, .rw⟩, ⟨15, 12, .rw⟩, ⟨19, 16, .rw⟩, ⟨23, 20, .rw⟩, ⟨27, 24, .rw⟩, ⟨31, 28, .rw⟩]⟩,
  ⟨0x20010, 1, 0x4, .engS, [⟨23, 16, .clamp 2 255⟩, ⟨11, 8, .rw⟩, ⟨3, 0, .rw⟩]⟩,
  ⟨0x20014, 1, 0x4, .engS, [⟨31, 16, .clamp 10 65535⟩, ⟨9, 0, .clamp 1 500⟩]⟩,
  ⟨0x20018, 1, 0x4, .engS, [⟨31, 16, .rw⟩, ⟨15, 0, .rw⟩]⟩,
  ⟨0x2001C, 1, 0x4, .engS, [⟨17, 17, .rw⟩, ⟨16, 16, .rw⟩, ⟨7, 0, .rw⟩]⟩,
  ⟨0x20020, 1, 0x4, .engS, [⟨31, 31, .rw⟩, ⟨30, 28, .rw⟩, ⟨16, 0, .clamp 1 100000⟩]⟩,
  ⟨0x20024, 2, 0x4, .engS, [⟨31, 16, .rw⟩, ⟨15, 0, .rw⟩]⟩,
  ⟨0x20030, 1, 0x4, .engS, [⟨31, 0, .wo⟩]⟩,
  ⟨0x20034, 1, 0x4, .engS, [⟨15, 0, .wo⟩]⟩,
  ⟨0x20040, 5, 0x4, .none, []⟩,
  ⟨0x20060, 4, 0x4, .none, []⟩,
  ⟨0x20080, 9, 0x4, .none, []⟩]

/-- Registers of Mac, part 1. -/
def regMapMacP1 : List RegDesc := [
  ⟨0x30000, 7, 0x1000, .engS, [⟨7, 5, .rw⟩, ⟨1, 1, .rw⟩, ⟨0, 0, .rw⟩]⟩,
  ⟨0x30004, 7, 0x1000, .opr, [⟨8, 8, .w1c⟩]⟩,
  ⟨0x30008, 7, 0x1000, .engS, [⟨13, 0, .clamp 1522 9216⟩]⟩,
  ⟨0x30010, 7, 0x1000, .engS, [⟨22, 16, .rw⟩, ⟨15, 8, .rw⟩, ⟨0, 0, .rw⟩]⟩,
  ⟨0x30020, 7, 0x1000, .engS, [⟨31, 16, .rw⟩, ⟨15, 0, .rw⟩]⟩,
  ⟨0x30024, 7, 0x1000, .engS, [⟨31, 16, .rw⟩, ⟨15, 0, .rw⟩]⟩,
  ⟨0x30028, 7, 0x1000, .engS, [⟨31, 16, .rw⟩, ⟨15, 0, .rw⟩]⟩,
  ⟨0x3002C, 7, 0x1000, .engS, [⟨31, 16, .rw⟩, ⟨15, 0, .rw⟩]⟩,
  ⟨0x30030, 7, 0x1000, .engS, [⟨31, 16, .rw⟩, ⟨15, 0, .rw⟩]⟩,
  ⟨0x30034, 7, 0x1000, .engS, [⟨31, 16, .rw⟩, ⟨15, 0, .rw⟩]⟩,
  ⟨0x30038, 7, 0x1000, .engS, [⟨31, 16, .rw⟩, ⟨15, 0, .rw⟩]⟩,
  ⟨0x3003C, 7, 0x1000, .engS, [⟨31, 16, .rw⟩, ⟨15, 0, .rw⟩]⟩,
  ⟨0x30040, 7, 0x1000, .engS, [⟨31, 31, .rw⟩, ⟨30, 29, .rw⟩, ⟨28, 24, .rw⟩, ⟨23, 20, .clamp 1 15⟩, ⟨19, 14, .clamp 1 63⟩, ⟨13, 8, .clamp 10 63⟩, ⟨7, 4, .rw⟩, ⟨3, 0, .rw⟩]⟩,
  ⟨0x30044, 7, 0x1000, .opr, [⟨2, 2, .w1c⟩]⟩,
  ⟨0x30050, 7, 0x1000, .engS, [⟨31, 16, .rw⟩, ⟨15, 0, .rw⟩]⟩,
  ⟨0x30054, 7, 0x1000, .engS, [⟨31, 16, .rw⟩, ⟨15, 0, .rw⟩]⟩,
  ⟨0x30058, 7, 0x1000, .engS, [⟨31, 16, .rw⟩, ⟨15, 0, .rw⟩]⟩,
  ⟨0x3005C, 7, 0x1000, .engS, [⟨31, 16, .rw⟩, ⟨15, 0, .rw⟩]⟩,
  ⟨0x30080, 7, 0x1000, .strIdx, [⟨31, 31, .sc⟩, ⟨3, 0, .rw⟩]⟩,
  ⟨0x30084, 7, 0x1000, .none, []⟩,
  ⟨0x30088, 7, 0x1000, .none, []⟩,
  ⟨0x3008C, 7, 0x1000, .none, []⟩,
  ⟨0x30090, 7, 0x1000, .none, []⟩,
  ⟨0x30094, 7, 0x1000, .none, []⟩,
  ⟨0x30098, 7, 0x1000, .none, []⟩,
  ⟨0x3009C, 7, 0x1000, .none, []⟩,
  ⟨0x300A0, 7, 0x1000, .engS, [⟨31, 31, .rw⟩, ⟨30, 0, .rw⟩]⟩,
  ⟨0x30800, 7, 0x1000, .none, []⟩,
  ⟨0x30804, 7, 0x1000, .none, []⟩,
  ⟨0x30808, 7, 0x1000, .none, []⟩,
  ⟨0x3080C, 7, 0x1000, .none, []⟩,
  ⟨0x30810, 7, 0x1000, .none, []⟩,
  ⟨0x30814, 7, 0x1000, .none, []⟩,
  ⟨0x30818, 7, 0x1000, .none, []⟩,
  ⟨0x3081C, 7, 0x1000, .none, []⟩,
  ⟨0x30820, 7, 0x1000, .none, []⟩,
  ⟨0x30824, 7, 0x1000, .none, []⟩,
  ⟨0x30828, 7, 0x1000, .none, []⟩,
  ⟨0x3082C, 7, 0x1000, .none, []⟩,
  ⟨0x30830, 7, 0x1000, .none, []⟩]

/-- Registers of Mac, part 2. -/
def regMapMacP2 : List RegDesc := [
  ⟨0x30834, 7, 0x1000, .none, []⟩,
  ⟨0x30838, 7, 0x1000, .none, []⟩,
  ⟨0x3083C, 7, 0x1000, .none, []⟩,
  ⟨0x30840, 7, 0x1000, .none, []⟩,
  ⟨0x30844, 7, 0x1000, .none, []⟩,
  ⟨0x30848, 7, 0x1000, .none, []⟩,
  ⟨0x3084C, 7, 0x1000, .none, []⟩,
  ⟨0x30850, 7, 0x1000, .none, []⟩,
  ⟨0x30854, 7, 0x1000, .none, []⟩,
  ⟨0x30858, 7, 0x1000, .none, []⟩,
  ⟨0x3085C, 7, 0x1000, .none, []⟩,
  ⟨0x30860, 7, 0x1000, .none, []⟩,
  ⟨0x30864, 7, 0x1000, .none, []⟩,
  ⟨0x30868, 7, 0x1000, .none, []⟩,
  ⟨0x3086C, 7, 0x1000, .none, []⟩,
  ⟨0x30870, 7, 0x1000, .none, []⟩,
  ⟨0x30874, 7, 0x1000, .none, []⟩,
  ⟨0x30878, 7, 0x1000, .none, []⟩,
  ⟨0x3087C, 7, 0x1000, .none, []⟩,
  ⟨0x30880, 7, 0x1000, .none, []⟩,
  ⟨0x30884, 7, 0x1000, .none, []⟩,
  ⟨0x30888, 7, 0x1000, .none, []⟩,
  ⟨0x3088C, 7, 0x1000, .none, []⟩,
  ⟨0x30890, 7, 0x1000, .none, []⟩,
  ⟨0x30894, 7, 0x1000, .none, []⟩,
  ⟨0x37000, 1, 0x4, .opr, [⟨31, 31, .sc⟩, ⟨30, 30, .rw⟩, ⟨6, 0, .rw⟩]⟩,
  ⟨0x37004, 3, 0x4, .none, []⟩]

/-- Registers of Mac. -/
def regMapMac : List RegDesc := regMapMacP1 ++ regMapMacP2

/-- Registers of Ing. -/
def regMapIng : List RegDesc := [
  ⟨0x40000, 1, 0x4, .engS, [⟨23, 12, .clamp 1 3600⟩, ⟨11, 8, .clamp 1 15⟩]⟩,
  ⟨0x40004, 4, 0x4, .none, []⟩,
  ⟨0x40020, 1, 0x4, .win, [⟨31, 31, .sc⟩, ⟨30, 30, .sc⟩, ⟨11, 0, .rw⟩]⟩,
  ⟨0x40024, 1, 0x4, .obs, [⟨31, 31, .sc⟩, ⟨17, 12, .rw⟩, ⟨11, 0, .rw⟩]⟩,
  ⟨0x40100, 1, 0x4, .word, [⟨2, 0, .rw⟩]⟩,
  ⟨0x40104, 1, 0x4, .word, [⟨15, 0, .rw⟩]⟩,
  ⟨0x40108, 1, 0x4, .word, [⟨27, 16, .rw⟩, ⟨2, 0, .rw⟩]⟩,
  ⟨0x4010C, 1, 0x4, .word, [⟨31, 0, .rw⟩]⟩,
  ⟨0x40110, 1, 0x4, .word, [⟨15, 0, .rw⟩]⟩,
  ⟨0x40114, 2, 0x4, .word, [⟨31, 0, .rw⟩]⟩,
  ⟨0x4011C, 1, 0x4, .word, [⟨19, 0, .rw⟩]⟩,
  ⟨0x40120, 5, 0x4, .word, []⟩,
  ⟨0x40134, 1, 0x4, .word, [⟨11, 8, .rw⟩, ⟨1, 0, .rw⟩]⟩,
  ⟨0x40138, 1, 0x4, .word, [⟨1, 0, .rw⟩]⟩,
  ⟨0x4013C, 1, 0x4, .word, [⟨25, 16, .rw⟩, ⟨7, 0, .rw⟩]⟩,
  ⟨0x40140, 1, 0x4, .word, [⟨15, 0, .rw⟩]⟩,
  ⟨0x40144, 1, 0x4, .word, [⟨1, 0, .rw⟩]⟩,
  ⟨0x40148, 22, 0x4, .word, []⟩,
  ⟨0x401C0, 19, 0x4, .none, []⟩,
  ⟨0x40400, 7, 0x4, .none, []⟩]

/-- Registers of Aln. -/
def regMapAln : List RegDesc := [
  ⟨0x50000, 1, 0x4, .engS, [⟨8, 8, .rw⟩]⟩,
  ⟨0x50004, 1, 0x4, .opr, [⟨8, 8, .w1c⟩]⟩,
  ⟨0x50008, 1, 0x4, .engS, [⟨3, 0, .rw⟩]⟩,
  ⟨0x5000C, 2, 0x4, .engS, [⟨17, 0, .clamp 500 250000⟩]⟩,
  ⟨0x50014, 1, 0x4, .engS, [⟨31, 30, .only 0 1⟩, ⟨23, 16, .rw⟩, ⟨15, 8, .rw⟩, ⟨7, 4, .clamp 1 8⟩, ⟨3, 0, .rw⟩]⟩,
  ⟨0x50018, 1, 0x4, .engS, [⟨17, 0, .rw⟩]⟩,
  ⟨0x5001C, 1, 0x4, .none, []⟩,
  ⟨0x50020, 1, 0x4, .engS, [⟨9, 0, .clamp 0 1000⟩]⟩,
  ⟨0x50024, 1, 0x4, .engS, [⟨31, 31, .rw⟩, ⟨15, 8, .clamp 1 255⟩, ⟨1, 0, .only 0 1⟩]⟩,
  ⟨0x50028, 3, 0x4, .none, []⟩,
  ⟨0x50400, 1, 0x4, .obs, [⟨31, 31, .sc⟩, ⟨3, 0, .rw⟩]⟩,
  ⟨0x50404, 9, 0x4, .none, []⟩,
  ⟨0x50600, 1, 0x4, .obs, [⟨31, 31, .sc⟩, ⟨2, 0, .rw⟩]⟩,
  ⟨0x50604, 1, 0x4, .engS, [⟨0, 0, .sc⟩]⟩,
  ⟨0x50610, 6, 0x4, .none, []⟩,
  ⟨0x50640, 1, 0x4, .none, []⟩,
  ⟨0x50800, 11, 0x4, .none, []⟩,
  ⟨0x50C00, 1, 0x4, .engS, [⟨31, 31, .sc⟩, ⟨27, 16, .clamp 16 4095⟩, ⟨8, 4, .clamp 0 19⟩, ⟨1, 0, .only 0 2⟩]⟩,
  ⟨0x50C04, 1, 0x4, .none, []⟩,
  ⟨0x50C08, 1, 0x4, .opr, [⟨12, 12, .w1c⟩, ⟨11, 11, .w1c⟩, ⟨10, 10, .w1c⟩, ⟨9, 9, .w1c⟩, ⟨8, 8, .w1c⟩, ⟨5, 5, .w1c⟩, ⟨4, 4, .w1c⟩, ⟨3, 3, .w1c⟩, ⟨2, 2, .w1c⟩, ⟨1, 1, .w1c⟩, ⟨0, 0, .w1c⟩]⟩,
  ⟨0x50C0C, 1, 0x4, .engS, [⟨31, 24, .rw⟩, ⟨23, 16, .rw⟩, ⟨15, 8, .rw⟩, ⟨7, 0, .rw⟩]⟩,
  ⟨0x50C10, 1, 0x4, .engS, [⟨15, 8, .rw⟩, ⟨7, 0, .rw⟩]⟩,
  ⟨0x50C20, 13, 0x4, .none, []⟩,
  ⟨0x50C60, 10, 0x4, .none, []⟩]

/-- Registers of Flt. -/
def regMapFlt : List RegDesc := [
  ⟨0x60000, 1, 0x4, .engS, [⟨23, 16, .rw⟩, ⟨8, 8, .rw⟩, ⟨0, 0, .rw⟩]⟩,
  ⟨0x60004, 1, 0x4, .none, []⟩,
  ⟨0x60010, 8, 0x4, .engS, [⟨31, 16, .clamp 10 65535⟩, ⟨5, 5, .rw⟩, ⟨4, 4, .rw⟩, ⟨1, 0, .only 0 2⟩]⟩,
  ⟨0x60030, 10, 0x4, .engS, [⟨31, 0, .rw⟩]⟩,
  ⟨0x60100, 1, 0x4, .engS, [⟨31, 31, .sc⟩, ⟨27, 24, .clamp 0 7⟩, ⟨23, 12, .clamp 10 3600⟩, ⟨11, 4, .clamp 1 255⟩, ⟨0, 0, .rw⟩]⟩,
  ⟨0x60104, 1, 0x4, .none, []⟩,
  ⟨0x60200, 1, 0x4, .engS, [⟨5, 5, .rw⟩, ⟨0, 0, .rw⟩]⟩,
  ⟨0x60300, 1, 0x4, .win, [⟨31, 31, .sc⟩, ⟨30, 30, .sc⟩, ⟨4, 0, .rw⟩]⟩,
  ⟨0x60304, 1, 0x4, .word, [⟨31, 29, .rw⟩, ⟨23, 20, .rw⟩, ⟨9, 0, .clamp 0 1000⟩]⟩,
  ⟨0x60308, 1, 0x4, .word, [⟨31, 0, .rw⟩]⟩,
  ⟨0x6030C, 1, 0x4, .word, [⟨31, 16, .clamp 1 25000⟩, ⟨15, 0, .clamp 1 25000⟩]⟩,
  ⟨0x60320, 1, 0x4, .none, []⟩,
  ⟨0x60324, 1, 0x4, .opr, [⟨31, 0, .w1c⟩]⟩,
  ⟨0x60400, 1, 0x4, .engS, [⟨31, 31, .sc⟩, ⟨27, 26, .only 0 2⟩, ⟨15, 8, .clamp 1 255⟩, ⟨0, 0, .rw⟩]⟩,
  ⟨0x60404, 1, 0x4, .opr, [⟨21, 21, .w1c⟩]⟩,
  ⟨0x60800, 8, 0x4, .none, []⟩]

/-- Registers of Nrg. -/
def regMapNrg : List RegDesc := [
  ⟨0x70000, 1, 0x4, .engS, [⟨24, 16, .clamp 1 256⟩, ⟨11, 8, .clamp 0 8⟩, ⟨5, 4, .only 0 2⟩, ⟨3, 3, .rw⟩, ⟨0, 0, .rw⟩]⟩,
  ⟨0x70004, 1, 0x4, .opr, [⟨31, 31, .w1c⟩, ⟨30, 30, .w1c⟩]⟩,
  ⟨0x70008, 1, 0x4, .engS, [⟨15, 0, .clamp 0 5000⟩]⟩,
  ⟨0x7000C, 2, 0x4, .none, []⟩,
  ⟨0x70014, 1, 0x4, .engS, [⟨5, 0, .clamp 1 60⟩]⟩,
  ⟨0x70018, 1, 0x4, .none, []⟩,
  ⟨0x70040, 4, 0x4, .none, []⟩,
  ⟨0x70100, 64, 0x4, .none, []⟩,
  ⟨0x70400, 4, 0x8, .engS, [⟨31, 31, .rw⟩, ⟨28, 24, .rw⟩, ⟨15, 8, .clamp 10 255⟩]⟩,
  ⟨0x70404, 4, 0x8, .engS, [⟨31, 0, .clamp 1 4294967295⟩]⟩,
  ⟨0x70420, 1, 0x4, .opr, [⟨19, 16, .w1c⟩]⟩,
  ⟨0x70800, 4, 0x4, .none, []⟩,
  ⟨0x70820, 1, 0x4, .none, []⟩,
  ⟨0x70810, 4, 0x4, .none, []⟩]

/-- Registers of Mod. -/
def regMapMod : List RegDesc := [
  ⟨0x80000, 1, 0x4, .engS, [⟨4, 4, .rw⟩, ⟨3, 3, .rw⟩, ⟨2, 2, .rw⟩, ⟨1, 1, .rw⟩, ⟨0, 0, .rw⟩]⟩,
  ⟨0x80004, 1, 0x4, .none, []⟩,
  ⟨0x80008, 1, 0x4, .engS, [⟨15, 8, .clamp 1 255⟩, ⟨7, 0, .clamp 10 100⟩]⟩,
  ⟨0x8000C, 1, 0x4, .engS, [⟨31, 20, .clamp 30 4095⟩, ⟨19, 16, .clamp 1 15⟩, ⟨15, 8, .rw⟩, ⟨7, 0, .rw⟩]⟩,
  ⟨0x80010, 3, 0x4, .engS, [⟨31, 16, .rw⟩, ⟨15, 0, .rw⟩]⟩,
  ⟨0x8001C, 1, 0x4, .engS, [⟨15, 0, .rw⟩]⟩,
  ⟨0x80020, 4, 0x4, .engS, [⟨15, 0, .clamp 10 60000⟩]⟩,
  ⟨0x80030, 1, 0x4, .engS, [⟨31, 31, .rw⟩, ⟨22, 16, .clamp 10 120⟩, ⟨15, 0, .rw⟩]⟩,
  ⟨0x80100, 1, 0x4, .win, [⟨31, 31, .sc⟩, ⟨30, 30, .sc⟩, ⟨29, 29, .sc⟩, ⟨6, 0, .rw⟩]⟩,
  ⟨0x80104, 1, 0x4, .word, [⟨6, 4, .rw⟩, ⟨21, 16, .rw⟩, ⟨27, 24, .rw⟩]⟩,
  ⟨0x80108, 2, 0x4, .word, [⟨9, 0, .rw⟩, ⟨25, 16, .rw⟩]⟩,
  ⟨0x80110, 5, 0x4, .word, []⟩,
  ⟨0x80124, 32, 0x4, .word, [⟨17, 0, .rw⟩]⟩,
  ⟨0x80200, 1, 0x4, .obs, [⟨6, 0, .rw⟩, ⟨10, 8, .rw⟩]⟩,
  ⟨0x80204, 47, 0x4, .none, []⟩,
  ⟨0x80300, 1, 0x4, .obs, [⟨31, 31, .sc⟩, ⟨17, 0, .rw⟩]⟩,
  ⟨0x80310, 9, 0x4, .none, []⟩,
  ⟨0x80400, 1, 0x4, .win, [⟨31, 31, .sc⟩, ⟨30, 30, .sc⟩, ⟨9, 0, .rw⟩]⟩,
  ⟨0x80404, 1, 0x4, .word, [⟨31, 31, .rw⟩, ⟨17, 0, .rw⟩]⟩,
  ⟨0x80408, 1, 0x4, .word, [⟨17, 0, .rw⟩]⟩,
  ⟨0x8040C, 1, 0x4, .word, [⟨31, 0, .rw⟩]⟩,
  ⟨0x80410, 1, 0x4, .word, [⟨1, 0, .rw⟩, ⟨25, 16, .rw⟩]⟩,
  ⟨0x80414, 1, 0x4, .word, [⟨9, 0, .rw⟩]⟩,
  ⟨0x80500, 1, 0x4, .opr, [⟨31, 31, .sc⟩, ⟨6, 0, .rw⟩, ⟨10, 8, .rw⟩]⟩,
  ⟨0x80504, 35, 0x4, .none, []⟩,
  ⟨0x80800, 9, 0x4, .none, []⟩]

/-- Registers of Isl. -/
def regMapIsl : List RegDesc := [
  ⟨0x90000, 1, 0x4, .engS, [⟨25, 16, .rw⟩, ⟨4, 4, .rw⟩, ⟨3, 3, .rw⟩, ⟨2, 2, .rw⟩, ⟨1, 1, .rw⟩, ⟨0, 0, .rw⟩]⟩,
  ⟨0x90004, 1, 0x4, .none, []⟩,
  ⟨0x90008, 1, 0x4, .engS, [⟨31, 24, .clamp 2 255⟩, ⟨23, 16, .clamp 1 255⟩, ⟨15, 12, .clamp 1 15⟩, ⟨11, 8, .clamp 1 15⟩, ⟨7, 4, .clamp 1 15⟩, ⟨3, 0, .clamp 1 15⟩]⟩,
  ⟨0x9000C, 1, 0x4, .engS, [⟨31, 24, .clamp 10 100⟩, ⟨23, 16, .clamp 1 180⟩, ⟨15, 4, .clamp 20 4095⟩, ⟨3, 3, .rw⟩, ⟨2, 2, .rw⟩]⟩,
  ⟨0x90010, 1, 0x4, .engS, [⟨31, 24, .clamp 10 255⟩, ⟨23, 12, .clamp 1 4095⟩, ⟨11, 8, .clamp 1 15⟩, ⟨7, 4, .clamp 1 15⟩, ⟨3, 3, .rw⟩, ⟨2, 2, .rw⟩]⟩,
  ⟨0x90014, 1, 0x4, .engS, [⟨31, 24, .rw⟩, ⟨23, 16, .rw⟩, ⟨15, 8, .rw⟩, ⟨7, 4, .clamp 1 15⟩]⟩,
  ⟨0x90018, 1, 0x4, .engS, [⟨7, 0, .clamp 1 255⟩]⟩,
  ⟨0x90100, 1, 0x4, .win, [⟨31, 31, .sc⟩, ⟨30, 30, .sc⟩, ⟨9, 0, .rw⟩]⟩,
  ⟨0x90104, 1, 0x4, .word, [⟨31, 31, .rw⟩, ⟨21, 16, .rw⟩]⟩,
  ⟨0x90108, 2, 0x4, .word, [⟨31, 0, .rw⟩]⟩,
  ⟨0x90110, 8, 0x4, .word, [⟨17, 0, .rw⟩]⟩,
  ⟨0x90130, 3, 0x4, .word, []⟩,
  ⟨0x90200, 1, 0x4, .win, [⟨31, 31, .sc⟩, ⟨30, 30, .sc⟩, ⟨11, 0, .rw⟩]⟩,
  ⟨0x90204, 1, 0x4, .word, [⟨31, 31, .rw⟩, ⟨25, 16, .rw⟩, ⟨9, 0, .rw⟩]⟩,
  ⟨0x90208, 2, 0x4, .word, [⟨31, 0, .rw⟩]⟩,
  ⟨0x90210, 1, 0x4, .word, []⟩,
  ⟨0x90300, 1, 0x4, .win, [⟨31, 31, .sc⟩, ⟨30, 30, .sc⟩, ⟨7, 0, .rw⟩]⟩,
  ⟨0x90304, 1, 0x4, .word, [⟨31, 30, .rw⟩, ⟨15, 0, .rw⟩]⟩,
  ⟨0x90308, 2, 0x4, .word, [⟨31, 0, .rw⟩]⟩,
  ⟨0x90310, 1, 0x4, .word, []⟩,
  ⟨0x90400, 1, 0x4, .obs, [⟨3, 0, .rw⟩]⟩,
  ⟨0x90404, 47, 0x4, .none, []⟩,
  ⟨0x90800, 11, 0x4, .none, []⟩]

/-- Registers of Grd. -/
def regMapGrd : List RegDesc := [
  ⟨0xA0000, 3, 0x4, .gw, []⟩,
  ⟨0xA0040, 4, 0x4, .gw, []⟩,
  ⟨0xA0058, 2, 0x4, .gw, []⟩,
  ⟨0xA000C, 13, 0x4, .gw, []⟩,
  ⟨0xA0050, 2, 0x4, .gw, []⟩,
  ⟨0xA0800, 10, 0x4, .gw, []⟩]

/-- Registers of Tdm. -/
def regMapTdm : List RegDesc := [
  ⟨0xB0000, 1, 0x4, .engS, [⟨31, 31, .sc⟩, ⟨19, 16, .clamp 1 15⟩, ⟨8, 8, .rw⟩, ⟨0, 0, .rw⟩]⟩,
  ⟨0xB0004, 1, 0x4, .none, []⟩,
  ⟨0xB0008, 1, 0x4, .engS, [⟨25, 16, .clamp 100 1000⟩, ⟨7, 0, .clamp 1 255⟩]⟩,
  ⟨0xB000C, 1, 0x4, .engS, [⟨31, 20, .clamp 1 4095⟩, ⟨11, 0, .clamp 500 4000⟩]⟩,
  ⟨0xB0010, 1, 0x4, .engS, [⟨27, 16, .rw⟩, ⟨11, 0, .rw⟩]⟩,
  ⟨0xB0014, 2, 0x4, .none, []⟩,
  ⟨0xB0030, 1, 0x4, .none, []⟩,
  ⟨0xB0040, 1, 0x4, .none, []⟩,
  ⟨0xB0020, 4, 0x4, .none, []⟩,
  ⟨0xB001C, 1, 0x4, .none, []⟩,
  ⟨0xB0044, 4, 0x4, .none, []⟩,
  ⟨0xB0034, 3, 0x4, .none, []⟩,
  ⟨0xB0800, 12, 0x4, .none, []⟩]

/-- Registers of Rad. -/
def regMapRad : List RegDesc := [
  ⟨0xC0000, 1, 0x4, .engS, [⟨5, 5, .rw⟩, ⟨4, 4, .rw⟩, ⟨3, 3, .rw⟩, ⟨0, 0, .rw⟩]⟩,
  ⟨0xC0004, 1, 0x4, .none, []⟩,
  ⟨0xC0008, 1, 0x4, .engS, [⟨15, 8, .rw⟩, ⟨7, 4, .clamp 4 15⟩, ⟨2, 0, .only 1 4⟩]⟩,
  ⟨0xC000C, 1, 0x4, .engS, [⟨15, 0, .rw⟩]⟩,
  ⟨0xC0010, 2, 0x4, .engS, [⟨31, 0, .rw⟩]⟩,
  ⟨0xC0018, 1, 0x4, .engS, [⟨15, 0, .clamp 400 60000⟩]⟩,
  ⟨0xC0020, 3, 0x4, .none, []⟩,
  ⟨0xC0030, 3, 0x4, .none, []⟩,
  ⟨0xC0040, 1, 0x4, .engS, [⟨31, 24, .rw⟩, ⟨23, 16, .rw⟩, ⟨15, 12, .clamp 1 15⟩, ⟨11, 0, .rw⟩]⟩,
  ⟨0xC0044, 1, 0x4, .engS, [⟨7, 4, .rw⟩, ⟨2, 0, .only 1 4⟩]⟩,
  ⟨0xC0048, 1, 0x4, .engS, [⟨31, 0, .rw⟩]⟩,
  ⟨0xC004C, 3, 0x4, .none, []⟩,
  ⟨0xC0080, 8, 0x4, .engS, [⟨31, 31, .rw⟩, ⟨27, 16, .rw⟩, ⟨15, 8, .rw⟩, ⟨7, 0, .rw⟩]⟩,
  ⟨0xC0100, 1, 0x4, .win, [⟨31, 31, .sc⟩, ⟨30, 30, .sc⟩, ⟨29, 29, .sc⟩, ⟨7, 0, .rw⟩]⟩,
  ⟨0xC0104, 1, 0x4, .word, [⟨31, 31, .rw⟩]⟩,
  ⟨0xC0108, 2, 0x4, .word, [⟨31, 0, .rw⟩]⟩,
  ⟨0xC0110, 1, 0x4, .word, [⟨1, 0, .rw⟩]⟩,
  ⟨0xC0114, 8, 0x4, .word, []⟩,
  ⟨0xC0800, 15, 0x4, .none, []⟩]

/-- Registers of Hst, part 1. -/
def regMapHstP1 : List RegDesc := [
  ⟨0xD0000, 1, 0x4, .engS, [⟨31, 16, .rw⟩, ⟨15, 8, .clamp 5 255⟩, ⟨1, 1, .rw⟩, ⟨0, 0, .rw⟩]⟩,
  ⟨0xD0004, 1, 0x4, .opr, [⟨17, 17, .w1c⟩]⟩,
  ⟨0xD0008, 1, 0x4, .none, []⟩,
  ⟨0xD000C, 2, 0x4, .engS, [⟨7, 0, .rw⟩, ⟨15, 8, .rw⟩, ⟨23, 16, .rw⟩, ⟨31, 24, .rw⟩]⟩,
  ⟨0xD0100, 8, 0x10, .none, []⟩,
  ⟨0xD0104, 8, 0x10, .none, []⟩,
  ⟨0xD0108, 8, 0x10, .none, []⟩,
  ⟨0xD010C, 8, 0x10, .none, []⟩,
  ⟨0xD0800, 8, 0x40, .none, []⟩,
  ⟨0xD0804, 8, 0x40, .none, []⟩,
  ⟨0xD0808, 8, 0x40, .none, []⟩,
  ⟨0xD080C, 8, 0x40, .none, []⟩,
  ⟨0xD0810, 8, 0x40, .none, []⟩,
  ⟨0xD0814, 8, 0x40, .none, []⟩,
  ⟨0xD0818, 8, 0x40, .none, []⟩,
  ⟨0xD081C, 8, 0x40, .none, []⟩,
  ⟨0xD8000, 8, 0x400, .pan, [⟨31, 0, .wo⟩]⟩,
  ⟨0xD8004, 8, 0x400, .pan, [⟨31, 0, .wo⟩]⟩,
  ⟨0xD8008, 8, 0x400, .pan, [⟨31, 0, .wo⟩]⟩,
  ⟨0xD800C, 8, 0x400, .pan, [⟨31, 0, .wo⟩]⟩,
  ⟨0xD8010, 8, 0x400, .pan, [⟨31, 0, .wo⟩]⟩,
  ⟨0xD8014, 8, 0x400, .pan, [⟨31, 0, .wo⟩]⟩,
  ⟨0xD8018, 8, 0x400, .pan, [⟨31, 0, .wo⟩]⟩,
  ⟨0xD801C, 8, 0x400, .pan, [⟨31, 0, .wo⟩]⟩,
  ⟨0xD8020, 8, 0x400, .pan, [⟨31, 0, .wo⟩]⟩,
  ⟨0xD8024, 8, 0x400, .pan, [⟨31, 0, .wo⟩]⟩,
  ⟨0xD8028, 8, 0x400, .pan, [⟨31, 0, .wo⟩]⟩,
  ⟨0xD802C, 8, 0x400, .pan, [⟨31, 0, .wo⟩]⟩,
  ⟨0xD8030, 8, 0x400, .pan, [⟨31, 0, .wo⟩]⟩,
  ⟨0xD8034, 8, 0x400, .pan, [⟨31, 0, .wo⟩]⟩,
  ⟨0xD8038, 8, 0x400, .pan, [⟨31, 0, .wo⟩]⟩,
  ⟨0xD803C, 8, 0x400, .pan, [⟨31, 0, .wo⟩]⟩,
  ⟨0xD8040, 8, 0x400, .pan, [⟨6, 0, .wo⟩]⟩,
  ⟨0xD8044, 8, 0x400, .pan, []⟩,
  ⟨0xD8048, 8, 0x400, .pan, [⟨15, 15, .w1c⟩]⟩,
  ⟨0xD8080, 8, 0x400, .pan, []⟩,
  ⟨0xD8084, 8, 0x400, .pan, []⟩,
  ⟨0xD8088, 8, 0x400, .pan, []⟩,
  ⟨0xD808C, 8, 0x400, .pan, []⟩,
  ⟨0xD8090, 8, 0x400, .pan, []⟩]

/-- Registers of Hst, part 2. -/
def regMapHstP2 : List RegDesc := [
  ⟨0xD8094, 8, 0x400, .pan, []⟩,
  ⟨0xD8098, 8, 0x400, .pan, []⟩,
  ⟨0xD809C, 8, 0x400, .pan, []⟩,
  ⟨0xD80A0, 8, 0x400, .pan, []⟩,
  ⟨0xD80A4, 8, 0x400, .pan, []⟩,
  ⟨0xD80A8, 8, 0x400, .pan, []⟩,
  ⟨0xD80AC, 8, 0x400, .pan, []⟩,
  ⟨0xD80B0, 8, 0x400, .pan, []⟩,
  ⟨0xD80B4, 8, 0x400, .pan, []⟩,
  ⟨0xD80B8, 8, 0x400, .pan, []⟩,
  ⟨0xD80BC, 8, 0x400, .pan, []⟩,
  ⟨0xD80C0, 8, 0x400, .pan, [⟨0, 0, .sc⟩]⟩,
  ⟨0xD80C4, 8, 0x400, .pan, [⟨0, 0, .sc⟩]⟩,
  ⟨0xD80C8, 8, 0x400, .pan, [⟨0, 0, .sc⟩]⟩,
  ⟨0xD80CC, 8, 0x400, .pan, [⟨10, 0, .wo⟩]⟩,
  ⟨0xD80D0, 8, 0x400, .pan, []⟩,
  ⟨0xD80D4, 8, 0x400, .pan, []⟩,
  ⟨0xD8100, 8, 0x400, .pan, []⟩,
  ⟨0xD8104, 8, 0x400, .pan, []⟩,
  ⟨0xD8108, 8, 0x400, .pan, []⟩,
  ⟨0xD810C, 8, 0x400, .pan, []⟩,
  ⟨0xD8110, 8, 0x400, .pan, []⟩,
  ⟨0xD8114, 8, 0x400, .pan, []⟩,
  ⟨0xD8118, 8, 0x400, .pan, []⟩,
  ⟨0xD811C, 8, 0x400, .pan, []⟩,
  ⟨0xD8120, 8, 0x400, .pan, []⟩,
  ⟨0xD8124, 8, 0x400, .pan, []⟩,
  ⟨0xD8128, 8, 0x400, .pan, []⟩,
  ⟨0xD812C, 8, 0x400, .pan, []⟩,
  ⟨0xD8130, 8, 0x400, .pan, []⟩,
  ⟨0xD8134, 8, 0x400, .pan, []⟩,
  ⟨0xD8138, 8, 0x400, .pan, []⟩,
  ⟨0xD813C, 8, 0x400, .pan, []⟩,
  ⟨0xD8140, 8, 0x400, .pan, [⟨0, 0, .sc⟩]⟩,
  ⟨0xD8144, 8, 0x400, .pan, [⟨0, 0, .sc⟩]⟩,
  ⟨0xD8148, 8, 0x400, .pan, [⟨0, 0, .sc⟩]⟩,
  ⟨0xD814C, 8, 0x400, .pan, [⟨10, 0, .wo⟩]⟩,
  ⟨0xD8150, 8, 0x400, .pan, []⟩,
  ⟨0xD8154, 8, 0x400, .pan, []⟩]

/-- Registers of Hst. -/
def regMapHst : List RegDesc := regMapHstP1 ++ regMapHstP2

/-- Registers of Key. -/
def regMapKey : List RegDesc := [
  ⟨0xE0004, 1, 0x4, .none, []⟩,
  ⟨0xE0010, 8, 0x4, .none, []⟩,
  ⟨0xE0040, 24, 0x4, .none, []⟩,
  ⟨0xE0100, 1, 0x4, .mntS, [⟨31, 24, .clamp 1 255⟩, ⟨23, 23, .rw⟩, ⟨22, 22, .rw⟩, ⟨7, 4, .rw⟩, ⟨3, 0, .rw⟩]⟩,
  ⟨0xE0104, 3, 0x4, .none, []⟩,
  ⟨0xE0200, 1, 0x4, .obs, [⟨31, 31, .sc⟩, ⟨5, 0, .rw⟩]⟩,
  ⟨0xE0204, 3, 0x4, .none, []⟩,
  ⟨0xE0800, 5, 0x4, .none, []⟩]

/-- Registers of Log. -/
def regMapLog : List RegDesc := [
  ⟨0xF0000, 1, 0x4, .engS, [⟨31, 31, .sc⟩, ⟨26, 16, .clamp 1 1440⟩, ⟨10, 0, .clamp 16 1024⟩]⟩,
  ⟨0xF0004, 1, 0x4, .opr, [⟨2, 2, .w1c⟩]⟩,
  ⟨0xF0008, 11, 0x4, .none, []⟩,
  ⟨0xF0100, 1, 0x4, .obs, [⟨31, 0, .rw⟩]⟩,
  ⟨0xF0104, 9, 0x4, .none, []⟩,
  ⟨0xF0800, 5, 0x4, .none, []⟩]

/-- The registers of one block, chosen by the address bits above bit 15 (R544). -/
def regMapOf (addr : Nat) : List RegDesc :=
  match addr / 0x10000 with
  | 0 => regMapTop
  | 1 => regMapRst
  | 2 => regMapTim
  | 3 => regMapMac
  | 4 => regMapIng
  | 5 => regMapAln
  | 6 => regMapFlt
  | 7 => regMapNrg
  | 8 => regMapMod
  | 9 => regMapIsl
  | 10 => regMapGrd
  | 11 => regMapTdm
  | 12 => regMapRad
  | 13 => regMapHst
  | 14 => regMapKey
  | 15 => regMapLog
  | _ => []

/-- A register covers an address. -/
def RegDesc.covers (d : RegDesc) (addr : Nat) : Bool :=
  d.base ≤ addr && (addr - d.base) % d.stride == 0 && (addr - d.base) / d.stride < d.count

/-- The register at an address; none for an offset the register index does not list (R9). -/
def regAt (addr : Nat) : Option RegDesc := (regMapOf addr).find? (·.covers addr)

end Sys2Proof.Machine
end

