-- ==== Sys2Proof/Machine/State.lean ====
section
/-!
DEFINITION. The state: everything the spec gives the block, as plain data. The register file holds every register field that is
not listed in a structure here; each structure's docstring says what of its block it holds.
-/
namespace Sys2Proof.Machine

/-- An evidence record (R22). -/
structure Evid where
  engine   : Nat
  valid    : Bool
  degraded : Bool
  blocked  : Bool
  shed     : Bool
  rseq     : Nat
  slot     : LT48
  /-- S as an absolute tick, of which `slot` is the low 48 bits. -/
  sTick    : Nat
  tq       : Nat
  items    : BitVec 128
  crc      : W32
  deriving DecidableEq, Repr


/-- The cycle ledger (R25 to R42): what is not a register. -/
structure Ldg where
  /-- An overrun in the present slot raises the level at the next close (R31). -/
  raise     : Bool
  /-- The slot for which `raise` was set, so that one slot raises once (R31). -/
  raiseSlot : Option Nat
  /-- Shares written and not yet in force (R41). -/
  pendA     : Option W32
  pendB     : Option W32
  /-- Shares in force since the last close (R41). -/
  shareA    : W32
  shareB    : W32
  deriving DecidableEq, Repr

/-- One time source (R57 to R61). -/
structure TimSrc where
  /-- Valid (TIM_STAT.SRC_VALID bit). -/
  valid     : Bool
  /-- Error bound E_src in ns (R58). -/
  eSrc      : Nat
  /-- Bound announced by the grandmaster, kept from its Announce (R58); none before one is heard. -/
  announced : Option Nat
  /-- Tick of the last valid sample (R59). -/
  lastTick  : Nat
  /-- Tick since which it has ranked above the selected source without interruption (R59). -/
  betterAt  : Option Nat
  deriving DecidableEq, Repr

/-- The time base (R46 to R87): what is not a register. -/
structure Tim where
  /-- The TAI counter: seconds, nanoseconds and the internal fraction in 2^-32 ns (R46). -/
  sec       : Nat
  ns        : Nat
  frac      : Nat
  /-- CK_TIME ticks since power-up: 8 ns of elapsed time each. -/
  mono      : Nat
  /-- Servo: integral term and output, in ppb (R62). -/
  integ     : Q
  y         : Q
  srcs      : List TimSrc
  /-- Consecutive samples within 100 ns; consecutive samples beyond 1,000 ns (R63). -/
  nGood     : Nat
  nOut      : Nat
  /-- Consecutive samples beyond STEP_THR that agree within 1,000 ns, newest first (R65). -/
  stepRun   : List Int
  /-- The last 8 offsets and the last 64 servo outputs, newest first (R67). -/
  last8     : List Int
  last64    : List Q
  /-- Tick of the previous accepted sample (R62). -/
  sampleAt  : Nat
  /-- Freewheel: E0 and Y0 in ns and ppb, and the tick of entry (R67). -/
  e0        : Q
  y0        : Q
  freeAt    : Nat
  /-- The freewheel bound at the moment of leaving FREEWHEEL (R67). -/
  exitBound : Nat
  lockedOnce : Bool
  /-- Since the first LOCKED of this start: the TAI second at whose top the first slot opens (R525). -/
  lockTai   : Option Nat
  leftLock  : Option Nat
  /-- Ticks of the last switch and the last step (R71). -/
  switchAt  : Option Nat
  stepAt    : Option Nat
  /-- A step awaits ALN: the mean offset in ns (R65). -/
  stepDue   : Option Int
  /-- A refused step still slewed (R66). -/
  slewing   : Bool
  /-- TOD_LOAD armed (R57). -/
  todArmed  : Bool
  /-- TAI tick of the second at whose start the last leap was applied (R75). -/
  leapAt    : Option Nat
  /-- 1PPS_OUT level and the tick at which it falls (R84). -/
  ppsOut    : Option Nat
  /-- Peer delay of each PTP port in 2^-1 ns units and the departure of the open Pdelay_Req (R51). -/
  pdelay    : List Nat
  pdelayReq : List (Option Nat)
  rseq      : Nat
  deriving DecidableEq, Repr

/-- One stranger entry (R106). -/
structure Stranger where
  mac   : Nat
  vlan  : Nat
  ether : Nat
  ip    : Nat
  count : Nat
  first : Nat
  last  : Nat
  deriving DecidableEq, Repr

/-- A renegotiation in progress (R102). -/
structure Reneg where
  fromRate : Nat
  toRate   : Nat
  deadline : Nat
  /-- Utilisation of the last second in 0.1 % of the old rate (NET_STEP P3). -/
  util     : Nat
  deriving DecidableEq, Repr

/-- One Ethernet port (R88 to R114): what is not a register. -/
structure Port where
  /-- Bytes in each receive pool, and whether the port is sending pause for it (R94, R95). -/
  pools    : List Nat
  pausing  : List Bool
  /-- Tick of the last pause frame of each pool (R95). -/
  pauseAt  : List Nat
  /-- Tick until which received pause holds each priority, 0 none, and since when (R97). -/
  heldTo   : List Nat
  heldFrom : List Nat
  /-- The 19 live 64-bit counters, in bank order (R109). -/
  cnt      : List Nat
  strangers : List Stranger
  /-- Consecutive seconds below LOW_UTIL; since when the link is up at an unchanged rate (R99, R101). -/
  dwell    : Nat
  steadyAt : Nat
  reneg    : Option Reneg
  /-- A pool crossed its HI_WM this second (R100). -/
  hiCross  : Bool
  /-- PRP copies seen: source, sequence number and tick (R90). -/
  dup      : List (Nat × Nat × Nat)
  /-- IPv4 fragments held: datagram id and tick (R105). -/
  frags    : List (Nat × Nat)
  /-- MACsec: the highest packet number accepted (R108), tick of the last NET_SEC_FAIL. -/
  pn       : Nat
  secFail  : Option Nat
  deriving DecidableEq, Repr

/-- A committed version of a spoke's configuration (R118, R157). -/
structure SpVer where
  ver     : Nat
  /-- The commit instant (absolute ticks): it applies to slots whose S is later. -/
  since   : Nat
  /-- Reporting rate × 8 (W09.FS8). -/
  fs8     : Nat
  ext     : Bool
  /-- KIND of each channel, in the order of R566, and its scale factor (R149). -/
  kinds   : List Nat
  scales  : List W32
  format  : Nat
  conf    : Nat
  /-- Frame size the configuration implies (R124 check 8). -/
  size    : Nat
  timeBase : Nat
  rowBase : Nat
  deriving DecidableEq, Repr

/-- An accepted report kept for conversion (R140 to R142). -/
structure Report where
  t       : Nat
  ver     : Nat
  entries : List W64
  deriving DecidableEq, Repr

/-- One spoke (R115 to R151): the context of one stream. -/
structure Spoke where
  num      : Nat
  /-- 0 FREE, 1 WAIT_CFG, 2 ACTIVE, 3 SILENT, 4 SUSPENDED, 5 REMOVING (W00.STATE). -/
  state    : Nat
  /-- The words W00 to W17 as last committed, RW fields only (R147). -/
  words    : List W32
  svidHash : W32
  ver      : Nat
  cur      : Option SpVer
  prev     : Option SpVer
  /-- W18 to W27: last report time, last arrival, last class and STAT, percentiles, largest latency. -/
  lastTime : Nat
  lastArr  : Nat
  lastTq   : Nat
  lastSt   : Nat
  p50      : Int
  p99      : Int
  p999     : Int
  latMax   : Option Int
  /-- The 12 counters W28 to W39, in order. -/
  cnt      : List Nat
  hist     : List Nat
  /-- Recent reports, newest first. -/
  reports  : List Report
  /-- Report times whose slots have not settled, with the checksum of their values (R134). -/
  seen     : Tab Nat
  /-- Consecutive frames failing the expected size (R120). -/
  sizeFails : Nat
  /-- Tick of the last accepted report or of becoming ACTIVE (R120). -/
  heardAt  : Nat
  /-- Configuration request: 0 none, 3 CFG-3 sent, 2 CFG-2 sent; when; attempts unanswered (R567). -/
  reqKind  : Nat
  reqAt    : Nat
  tries    : Nat
  retryAt  : Nat
  /-- A configuration change is signalled (R120). -/
  changeDue : Bool
  header   : List Byte
  /-- Commit instant of the removal (R119). -/
  removeAt : Nat
  /-- Tick of the last SPOKE_DUP_CONFLICT (R134). -/
  dupAt    : Option Nat
  /-- Critical set: membership, start of the unbroken run of the auto rule, GSP-fixed, ENV_HOLD (R138, R139). -/
  member   : Bool
  autoFrom : Option Nat
  envHold  : Bool
  /-- SV: consecutive missing samples and the S up to which values are absent (R132). -/
  svMiss   : Nat
  svGapTo  : Nat
  /-- A configuration that did not fit, kept while SUSPENDED (R120). -/
  pendCfg  : Option SpVer
  /-- Reason of the last cause of a change of membership (R151). -/
  critWhy  : Nat
  /-- Slots closed while ACTIVE and those written before the freeze: in this second, and in the last 10 s (R138). -/
  fillNow  : Nat × Nat
  fillHist : List (Nat × Nat)
  /-- Report time from which missing reports have not been counted (R143). -/
  gapFrom  : Nat
  /-- Ticks since when the spoke is SILENT. -/
  silentAt : Nat
  deriving DecidableEq, Repr

/-- Ingest (R115 to R151): what is not a register. -/
structure Ing where
  /-- Spokes not in FREE, by number. -/
  spokes   : List Spoke
  /-- Tick of the last histogram halving (R135). -/
  decayAt  : Nat
  deriving DecidableEq, Repr

/-- A slot from its opening to the end of its row in the store (R160 to R179). `s` is its slot time as an absolute
count of 8 ns ticks of TAI; its LT48 is the low 48 bits (R49). -/
structure Slot where
  s         : Nat
  /-- Cadence code at S (R160). -/
  code      : Nat
  /-- SLOT_START has run: the deadline D (absolute ticks) is fixed (R163). -/
  dl        : Option Nat
  wSlot     : Nat
  /-- 0 OPEN, 1 CLOSED, 2 SETTLED. -/
  phase     : Nat
  /-- Fixed stages done: 0 none, 1 close and extract, 2 island, 3 guard, 4 pins, 5 frame (R15). -/
  stage     : Nat
  c         : Nat
  rseq      : Nat
  early     : Bool
  stepClose : Bool
  gap       : Bool
  filled    : Bool
  /-- The DRAM fill of R165 is complete. -/
  fillDone  : Bool
  critMiss  : Nat
  /-- Late horizon in ticks, as it stood at S (R176). -/
  hzn       : Nat
  /-- Spokes with at least one value written before the freeze (R160). -/
  arrived   : Nat
  /-- Spokes whose arrival bit is set (R162). -/
  bitmap    : List Nat
  /-- Spokes whose values came as relays alone (R361). -/
  relayed   : List Nat
  /-- Source STAT of each spoke whose values stand in the row (R128). -/
  stats     : Tab Nat
  amends    : Nat
  /-- Device class, TIM_ERR_EST and TIM state at C (R69, R72). -/
  tq        : Nat
  errC      : Nat
  timC      : Nat
  /-- The row: entries by row channel (R158). -/
  row       : Tab W64
  /-- S of the slot for which a filled entry's value was first written (R178). -/
  origin    : Tab Nat
  /-- The fast-lane frame (R168); none while the slot holds no frame. -/
  frame     : Option (Tab W64)
  /-- S of the slot for which a filled fast-lane entry's value was first written (R178). -/
  flOrigin  : Tab Nat
  flFilled  : Bool
  flGap     : Bool
  flCap     : Bool
  wEnv      : Bool
  /-- End of each fixed stage in ticks from C, in order (R42), and the overrun mask. -/
  ends      : List Nat
  ovr       : Nat
  /-- Overruns flagged by the stages and not yet recorded by LEDGER_OVERRUN (R30). -/
  ovrDue    : List Nat
  /-- The active row: the runs of granules in use as the row was written, base and count, in granule order; empty while open. -/
  active    : List (Nat × Nat)
  /-- Ticks after S for which the store keeps the row (R186). -/
  keep      : Nat
  /-- Output sets that owe the frame of this slot (R181, R182). -/
  due       : List Nat
  /-- At C: LOCKED to a source of class TQ0, and the code of the time since the time base left LOCKED (R72). -/
  srcTq0    : Bool
  unlockC   : Nat
  /-- First row channel of each poisoned block (R190). -/
  poisoned  : List Nat
  /-- Tie states captured at the freeze (R298). -/
  ties      : Tab Nat
  /-- TDM: marked INCOMPLETE; CUT sent; own and partner bitmap exchange (R361, R362). -/
  incomplete : Bool
  cutSent   : Bool
  partnerCut : Option (List Nat)
  needOpen  : List Nat
  schedGot  : Bool
  digOwn    : Option W64
  digPart : Option (W64 × Bool)
  deriving DecidableEq, Repr

/-- One output set (R180 to R185, R194). -/
structure OutSet where
  /-- 0 FREE, 1 STOPPED, 2 SENDING, 3 SUSPENDED. -/
  state     : Nat
  autostart : Bool
  prio      : Nat
  idcode    : Nat
  ext       : Bool
  div       : Nat
  format    : Nat
  ip        : Nat
  dataPort  : Nat
  cmdPort   : Nat
  amendPort : Nat
  pcp       : Nat
  vlan      : Nat
  port      : Nat
  cfgcnt    : Nat
  cfg2Ref   : Nat
  entries   : List OutEntry
  /-- Tick until which STAT bit 10 is set after a redefinition (R184). -/
  changedUntil : Nat
  /-- Slots with an amendment not yet re-sent, and the tick of the last amendment frame of each (R185). -/
  amendDue  : List Nat
  amendAt   : Tab Nat
  deriving DecidableEq, Repr

/-- One capture bay (R187 to R189, R195). -/
structure Bay where
  /-- 0 FREE, 1 ARMED, 2 FILLING, 3 FROZEN. -/
  state    : Nat
  trigger  : Nat
  mask     : Nat
  pre      : Nat
  post     : Nat
  /-- Named TAI tick of trigger 2. -/
  timeAt   : Nat
  sizeMib  : Nat
  /-- S of the trigger slot. -/
  trigS    : Nat
  gap      : Bool
  /-- Rows copied, by S; a missing row holds none (R189, R443). -/
  rows     : Tab (Option (List Byte))
  missing  : Nat
  /-- Rows due and not yet copied. -/
  signed   : Bool
  signature : BitVec 768
  deriving DecidableEq, Repr

/-- A run of granules held by a spoke's version (R157). -/
structure GranRun where
  spoke : Nat
  ver   : Nat
  base  : Nat
  count : Nat
  /-- Released when the last slot under the version settles: the S after which it has none. -/
  until? : Option Nat
  deriving DecidableEq, Repr

/-- Alignment and the measurement store (R152 to R197): what is not a register. -/
structure Aln where
  /-- Every slot whose row is held: open, closed and settled, by S. -/
  slots     : List Slot
  /-- Slots closed since reset (ALN_LDG_LAST_SEQ counts the completed ones). -/
  closed    : Nat
  /-- Close instant and deadline of the previous slot (absolute ticks). -/
  lastC     : Nat
  lastD     : Nat
  /-- S of the last slot started. -/
  lastS     : Option Nat
  /-- Working budget w in µs (R170). -/
  w         : Nat
  /-- An update of w has run since the start (R170). -/
  wSet      : Bool
  /-- w_slot of the last ALN_WAIT_CHANGE; none before the first (R174). -/
  lastWRec  : Option Nat
  lastBound : Nat
  /-- Cadence changes accepted and not yet applied, in order: code and the TAI second T (R153). -/
  cadPend   : List (Nat × Nat)
  outs      : List OutSet
  /-- Redefinitions and the tick at which each applies (R184). -/
  outPend   : List (Option (Nat × OutSet))
  bays      : List Bay
  runs      : List GranRun
  aseq      : Nat
  rseq      : Nat
  /-- Step closing (R156): slots closed, slots discarded, and S of the last one. -/
  stepClosed : Nat
  stepDropped : Nat
  stepLast  : Option Nat
  /-- S of the newest row that has left the ring; 0 none (R189). -/
  lostS     : Nat
  /-- Tick at which a bay last reached FROZEN (evidence item CAP_FROZEN). -/
  frozenAt  : Option Nat
  /-- Row channels defined into the fast lane (R167). -/
  flChans   : List Nat
  deriving DecidableEq, Repr

/-- One threshold unit (R214). -/
structure ThrUnit where
  cfg0   : W32
  cfg1   : W32
  cfg2   : W32
  on     : Bool
  /-- Asserted at some sample since the last FLT evidence record (R215). -/
  seen   : Bool
  /-- Records written in the present second, and that second (R215). -/
  recs   : Nat
  recSec : Nat
  deriving DecidableEq, Repr

/-- A rotation of the spare (R210). -/
structure Rotation where
  ch       : Nat
  /-- 1 SELF_CAL, 2 SETTLE, 3 MATCH, 4 CARRY, 5 RETURN, 6 MATCH_BACK (AFE_STAT.SPARE_PHASE). -/
  phase    : Nat
  /-- Tick at which the phase ends. -/
  next     : Nat
  /-- The reference readings of the modulator passed, and the changes of its gain trim in ppm and offset trim in µV. -/
  ok       : Bool
  gainPpm  : Int
  offsetUv : Int
  /-- A failed modulator whose channel waits for the spare (R209). -/
  swap     : Option Nat
  deriving DecidableEq, Repr

/-- A calibration asked for (R223). -/
structure CalRun where
  /-- Channel; 255 a full immediate calibration. -/
  ch  : Nat
  /-- Tick at which it is complete; none while its rotation has not ended. -/
  at? : Option Nat
  /-- Session and tag it answers. -/
  who : Nat × Nat
  deriving DecidableEq, Repr

/-- A trim change applied step by step (R211). -/
structure TrimRamp where
  modl     : Nat
  gainPpm  : Int
  offsetUv : Int
  nextAt   : Nat
  deriving DecidableEq, Repr

/-- The local front end (R198 to R231): what is not a register. -/
structure Flt where
  units    : List ThrUnit
  /-- Single-cycle-settling: tick of the start by lane, none when the chain runs (R207). -/
  settle   : List (Option Nat)
  settleSeen : Bool
  clipSeen : Bool
  rot      : Option Rotation
  /-- Next channel in turn, a queued channel, tick of the last rotation start, modulators excluded (R210, R211). -/
  nextCh   : Nat
  queued   : Option Nat
  rotAt    : Nat
  barred   : List Nat
  /-- Rotation stops: the spare is swapped in, or WATCH (R209, R212). -/
  swapCh   : Option Nat
  ramps    : List TrimRamp
  l0Failed : Bool
  l0At     : Nat
  /-- A running self-test: level, tick of its end, and the session and tag it answers, if any (R222). -/
  test     : Option (Nat × Nat × Option (Nat × Nat))
  cal      : Option CalRun
  /-- Estimator class applied at the next top of a second (R218), and the class in force. -/
  classNow : Nat
  classAt  : Option Nat
  rseq     : Nat
  deriving DecidableEq, Repr

/-- One energy save record in MRAM (R248). -/
structure NrgSave where
  accs  : List Nat
  pfs   : W32
  lsbSh : Nat
  /-- Total |ES_T| / Tc of the last cycle, in W. -/
  power : Q
  sec   : Nat
  seq   : Nat
  /-- 1 periodic, 2 PFAIL. -/
  kind  : Nat
  crcOk : Bool
  deriving DecidableEq, Repr

/-- One pulse output (R247). -/
structure Pulse where
  /-- Pulses queued, at most 255. -/
  queue   : Nat
  /-- The accumulator value from which multiples of K are counted. -/
  base    : Nat
  /-- Multiples already queued since `base`. -/
  given   : Nat
  /-- Tick until which the land is high, and until which it must then stay low. -/
  highTo  : Option Nat
  lowTo   : Nat
  /-- Pulses dropped in the present second, and that second (PUL_OVERRUN). -/
  dropped : Nat
  dropSec : Nat
  deriving DecidableEq, Repr

/-- Tie-line energy (R232 to R256): what is not a register. -/
structure Nrg where
  /-- The 32 accumulators of 96 bits, ph × 8 + q, in units of LSB × 2^-32 (R241). -/
  accs     : List Nat
  /-- LSB_SH in force (R240). -/
  lsbSh    : Nat
  /-- Cycles since the last latch (R243), and N in force. -/
  cycles   : Nat
  latchN   : Nat
  /-- A latch is due at the crossing just passed. -/
  latchDue : Bool
  /-- TAI tick at which the last cycle ended. -/
  crossAt  : Nat
  /-- Flags of the latch period: fallback, substitution, no-load phases (R253). -/
  perTime  : Bool
  perSubst : Bool
  perNoload : Nat
  /-- EP, EQ, ES of each phase's previous cycle, and consecutive substitutions (R236). -/
  prev     : List (Q × Q × Q)
  substRun : List Nat
  lastPower : Q
  /-- Since the last evidence record (R250). -/
  evNoload : Nat
  evSubst  : Bool
  exported : Bool
  pulses   : List Pulse
  slot0    : Option NrgSave
  slot1    : Option NrgSave
  newest   : Nat
  saveSeq  : Nat
  saveAt   : Nat
  /-- Reach of the reset before this start: 0 A, 1 B (ENERGY_GAP cause). -/
  startReach : Nat
  rseq     : Nat
  deriving DecidableEq, Repr

/-- What MOD learned of one screened channel in one band (R266, R267), and its screening state (R263). -/
structure ChBand where
  /-- μ and σ of 20 log10(RMS), in dB. -/
  mu       : Q
  sigma    : Q
  samples  : Nat
  /-- Adapted threshold in dB over 1 ppm (or 0.1 mHz); none while unlearned (R267). -/
  thrDb    : Option Q
  /-- The threshold sits at an envelope bound. -/
  clamped  : Bool
  hit      : Bool
  /-- Present ratio, and RMS in the unit of R260. -/
  ratio    : Q
  rms      : W32
  deriving DecidableEq, Repr

/-- One mode of a watch (R273 to R276). -/
structure Mode where
  id       : Nat
  valid    : Bool
  /-- Updates it has been absent from (R273: dropped after 5). -/
  absent   : Nat
  freq     : Q
  zeta     : Q
  amp      : W32
  sigF     : W32
  sigZ     : W32
  conf     : Nat
  zthr     : Q
  zbase    : Option Q
  /-- Updates with CONF ≥ 2 outside alarms towards the 24 h of R274. -/
  learnt   : Nat
  lowDamp  : Bool
  dampDrop : Bool
  forced   : Bool
  resonance : Bool
  /-- Runs of updates: CONF ≥ 2 and ζ below zthr; ζ at or above zthr + 1 point; forced; not forced. -/
  runLow   : Nat
  runHigh  : Nat
  runForced : Nat
  runFree  : Nat
  suspect  : Bool
  refCh    : Nat
  tEnd     : LT48
  /-- MOD_M_SHk of its channels: phase and magnitude (R285). -/
  shape    : List W32
  deriving DecidableEq, Repr

/-- One watch context (R268 to R272, R284). -/
structure Watch where
  /-- 0 FREE, 1 FILLING, 2 TRACKING. -/
  state    : Nat
  gapped   : Bool
  band     : Nat
  host     : Bool
  chans    : List Nat
  nmMax    : Nat
  winS     : Nat
  /-- Update period in 0.05 s. -/
  upd      : Nat
  zetaAlarm : Nat
  zetaDrop : Nat
  /-- Largest ratio of its channels in each of the last 60 s: second of elapsed time and ratio, newest first. -/
  peaks    : List (Nat × Q)
  spawned  : LT48
  updates  : Nat
  gaps     : Nat
  /-- Tick at which filling began, and of the last update. -/
  fillFrom : Nat
  updAt    : Nat
  /-- Since when every channel is below RETIRE_RATIO (R270). -/
  quietFrom : Option Nat
  modes    : List Mode
  nextId   : Nat
  /-- Updates since the definition (MOD_M_SEQ, wrapping). -/
  seq      : Nat
  deriving DecidableEq, Repr

/-- One branch (R287): W00 to W04. -/
structure Branch where
  w0 : W32
  w1 : W32
  w2 : W32
  w3 : W32
  w4 : W32
  deriving DecidableEq, Repr

/-- The last completed location (R278, R288). -/
structure LocResult where
  ctx     : Nat
  mode    : Nat
  station : Nat
  conf    : Nat
  used    : Nat
  /-- Branch and rate in kW, at most 16, by descending |rate|. -/
  entries : List (Nat × W32)
  deriving DecidableEq, Repr

/-- Oscillation screening, modal tracking and source location (R257 to R290): what is not a register. -/
structure Mod where
  /-- By row channel × 8 + band. -/
  chans    : Tab ChBand
  /-- Watches not FREE, by context. -/
  watches  : Tab Watch
  branches : Tab Branch
  /-- Locations running (at most 8 at once) and waiting, in order of request: context, MODE index, and the
  session and tag that asked. -/
  locs     : List (Nat × Nat × Option (Nat × Nat))
  locSeq   : Nat
  locLast  : Option LocResult
  /-- Tick of the last location with CONF ≥ 1 (R279). -/
  foundAt  : Option Nat
  /-- S of the newest settled row that screening completed (R279). -/
  screened : Nat
  /-- A shed episode runs (R265); modal work shed (R272). -/
  shedEp   : Bool
  /-- S with which screening resumed after a gap: the detectors restart from it (R265). -/
  resumeAt : Option Nat
  modalShed : Bool
  /-- MOD_HIT records in the present second, and that second (R263). -/
  hitRecs  : Nat
  hitSec   : Nat
  /-- Learned state as saved at the last top of the hour (R266), and at the switch to WATCH (R280). -/
  saved    : Tab ChBand
  /-- MRAM: the HOST watches and the branches, restored with the configuration at a start (R280). -/
  cfgWatches : Tab Watch
  cfgBranches : Tab Branch
  rseq     : Nat
  deriving DecidableEq, Repr


/-- One station (R292 to R295, R311). -/
structure Station where
  en      : Bool
  area    : Nat
  vnom    : W32
  angOfs  : W32
  /-- W03 to W10: voltage phasor and frequency row channel of representatives 0 to 3; 0x3FFFF none. -/
  reps    : List Nat
  dead    : Bool
  /-- S since which |V| has stayed below 0.1 × VNOM (R295). -/
  lowFrom : Option Nat
  /-- Quantities of the last slots, newest first, at most 16 (R294, R299). -/
  hist    : List StaObs
  /-- Last slot: dip, jump, group number (0x7FF none). -/
  dip     : Bool
  jump    : Bool
  group   : Nat
  /-- Representative of the last slot in which F was supplied (7 none); tick of its last ISL_REP_CHANGE. -/
  lastRep : Nat
  repRec  : Option Nat
  deriving DecidableEq, Repr

/-- One tie (R296, R311). -/
structure Tie where
  en    : Bool
  fromSt : Nat
  toSt  : Nat
  srcA  : W32
  srcB  : W32
  /-- State in the last slot, and its sources: 0 CLOSED, 1 OPEN, 2 UNKNOWN. -/
  state : Nat
  stA   : Nat
  stB   : Nat
  deriving DecidableEq, Repr

/-- One GOOSE subscription (R297, R311). -/
structure GooseSub where
  en      : Bool
  testOk  : Bool
  appid   : Nat
  hash    : W32
  confRev : W32
  alive   : Bool
  confErr : Bool
  sim     : Bool
  /-- Tick at which timeAllowedToLive ends. -/
  liveTo  : Nat
  members : List GooseMember
  deriving DecidableEq, Repr


/-- One loss-of-mains element (R304). -/
structure LomElem where
  on     : Bool
  /-- Tick of its last assertion: HOLD counts from it. -/
  lastOn : Nat
  run    : Nat
  low    : Nat
  deriving DecidableEq, Repr

/-- A definition that applies at the next close (R292). -/
inductive IslDef where
  | station (n : Nat) (s : Station)
  | tie (n : Nat) (t : Tie)
  | goose (n : Nat) (g : GooseSub)
  | area (n a : Nat)
  deriving DecidableEq, Repr

/-- Island detection (R291 to R314): what is not a register. -/
structure Isl where
  stations : Tab Station
  ties     : Tab Tie
  gooses   : Tab GooseSub
  pending  : List IslDef
  /-- The 16 entries. -/
  entries  : List Island
  nextId   : Nat
  /-- Blocking: S of the last triggering slot (with SCOPE 1 also the areas), whether it held in the last slot; S of the last dip
  and of the last jump (R302, R303). -/
  trigS    : Option Nat
  trigAreas : Tab Nat
  blocking : Bool
  dipS     : Option Nat
  jumpS    : Option Nat
  /-- First triggering station and its kind: 0 dip, 1 jump (R303). -/
  trigFirst : Nat × Nat
  /-- Last slot: more than one group in these areas; NEW_ISLAND; REF_UNOBSERVED; main chosen without REF. -/
  splitAreas : List Nat
  newIsland : Bool
  refUnobs : Bool
  noRef    : Bool
  backup   : Bool
  tqWorst  : Nat
  /-- S of the last evaluation (0 none), and the ITEMS of the last record. -/
  lastEval : Nat
  items    : Nat
  /-- Loss of mains: last four V1 quarter-cycle angles and frequencies, newest first; blocked until (R304). -/
  qc       : List (Q × Q)
  lomVs    : LomElem
  lomRocof : LomElem
  lomBlockTo : Nat
  rseq     : Nat
  deriving DecidableEq, Repr

/-- The tandem block (R349 to R383): what is not a register. STATE, CLAIM, PCLAIM and the other status bits stand
in TDM_STAT. -/
structure Tdm where
  /-- CPT_IN: tick of its last edge; tick at which it last read absent (R354). -/
  edgeAt     : Nat
  absentAt   : Nat
  /-- Own claim: tick of its assertion, and tick at which the lockout after its release ends (R355, R358). -/
  claimAt    : Nat
  lockTo     : Option Nat
  /-- TDM EN in force: it takes effect on leaving MAINT (R349). -/
  enNow      : Bool
  /-- Heartbeats: present; tick of the last one received and of the last one sent (R367). -/
  hbSeen     : Bool
  hbLast     : Nat
  hbSent     : Nat
  /-- Partner as its last heartbeat shows it. -/
  pPrefer    : Bool
  pMac       : Nat
  pIslFresh  : Bool
  pKat       : Nat
  /-- Evidence items 2, 3 and 9: PARTNER_LOST, PARTNER_FAILED, BOTH_KAT_FAIL. -/
  partnerLost : Bool
  partnerFailed : Bool
  bothKatFail : Bool
  /-- Tick of the entry into CATCHUP or of the last catch-up timeout; stages received since the start (R369). -/
  catchAt    : Nat
  retryAt    : Option Nat
  stage1     : Bool
  stage2     : Bool
  /-- Tick since which digests match (R372, HOLDOFF). -/
  matchFrom  : Nat
  /-- A slot has been compared since the entry into MATCHING; the last slot compared. -/
  compared   : Bool
  lastCmp    : Nat
  /-- INCOMPLETE slots in a row; INCOMPLETE slots in the present second, that second, and of the last second. -/
  incRun     : Nat
  /-- INCOMPLETE slots in a row at the partner (R364). -/
  pIncRun    : Nat
  incSecN    : Nat
  incSec     : Nat
  lastInc    : Bool
  incAt      : Option Nat
  /-- Tick since which LEAD_SHORT holds (R364). -/
  shortFrom  : Option Nat
  /-- Known-answer check: tick of its start, own and partner's result: 0 none, 1 pass, 2 fail (R366). -/
  katAt      : Nat
  katOwn     : Nat
  katPart    : Nat
  /-- Handover requested (by TAKE or HANDOVER): release at the next closed slot (R372). -/
  handDue    : Bool
  /-- TAKE sent and not yet answered by a release (R372). -/
  takeSent   : Bool
  /-- Out of step by R364 (TDM_SLOW P0 0 is owed). -/
  slowLeft   : Bool
  /-- Slots closed since the claim was taken (R370). -/
  closedSince : Nat
  /-- Relays that wait in the transmit queue, oldest first: values, tick at which it was queued, message (R360). -/
  relays     : List (Nat × Nat × List Nat)
  rseq       : Nat
  deriving DecidableEq, Repr

/-- A move that an association makes at its START: slot, phase, gear and the SFN of START (R399, R400). -/
structure RadMove where
  slot  : Nat
  phase : Nat
  gear  : Nat
  start : Nat
  deriving DecidableEq, Repr

/-- One association entry (R398, R416). -/
structure Assoc where
  en       : Bool
  eui      : Nat
  /-- 0 IDLE, 1 PENDING, 2 ASSOCIATED. -/
  state    : Nat
  relayed  : Bool
  relay    : Nat
  evc      : Nat
  /-- 31 none. -/
  slot     : Nat
  phase    : Nat
  /-- 0 to 3 for 1, 2, 4, 8. -/
  gear     : Nat
  clkPpm   : Nat
  /-- Supervision timeout in ms. -/
  sup      : Nat
  lastFc   : Option Nat
  mapVer   : Nat
  timeCorr : Int
  cntRx    : Nat
  cntFcs   : Nat
  cntDrift : Nat
  cntReplay : Nat
  cntMiss  : Nat
  /-- SFN at which EVC is 0 (START). -/
  start    : Nat
  /-- Tick of the last valid frame, or of START (R399). -/
  heardAt  : Nat
  relayCap : Bool
  /-- Channels its ASSOC_REQ names (R403). -/
  nch      : Nat
  /-- A move under way (R400). -/
  moveTo   : Option RadMove
  /-- A bundle was accepted in this superframe (CNT_MISS). -/
  got      : Bool
  deriving DecidableEq, Repr

/-- A downlink frame that waits in C0 or C1 (R403, R404). -/
structure Downlink where
  entry : Nat
  /-- Command identifier of R403. -/
  cmd   : Nat
  body  : List Nat
  seqNo : Nat
  sends : Nat
  sent  : Bool
  deriving DecidableEq, Repr

/-- A pending change of map: the new map in force and MAP_ACT as an SFN (R396). -/
structure MapChange where
  map : Nat
  act : Nat
  deriving DecidableEq, Repr

/-- A superframe's channel, and its due and failed receptions (R397). -/
structure RadUse where
  sfn  : Nat
  chan : Nat
  due  : Nat
  fail : Nat
  deriving DecidableEq, Repr

/-- The field radio (R384 to R418): what is not a register. -/
structure Rad where
  entries  : Tab Assoc
  /-- SFN of the last superframe started, and its origin as an absolute tick. -/
  sfn      : Nat
  origin   : Nat
  started  : Bool
  /-- Channel of this superframe; channels of the 99 before it, newest first, none where the superframe was withheld (R394). -/
  chan     : Nat
  used     : List (Option Nat)
  /-- Device class at the origins of this superframe and the 8 before it, newest first (R405). -/
  classes  : List Nat
  /-- Transmission withheld in this superframe (R394, R395), and the tick of the last withholding and RAD_HOLD. -/
  held     : Bool
  heldAt   : Option Nat
  dutyRec  : Option Nat
  mapPend  : Option MapChange
  /-- Data slots that delivered a good frame in the previous superframe (ACKMAP, R389). -/
  ackmap   : Nat
  acknow   : Nat
  /-- The slot whose window opened last (R390). -/
  rxSlot   : Option Nat
  downlink : List Downlink
  dlSeq    : Nat
  /-- Excision: the superframes of the last uses, newest first (R397). -/
  uses     : List RadUse
  /-- Due receptions of the present superframe, and those of them that nothing has been accepted for. -/
  dueNow   : Nat
  failNow  : Nat
  /-- Excised channels: tick of the excision and failure percent (R397). -/
  excised  : Tab (Nat × Nat)
  /-- Airtime sent in each sub-band in the last 3,600 s: origin tick and ticks on air (R395). -/
  duty     : Tab (List (Nat × Nat))
  /-- Last tick of an association drop and of a drift reject (R414). -/
  dropAt   : Option Nat
  driftAt  : Option Nat
  /-- MRAM: the association table with its frame counters and the coordinator counter (R402, R407, R408). -/
  saved    : Tab Assoc
  savedFc  : Nat
  /-- Tick of the last save of the table (R407); frames sent since the coordinator counter was saved (R408). -/
  savedAt  : Nat
  sinceFc  : Nat
  /-- This unit sent the last beacon (R414 item 0). -/
  beaconed : Bool
  /-- Tandem: this unit coordinates (R374, R377, R378); the SFN of the last beacon it owes after a handover; the SFN from which it
  coordinates after one (R377). -/
  lead     : Bool
  lastTo   : Option Nat
  handFrom : Option Nat
  /-- A beacon of the captain was heard in this superframe; beacons missed in a row (R378). -/
  heard    : Bool
  missed   : Nat
  /-- Coordinator counter and SFN as last received over TDM (R376, R378, R408). -/
  capFc    : Option Nat
  capSfn   : Nat
  /-- Associations that changed in this superframe (R376). -/
  changed  : List Nat
  rseq     : Nat
  deriving DecidableEq, Repr

/-- One key slot (R460, R480). -/
structure KeySlot where
  /-- 0 EMPTY, 1 LOADED, 2 WITHHELD. -/
  state     : Nat
  /-- Engine mask of R460. -/
  engine    : Nat
  /-- Coded as in R462. -/
  alg       : Nat
  /-- 0 derived, 1 generated inside, 2 imported. -/
  origin    : Nat
  ephemeral : Bool
  gen       : Nat
  /-- Secret or private key, and public key for an asymmetric one. No command returns `secret` (R460). -/
  secret    : BitVec 384
  pub       : BitVec 768
  /-- CKN of a MACsec CAK (R461). -/
  ckn       : BitVec 128
  /-- TAI seconds and MF when it was loaded (R467). -/
  created   : Nat
  mf        : Digest
  /-- Session of an ephemeral key (R461). -/
  owner     : Nat
  deriving DecidableEq, Repr

/-- The key block (R454 to R482). -/
structure Key where
  /-- Life-cycle code in force and its two MRAM copies; none when a copy's CRC fails (R470, R471). -/
  lcs       : Nat
  lcsA      : Option Nat
  lcsB      : Option Nat
  slots     : List KeySlot
  /-- Generated and imported keys wrapped in MRAM, by slot (R459). -/
  store     : Tab KeySlot
  /-- The device unique key while it stands in the KDF engine (R454, R455). -/
  duk       : Option (BitVec 384)
  /-- Helper-data copies valid (R456). -/
  helperA   : Bool
  helperB   : Bool
  pufOk     : Bool
  pufFail   : Bool
  pufTries  : Nat
  storeOk   : Bool
  /-- MRAM: TSEQ, the pending flag and the last count acknowledged (R473, R475). -/
  tseq      : Nat
  pend      : Bool
  acked     : Nat
  /-- Slots 10 to 13, 16 and 18 are withheld (R474). -/
  withheld  : Bool
  /-- KEY_TMP_STAT: LATCH and LIVE (R479). -/
  latch     : Nat
  live      : Nat
  /-- Sources that may raise an event: armed again after DEBOUNCE ms out of the condition (R472). -/
  armed     : Nat
  /-- Consecutive failed mesh checks (R472). -/
  meshFails : Nat
  m1        : Digest
  mf        : Digest
  devId     : BitVec 256
  /-- Alias certificate of the last start (R465). -/
  aliasDoc  : List Byte
  /-- Draws made from the random generator. -/
  draws     : Nat
  deriving DecidableEq, Repr

/-- One engine's evidence as the guard sees it (R22, R23, R333). -/
structure EngState where
  /-- Accepted records of this unit's engine, and records the captain forwarded (R365), newest first. -/
  recs     : List Evid
  fwd      : List Evid
  misses   : Nat
  /-- TAI tick of the last record that counts as its evidence. -/
  okAt     : Nat
  /-- S of the last slot for which a miss was counted. -/
  missS    : Option Nat
  deriving DecidableEq, Repr

/-- The guard partition (R315 to R348): what is not a register. -/
structure Grd where
  /-- Package in force and its digest (R322 to R325). -/
  gsp       : Option GspPkg
  gspDig    : Digest
  /-- The two MRAM copies: package, digest, and whether CRC and signature pass (R323, R324). -/
  copyA     : Option (GspPkg × Digest × Bool)
  copyB     : Option (GspPkg × Digest × Bool)
  inForceA  : Bool
  mramFloor : Nat
  /-- Complete packages under check, oldest first: session, tag and the bytes received (R322). -/
  checking  : List (Nat × Nat × List Byte)
  /-- An accepted package that awaits its commit: session, tag, package, digest (R323). -/
  accepted  : Option (Nat × Nat × GspPkg × Digest)
  engines   : List EngState
  /-- Slot schedule received from ALN, newest first: S and D (R315). -/
  sched     : List (Nat × Nat)
  /-- Records the last evaluation used, by engine 1 to 8 (R23). -/
  used      : List (Option Evid)
  bells     : List Bell
  /-- Bells that the last evaluation asserted (R188). -/
  asserted  : List Nat
  bellOk    : Bool
  /-- Captain-claim gate open in a tandem (R337, R355). -/
  gateOpen  : Bool
  /-- Tick of the last firmware kick; none until the first after a start (R318). -/
  kickAt    : Option Nat
  wdtStage  : Nat
  /-- Tick at which the reset of stage 1 completed; none while no kick is awaited after one (R318). -/
  wdtFrom   : Option Nat
  /-- Stage 1 fired and its reset has not completed. -/
  wdtWait   : Bool
  /-- The firmware watchdog fired since the last accepted evaluation (R339). -/
  wdtFired  : Bool
  lockstepOk : Bool
  /-- Compare point of a LOCKUP kept in PD_AON until it is recorded (R317). -/
  lockup    : Option Nat
  bseq      : Nat
  stNum     : Nat
  sqNum     : Nat
  /-- GOOSE: the dataset last published (empty: none), tick of the next repeat, ms from the change to the last message, TAI tick
  of the change (R345). -/
  gooseData : List Nat
  gooseNext : Nat
  gooseOff  : Nat
  gooseTai  : Nat
  /-- The previous BELLF departed after its D + 1.0 ms (R36). -/
  breach    : Bool
  /-- BELLS and FS of the previous slot's BELLF (R446). -/
  lastBells : Option (Nat × Nat)
  /-- A time step restarts every run at the next evaluation (R332). -/
  restart   : Bool
  /-- S of the last evaluated slot. -/
  lastS     : Nat
  deriving DecidableEq, Repr

/-- A RPL or EVT pannier: a ring of 64-byte cells with its four pointers (R436 to R440). -/
structure Pannier where
  size   : Nat
  wp     : W32
  rp     : W32
  fp     : W32
  /-- MK; none while void. -/
  mark   : Option W32
  /-- The cells from FP to WP − 1, oldest first, 64 bytes each. -/
  cells  : List (List Byte)
  /-- Status of the last MARK, REWIND or RELEASE (PAN_RPL_STAT.RESULT). -/
  result : Nat
  deriving DecidableEq, Repr

/-- A command packet that passed checks 1 to 6 of R430 and waits for its opcode's row. -/
structure TakenCmd where
  opcode  : Nat
  tag     : Nat
  payload : List Byte
  deriving DecidableEq, Repr

/-- A reply still to be written in fragments, or waiting behind one (R442). -/
structure ReplyJob where
  opcode  : Nat
  tag     : Nat
  status  : Nat
  frag    : Nat
  payload : List Byte
  /-- The capture bay it reads plus 1; 0 for none (R443). -/
  src     : Nat
  deriving DecidableEq, Repr

/-- A subscription (R446) with what it lost (R448). -/
structure Sub where
  num     : Nat
  kind    : Nat
  filter  : Nat
  seqNo   : Nat
  dropped : Nat
  deriving DecidableEq, Repr

/-- A staged output-set definition (R435). -/
structure OutStage where
  set     : Nat
  next    : Nat
  words   : List W32
  entries : List OutEntry
  deriving DecidableEq, Repr

/-- A staged byte content: GSP_SUBMIT or FW_UPDATE (R435). -/
structure ByteStage where
  total : Nat
  bytes : List Byte
  deriving DecidableEq, Repr

/-- One host session (R419 to R453). -/
structure Session where
  /-- 0 CLOSED, 1 OPEN, 2 CLOSING (HST_Sn_STAT.STATE). -/
  state    : Nat
  roles    : Nat
  /-- Roles whose credentials its HELLO proved; all on PCIe (R424, R468). -/
  proved   : Nat
  cmdSz    : Nat
  rplSz    : Nat
  evtSz    : Nat
  peerIp   : Nat
  peerPort : Nat
  mgt      : Nat
  /-- The command cell under construction, by word (PAN_CMD_CELL00 to 15). -/
  cellBuf  : List W32
  /-- Cells staged and not yet pushed; whether one was dropped (R437). -/
  staged   : List (List Byte)
  overrun  : Bool
  /-- A cell was dropped since the last push: the next one may answer NO_CREDIT (R437). -/
  cellLost : Bool
  /-- Cells of packets pushed and not yet taken: they hold credit (R436). -/
  cmdHeld  : Nat
  taken    : List TakenCmd
  /-- Pending commands: tag and opcode (R431). -/
  pending  : List (Nat × Nat)
  /-- Final status of the last 64 completed tags, newest first (R431). -/
  done     : List (Nat × Nat)
  rpl      : Pannier
  evt      : Pannier
  /-- Replies in fragments or waiting behind them, oldest first (R442). -/
  jobs     : List ReplyJob
  subs     : List Sub
  outStage : Option OutStage
  gspStage : Option ByteStage
  fwStage  : Option ByteStage
  /-- UDP: last COUNTER accepted and last COUNTER sent (R429), and the session key. -/
  rxCtr    : Nat
  txCtr    : Nat
  sessKey  : BitVec 384
  /-- Tick of the last authenticated packet (R422) and of the last HOST_AUTH_FAIL (R453). -/
  lastAuth : Nat
  lastFail : Option Nat
  deriving DecidableEq, Repr

/-- The host block (R419 to R453): eight sessions and the saddle. -/
structure Hst where
  sessions   : List Session
  /-- Session holding the saddle (R426). -/
  holder     : Option Nat
  /-- Tick at which the lease ends, and the last lease granted in s. -/
  leaseEnd   : Nat
  leaseS     : Nat
  deriving DecidableEq, Repr

/-- The ordering code (R2). -/
inductive Variant where
  | w9 | w8 | n0
  deriving DecidableEq, Repr

/-- One copy of the option word in fuses (R511): none when its CRC fails. -/
structure OptWord where
  dbgLock   : Bool
  fwKeyHash : Nat
  deriving DecidableEq, Repr

/-- One copy of the trim image in MRAM (R511, R213). -/
structure TrimImage where
  /-- Gain trim in ppm and offset trim in µV of modulators M0 to M8. -/
  mods  : List (Int × Int)
  /-- Modulators that run on default trims, one bit each (AFE_STAT.UNCAL). -/
  deflt : Nat
  deriving DecidableEq, Repr

/-- A reset in progress (R505 to R509). -/
structure ResetRun where
  /-- Effective reach: 0 A, 1 B, 2 C. -/
  reach      : Nat
  /-- Sources asserted since the reset began, one bit each (R505). -/
  srcs       : Nat
  /-- Tick of the latest assertion. -/
  lastAssert : Nat
  /-- The reset was driven by the IDN8400 itself (R506, R520). -/
  self       : Bool
  /-- Begun by R520: the end of the stretch does not count again. -/
  noCount    : Bool
  deriving DecidableEq, Repr

/-- Reset, power, clocks and start-up (R505 to R543): everything that is not a register. -/
structure Top where
  variant     : Variant
  /-- Strap lands (R523). -/
  strapBoot   : Bool
  strapRef    : Bool
  strapPrefer : Bool
  rstRun      : Option ResetRun
  /-- RESET_N driven low by the device (R508). -/
  resetNLow   : Bool
  /-- MRAM: F0 selected (R6); none when MRAM holds no value. -/
  mramNomf    : Option Nat
  /-- MRAM: bank to start next, VERSION floor, failed-start counter (R514, R516, R518). -/
  mramBank    : Nat
  mramFloor   : Nat
  mramFsc     : Nat
  /-- Fuses and trim copies; none when the CRC fails (R511, R513). -/
  optA        : Option OptWord
  optB        : Option OptWord
  trimA       : Option TrimImage
  trimB       : Option TrimImage
  /-- In force after loading. -/
  dbgLock     : Bool
  fwKeyHash   : Nat
  trims       : TrimImage
  /-- Options and trims committed since the last reset of reach A or B (R511). -/
  loaded      : Bool
  /-- Main firmware chosen and running. -/
  started     : Bool
  /-- Firmware stands loaded in DRAM (R514). -/
  dramFw      : Bool
  /-- RUN_S has reached 60 since the last reset ended (R517, R518). -/
  runDone     : Bool
  /-- Bank the boot loader last started (R515). -/
  lastBank    : Nat
  /-- RUN_S (R516): ticks in RUN since the last reset ended, up to the last exit from RUN, and the tick of the last entry. -/
  runAcc      : Nat
  runFrom     : Option Nat
  /-- Tick at which PFAIL asserted (R535). -/
  pfailAt     : Option Nat
  /-- Input stage: VIN disconnected above 64 V (R531). -/
  disconnected : Bool
  /-- Reference a switch under way leads to, and its cause (R537, R538): 0 failure, 1 request. -/
  refTo       : Option (Nat × Nat)
  /-- Tick of the last temperature measurement and of the last PWR_OVERTEMP (R541, R554). -/
  tempTick    : Option Nat
  overTick    : Option Nat
  /-- The BELL and BELL_OK lands have been configured since the last reset of reach A or B (R338, R524). -/
  bellsConfigured : Bool
  deriving DecidableEq, Repr

/-- A record as a block hands it to the recorder (R484, R493). -/
structure Rec where
  code : Nat
  src  : Nat
  aon  : Bool
  p0   : W32
  p1   : W32
  p2   : W32
  p3   : W32
  deriving DecidableEq, Repr

/-- A record as the recorder numbered and stamped it (R484, R485, R493). -/
structure LogRec where
  rnum  : Nat
  code  : Nat
  src   : Nat
  flags : Nat
  time  : Nat
  p0    : W32
  p1    : W32
  p2    : W32
  p3    : W32
  crc   : W32
  deriving DecidableEq, Repr

/-- One log header copy in MRAM (R493, R494). -/
structure LogHdr where
  rnumNext : Nat
  seq      : Nat
  crcOk    : Bool
  deriving DecidableEq, Repr

/-- The event recorder (R483 to R504). -/
structure Log where
  /-- Records handed over and not yet taken into the queue. -/
  offered     : List Rec
  /-- Accepted and not yet committed, oldest first, at most 64 (R493). -/
  queue       : List LogRec
  /-- Committed records held, by RNUM (R490, R492). -/
  area        : Tab LogRec
  size        : Nat
  fixed       : Nat
  rnumNext    : Nat
  seq         : Nat
  opsec       : Nat
  pcc         : Nat
  clrCnt      : Nat
  lost        : Nat
  hdrA        : LogHdr
  hdrB        : LogHdr
  /-- OPSEC and LOG_LOST as last saved, and whether the save was made at PFAIL (R487). -/
  opsecSaved  : Nat
  savedAtPfail : Bool
  lostSaved   : Nat
  /-- Records discarded and not yet reported by LOG_DROPPED (R495, R496). -/
  dropped     : Nat
  /-- Records since the last seal, the last seal, and whether a new chain is due (R497). -/
  sealCount   : Nat
  prevSeal    : BitVec 128
  chainDue    : Bool
  /-- Bytes since the last seal, in RNUM order (R497). -/
  sealBytes   : List Byte
  /-- The opening of every chain: RNUM of its CHAIN_START seal, and the life-cycle state it was opened under (R497). -/
  chains      : List (Nat × Nat)
  /-- SEQ of the last stored sequence-form record, and OPSEC at the last stored record (LOG_FULL, R501). -/
  lastSeq     : Nat
  lastOpsec   : Nat
  /-- A TIME_MARK has been written since the start; the tick of the last one, and the last step and leap it followed (R488). -/
  marked      : Bool
  markTick    : Nat
  markStep    : Option Nat
  markLeap    : Option Nat
  /-- Tick since which whole seconds count into OPSEC; none while VIN is below UVLO (R487). -/
  opsecFrom   : Option Nat
  /-- MANUFACTURE has been left: the next start opens the log anew (R489). -/
  reopen      : Bool
  /-- FULL: LOG_FULL has been written (R491). -/
  full        : Bool
  deriving DecidableEq, Repr

/-- A register file: address and value, addresses strictly rising, no value 0. An address that is not listed reads 0
(R9). -/
abbrev RegFile := List (Nat × W32)

/-- Registers of Top whose Reset column is not 0 (R546). -/
def regResetTop : RegFile := [
  (0x00004, 0x00000001#32)]

/-- Registers of Rst whose Reset column is not 0 (R546). -/
def regResetRst : RegFile := [
  (0x10100, 0x00000001#32), (0x10200, 0x00000001#32), (0x10204, 0x0069003A#32), (0x10208, 0x00000A0A#32),
  (0x10218, 0x00008000#32)]

/-- Registers of Tim whose Reset column is not 0 (R546). -/
def regResetTim : RegFile := [
  (0x20000, 0x00010000#32), (0x20004, 0x000F0040#32), (0x20008, 0xFF0C0A00#32), (0x2000C, 0x77777777#32),
  (0x20010, 0x00080401#32), (0x20014, 0x00640064#32), (0x20018, 0x051401F4#32), (0x2001C, 0x00000025#32),
  (0x20020, 0x400186A0#32), (0x20028, 0x03E80032#32), (0x20068, 0xFFFFFFFF#32)]

/-- Registers of Mac whose Reset column is not 0 (R546). -/
def regResetMac : RegFile := [
  (0x30008, 0x000005F2#32), (0x30010, 0x007F3F00#32), (0x30020, 0x00300020#32), (0x30024, 0x00300020#32),
  (0x30028, 0x00300020#32), (0x3002C, 0x00300020#32), (0x30030, 0x00300020#32), (0x30034, 0x00300020#32),
  (0x30038, 0x00300020#32), (0x3003C, 0x00300020#32), (0x30040, 0x6052BC83#32), (0x31008, 0x000005F2#32),
  (0x31010, 0x007F3F00#32), (0x31020, 0x00300020#32), (0x31024, 0x00300020#32), (0x31028, 0x00300020#32),
  (0x3102C, 0x00300020#32), (0x31030, 0x00300020#32), (0x31034, 0x00300020#32), (0x31038, 0x00300020#32),
  (0x3103C, 0x00300020#32), (0x31040, 0x6052BC83#32), (0x32008, 0x000005F2#32), (0x32010, 0x007F3F00#32),
  (0x32020, 0x00300020#32), (0x32024, 0x00300020#32), (0x32028, 0x00300020#32), (0x3202C, 0x00300020#32),
  (0x32030, 0x00300020#32), (0x32034, 0x00300020#32), (0x32038, 0x00300020#32), (0x3203C, 0x00300020#32),
  (0x32040, 0x6052BC83#32), (0x33008, 0x000005F2#32), (0x33010, 0x007F3F00#32), (0x33020, 0x00300020#32),
  (0x33024, 0x00300020#32), (0x33028, 0x00300020#32), (0x3302C, 0x00300020#32), (0x33030, 0x00300020#32),
  (0x33034, 0x00300020#32), (0x33038, 0x00300020#32), (0x3303C, 0x00300020#32), (0x33040, 0x6052BC83#32),
  (0x34008, 0x000005F2#32), (0x34010, 0x007F3F00#32), (0x34020, 0x000C0008#32), (0x34024, 0x000C0008#32),
  (0x34028, 0x000C0008#32), (0x3402C, 0x000C0008#32), (0x34030, 0x000C0008#32), (0x34034, 0x000C0008#32),
  (0x34038, 0x000C0008#32), (0x3403C, 0x000C0008#32), (0x340A0, 0x80000000#32), (0x35008, 0x000005F2#32),
  (0x35010, 0x007F3F00#32), (0x35020, 0x000C0008#32), (0x35024, 0x000C0008#32), (0x35028, 0x000C0008#32),
  (0x3502C, 0x000C0008#32), (0x35030, 0x000C0008#32), (0x35034, 0x000C0008#32), (0x35038, 0x000C0008#32),
  (0x3503C, 0x000C0008#32), (0x350A0, 0x80000000#32), (0x36008, 0x000005F2#32), (0x360A0, 0x80000000#32)]

/-- Registers of Ing whose Reset column is not 0 (R546). -/
def regResetIng : RegFile := [
  (0x40000, 0x0003C300#32)]

/-- Registers of Aln whose Reset column is not 0 (R546). -/
def regResetAln : RegFile := [
  (0x50000, 0x00000100#32), (0x50008, 0x000B000B#32), (0x5000C, 0x000007D0#32), (0x50010, 0x00009C40#32),
  (0x50014, 0x00190532#32), (0x50018, 0x00003A98#32), (0x50020, 0x000000C8#32), (0x50024, 0x00000200#32),
  (0x50028, 0x20000000#32), (0x5002C, 0x000927C0#32), (0x50640, 0x00000C00#32), (0x50C00, 0x01000000#32),
  (0x50C0C, 0x0A191E14#32), (0x50C10, 0x0000050F#32)]

/-- Registers of Flt whose Reset column is not 0 (R546). -/
def regResetFlt : RegFile := [
  (0x60000, 0x00FF0000#32), (0x60004, 0x007FCF00#32), (0x60010, 0x00320000#32), (0x60014, 0x00320000#32),
  (0x60018, 0x00320000#32), (0x6001C, 0x00320000#32), (0x60020, 0x00320030#32), (0x60024, 0x00320030#32),
  (0x60028, 0x00320030#32), (0x6002C, 0x00320030#32), (0x60030, 0x3F800000#32), (0x60034, 0x3F800000#32),
  (0x60038, 0x3F800000#32), (0x6003C, 0x3F800000#32), (0x60040, 0x3F800000#32), (0x60044, 0x3F800000#32),
  (0x60048, 0x3F800000#32), (0x6004C, 0x3F800000#32), (0x60050, 0x3F800000#32), (0x60054, 0x3F800000#32),
  (0x60100, 0x0003C641#32), (0x60104, 0x00000F00#32), (0x60200, 0x00000020#32), (0x60400, 0x00000101#32)]

/-- Registers of Nrg whose Reset column is not 0 (R546). -/
def regResetNrg : RegFile := [
  (0x70000, 0x00320000#32), (0x70008, 0x000001F4#32), (0x7000C, 0x3FC00000#32), (0x70010, 0x3FC00000#32),
  (0x70014, 0x00000001#32), (0x70400, 0x18002800#32), (0x70404, 0xFFFFFFFF#32), (0x70408, 0x18002800#32),
  (0x7040C, 0xFFFFFFFF#32), (0x70410, 0x18002800#32), (0x70414, 0xFFFFFFFF#32), (0x70418, 0x18002800#32),
  (0x7041C, 0xFFFFFFFF#32)]

/-- Registers of Mod whose Reset column is not 0 (R546). -/
def regResetMod : RegFile := [
  (0x80000, 0x0000001E#32), (0x80004, 0x00000001#32), (0x80008, 0x18000A28#32), (0x8000C, 0x12C41E32#32),
  (0x80010, 0x003207D0#32), (0x80014, 0x003207D0#32), (0x80018, 0x006403E8#32), (0x8001C, 0x00001388#32),
  (0x80020, 0x000007D0#32), (0x80024, 0x000003E8#32), (0x80028, 0x000000FA#32), (0x8002C, 0x00000032#32),
  (0x80030, 0x801E0014#32)]

/-- Registers of Isl whose Reset column is not 0 (R546). -/
def regResetIsl : RegFile := [
  (0x90000, 0x03FF001E#32), (0x90008, 0x1E1E3141#32), (0x9000C, 0x460A0640#32), (0x90010, 0x5006442C#32),
  (0x90014, 0x14140A30#32), (0x90018, 0x0000000C#32)]

/-- Registers of Grd whose Reset column is not 0 (R546). -/
def regResetGrd : RegFile := [
  (0xA0000, 0x00000200#32), (0xA0048, 0x00030000#32), (0xA004C, 0x000000C8#32)]

/-- Registers of Tdm whose Reset column is not 0 (R546). -/
def regResetTdm : RegFile := [
  (0xB0000, 0x00030100#32), (0xB0008, 0x012C0008#32), (0xB000C, 0x00A007D0#32), (0xB0010, 0x0FFE0FFF#32)]

/-- Registers of Rad whose Reset column is not 0 (R546). -/
def regResetRad : RegFile := [
  (0xC0000, 0x00000038#32), (0xC0008, 0x00001442#32), (0xC000C, 0x0000FFFF#32), (0xC0018, 0x000007D0#32),
  (0xC0020, 0xFFFFFFFF#32), (0xC0024, 0xFFFFFFFF#32), (0xC0030, 0xFFFFFFFF#32), (0xC0034, 0xFFFFFFFF#32),
  (0xC0040, 0x32284168#32), (0xC0044, 0x00000011#32), (0xC0048, 0x09080706#32)]

/-- Registers of Hst whose Reset column is not 0 (R546). -/
def regResetHst : RegFile := [
  (0xD0000, 0xA0001E03#32), (0xD0004, 0x00000F00#32), (0xD000C, 0x0A0A0F19#32), (0xD0010, 0x0A0A0A0A#32),
  (0xD0140, 0x00000008#32), (0xD0150, 0x00000008#32), (0xD0160, 0x00000008#32), (0xD0170, 0x00000008#32),
  (0xD80D0, 0x00400000#32), (0xD8150, 0x00400000#32), (0xD84D0, 0x00400000#32), (0xD8550, 0x00400000#32),
  (0xD88D0, 0x00400000#32), (0xD8950, 0x00400000#32), (0xD8CD0, 0x00400000#32), (0xD8D50, 0x00400000#32),
  (0xD90D0, 0x00400000#32), (0xD9150, 0x00400000#32), (0xD94D0, 0x00400000#32), (0xD9550, 0x00400000#32),
  (0xD98D0, 0x00400000#32), (0xD9950, 0x00400000#32), (0xD9CD0, 0x00400000#32), (0xD9D50, 0x00400000#32)]

/-- Registers of Key whose Reset column is not 0 (R546). -/
def regResetKey : RegFile := [
  (0xE0100, 0x0AC000F0#32)]

/-- Registers of Log whose Reset column is not 0 (R546). -/
def regResetLog : RegFile := [
  (0xF0000, 0x003C0100#32), (0xF0004, 0x00000010#32)]

/-- The register file at the end of a reset of reach A or B on IDN8400-W9 (R546). -/
def regReset : RegFile :=
  regResetTop ++ regResetRst ++ regResetTim ++ regResetMac ++ regResetIng ++ regResetAln ++ regResetFlt ++ regResetNrg ++ regResetMod ++ regResetIsl ++ regResetGrd ++ regResetTdm ++ regResetRad ++ regResetHst ++ regResetKey ++ regResetLog

/-- What the device sends or drives, newest first: a frame on a port, a radio frame, a tandem message, a pulse edge.
The model's own record of its outputs (notes/assumptions/7.md). -/
structure Emit where
  /-- Port of R88; 7 the radio, 8 the tandem lane, 9 lands, 10 a PCIe message. -/
  port : Nat
  /-- What it is: a value of `EmitKind` in Machine/Ops.lean. -/
  kind : Nat
  /-- Bytes of a frame body whose layout the spec gives, otherwise its fields in order. -/
  body : List Nat
  deriving DecidableEq, Repr

/-- The whole block but the key block and the queue. -/
structure Block where
  regs    : RegFile
  /-- Copies of the window words and RL groups of each accessor: PCIe function f at f, session s at 4 + s, firmware
  at 12 (R444, R570). -/
  acc     : List RegFile
  ldg     : Ldg
  tim     : Tim
  ports   : List Port
  ing     : Ing
  aln     : Aln
  flt     : Flt
  nrg     : Nrg
  mod     : Mod
  isl     : Isl
  grd     : Grd
  tdm     : Tdm
  rad     : Rad
  hst     : Hst
  top     : Top
  log     : Log
  tx      : List Emit
  /-- THE MODEL'S OWN: the next free value (notes/assumptions/3.md). -/
  freeCtr : Nat
  deriving DecidableEq, Repr

/-- The state: the queue of waiting commands, the key block and everything else. -/
structure State where
  pending : List Instr
  key     : Key
  b       : Block
  deriving DecidableEq, Repr

/-- Why a command stops with a fault: no command of this block does (every row has an effect in the spec). -/
inductive Fault where
  /-- Raised by nothing; safe. The type must not be empty for the host's interface. -/
  | unreachable
  deriving DecidableEq, Repr

/-- Why a command is refused. -/
inductive Refusal where
  /-- Raised by an arm of `exec` whose command has no meaning yet; safe. -/
  | notModelled (mnemonic : String)
  deriving DecidableEq, Repr

/-! ### After reset -/

/-- A source with nothing heard. -/
def TimSrc.none : TimSrc := ⟨false, 0, Option.none, 0, Option.none⟩

def Ldg.reset : Ldg := { raise := false, raiseSlot := none, pendA := none, pendB := none, shareA := 0x0A191E14#32, shareB := 0x0000050F#32 }

def Tim.reset : Tim :=
  { sec := 0, ns := 0, frac := 0, mono := 0, integ := ⟨0, 1⟩, y := ⟨0, 1⟩, srcs := List.replicate 8 .none, nGood := 0, nOut := 0,
    stepRun := [], last8 := [], last64 := [], sampleAt := 0, e0 := ⟨0, 1⟩, y0 := ⟨0, 1⟩, freeAt := 0, exitBound := 0,
    lockedOnce := false, lockTai := none, leftLock := none, switchAt := none, stepAt := none, stepDue := none, slewing := false,
    todArmed := false, leapAt := none, ppsOut := none, pdelay := List.replicate 7 0, pdelayReq := List.replicate 7 none, rseq := 0 }

def Port.reset : Port :=
  { pools := List.replicate 8 0, pausing := List.replicate 8 false, pauseAt := List.replicate 8 0, heldTo := List.replicate 8 0,
    heldFrom := List.replicate 8 0, cnt := List.replicate 19 0, strangers := [], dwell := 0, steadyAt := 0, reneg := none,
    hiCross := false, dup := [], frags := [], pn := 0, secFail := none }

def Ing.reset : Ing := { spokes := [], decayAt := 0 }

def OutSet.free : OutSet :=
  { state := 0, autostart := false, prio := 0, idcode := 0, ext := false, div := 0, format := 0, ip := 0, dataPort := 0, cmdPort := 0,
    amendPort := 0, pcp := 0, vlan := 0, port := 0, cfgcnt := 0, cfg2Ref := 0, entries := [], changedUntil := 0, amendDue := [], amendAt := [] }

def Bay.free : Bay :=
  { state := 0, trigger := 0, mask := 0, pre := 0, post := 0, timeAt := 0, sizeMib := 0, trigS := 0, gap := false, rows := [], missing := 0,
    signed := false, signature := 0 }

def Aln.reset : Aln :=
  { slots := [], closed := 0, lastC := 0, lastD := 0, lastS := none, w := 40000, wSet := false, lostS := 0, lastWRec := none, lastBound := 0, cadPend := [],
    outs := List.replicate 16 .free, outPend := List.replicate 16 none, bays := List.replicate 8 .free, runs := [], aseq := 0, rseq := 0,
    stepClosed := 0, stepDropped := 0, stepLast := none, frozenAt := none, flChans := [] }

def ThrUnit.reset : ThrUnit := { cfg0 := 0, cfg1 := 0, cfg2 := 0x00010001#32, on := false, seen := false, recs := 0, recSec := 0 }

def Flt.reset : Flt :=
  { units := List.replicate 32 .reset, settle := List.replicate 9 none, settleSeen := false, clipSeen := false,
    rot := none, nextCh := 0, queued := none, rotAt := 0, barred := [], swapCh := none, ramps := [],
    l0Failed := false, l0At := 0, test := none, cal := none, classNow := 0, classAt := none, rseq := 0 }

def Pulse.reset : Pulse := { queue := 0, base := 0, given := 0, highTo := none, lowTo := 0, dropped := 0, dropSec := 0 }

def Nrg.reset : Nrg :=
  { accs := List.replicate 32 0, lsbSh := 0, cycles := 0, latchN := 50, latchDue := false, crossAt := 0, perTime := false, perSubst := false, perNoload := 0,
    prev := List.replicate 3 (⟨0, 1⟩, ⟨0, 1⟩, ⟨0, 1⟩), substRun := [0, 0, 0], lastPower := ⟨0, 1⟩, evNoload := 0, evSubst := false, exported := false,
    pulses := List.replicate 4 .reset, slot0 := none, slot1 := none, newest := 0, saveSeq := 0, saveAt := 0, startReach := 0, rseq := 0 }

def Mod.reset : Mod :=
  { chans := [], watches := [], branches := [], locs := [], locSeq := 0, locLast := none, foundAt := none, screened := 0, shedEp := false, resumeAt := none,
    modalShed := false, hitRecs := 0, hitSec := 0, saved := [], cfgWatches := [], cfgBranches := [], rseq := 0 }

def Island.free : Island :=
  { state := 0, members := [], count := 0, id := 0, firstS := 0, cause := 0, unmatched := 0, deadRun := 0, mergeRun := 0, degraded := false,
    blocked := false, meanF := none, df := none, da := none, dv := none, adv := none, tClose := none, seq := 0 }

def Isl.reset : Isl :=
  { stations := [], ties := [], gooses := [], pending := [], entries := List.replicate 16 .free, nextId := 1, trigS := none, trigAreas := [],
    blocking := false, dipS := none, jumpS := none, trigFirst := (0, 0), splitAreas := [], newIsland := false, refUnobs := false, noRef := false, backup := false,
    tqWorst := 0, lastEval := 0, items := 0, qc := [], lomVs := ⟨false, 0, 0, 0⟩, lomRocof := ⟨false, 0, 0, 0⟩, lomBlockTo := 0, rseq := 0 }

def EngState.reset : EngState := { recs := [], fwd := [], misses := 0, okAt := 0, missS := none }

def Bell.reset : Bell :=
  { on := false, logic := false, trueFrom := none, falseFrom := none, fs := false, fsEngine := 0, release := 0, drive := false }

def Grd.reset : Grd :=
  { gsp := none, gspDig := 0, copyA := none, copyB := none, inForceA := false, mramFloor := 0, checking := [], accepted := none,
    engines := List.replicate 9 .reset, sched := [], used := List.replicate 9 none, bells := List.replicate 8 .reset, asserted := [],
    bellOk := false, gateOpen := false, kickAt := none, wdtStage := 0, wdtFrom := none, wdtWait := false, wdtFired := false,
    lockstepOk := true, lockup := none, bseq := 0, stNum := 0, sqNum := 0, gooseData := [], gooseNext := 0, gooseOff := 0, gooseTai := 0,
    breach := false, lastBells := none, restart := false, lastS := 0 }

def Tdm.reset : Tdm :=
  { edgeAt := 0, absentAt := 0, claimAt := 0, lockTo := none, enNow := false, hbSeen := false, hbLast := 0, hbSent := 0, pPrefer := false,
    pMac := 0, pIslFresh := false, pKat := 0, partnerLost := false, partnerFailed := false, bothKatFail := false, catchAt := 0,
    retryAt := none, stage1 := false, stage2 := false, matchFrom := 0, compared := false, lastCmp := 0, incRun := 0, pIncRun := 0, incSecN := 0,
    incSec := 0, lastInc := false, incAt := none, shortFrom := none, katAt := 0, katOwn := 0, katPart := 0, handDue := false,
    takeSent := false, slowLeft := false, closedSince := 0, relays := [], rseq := 0 }

def Rad.reset : Rad :=
  { entries := [], sfn := 0, origin := 0, started := false, chan := 0, used := [], classes := [], held := false, heldAt := none, dutyRec := none,
    mapPend := none, ackmap := 0, acknow := 0, rxSlot := none, downlink := [], dlSeq := 0, uses := [], dueNow := 0, failNow := 0, excised := [],
    duty := [], dropAt := none, driftAt := none, saved := [], savedFc := 0, savedAt := 0, sinceFc := 0, beaconed := false, lead := false,
    lastTo := none, handFrom := none, heard := false, missed := 0, capFc := none, capSfn := 0, changed := [], rseq := 0 }

def KeySlot.empty : KeySlot :=
  { state := 0, engine := 0, alg := 0, origin := 0, ephemeral := false, gen := 0, secret := 0, pub := 0, ckn := 0, created := 0, mf := 0, owner := 0 }

def Key.reset : Key :=
  { lcs := 0, lcsA := some 0, lcsB := some 0, slots := List.replicate 64 .empty, store := [], duk := none, helperA := false, helperB := false,
    pufOk := false, pufFail := false, pufTries := 0, storeOk := false, tseq := 0, pend := false, acked := 0, withheld := false, latch := 0,
    live := 0, armed := 0xFF, meshFails := 0, m1 := 0, mf := 0, devId := 0, aliasDoc := [], draws := 0 }

def Pannier.empty : Pannier := { size := 72, wp := 0, rp := 0, fp := 0, mark := none, cells := [], result := 0 }

def Session.closed : Session :=
  { state := 0, roles := 0, proved := 0x1F, cmdSz := 0, rplSz := 0, evtSz := 0, peerIp := 0, peerPort := 0, mgt := 0, cellBuf := List.replicate 16 0, staged := [],
    overrun := false, cellLost := false, cmdHeld := 0, taken := [], pending := [], done := [], rpl := .empty, evt := .empty, jobs := [], subs := [],
    outStage := none, gspStage := none, fwStage := none, rxCtr := 0, txCtr := 0, sessKey := 0, lastAuth := 0, lastFail := none }

def Hst.reset : Hst := { sessions := List.replicate 8 .closed, holder := none, leaseEnd := 0, leaseS := 0 }

def TrimImage.defaults : TrimImage := { mods := List.replicate 9 (0, 0), deflt := 0x1FF }

/-- A trim image whose nine modulators are calibrated (notes/assumptions/6.md). -/
def TrimImage.good : TrimImage := { mods := List.replicate 9 (0, 0), deflt := 0 }

def Top.reset : Top :=
  { variant := .w9, strapBoot := false, strapRef := false, strapPrefer := false, rstRun := none, resetNLow := false, mramNomf := none,
    mramBank := 0, mramFloor := 0, mramFsc := 0, optA := some ⟨false, 0⟩, optB := some ⟨false, 0⟩, trimA := some .good, trimB := some .good, dbgLock := true, fwKeyHash := 0,
    trims := .defaults, loaded := false, started := false, dramFw := false, runDone := false, lastBank := 0, runAcc := 0, runFrom := none, pfailAt := none,
    disconnected := false, refTo := none, tempTick := none, overTick := none, bellsConfigured := false }

def Log.reset : Log :=
  { offered := [], queue := [], area := [], size := 16384, fixed := 1024, rnumNext := 0, seq := 0, opsec := 0, pcc := 0, clrCnt := 0, lost := 0,
    hdrA := ⟨0, 0, true⟩, hdrB := ⟨0, 0, true⟩, opsecSaved := 0, savedAtPfail := false, lostSaved := 0, dropped := 0, sealCount := 0,
    prevSeal := 0, chainDue := true, sealBytes := [], chains := [], lastSeq := 0, lastOpsec := 0,
    marked := false, markTick := 0, markStep := none, markLeap := none, opsecFrom := some 0, reopen := false, full := false }

def Block.reset : Block :=
  { regs := regReset, acc := List.replicate 13 [(0x6030C, 0x00010001#32)], ldg := .reset, tim := .reset, ports := List.replicate 7 .reset, ing := .reset, aln := .reset,
    flt := .reset, nrg := .reset, mod := .reset, isl := .reset, grd := .reset, tdm := .reset, rad := .reset, hst := .reset, top := .reset,
    log := .reset, tx := [], freeCtr := 0 }

/-- The machine right after reset: the Reset column of every register (R546), nothing defined, no session, every key slot
EMPTY, the queue empty. What the spec gives no reset value for stands in notes/assumptions/6.md. -/
def State.reset : State := { pending := [], key := .reset, b := .reset }

end Sys2Proof.Machine
end

