-- ==== Sys2Proof/Machine/Ops.lean ====
section
/-!
DEFINITION. The shared operations: fields of registers, the register file, sparse tables, time, numbers, bytes, records,
evidence and outputs. Every meaning is written over these.
-/
namespace Sys2Proof

/-! ### Exact numbers -/

/-- A fraction in lowest terms. -/
def Q.norm (n : Int) (d : Nat) : Q :=
  let g := Nat.gcd n.natAbs d
  if g = 0 then ⟨0, 1⟩ else ⟨n / (g : Int), d / g⟩

def Q.ofInt (n : Int) : Q := ⟨n, 1⟩
def Q.ofNat (n : Nat) : Q := ⟨(n : Int), 1⟩
def Q.zero : Q := ⟨0, 1⟩
def Q.add (a b : Q) : Q := Q.norm (a.num * b.den + b.num * a.den) (a.den * b.den)
def Q.neg (a : Q) : Q := ⟨-a.num, a.den⟩
def Q.sub (a b : Q) : Q := a.add b.neg
def Q.mul (a b : Q) : Q := Q.norm (a.num * b.num) (a.den * b.den)
/-- Division; 0 by 0. -/
def Q.div (a b : Q) : Q :=
  if b.num = 0 then Q.zero
  else Q.norm (a.num * b.den * (if b.num < 0 then -1 else 1)) (a.den * b.num.natAbs)
def Q.abs (a : Q) : Q := ⟨(a.num.natAbs : Int), a.den⟩
def Q.lt (a b : Q) : Bool := decide (a.num * b.den < b.num * a.den)
def Q.le (a b : Q) : Bool := decide (a.num * b.den ≤ b.num * a.den)
def Q.max (a b : Q) : Q := if a.lt b then b else a
def Q.min (a b : Q) : Q := if a.lt b then a else b
/-- Clamped to a range. -/
def Q.clamp (lo hi a : Q) : Q := Q.max lo (Q.min hi a)
/-- The greatest integer not above. -/
def Q.floor (a : Q) : Int := a.num / (a.den : Int)
/-- The least integer not below. -/
def Q.ceil (a : Q) : Int := -((-a.num) / (a.den : Int))
/-- The nearest integer, a half away from the lower one. -/
def Q.round (a : Q) : Int := (2 * a.num + a.den) / ((2 * a.den : Nat) : Int)
/-- 2 to a power. -/
def Q.pow2 (e : Int) : Q := if e < 0 then ⟨1, 2 ^ e.natAbs⟩ else ⟨((2 ^ e.natAbs : Nat) : Int), 1⟩

end Sys2Proof

namespace Sys2Proof.Machine

/-! ### Fields of a register -/

/-- Bits `hi` to `lo` of a register. -/
def bits (v : W32) (hi lo : Nat) : Nat := (v.toNat >>> lo) % 2 ^ (hi + 1 - lo)

/-- The bits `hi` to `lo` as a mask. -/
def fieldMask (hi lo : Nat) : W32 := BitVec.ofNat 32 ((2 ^ (hi + 1 - lo) - 1) <<< lo)

/-- The register with its bits `hi` to `lo` set to `n`. -/
def putBits (v : W32) (hi lo n : Nat) : W32 :=
  (v &&& ~~~(fieldMask hi lo)) ||| (BitVec.ofNat 32 (n <<< lo) &&& fieldMask hi lo)

/-! ### The register file -/

/-- The value of a register; 0 where nothing is listed (R9). -/
def RegFile.get : RegFile → Nat → W32
  | [], _ => 0
  | (k, v) :: r, a => if k = a then v else RegFile.get r a

/-- The file without an address. -/
def RegFile.erase : RegFile → Nat → RegFile
  | [], _ => []
  | (k, v) :: r, a => if k = a then RegFile.erase r a else (k, v) :: RegFile.erase r a

/-- An entry put in its place by address. -/
def RegFile.insert (a : Nat) (v : W32) : RegFile → RegFile
  | [] => [(a, v)]
  | (k, w) :: r => if a < k then (a, v) :: (k, w) :: r else (k, w) :: RegFile.insert a v r

/-- The file with a register set; a register set to 0 is not listed. -/
def RegFile.set (r : RegFile) (a : Nat) (v : W32) : RegFile :=
  if v = 0 then r.erase a else RegFile.insert a v (r.erase a)

/-- The canonical form: addresses strictly rising, no entry 0. -/
def RegFile.wf : RegFile → Bool
  | [] => true
  | [(_, v)] => v != 0
  | (k, v) :: (k', v') :: r => v != 0 && (decide (k < k') && RegFile.wf ((k', v') :: r))

/-! The block with one of its structures changed. -/

def Block.modLdg (b : Block) (f : Ldg → Ldg) : Block := { b with ldg := f b.ldg }
def Block.modTim (b : Block) (f : Tim → Tim) : Block := { b with tim := f b.tim }
def Block.modIng (b : Block) (f : Ing → Ing) : Block := { b with ing := f b.ing }
def Block.modAln (b : Block) (f : Aln → Aln) : Block := { b with aln := f b.aln }
def Block.modFlt (b : Block) (f : Flt → Flt) : Block := { b with flt := f b.flt }
def Block.modNrg (b : Block) (f : Nrg → Nrg) : Block := { b with nrg := f b.nrg }
def Block.modMod (b : Block) (f : Mod → Mod) : Block := { b with mod := f b.mod }
def Block.modIsl (b : Block) (f : Isl → Isl) : Block := { b with isl := f b.isl }
def Block.modGrd (b : Block) (f : Grd → Grd) : Block := { b with grd := f b.grd }
def Block.modTdm (b : Block) (f : Tdm → Tdm) : Block := { b with tdm := f b.tdm }
def Block.modRad (b : Block) (f : Rad → Rad) : Block := { b with rad := f b.rad }
def Block.modHst (b : Block) (f : Hst → Hst) : Block := { b with hst := f b.hst }
def Block.modTop (b : Block) (f : Top → Top) : Block := { b with top := f b.top }
def Block.modLog (b : Block) (f : Log → Log) : Block := { b with log := f b.log }

/-- A register. -/
def Block.rd (b : Block) (a : Nat) : W32 := b.regs.get a

/-- The block with a register written. -/
def Block.wr (b : Block) (a : Nat) (v : W32) : Block := { b with regs := b.regs.set a v }

/-- A field. -/
def Block.fld (b : Block) (f : Fld) : Nat := bits (b.rd f.addr) f.hi f.lo

/-- A one-bit field is 1. -/
def Block.flag (b : Block) (f : Fld) : Bool := b.fld f != 0

/-- The block with a field written. -/
def Block.put (b : Block) (f : Fld) (n : Nat) : Block := b.wr f.addr (putBits (b.rd f.addr) f.hi f.lo n)

/-- The block with a one-bit field written. -/
def Block.putFlag (b : Block) (f : Fld) (v : Bool) : Block := b.put f v.toNat

/-- A counter raised by `k`, saturating at 0xFFFF_FFFF. -/
def Block.bumpBy (b : Block) (a k : Nat) : Block := b.wr a (BitVec.ofNat 32 (min 0xFFFFFFFF ((b.rd a).toNat + k)))

/-- A counter raised by 1, saturating. -/
def Block.bump (b : Block) (a : Nat) : Block := b.bumpBy a 1

/-- A 64-bit value over two registers, low word first. -/
def Block.wr64 (b : Block) (lo : Nat) (v : Nat) : Block :=
  (b.wr lo (BitVec.ofNat 32 v)).wr (lo + 4) (BitVec.ofNat 32 (v >>> 32))

/-- Words written to consecutive registers. -/
def Block.wrWords (b : Block) (a : Nat) : List W32 → Block
  | [] => b
  | w :: ws => Block.wrWords (b.wr a w) (a + 4) ws

/-! ### Copies of the accessors (R444, R570) -/

/-- Index of the firmware's copies. -/
abbrev accFw : Nat := 12

/-- Index of session `s`'s copies; PCIe function `f` has index `f`. -/
def accOf (session : Nat) : Nat := 4 + session

/-- The session an accessor acts for: function f for session f (R420); firmware none. -/
def sessionOf (acc : Nat) : Option Nat := if acc < 4 then some acc else if acc < 12 then some (acc - 4) else none

/-- An accessor's copies. -/
def Block.copies (b : Block) (acc : Nat) : RegFile := b.acc.getD acc []

/-- A word of an accessor's copies. -/
def Block.ard (b : Block) (acc a : Nat) : W32 := (b.copies acc).get a

/-- A field of an accessor's copies. -/
def Block.afld (b : Block) (acc : Nat) (f : Fld) : Nat := bits (b.ard acc f.addr) f.hi f.lo

/-- A word of an accessor's copies written. -/
def Block.awr (b : Block) (acc a : Nat) (v : W32) : Block :=
  { b with acc := b.acc.set acc ((b.copies acc).set a v) }

/-- A field of an accessor's copies written. -/
def Block.aput (b : Block) (acc : Nat) (f : Fld) (n : Nat) : Block :=
  b.awr acc f.addr (putBits (b.ard acc f.addr) f.hi f.lo n)

/-- Consecutive words of an accessor's copies. -/
def Block.ards (b : Block) (acc a n : Nat) : List W32 := (List.range n).map fun i => b.ard acc (a + 4 * i)

/-- Consecutive words of an accessor's copies written. -/
def Block.awrs (b : Block) (acc a : Nat) : List W32 → Block
  | [] => b
  | w :: ws => Block.awrs (b.awr acc a w) acc (a + 4) ws

/-! ### Sparse tables -/

/-- The value at a key. -/
def tabGet {α : Type} : Tab α → Nat → Option α
  | [], _ => none
  | (k, v) :: r, i => if k = i then some v else tabGet r i

/-- The table without a key. -/
def tabDel {α : Type} : Tab α → Nat → Tab α
  | [], _ => []
  | (k, v) :: r, i => if k = i then tabDel r i else (k, v) :: tabDel r i

/-- An entry put in its place by key. -/
def tabIns {α : Type} (i : Nat) (x : α) : Tab α → Tab α
  | [] => [(i, x)]
  | (k, v) :: r => if i < k then (i, x) :: (k, v) :: r else (k, v) :: tabIns i x r

/-- The table with a key set. -/
def tabSet {α : Type} (t : Tab α) (i : Nat) (x : α) : Tab α := tabIns i x (tabDel t i)

/-- The table with a key's value changed where it is present. -/
def tabMod {α : Type} (t : Tab α) (i : Nat) (f : α → α) : Tab α := t.map fun e => if e.1 = i then (e.1, f e.2) else e

/-! ### Lists -/

/-- The list with element `i` changed. -/
def modAt {α : Type} : List α → Nat → (α → α) → List α
  | [], _, _ => []
  | x :: r, 0, f => f x :: r
  | x :: r, i + 1, f => x :: modAt r i f

/-- A number put into a strictly rising list. -/
def insNat (n : Nat) : List Nat → List Nat
  | [] => [n]
  | m :: r => if n = m then m :: r else if n < m then n :: m :: r else m :: insNat n r

/-- The numbers of the bits set in `n`, among bits 0 to `w` − 1. -/
def bitsSet (n w : Nat) : List Nat := (List.range w).filter n.testBit

/-- The number with the bits of a list set. -/
def maskOf (l : List Nat) : Nat := l.foldl (fun a i => a ||| (1 <<< i)) 0

/-! ### Time: ticks of 8 ns -/

/-- Ticks in 1 µs, 1 ms and 1 s (R49). -/
abbrev tickUs : Nat := 125
abbrev tickMs : Nat := 125000
abbrev tickS : Nat := 125000000

/-- Elapsed time since power-up. -/
def Block.now (b : Block) : Nat := b.tim.mono

/-- TAI as an absolute count of ticks (R49). -/
def Block.tai (b : Block) : Nat := b.tim.sec * tickS + b.tim.ns / 8

/-- Linear time of a tick (R49). -/
def lt48 (t : Nat) : LT48 := BitVec.ofNat 48 t

/-- LT48[31:0] of a tick. -/
def lt32 (t : Nat) : Nat := t % 2 ^ 32

/-- At least `d` ticks have passed since tick `t`. -/
def Block.since (b : Block) (t d : Nat) : Bool := t + d ≤ b.now

/-- At least `d` ticks have passed since an optional tick; true of none. -/
def Block.sinceOpt (b : Block) (t : Option Nat) (d : Nat) : Bool :=
  match t with
  | none => true
  | some u => b.since u d

/-- An event of the last `d` ticks. -/
def Block.within (b : Block) (t : Option Nat) (d : Nat) : Bool :=
  match t with
  | none => false
  | some u => decide (b.now < u + d)

/-- The TAI tick `t` lies in the first `d` ticks after the last leap. -/
def Block.afterLeap (b : Block) (t d : Nat) : Bool :=
  match b.tim.leapAt with
  | none => false
  | some u => decide (u ≤ t ∧ t < u + d)

/-- An integer clamped to a range. -/
def clampInt (lo hi n : Int) : Int := max lo (min hi n)

/-- A natural number clamped to a range. -/
def clampNat (lo hi n : Nat) : Nat := max lo (min hi n)

/-- A signed quantity as a 32-bit register. -/
def s32 (n : Int) : Nat := (BitVec.ofInt 32 n).toNat

/-- An angle brought into −180° to just below +180°. -/
def wrap180 (a : Q) : Q :=
  let k := (Q.div (a.add (Q.ofInt 180)) (Q.ofInt 360)).floor
  a.sub (Q.ofInt (360 * k))

/-- The value of an IEEE 754 single; none for an infinity or a NaN. -/
def singleQ (w : W32) : Option Q :=
  let e := bits w 30 23
  let m := bits w 22 0
  let s : Int := if bits w 31 31 = 1 then -1 else 1
  if e = 255 then none
  else if e = 0 then some (Q.mul (Q.ofInt (s * m)) (Q.pow2 (-149)))
  else some (Q.mul (Q.ofInt (s * (m + 2 ^ 23))) (Q.pow2 ((e : Int) - 150)))

/-- The single that holds a fraction exactly; `Config.roundSingle` where none does (notes/assumptions/4.md). -/
def toSingle (q : Q) : W32 :=
  if q.num = 0 then 0
  else
    let s := if q.num < 0 then 2 ^ 31 else 0
    let m := q.num.natAbs
    let k := Nat.log2 q.den
    let l := Nat.log2 m
    let e : Int := (l : Int) - k
    if 2 ^ k ≠ q.den then Config.roundSingle q
    else if 127 < e then Config.roundSingle q
    else if -126 ≤ e then
      if l ≤ 23 then BitVec.ofNat 32 (s + (e + 127).toNat * 2 ^ 23 + (m * 2 ^ (23 - l) - 2 ^ 23))
      else if m % 2 ^ (l - 23) = 0 then BitVec.ofNat 32 (s + (e + 127).toNat * 2 ^ 23 + (m / 2 ^ (l - 23) - 2 ^ 23))
      else Config.roundSingle q
    else if k ≤ 149 then BitVec.ofNat 32 (s + m * 2 ^ (149 - k))
    else Config.roundSingle q

/-- The quiet NaN with no payload; the model's choice of a NaN (notes/assumptions/8.md). -/
def nanW : W32 := 0x7FC00000#32

/-- An optional fraction as a single: NaN when there is none. -/
def optSingle : Option Q → W32
  | none => nanW
  | some q => toSingle q

/-! ### Bytes: big-endian (R8) -/

/-- The low `n` bytes of a number, most significant first. -/
def beBytes : Nat → Nat → List Byte
  | 0, _ => []
  | n + 1, v => BitVec.ofNat 8 (v >>> (8 * n)) :: beBytes n v

/-- The number a list of bytes spells. -/
def beNat (l : List Byte) : Nat := l.foldl (fun a x => a * 256 + x.toNat) 0

/-- Registers as bytes. -/
def wordBytes (l : List W32) : List Byte := l.flatMap fun w => beBytes 4 w.toNat

/-- Bytes `i` to `i + n − 1`. -/
def slice {α : Type} (l : List α) (i n : Nat) : List α := (l.drop i).take n

/-- One byte through a reflected CRC-32 register of polynomial `poly`. -/
def crcByte (poly : W32) (c : W32) (x : Byte) : W32 :=
  (List.range 8).foldl (fun c _ => if c.getLsbD 0 then (c >>> 1) ^^^ poly else c >>> 1) (c ^^^ x.setWidth 32)

/-- CRC-32C (Castagnoli), with its usual parameters (notes/assumptions/9.md). -/
def crc32c (l : List Byte) : W32 := ~~~(l.foldl (crcByte 0x82F63B78#32) 0xFFFFFFFF#32)

/-! ### Free values (notes/assumptions/3.md) -/

/-- A free 64-bit value and the block that has used it. -/
def Block.free (b : Block) : W64 × Block := (Config.freeValue b.freeCtr, { b with freeCtr := b.freeCtr + 1 })

/-! ### Records handed to the recorder (R484, R493) -/

/-- The agent that writes a record: the guard cores for family 0x0A, the key block for 0x0E, else the firmware cores. -/
def recSource (code : Nat) : Nat := if code / 256 = 0x0A then 2 else if code / 256 = 0x0E then 4 else 1

/-- A record offered to the recorder by a named agent. -/
def Block.recBy (b : Block) (src : Nat) (aon : Bool) (code p0 p1 p2 p3 : Nat) : Block :=
  (b.modLog fun u => { u with offered := b.log.offered ++
      [⟨code, src, aon, BitVec.ofNat 32 p0, BitVec.ofNat 32 p1, BitVec.ofNat 32 p2, BitVec.ofNat 32 p3⟩] })

/-- A record offered to the recorder by its block. -/
def Block.note (b : Block) (code : Nat) (p0 p1 p2 p3 : Nat := 0) : Block := b.recBy (recSource code) false code p0 p1 p2 p3

/-! ### Outputs -/

/-- Something sent or driven. -/
def Block.emit (b : Block) (port kind : Nat) (body : List Nat) : Block := { b with tx := ⟨port, kind, body⟩ :: b.tx }

/-- Kinds of output. -/
abbrev Emit.bellf : Nat := 1
abbrev Emit.goose : Nat := 2
abbrev Emit.c37 : Nat := 3
abbrev Emit.ptp : Nat := 4
abbrev Emit.pause : Nat := 5
abbrev Emit.prpSup : Nat := 6
abbrev Emit.sync : Nat := 7
abbrev Emit.mdio : Nat := 8
abbrev Emit.request : Nat := 9
abbrev Emit.beacon : Nat := 10
abbrev Emit.radio : Nat := 11
abbrev Emit.tdm : Nat := 12
abbrev Emit.land : Nat := 13
abbrev Emit.ycp : Nat := 14
abbrev Emit.pcie : Nat := 15

/-! ### Sending on the Ethernet ports (R88, R93, R104) -/

/-- A field or register of a port (R88). -/
def atPort (f : Fld) (p : Nat) : Fld := f.at (0x1000 * p)

/-- The port's power domain is on: NET2 and TDM alone in WATCH, MGT0 alone in KICKSTAND; TDM only while TDM_CTRL.EN. -/
def Block.portOn (b : Block) (p : Nat) : Bool :=
  let st := b.fld F.TOP_STATE_STATE
  if st = 5 then p == 4
  else if p = 6 then b.flag F.TDM_CTRL_EN
  else if st = 3 then p == 2 || p == 3
  else decide (p < 6)

/-- The port is powered, enabled and has link. -/
def Block.portUp (b : Block) (p : Nat) : Bool :=
  b.portOn p && b.flag (atPort F.MAC_CTRL_EN p) && b.flag (atPort F.MAC_STAT_LINK p)

/-- The MAC_LATk in force (R104): 0 on MGT and TDM ports, otherwise by the rate. -/
def Block.latReg (b : Block) (p : Nat) : W32 :=
  b.rd (Reg.MAC_LAT0 + 0x1000 * p + 4 * (if p < 4 then b.fld (atPort F.MAC_STAT_RATE p) else 0))

/-- Latencies of the PHY in 0.5 ns. -/
def Block.txLat (b : Block) (p : Nat) : Nat := bits (b.latReg p) 31 16
def Block.rxLat (b : Block) (p : Nat) : Nat := bits (b.latReg p) 15 0

/-- Live counters of a port, in bank order (R109). -/
abbrev cntRxFrames : Nat := 0
abbrev cntRxOctets : Nat := 1
abbrev cntRunt : Nat := 2
abbrev cntOversize : Nat := 3
abbrev cntFcs : Nat := 4
abbrev cntStranger : Nat := 5
abbrev cntPrpDup : Nat := 6
abbrev cntPoolDrop : Nat := 7
abbrev cntPauseRx : Nat := 8
abbrev cntPauseIgn : Nat := 9
abbrev cntTxFrames : Nat := 10
abbrev cntTxOctets : Nat := 11
abbrev cntPauseTx : Nat := 12
abbrev cntPausedNs : Nat := 13
abbrev cntTxOversize : Nat := 14
abbrev cntLinkDown : Nat := 15
abbrev cntStep : Nat := 16
abbrev cntSecIcv : Nat := 17
abbrev cntSecReplay : Nat := 18

/-- The block with one port changed. -/
def Block.modPort (b : Block) (p : Nat) (f : Port → Port) : Block := { b with ports := modAt b.ports p f }

/-- A live 64-bit counter of a port raised. -/
def Block.cntPort (b : Block) (p c n : Nat) : Block :=
  b.modPort p fun x => { x with cnt := modAt x.cnt c fun v => (v + n) % 2 ^ 64 }

/-- A frame of `len` bytes sent on a port: never longer than MAC_MAXLEN (R93), and only where the port can send. -/
def Block.send (b : Block) (p kind len : Nat) (body : List Nat) : Block :=
  if !b.portUp p then b
  else if (b.rd (Reg.MAC_MAXLEN + 0x1000 * p)).toNat < len then b.cntPort p cntTxOversize 1
  else ((b.cntPort p cntTxFrames 1).cntPort p cntTxOctets len).emit p kind body

/-- A frame sent on both members of a network, with the 6-byte PRP trailer (R90); on a port of its own otherwise:
0 NET1, 1 NET2, 2 MGT0, 3 MGT1, 4 TDM (W02.PORT of R147). -/
def Block.sendNet (b : Block) (net kind len : Nat) (body : List Nat) : Block :=
  if net < 2 then (b.send (2 * net) kind (max 64 (len + 6)) body).send (2 * net + 1) kind (max 64 (len + 6)) body
  else b.send (net + 2) kind (max 64 len) body

/-- A UDP datagram of `n` bytes as an Ethernet frame: addresses and Ethertype 14, tag 4 where tagged, IPv4 20, UDP 8, FCS 4. -/
def udpLen (tagged : Bool) (n : Nat) : Nat := 46 + n + (if tagged then 4 else 0)

/-! ### State of the device -/

/-- TOP_STATE.STATE: 1 START, 2 RUN, 3 WATCH, 4 MAINT, 5 KICKSTAND (R529). -/
def Block.topState (b : Block) : Nat := b.fld F.TOP_STATE_STATE

abbrev stStart : Nat := 1
abbrev stRun : Nat := 2
abbrev stWatch : Nat := 3
abbrev stMaint : Nat := 4
abbrev stKick : Nat := 5

/-- Nominal frequency in Hz (R6): TOP_NOMF.ACTIVE 0 is 50 Hz, 1 is 60 Hz. -/
def Block.f0 (b : Block) : Nat := if b.flag F.TOP_NOMF_ACTIVE then 60 else 50

/-- Device time-quality class (TIM_STAT.TQ). -/
def Block.devClass (b : Block) : Nat := b.fld F.TIM_STAT_TQ

/-! ### Evidence (R22) -/

/-- The bytes 0 to 27 of an evidence record. -/
def Evid.bytes (e : Evid) : List Byte :=
  beBytes 1 e.engine
  ++ beBytes 1 (128 * e.valid.toNat + 64 * e.degraded.toNat + 32 * e.blocked.toNat + 16 * e.shed.toNat)
  ++ beBytes 2 e.rseq ++ beBytes 6 e.slot.toNat ++ beBytes 1 e.tq ++ beBytes 1 0 ++ beBytes 16 e.items.toNat

/-- An evidence record with its CRC. -/
def mkEvid (engine : Nat) (valid degraded blocked shed : Bool) (rseq sTick tq items : Nat) : Evid :=
  let e : Evid := ⟨engine, valid, degraded, blocked, shed, rseq % 65536, lt48 sTick, sTick, tq, BitVec.ofNat 128 items, 0⟩
  { e with crc := crc32c e.bytes }

/-- A tandem message: on the controlled port of the TDM lane, while it is up (R351). Its first number is its kind: 1 heartbeat,
2 SCHED, 3 CUT, 4 NEED, 5 relay, 6 FILL, 7 DIGEST, 8 evidence, 9 catch-up, 10 RADIO, 11 TAKE, 12 radio frame. -/
def Block.laneUp (b : Block) : Bool := b.portUp 6 && b.flag (atPort F.MAC_STAT_SEC_UP 6)
def Block.tdmSend (b : Block) (body : List Nat) : Block := if b.laneUp then b.emit 6 Emit.tdm body else b

/-- TDM_STAT.STATE (R380). -/
def Block.tdmState (b : Block) : Nat := b.fld F.TDM_STAT_STATE

abbrev tdSolo : Nat := 0
abbrev tdAlone : Nat := 1
abbrev tdCatchup : Nat := 2
abbrev tdMatching : Nat := 3
abbrev tdInStep : Nat := 4
abbrev tdFailed : Nat := 5

/-- The stoker borrows the captain's evidence of engines 3 to 8 while it is IN_STEP (R365). -/
def Block.borrows (b : Block) : Bool := b.tdmState == tdInStep && b.tdm.enNow && !b.flag F.TDM_STAT_CLAIM

/-- An accepted record kept newest first, as many as the guard may look back for (R22, R23); where it is the one the guard judges
by, it ends the engine's run of misses (R333). -/
def EngState.accept (g : EngState) (e : Evid) (judge : Bool) (now : Nat) : EngState :=
  { g with recs := (e :: g.recs).take 256, misses := if judge then 0 else g.misses, okAt := if judge then now else g.okAt }

/-- A record posted into guard SRAM (R22): one whose CRC fails is counted and not kept. A captain forwards its records of engines
3 to 8 (R365). -/
def Block.postEvid (b : Block) (e : Evid) : Block :=
  if e.crc = crc32c e.bytes then
    let judge := !(b.borrows && decide (3 ≤ e.engine))
    let b := (b.modGrd fun u => { u with engines := modAt b.grd.engines e.engine fun g => g.accept e judge b.tai })
    if b.tdmState = tdInStep ∧ b.flag F.TDM_STAT_CLAIM ∧ 3 ≤ e.engine then
      b.tdmSend [8, e.engine, 8 * e.valid.toNat + 4 * e.degraded.toNat + 2 * e.blocked.toNat + e.shed.toNat, e.rseq, e.sTick, e.tq,
        e.items.toNat]
    else b
  else b.bump Reg.ALN_LDG_CNT_EVREJ

/-! ### The cadence, rows and channels -/

/-- Slots per second of a cadence code (R152); 0 of a code it does not list. -/
def cadenceOf (code : Nat) : Nat := [10, 12, 15, 20, 25, 30, 50, 60, 100, 120, 200, 240, 400, 480].getD code 0

/-- Index in its second of the slot with slot time `s` at `c` slots/s (R49). -/
def slotIdx (c s : Nat) : Nat := ((s % tickS) * c + tickS - 1) / tickS

/-- Slot time of index `i` of TAI second `t` at `c` slots/s (R49). -/
def slotAt (c t i : Nat) : Nat := (t + i / c) * tickS + (i % c) * tickS / c

/-- `s` lies on the grid of `c` slots/s. -/
def onGrid (c s : Nat) : Bool := slotAt c (s / tickS) (slotIdx c s) == s

/-- The slot time `n` slots after `s`. -/
def slotAfter (c s n : Nat) : Nat := slotAt c (s / tickS) (slotIdx c s + n)

/-- The slot time `n` slots before `s`. -/
def slotBefore (c s n : Nat) : Nat := slotAt c (s / tickS - n / c - 1) ((n / c + 1) * c + slotIdx c s - n)

/-- The cadence in force, in slots/s. -/
def Block.cadence (b : Block) : Nat := cadenceOf (b.fld F.ALN_CADENCE_ACTIVE)

/-- The shed level in force (R31). -/
def Block.level (b : Block) : Nat := b.fld F.ALN_LDG_STAT_LEVEL

/-- The slot with slot time `s`, where its row is held. -/
def Block.slot (b : Block) (s : Nat) : Option Slot := b.aln.slots.find? (·.s == s)

/-- The block with one slot changed. -/
def Block.modSlot (b : Block) (s : Nat) (f : Slot → Slot) : Block :=
  (b.modAln fun u => { u with slots := b.aln.slots.map fun x => if x.s = s then f x else x })

/-- S of the newest settled row; 0 when none is held. -/
def Block.lastSettled (b : Block) : Nat := b.aln.slots.foldl (fun m x => if x.phase = 2 then max m x.s else m) 0

/-- Flags of a row entry (R158). -/
def entPresent (e : W64) : Bool := e.getLsbD 63
def entLate (e : W64) : Bool := e.getLsbD 62
def entInvalid (e : W64) : Bool := e.getLsbD 61
def entTest (e : W64) : Bool := e.getLsbD 60
def entSrcErr (e : W64) : Bool := e.getLsbD 59
def entSuspect (e : W64) : Bool := e.getLsbD 58
def entTq (e : W64) : Nat := (e.extractLsb' 55 3).toNat
def entConv (e : W64) : Nat := (e.extractLsb' 52 3).toNat

/-- Worst class among the values of a row. -/
def worstTq (row : Tab W64) : Nat := row.foldl (fun m e => if entPresent e.2 then max m (entTq e.2) else m) 0

/-- The run of granules a row channel lies in (R157). -/
def Block.runOf (b : Block) (ch : Nat) : Option GranRun :=
  b.aln.runs.find? fun r => decide (r.base ≤ ch / 32 ∧ ch / 32 < r.base + r.count)

/-- A spoke by number. -/
def Block.spoke (b : Block) (n : Nat) : Option Spoke := b.ing.spokes.find? (·.num == n)

/-- The spoke and channel of a row channel, under the run that holds it. -/
def Block.chanOf (b : Block) (ch : Nat) : Option (Spoke × Nat) :=
  match b.runOf ch with
  | none => none
  | some r =>
    match b.spoke r.spoke with
    | none => none
    | some x => some (x, ch - 32 * r.base)

/-- KIND of a row channel (R149), of its spoke's current configuration; 7 when it has none. -/
def Block.kindOf (b : Block) (ch : Nat) : Nat :=
  match b.chanOf ch with
  | none => 7
  | some (x, i) =>
    match x.cur with
    | none => 7
    | some v => v.kinds.getD i 7

end Sys2Proof.Machine
end

