-- ==== Sys2Proof/Machine/Sessions.lean ====
section
/-!
DEFINITION. Sessions, roles, the saddle, panniers, packets and replies (R419 to R448): what every opcode's meaning is
written over.
-/
namespace Sys2Proof.Machine

/-! ### Status codes (R432) -/

abbrev yOk : Nat := 0x00
abbrev yPending : Nat := 0x01
abbrev yNotReady : Nat := 0x02
abbrev yBusy : Nat := 0x03
abbrev yBadOpcode : Nat := 0x10
abbrev yBadLength : Nat := 0x11
abbrev yBadParam : Nat := 0x12
abbrev yNoCredit : Nat := 0x13
abbrev yBadCrc : Nat := 0x14
abbrev yDenied : Nat := 0x20
abbrev yAuthFail : Nat := 0x21
abbrev yGuardOnly : Nat := 0x22
abbrev yNoSaddle : Nat := 0x23
abbrev yResource : Nat := 0x30
abbrev yNoMark : Nat := 0x31
abbrev yMarkLost : Nat := 0x32
abbrev yTamperAbort : Nat := 0x40

/-! ### Roles (R424): bits of the mask -/

abbrev roleObs : Nat := 0
abbrev roleOpr : Nat := 1
abbrev roleEng : Nat := 2
abbrev roleGsb : Nat := 3
abbrev roleMnt : Nat := 4

/-- A session. -/
def Block.sess (b : Block) (s : Nat) : Session := b.hst.sessions.getD s .closed

/-- The block with a session changed. -/
def Block.modSess (b : Block) (s : Nat) (f : Session → Session) : Block :=
  (b.modHst fun u => { u with sessions := modAt b.hst.sessions s f })

/-- A session on UDP (R421). -/
def isUdp (s : Nat) : Bool := decide (4 ≤ s)

/-- The role mask a session has: a UDP session is without ENGINEER and MAINTENANCE while the slots 16 and 18 are
withheld (R474). -/
def Block.rolesOf (k : Key) (b : Block) (s : Nat) : Nat :=
  let r := (b.sess s).roles
  if isUdp s && k.withheld then r &&& 0b01011 else r

/-- The session holds a role; any role implies OBSERVER (R424). -/
def Block.hasRole (k : Key) (b : Block) (s role : Nat) : Bool :=
  let r := b.rolesOf k s
  (b.sess s).state == 1 && if role = roleObs then r != 0 else r.testBit role

/-- The session holds the saddle (R426). -/
def Block.hasSaddle (b : Block) (s : Nat) : Bool := b.hst.holder == some s

/-- The mask SESSION_ROLES gives a session, before what UDP proves (R424). -/
def Block.gspRoles (b : Block) (s : Nat) : Nat :=
  let base := match b.grd.gsp with
    | none => if s = 0 then 0x1F else 1
    | some g => g.roles.getD s 0
  let base := if b.topState = stKick && s = 0 then base ||| 0x10 else base
  if base = 0 then 0 else base ||| 1

/-- The saddle is released (R427): the record's reason, and the former holder's staged definitions discarded. -/
def Block.releaseSaddle (b : Block) (reason : Nat) : Block :=
  match b.hst.holder with
  | none => b
  | some s =>
    let b := b.modSess s fun x => { x with outStage := none, gspStage := none, fwStage := none }
    let b := (b.modHst fun u => { u with holder := none, leaseEnd := 0 })
    b.note 0x0D02 s reason b.hst.leaseS

/-- A session closes (R423): HOST_SESSION with its reason. -/
def Block.closeSession (b : Block) (s reason : Nat) : Block :=
  if (b.sess s).state = 0 then b
  else
    let peer := (b.sess s).peerIp
    let b := if b.hasSaddle s then b.releaseSaddle 3 else b
    let b := b.modSess s fun _ => .closed
    b.note 0x0D01 s 0 reason peer

/-! ### Packets (R428) -/

/-- FLAGS bits. -/
abbrev flReply : Nat := 0x8000
abbrev flMore : Nat := 0x4000
abbrev flEvent : Nat := 0x2000
abbrev flControl : Nat := 0x1000

/-- A packet the device sends. -/
def ycpPacket (session flags opcode tag status credit frag : Nat) (payload : List Byte) : List Byte :=
  let body := beBytes 2 0x5943 ++ beBytes 1 1 ++ beBytes 1 session ++ beBytes 2 flags ++ beBytes 2 opcode ++ beBytes 2 tag
    ++ beBytes 2 payload.length ++ beBytes 1 status ++ beBytes 1 credit ++ beBytes 2 frag ++ payload
  body ++ beBytes 4 (crc32c body).toNat

/-- Cells a packet with this payload length occupies (R436). -/
def cellsFor (len : Nat) : Nat := (20 + len + 63) / 64

/-- A packet cut into cells of 64 bytes, the last one filled with 0. -/
def toCells (fuel : Nat) (l : List Byte) : List (List Byte) :=
  match fuel with
  | 0 => []
  | n + 1 => if l.isEmpty then [] else (l.take 64 ++ List.replicate (64 - min 64 l.length) 0) :: toCells n (l.drop 64)

/-- Free cells: the producer may write while WP − FP is below the size (R436). -/
def Pannier.free (p : Pannier) : Nat := p.size - (p.wp - p.fp).toNat

/-- A packet written whole, then WP past it (R438). -/
def Pannier.write (p : Pannier) (pkt : List Byte) : Pannier :=
  let c := toCells 66 pkt
  { p with cells := p.cells ++ c, wp := p.wp + BitVec.ofNat 32 c.length }

/-- RP equals WP. -/
def Pannier.isEmpty (p : Pannier) : Bool := p.rp == p.wp

/-- The cell at RP; of an empty pannier, 0 but for byte 12, NOT_READY (R440). -/
def Pannier.cellAtRp (p : Pannier) : List Byte :=
  if p.isEmpty then List.replicate 12 0 ++ [0x02#8] ++ List.replicate 51 0
  else p.cells.getD (p.rp - p.fp).toNat (List.replicate 64 0)

/-- NEXT (R439). -/
def Pannier.next (p : Pannier) : Pannier := if p.isEmpty then p else { p with rp := p.rp + 1 }

/-- MARK (R439). -/
def Pannier.setMark (p : Pannier) : Pannier := { p with mark := some p.rp, result := yOk }

/-- REWIND (R439). -/
def Pannier.rewind (p : Pannier) : Pannier :=
  match p.mark with
  | none => { p with result := yNoMark }
  | some m => { p with rp := m, result := yOk }

/-- RELEASE(n) (R439): positions are compared from FP. -/
def Pannier.release (p : Pannier) (n : Nat) : Pannier :=
  let r := (p.rp - p.fp).toNat
  let k := if n = 0 then r else min n r
  let lost := match p.mark with
    | none => false
    | some m => decide ((m - p.fp).toNat < k)
  { p with fp := p.fp + BitVec.ofNat 32 k, cells := p.cells.drop k, mark := if lost then none else p.mark,
           result := if lost then yMarkLost else yOk }

/-- Free cells of the command pannier of a session: the credit (R436). -/
def Session.cmdFree (x : Session) : Nat :=
  (if x.cmdSz = 0 then 72 else 8 * x.cmdSz) - (x.staged.length + x.cmdHeld)

/-- First 16 bytes of the MAC over a packet and its COUNTER (R429). -/
def ycpMac (key : BitVec 384) (pkt : List Byte) (ctr : Nat) : List Byte :=
  (beBytes 32 (Config.hmac256 key (pkt ++ beBytes 8 ctr)).toNat).take 16

/-- A datagram sent to a UDP session's peer, with COUNTER and MAC (R429). -/
def Block.sendDatagram (b : Block) (s : Nat) (pkt : List Byte) : Block :=
  let x := b.sess s
  let ctr := x.txCtr + 1
  let b := b.modSess s fun x => { x with txCtr := ctr }
  b.send (4 + x.mgt) Emit.ycp (max 64 (udpLen false (pkt.length + 24))) ((pkt ++ beBytes 8 ctr ++ ycpMac x.sessKey pkt ctr).map BitVec.toNat)

/-- A packet into RPL (R438): vector 0 on PCIe, a datagram and RP past it on UDP (R441). -/
def Block.putRpl (b : Block) (s : Nat) (pkt : List Byte) : Block :=
  let b := b.modSess s fun x => { x with rpl := x.rpl.write pkt }
  if isUdp s then (b.sendDatagram s pkt).modSess s fun x => { x with rpl := { x.rpl with rp := x.rpl.wp } }
  else b.emit 10 Emit.pcie [s, 0]

/-- A packet into EVT (R438, R441). -/
def Block.putEvt (b : Block) (s : Nat) (pkt : List Byte) : Block :=
  let b := b.modSess s fun x => { x with evt := x.evt.write pkt }
  if isUdp s then (b.sendDatagram s pkt).modSess s fun x => { x with evt := { x.evt with rp := x.evt.wp } }
  else b.emit 10 Emit.pcie [s, 1]

/-- The CREDIT byte (R428). -/
def Block.creditByte (b : Block) (s : Nat) : Nat := min 255 ((b.sess s).cmdFree / 8)

/-! ### Replies (R431, R442) -/

/-- Whether the job's reply counts as fragments: it is in fragments, or it is a CAPTURE_READ (R443). -/
def ReplyJob.fragmented (j : ReplyJob) (more : Bool) : Bool := more || j.frag != 0 || j.opcode == 0x0304

/-- One step of the reply queue: the next packet of the oldest reply, once RPL has room for its whole remainder or for
65 cells (R442). -/
def Block.replyStep (b : Block) (s : Nat) : Block :=
  match (b.sess s).jobs with
  | [] => b
  | j :: rest =>
    let free := (b.sess s).rpl.free
    let len := j.payload.length
    let whole := decide (len ≤ 4096 ∧ cellsFor len ≤ free)
    if whole || (decide (65 ≤ free) && decide (4096 < len)) then
      let more := !whole
      let part := if whole then j.payload else j.payload.take 4096
      let flags := flReply + (if more then flMore else 0)
      let pkt := ycpPacket s flags j.opcode j.tag j.status (b.creditByte s) j.frag part
      let b := if j.fragmented more then b.bump (Reg.HST_S_CNT_FRAG + 0x40 * s) else b
      let b := b.modSess s fun x => { x with jobs :=
        if more then { j with frag := j.frag + 1, payload := j.payload.drop 4096 } :: rest else rest }
      b.putRpl s pkt
    else b

/-- A tag's final status among the last 64 (R431). -/
def Session.finishTag (x : Session) (tag status : Nat) : Session :=
  { x with done := ((tag, status) :: x.done.filter (·.1 != tag)).take 64 }

/-- A reply: counted, its tag's status kept when final, queued behind the replies before it (R431, R442, R452). -/
def Block.reply (b : Block) (s opcode tag status : Nat) (payload : List Byte) : Block :=
  let off := 0x40 * s
  let b := if 0x10 ≤ status then b.bump (Reg.HST_S_CNT_REJ + off) else b
  let b := if status = yBadCrc then b.bump (Reg.HST_S_CNT_CRC + off) else b
  let b := if status = yNoCredit then b.bump (Reg.HST_S_CNT_NOCRED + off) else b
  let alone := (b.sess s).jobs.isEmpty
  let b := b.modSess s fun x =>
    let x := if status = yPending ∨ status = yNotReady then x else x.finishTag tag status
    { x with jobs := x.jobs ++ [⟨opcode, tag, status, 0, payload, 0⟩] }
  if alone then b.replyStep s else b

/-- A control reply of a UDP session: it takes no cells and is not sent again (R441). -/
def Block.controlReply (b : Block) (s opcode tag status : Nat) (payload : List Byte) : Block :=
  let off := 0x40 * s
  let b := if 0x10 ≤ status then b.bump (Reg.HST_S_CNT_REJ + off) else b
  let b := if status = yNoCredit then b.bump (Reg.HST_S_CNT_NOCRED + off) else b
  b.sendDatagram s (ycpPacket s (flReply + flControl) opcode tag status (b.creditByte s) 0 payload)

/-- The final reply of a pending command (R431). -/
def Block.finish (b : Block) (s tag opcode status : Nat) (payload : List Byte) : Block :=
  if (b.sess s).pending.any (fun e => e.1 == tag) then
    let b := b.modSess s fun x => { x with pending := x.pending.filter (·.1 != tag) }
    b.reply s opcode tag status payload
  else b

/-! ### The interpreter's checks (R430, checks 7 to 9) -/

/-- What an opcode's body answers: status, payload, the block after it. -/
structure YRes where
  status  : Nat
  payload : List Byte
  b       : Block

/-- A body that failed: nothing changed. -/
def yErr (b : Block) (status : Nat) : YRes := ⟨status, [], b⟩

/-- A body that completed with no result. -/
def yDone (b : Block) : YRes := ⟨yOk, [], b⟩

/-- What an opcode needs: a role (none: any role), and the saddle. -/
structure YReq where
  role   : Option Nat
  saddle : Bool

/-- The opcodes of the session group and the reads, which START allows (R434). -/
def allowedInStart (op : Nat) : Bool :=
  op < 0x000A || [0x0101, 0x0103, 0x0702, 0x0B01].contains op

/-- The opcodes KICKSTAND allows (R434); CALIBRATE is judged by its own meaning. -/
def allowedInKick (op : Nat) : Bool :=
  [0x0001, 0x0002, 0x0003, 0x0006, 0x0007, 0x0008, 0x0009, 0x0101, 0x0103, 0x0702, 0x0B01, 0x0C05, 0x0C04, 0x0C02].contains op

/-- Check 7, first half: the opcode is allowed in the present TOP_STATE (R434). -/
def Block.allowed (b : Block) (op : Nat) : Bool :=
  if b.topState = stStart then allowedInStart op
  else if b.topState = stKick then allowedInKick op
  else true

/-- The status of the first of the checks 7 to 9 that fails; OK when none does. -/
def Block.precheck (k : Key) (b : Block) (h : Hdr) (op : Nat) (q : YReq) : Nat :=
  let x := b.sess h.session
  if !b.allowed op then yDenied
  else if !b.hasRole k h.session (q.role.getD roleObs) then yDenied
  else if q.saddle && !b.hasSaddle h.session then yNoSaddle
  else if x.pending.any (fun e => e.1 == h.tag) || decide (4 ≤ x.pending.length) then yBusy
  else yOk

/-- A taken packet leaves the command pannier: its cells are released and vector 2 fires on PCIe (R437). -/
def Block.takeCmd (b : Block) (h : Hdr) (op : Nat) : Block :=
  let x := b.sess h.session
  match x.taken.find? (fun t => t.opcode == op && t.tag == h.tag) with
  | none => b
  | some t =>
    let b := b.modSess h.session fun x =>
      { x with taken := x.taken.erase t, cmdHeld := x.cmdHeld - cellsFor t.payload.length }
    if isUdp h.session then b else b.emit 10 Emit.pcie [h.session, 2]

/-- A saddle held through ENGINEER is lost with that role (R474, R427). -/
def Block.dropLostSaddle (k : Key) (b : Block) (s : Nat) : Block :=
  if isUdp s && k.withheld && b.hasSaddle s then b.releaseSaddle 5 else b

/-- What comes before the checks: the packet leaves its pannier and is counted. -/
def Block.ycpTake (k : Key) (h : Hdr) (op : Nat) (b : Block) : Block :=
  ((b.takeCmd h op).bump (Reg.HST_S_CNT_CMD + 0x40 * h.session)).dropLostSaddle k h.session

/-- What comes after the body: a command that answers PENDING is held until its final reply; the reply enters RPL. -/
def Block.ycpReply (h : Hdr) (op status : Nat) (payload : List Byte) (b : Block) : Block :=
  (if status = yPending then
      b.modSess h.session fun x => { x with pending := x.pending ++ [(h.tag, op)] }
    else b).reply h.session op h.tag status payload

/-- A command of a session: it is taken and counted, checks 7 to 9 are made, its body runs, its reply enters RPL
(R430, R431). -/
def Block.ycp (k : Key) (h : Hdr) (op : Nat) (q : YReq) (body : Block → YRes) (b : Block) : Block :=
  let b := b.ycpTake k h op
  let st := b.precheck k h op q
  if st ≠ yOk then b.ycpReply h op st []
  else
    let r := body b
    r.b.ycpReply h op r.status r.payload

/-- What the body of an opcode that works on the key block answers. -/
structure KRes where
  status  : Nat
  payload : List Byte
  k       : Key
  b       : Block

/-- A command of a session whose body works on the key block too. -/
def Block.ycpK (k : Key) (h : Hdr) (op : Nat) (q : YReq) (body : Key → Block → KRes) (b : Block) : Key × Block :=
  let b := b.ycpTake k h op
  let st := b.precheck k h op q
  if st ≠ yOk then (k, b.ycpReply h op st [])
  else
    let r := body k b
    (r.k, r.b.ycpReply h op r.status r.payload)

/-! ### Subscriptions (R446 to R448) -/

/-- An event record for one subscription: a packet when EVT keeps 2 cells back, otherwise dropped and counted. -/
def Block.eventTo (b : Block) (s : Nat) (u : Sub) (record : List Byte) : Block :=
  let evt := (b.sess s).evt
  if cellsFor record.length + 2 ≤ evt.free && u.dropped == 0 then
    let pkt := ycpPacket s flEvent (0x0D10 + u.kind) u.num yOk (b.creditByte s) u.seqNo record
    let b := b.modSess s fun x => { x with subs := x.subs.map fun v =>
      if v.num = u.num then { v with seqNo := (v.seqNo + 1) % 65536 } else v }
    b.putEvt s pkt
  else
    let b := b.bump (Reg.HST_S_CNT_EVT_DROP + 0x40 * s)
    b.modSess s fun x => { x with subs := x.subs.map fun v =>
      if v.num = u.num then { v with dropped := v.dropped + 1 } else v }

/-- An event record for every subscription of a kind whose FILTER admits it. -/
def Block.event (b : Block) (kind : Nat) (admits : Nat → Bool) (record : List Byte) : Block :=
  (List.range 8).foldl (fun b s =>
    ((b.sess s).subs.filter fun u => u.kind == kind && admits u.filter).foldl (fun b u => b.eventTo s u record) b) b

/-! ### Envelopes (R45, R326) -/

/-- The ENVELOPES entry of a parameter in force. -/
def Block.envelope (b : Block) (param : Nat) : Option EnvEntry :=
  match b.grd.gsp with
  | none => none
  | some g => g.envelopes.find? (·.param == param)

/-- A value lies in its envelope; without an entry every value does. -/
def Block.inEnvelope (b : Block) (param value : Nat) : Bool :=
  match b.envelope param with
  | none => true
  | some e => decide (e.min ≤ value ∧ value ≤ e.max)

/-- A request outside the envelope is recorded: parameter, value requested, session, value kept (R45, R348). -/
def Block.denyEnvelope (b : Block) (param value session kept : Nat) : Block := b.note 0x0A09 param value session kept

/-- A write dropped over PCIe is counted and flagged (R420). -/
def Block.writeDenied (b : Block) (acc : Nat) : Block :=
  if acc < 4 then (b.bump (Reg.HST_S_CNT_WR_DENIED + 0x40 * acc)).put F.HST_STAT_WR_DENIED 1 else b

/-- What a write of an accessor answers and does. -/
structure WRes where
  status : Nat
  b      : Block

/-- A refused write: over PCIe it is also counted (R420). -/
def wErr (b : Block) (acc status : Nat) : WRes := ⟨status, b.writeDenied acc⟩

/-- Whether an accessor's write may proceed: role, then saddle (R564). Firmware needs neither. -/
def Block.mayWrite (k : Key) (b : Block) (acc role : Nat) (saddle : Bool) : Nat :=
  match sessionOf acc with
  | none => yOk
  | some s =>
    if !b.hasRole k s role then yDenied
    else if saddle && !b.hasSaddle s then yNoSaddle
    else yOk

/-! ### Definition windows (R570) -/

/-- ERR of a window's select register (R284). -/
def errCode (status : Nat) : Nat :=
  if status = yOk then 0 else if status = yNoSaddle then 1 else if status = yBadParam then 2 else if status = yResource then 3 else 5

/-- COMMIT, REMOVE or DROP of a window: role and saddle, then the action; ERR tells the result. -/
def Block.winAct (k : Key) (b : Block) (acc : Nat) (err : Fld) (act : Block → WRes) : WRes :=
  let st := b.mayWrite k acc roleEng true
  let r := if st ≠ yOk then wErr b acc st else act b
  ⟨r.status, r.b.aput acc err (errCode r.status)⟩

/-- What an opcode's body answers from a write's result. -/
def WRes.toY (r : WRes) (payload : List Byte) : YRes := ⟨r.status, if r.status = yOk then payload else [], r.b⟩

end Sys2Proof.Machine
end

