-- ==== Sys2Proof/Machine/Keys.lean ====
section
/-!
DEFINITION. The key block: slots, derivation, certificates, attestation and tamper (R454 to R482).
-/
namespace Sys2Proof.Machine

/-- A slot. -/
def Key.slot (k : Key) (i : Nat) : KeySlot := k.slots.getD i .empty

/-- The key block with a slot changed. -/
def Key.modSlot (k : Key) (i : Nat) (f : KeySlot → KeySlot) : Key := { k with slots := modAt k.slots i f }

/-- The slots withheld while TAMPER_PEND is 1 (R474). -/
def isWithheldSlot (i : Nat) : Bool := [10, 11, 12, 13, 16, 18].contains i

/-- A slot zeroised: its generation count stays. -/
def Key.zeroise (k : Key) (i : Nat) : Key := k.modSlot i fun s => { KeySlot.empty with gen := s.gen }

/-- A key put into a slot: LOADED, or WITHHELD where R474 withholds the slot. -/
def Key.load (k : Key) (i : Nat) (s : KeySlot) : Key :=
  k.modSlot i fun old => { s with gen := old.gen, state := if k.withheld && isWithheldSlot i then 2 else 1 }

/-- Slots LOADED or WITHHELD (KEY_STAT.LOADED). -/
def Key.loaded (k : Key) : Nat := (k.slots.filter fun s => s.state != 0).length

/-- A slot's key can be used by its engine: LOADED, not WITHHELD. -/
def Key.usable (k : Key) (i : Nat) : Bool := (k.slot i).state == 1

/-- Withholding begins (R474). -/
def Key.withhold (k : Key) : Key :=
  { k with withheld := true, slots := k.slots.zipIdx.map fun e =>
      if isWithheldSlot e.2 && e.1.state == 1 then { e.1 with state := 2 } else e.1 }

/-- Withholding ends (R475). -/
def Key.unwithhold (k : Key) : Key :=
  { k with withheld := false, slots := k.slots.map fun s => if s.state = 2 then { s with state := 1 } else s }

/-- Ephemeral slots of a session zeroised when it closes (R461). -/
def Key.closeSession (k : Key) (s : Nat) : Key :=
  { k with slots := k.slots.map fun x => if x.ephemeral && x.owner == s then { KeySlot.empty with gen := x.gen } else x }

/-- Every ephemeral slot zeroised, as a reset of any reach does (R461). -/
def Key.dropEphemeral (k : Key) : Key :=
  { k with slots := k.slots.map fun x => if x.ephemeral then { KeySlot.empty with gen := x.gen } else x }

/-- A public key in the form 0x04 ‖ X ‖ Y (P-384). -/
def pub384 (p : BitVec 768) : List Byte := 0x04#8 :: beBytes 96 p.toNat

/-- A public key of P-256: 0x04 ‖ X ‖ Y over 64 bytes. -/
def pub256 (p : BitVec 768) : List Byte := 0x04#8 :: beBytes 64 p.toNat

/-- A text as bytes. -/
def asciiBytes (s : List Nat) : List Byte := s.map (BitVec.ofNat 8)

/-- "KCV" -/
def txtKcv : List Byte := asciiBytes [0x4B, 0x43, 0x56]

/-- The 32-byte check value of a symmetric key (R460). -/
def kcvOf (secret : BitVec 384) : BitVec 256 := Config.hmac256 secret txtKcv

/-- An asymmetric algorithm of R462. -/
def algAsym (alg : Nat) : Bool := alg == 3 || alg == 4

/-- First 32 bits of the check value, or of SHA-256 of the public key (R480). -/
def KeySlot.kcv32 (s : KeySlot) : Nat :=
  let h := if algAsym s.alg then Config.sha256 (if s.alg = 3 then pub256 s.pub else pub384 s.pub) else kcvOf s.secret
  h.toNat >>> 224

/-- A key derived from the DUK (R458): LABEL ‖ 0 ‖ LCS ‖ MEAS ‖ ENGINE ‖ SLOT ‖ GEN. -/
def Key.derive (k : Key) (label : List Byte) (meas : Digest) (engineBit slot gen : Nat) : BitVec 384 :=
  Config.kdf (k.duk.getD 0) (label ++ [0x00#8] ++ beBytes 1 k.lcs ++ beBytes 48 meas.toNat ++ beBytes 1 engineBit
    ++ beBytes 1 slot ++ beBytes 4 gen)

/-- The bit number of a one-bit engine mask; 8 when the mask has not exactly one bit of R460. -/
def engineBit (mask : Nat) : Nat := ((List.range 8).find? fun i => mask == 2 ^ i).getD 8

/-- TOP_ID by ordering code (R2). -/
def topIdOf : Variant → Nat
  | .w9 => 0x00840091
  | .w8 => 0x00840081
  | .n0 => 0x00840001

/-- A slot loaded, with KEY_SLOT written (R482). -/
def keyLoaded (k : Key) (b : Block) (i : Nat) (s : KeySlot) : Key × Block :=
  (k.load i s, b.note 0x0E06 i 1 s.origin s.engine)

/-- A slot zeroised, with KEY_SLOT written when it held a key. -/
def keyZeroised (k : Key) (b : Block) (i : Nat) : Key × Block :=
  let s := k.slot i
  (k.zeroise i, if s.state = 0 then b else b.note 0x0E06 i 0 s.origin s.engine)

/-- KEY_SLOT of the ephemeral slots for which `p` holds as they are zeroised (R461, R482). -/
def Block.tellGone (k : Key) (p : KeySlot → Bool) (b : Block) : Block :=
  k.slots.zipIdx.foldl (fun b e =>
    if e.1.ephemeral && e.1.state != 0 && p e.1 then b.note 0x0E06 e.2 0 e.1.origin e.1.engine else b) b

/-- A session closes, and its ephemeral slots are zeroised with it (R423, R461). -/
def endSession (s reason : Nat) (k : Key) (b : Block) : Key × Block :=
  (k.closeSession s, (b.closeSession s reason).tellGone k (·.owner == s))

/-- The slots of the sessions on MGT0 and MGT1, which have closed (R461, R530). -/
def endMgtKeys (k : Key) (b : Block) : Key × Block := ([4, 5, 6, 7].foldl Key.closeSession k, b.tellGone k fun x => isUdp x.owner)

/-- A key operation aborted by a tamper event (R477): slot written, or 0xFF. -/
def keyAbort (k : Key) (b : Block) (op slot : Nat) : Block :=
  (b.bump Reg.KEY_CNT_ABORT).note 0x0E05 op slot k.tseq

/-- TFLAGS of a quote (R466). -/
def Key.tflags (k : Key) : Nat := k.pend.toNat + 2 * k.withheld.toNat + 4 * (decide (1 < k.pufTries)).toNat

/-- A P-384 signature by a slot over SHA-384 of a message. -/
def Key.sign (k : Key) (slot : Nat) (m : List Byte) : List Byte :=
  beBytes 96 (Config.ecdsaSign (k.slot slot).secret (beBytes 48 (Config.sha384 m).toNat)).toNat

/-- The alias certificate of slot 1, signed with slot 0 (R465). -/
def Key.aliasCert (k : Key) : List Byte :=
  let m := beBytes 2 0x4143 ++ beBytes 1 1 ++ beBytes 1 k.lcs ++ beBytes 48 k.mf.toNat ++ pub384 (k.slot 1).pub ++ beBytes 3 0
  m ++ k.sign 0 m

/-- The quote (R466). -/
def Key.quote (k : Key) (b : Block) (nonce bind : BitVec 256) : List Byte :=
  let m := beBytes 2 0x4D51 ++ beBytes 1 1 ++ beBytes 1 k.lcs ++ beBytes 4 (topIdOf b.top.variant) ++ beBytes 1 b.topState
    ++ beBytes 1 k.tflags ++ beBytes 2 0 ++ beBytes 4 (b.log.pcc % 2 ^ 24) ++ beBytes 32 k.devId.toNat ++ beBytes 48 k.m1.toNat
    ++ beBytes 48 k.mf.toNat ++ beBytes 32 nonce.toNat ++ beBytes 32 bind.toNat
  m ++ k.sign 1 m

/-- KEYDATA of a certificate, 97 bytes (R467). -/
def KeySlot.keyData (s : KeySlot) : List Byte :=
  if s.alg = 4 then pub384 s.pub
  else if s.alg = 3 then pub256 s.pub ++ beBytes 32 0
  else beBytes 32 (kcvOf s.secret).toNat ++ beBytes 65 0

/-- The key certificate of a slot (R467). -/
def Key.certificate (k : Key) (i : Nat) (nonce : BitVec 256) : List Byte :=
  let s := k.slot i
  let flags := 1 + 2 * (decide (s.origin < 2)).toNat + 4 * s.ephemeral.toNat
  let m := beBytes 2 0x4B43 ++ beBytes 1 1 ++ beBytes 1 i ++ beBytes 1 s.engine ++ beBytes 1 s.origin ++ beBytes 1 s.alg
    ++ beBytes 1 flags ++ beBytes 4 s.gen ++ beBytes 6 s.created ++ beBytes 2 0 ++ beBytes 32 k.devId.toNat
    ++ beBytes 48 s.mf.toNat ++ beBytes 32 nonce.toNat ++ s.keyData ++ beBytes 3 0
  m ++ k.sign 1 m

/-! ### The device unique key -/

/-- In MANUFACTURE with both helper copies invalid the PUF is enrolled (R457). -/
def Key.enrolled (k : Key) : Key := if k.lcs == 0 && !k.helperA && !k.helperB then { k with helperA := true, helperB := true } else k

/-- The key block after every attempt failed (R456). -/
def Key.pufFailed (k : Key) : Key :=
  { k with duk := none, pufOk := false, pufFail := true, pufTries := 3, slots := k.slots.map fun s => { KeySlot.empty with gen := s.gen } }

/-- DUK_REGENERATE (R454 to R457): at most three attempts; the first that passes gives the DUK. -/
def dukRegenerate (tries : List Bool) (corrected : Nat) (k : Key) (b : Block) : Key × Block :=
  if k.duk.isSome || b.top.rstRun.isSome || b.top.started then (k, b)
  else
    let k := k.enrolled
    let att := tries.take 3
    let n := att.findIdx id + 1
    if (k.helperA || k.helperB) && att.contains true then
      ({ k with duk := some Config.duk, pufOk := true, pufFail := false, pufTries := n },
       (b.bumpBy Reg.KEY_CNT_PUF_RETRY (n - 1)).note 0x0E01 (if n = 1 then 0 else 1) corrected n)
    else (k.pufFailed, (b.bumpBy Reg.KEY_CNT_PUF_RETRY 2).note 0x0E01 2 corrected 3)

/-! ### KEY_GEN (R462, R463) -/

/-- What R461 allows of a slot: its engine's bit (8 any), its algorithm (9 any) and the modes of R462. -/
def slotRow (i : Nat) : Option (Nat × Nat × List Nat) :=
  if i = 3 then some (3, 4, [2, 5])
  else if i = 4 ∨ i = 5 then some (2, 2, [3, 5])
  else if 6 ≤ i ∧ i ≤ 9 then some (1, 0, [3, 5])
  else if 10 ≤ i ∧ i ≤ 13 then some (0, 1, [3, 5])
  else if 14 ≤ i ∧ i ≤ 18 then some (5, 4, [2, 5])
  else if 19 ≤ i ∧ i ≤ 22 then some (7, 3, [0, 5])
  else if 23 ≤ i ∧ i ≤ 26 then some (5, 4, [4, 5])
  else if 35 ≤ i ∧ i ≤ 63 then some (8, 9, [0, 1, 2, 3, 5])
  else none

/-- The role and saddle a KEY_GEN needs (R462). -/
def keyGenReq (slot mode : Nat) : YReq :=
  if mode = 0 ∨ mode = 1 then ⟨some roleEng, true⟩
  else if mode = 2 ∨ mode = 4 ∨ mode = 5 then ⟨some roleMnt, false⟩
  else if mode = 3 then (if 4 ≤ slot ∧ slot ≤ 18 then ⟨some roleMnt, false⟩ else ⟨some roleEng, true⟩)
  else ⟨none, false⟩

/-- The slot a KEY_GEN names; 0xFF asks for the lowest EMPTY general slot. -/
def Key.genSlot (k : Key) (slot : Nat) : Option Nat :=
  if slot = 0xFF then (List.range 29).map (· + 35) |>.find? fun i => (k.slot i).state == 0
  else some slot

/-- A mode may make a key of an algorithm: a public key for import 2 and transport, a secret for import 3. -/
def modeAlgOk (mode alg : Nat) : Bool :=
  if mode = 2 || mode = 4 then algAsym alg else if mode = 3 then decide (alg < 3) else decide (alg < 5)

/-- The refusals of R463, in the order BAD_PARAM, then DENIED. -/
def Key.genRefusal (k : Key) (i mode engine alg : Nat) : Nat :=
  match slotRow i with
  | none => yBadParam
  | some (e, a, modes) =>
    if engineBit engine = 8 ∨ (e ≠ 8 ∧ engineBit engine ≠ e) then yBadParam
    else if (a ≠ 9 ∧ alg ≠ a) ∨ !modes.contains mode ∨ (mode ≠ 5 ∧ !modeAlgOk mode alg) then yBadParam
    else if i = 3 ∧ mode = 2 ∧ (k.slot 3).state ≠ 0 then yDenied
    else yOk

/-- The slot's content for a mode: none when an unwrap fails or the content does not fit the mode. -/
def Key.genKey (k : Key) (i mode engine alg session created : Nat) (c : KeyContent) : Option KeySlot :=
  let base : KeySlot := { KeySlot.empty with engine := engine, alg := alg, created := created, mf := k.mf, owner := session }
  match mode, c with
  | 0, _ =>
    let s := Config.randomKey k.draws
    some { base with origin := 1, secret := s, pub := if algAsym alg then Config.publicKey s else 0 }
  | 1, .label l =>
    let s := k.derive l k.mf (engineBit engine) i (k.slot i).gen
    some { base with origin := 0, secret := s, pub := if algAsym alg then Config.publicKey s else 0 }
  | 2, .pub p => some { base with origin := 2, pub := p }
  | 3, .wrapped _ _ (some s) ckn => some { base with origin := 2, secret := s, ckn := ckn }
  | 4, _ =>
    let s := Config.randomKey k.draws
    some { base with origin := 1, secret := s, pub := Config.publicKey s, ephemeral := true }
  | _, _ => none

/-- The transport slot of an import 3 (R462). -/
def contentTslot : KeyContent → Option Nat
  | .wrapped t _ _ _ => some t
  | _ => none

/-- The content has the form its mode asks for. -/
def contentFits (k : Key) (mode : Nat) (c : KeyContent) : Bool :=
  match mode, c with
  | 1, .label l => decide (1 ≤ l.length ∧ l.length ≤ 32)
  | 2, .pub _ => true
  | 3, .wrapped t _ _ _ => decide (23 ≤ t ∧ t ≤ 26) && (k.slot t).state == 1
  | 0, _ => true
  | 4, _ => true
  | 5, _ => true
  | _, _ => false

/-- A key that survives a reset is kept wrapped in MRAM: generated or imported, not ephemeral (R459). -/
def Key.keep (k : Key) (i : Nat) : Key :=
  let s := k.slot i
  if s.state ≠ 0 && s.origin != 0 && !s.ephemeral then { k with store := tabSet k.store i { s with state := 1 } }
  else { k with store := tabDel k.store i }

/-- Before a key is made: an occupied slot's GEN goes up and its old key is zeroised; an import zeroises its transport slot. -/
def vacate (i mode : Nat) (c : KeyContent) (k : Key) (b : Block) : Key × Block :=
  let kb := if (k.slot i).state ≠ 0 then keyZeroised (k.modSlot i fun s => { s with gen := s.gen + 1 }) b i else (k, b)
  match contentTslot c with
  | none => kb
  | some t => if mode = 3 then keyZeroised kb.1 kb.2 t else kb

/-- The public key of an asymmetric key as KEY_GEN returns it (R462). -/
def KeySlot.pubBytes (s : KeySlot) (alg : Nat) : List Byte := if algAsym alg then (if alg = 3 then pub256 s.pub else pub384 s.pub) else []

/-- KEY_GEN's body (R462, R463, R477). -/
def keyGenBody (session slot mode engine alg : Nat) (c : KeyContent) (tampered : Bool) (k : Key) (b : Block) : KRes :=
  if k.lcs = 4 then ⟨yDenied, [], k, b⟩
  else if 5 < mode then ⟨yBadParam, [], k, b⟩
  else
    match k.genSlot slot with
    | none => ⟨yResource, [], k, b⟩
    | some i =>
      let st := k.genRefusal i mode engine alg
      if st ≠ yOk then ⟨st, [], k, b⟩
      else if !contentFits k mode c then ⟨yBadParam, [], k, b⟩
      else
        let kb := vacate i mode c k b
        let k := kb.1.keep i
        let b := kb.2
        if tampered then ⟨yTamperAbort, [], k.zeroise i, keyAbort k b 0x0A02 i⟩
        else if mode = 5 then ⟨yOk, beBytes 1 i ++ beBytes 4 (k.slot i).gen, k, b.bump Reg.KEY_CNT_OP⟩
        else
          match k.genKey i mode engine alg session b.tim.sec c with
          | none => ⟨yAuthFail, [], k, (b.bump Reg.KEY_CNT_AUTH_FAIL).bump Reg.KEY_CNT_OP⟩
          | some s =>
            let kb := keyLoaded { k with draws := k.draws + 1 } b i s
            let k := kb.1.keep i
            ⟨yOk, beBytes 1 i ++ beBytes 4 (k.slot i).gen ++ s.pubBytes alg, k, kb.2.bump Reg.KEY_CNT_OP⟩

/-- KEY_GEN. -/
def keyGen (h : Hdr) (slot mode engine alg : Nat) (c : KeyContent) (tampered : Bool) (k : Key) (b : Block) : Key × Block :=
  b.ycpK k h 0x0A02 (keyGenReq slot mode) (keyGenBody h.session slot mode engine alg c tampered)

/-- KEY_CERTIFY (R467). -/
def keyCertify (h : Hdr) (slot : Nat) (nonce : BitVec 256) (tampered : Bool) (k : Key) (b : Block) : Block :=
  b.ycp k h 0x0A03 ⟨some roleObs, false⟩ fun b =>
    if 64 ≤ slot ∨ (k.slot slot).state = 0 then yErr b yBadParam
    else if tampered then yErr (keyAbort k b 0x0A03 0xFF) yTamperAbort
    else ⟨yOk, k.certificate slot nonce ++ k.aliasDoc, b.bump Reg.KEY_CNT_OP⟩

/-- ATTEST_QUOTE (R466). -/
def attestQuote (h : Hdr) (nonce : BitVec 256) (tampered : Bool) (k : Key) (b : Block) : Block :=
  b.ycp k h 0x0A01 ⟨some roleObs, false⟩ fun b =>
    if tampered then yErr (keyAbort k b 0x0A01 0xFF) yTamperAbort
    else ⟨yOk, k.quote b nonce 0 ++ k.aliasDoc, b.bump Reg.KEY_CNT_OP⟩

/-- KEY_SLOT_INFO of a slot (R480). -/
def KeySlot.info (s : KeySlot) : Nat :=
  s.state * 2 ^ 30 + s.ephemeral.toNat * 2 ^ 29 + (decide (s.state ≠ 0 ∧ s.origin < 2)).toNat * 2 ^ 28 + s.alg * 2 ^ 24
    + s.engine * 2 ^ 16 + s.origin * 2 ^ 8

/-- KEY_SLOT_LOAD (R480): the accessor's slot information registers. -/
def keySlotLoad (acc slot : Nat) (k : Key) (b : Block) : Block :=
  if b.mayWrite k acc roleObs false ≠ yOk then b.writeDenied acc
  else
    let s := k.slot (slot % 64)
    let b := b.aput acc F.KEY_SLOT_SEL_SLOT slot
    ((b.awr acc Reg.KEY_SLOT_INFO (BitVec.ofNat 32 s.info)).awr acc Reg.KEY_SLOT_GEN (BitVec.ofNat 32 s.gen)).awr acc Reg.KEY_SLOT_KCV
      (BitVec.ofNat 32 (if s.state = 0 then 0 else s.kcv32))

/-! ### Tamper -/

/-- TAMPER_ACK's body (R475). -/
def tamperAckBody (session tseq : Nat) (sigOk : Bool) (k : Key) (b : Block) : KRes :=
  if !(sigOk && k.usable 3) then ⟨yAuthFail, [], k, b.bump Reg.KEY_CNT_AUTH_FAIL⟩
  else if tseq ≠ k.tseq ∨ k.live ≠ 0 then ⟨yDenied, [], k, b⟩
  else ⟨yOk, [], { k.unwithhold with pend := false, acked := tseq }, b.note 0x0E04 tseq session⟩

/-- TAMPER_ACK. -/
def tamperAck (h : Hdr) (tseq : Nat) (sigOk : Bool) (k : Key) (b : Block) : Key × Block :=
  b.ycpK k h 0x0A04 ⟨some roleOpr, false⟩ (tamperAckBody h.session tseq sigOk)

/-- The monitor watches a source: TAMPERn enabled, mesh or glitch detector enabled, temperature always (R472). -/
def Block.tamperWatched (b : Block) (src : Nat) : Bool :=
  if src < 4 then (b.fld F.KEY_TMP_CTRL_EN).testBit src
  else if src = 4 then b.flag F.KEY_TMP_CTRL_MESH_EN
  else if src < 7 then b.flag F.KEY_TMP_CTRL_GLITCH_EN
  else src == 7

/-- MACsec ports: MGT0, MGT1 and TDM. -/
def macsecPorts : List Nat := [4, 5, 6]

/-- The controlled ports go down when their keys are withheld (R474, R108). -/
def Block.secDown (b : Block) : Block := macsecPorts.foldl (fun b p => b.put (F.MAC_STAT_SEC_UP.at (0x1000 * p)) 0) b

/-- The key block after an event of a source (R472 to R474). -/
def Key.tamper (k : Key) (src : Nat) : Key :=
  { k with live := k.live ||| 1 <<< src, armed := k.armed &&& (0xFF - 1 <<< src), latch := k.latch ||| 1 <<< src,
           tseq := (k.tseq + 1) % 2 ^ 32, pend := true }.withhold

/-- TAMPER_EVENT (R473, R474, R476): the event is latched, counted, recorded and acted on. -/
def tamperEvent (src : Nat) (k : Key) (b : Block) : Key × Block :=
  if !b.tamperWatched src || k.live.testBit src || !k.armed.testBit src then (k, b)
  else
    let watch := decide (b.topState = stWatch)
    let b := (b.bump Reg.KEY_CNT_TAMPER).secDown
    (k.tamper src, b.recBy (if watch then 3 else 4) watch 0x0E03 (1 <<< src) (k.tamper src).tseq b.topState (!k.withheld).toNat)

/-- MESH_CHECK (R472): the second failed check in a row raises the event. -/
def meshCheck (ok : Bool) (k : Key) (b : Block) : Key × Block :=
  if ok then ({ k with meshFails := 0 }, b)
  else
    let k := { k with meshFails := min 2 (k.meshFails + 1) }
    if k.meshFails = 2 then tamperEvent 4 k b else (k, b)

/-- TAMPER_SOURCE_CLEAR (R472): LIVE falls; the source is armed again after DEBOUNCE ms out of its condition. -/
def tamperSourceClear (src out : Nat) (k : Key) (b : Block) : Key :=
  if 8 ≤ src then k
  else
    let bit := 1 <<< src
    let k := { k with live := k.live &&& (0xFF - bit) }
    if b.fld F.KEY_TMP_CTRL_DEBOUNCE ≤ out then { k with armed := k.armed ||| bit } else k

/-! ### The commands -/

/-- A meaning on the key block and the rest. -/
def State.onKB (f : Key → Block → Key × Block) (s : State) : State :=
  let r := f s.key s.b
  { s with key := r.1, b := r.2 }

/-- A meaning on everything but the key block, which it may read. -/
def State.onB (f : Key → Block → Block) (s : State) : State := { s with b := f s.key s.b }

def execDukRegenerate (tries : List Bool) (bits : Nat) (s : State) : Host.Outcome State Fault Refusal :=
  .next (s.onKB (dukRegenerate tries bits))

def execKeyGen (h : Hdr) (slot mode engine alg : Nat) (c : KeyContent) (tampered : Bool) (s : State) :
    Host.Outcome State Fault Refusal := .next (s.onKB (keyGen h slot mode engine alg c tampered))

def execKeyCertify (h : Hdr) (slot : Nat) (nonce : BitVec 256) (tampered : Bool) (s : State) :
    Host.Outcome State Fault Refusal := .next (s.onB (keyCertify h slot nonce tampered))

def execAttestQuote (h : Hdr) (nonce : BitVec 256) (tampered : Bool) (s : State) : Host.Outcome State Fault Refusal :=
  .next (s.onB (attestQuote h nonce tampered))

def execTamperAck (h : Hdr) (tseq : Nat) (sigOk : Bool) (s : State) : Host.Outcome State Fault Refusal :=
  .next (s.onKB (tamperAck h tseq sigOk))

def execKeySlotLoad (acc slot : Nat) (s : State) : Host.Outcome State Fault Refusal := .next (s.onB (keySlotLoad acc slot))

def execTamperEvent (src : Nat) (s : State) : Host.Outcome State Fault Refusal := .next (s.onKB (tamperEvent src))

def execMeshCheck (ok : Bool) (s : State) : Host.Outcome State Fault Refusal := .next (s.onKB (meshCheck ok))

def execTamperSourceClear (src out : Nat) (s : State) : Host.Outcome State Fault Refusal :=
  .next { s with key := tamperSourceClear src out s.key s.b }

end Sys2Proof.Machine
end

