-- ==== Sys2Proof/Machine/Derail.lean ====
section
/-!
DEFINITION. The derailleur (spec/04_spokes.md, R140 to R143, R568): which slots a report serves, and the value of each
channel in them.
-/
namespace Sys2Proof.Machine

/-! ### Entries as numbers (R158, R159) -/

/-- Entry bits. -/
def ebits (e : W64) (hi lo : Nat) : Nat := (e.toNat >>> lo) % 2 ^ (hi + 1 - lo)

/-- Conversion codes. -/
abbrev convDirect : Nat := 0
abbrev convDecimated : Nat := 1
abbrev convInterp : Nat := 2
abbrev convHeld : Nat := 3
abbrev convPredicted : Nat := 4
abbrev convFilled : Nat := 5
abbrev convPoisoned : Nat := 7

/-- Flags of an entry: PRESENT, LATE, INVALID, TEST, SRC_ERR, TIME_SUSPECT as bits 5 to 0. -/
def entFlags (e : W64) : Nat := ebits e 63 58

/-- An entry of flags, class, conversion code and value field. -/
def mkEntry (flags tq conv value : Nat) : W64 := BitVec.ofNat 64 (flags % 64 * 2 ^ 58 + tq % 8 * 2 ^ 55 + conv % 8 * 2 ^ 52 + value % 2 ^ 52)

/-- The value field. -/
def entVal (e : W64) : Nat := ebits e 51 0

/-- The entry with another conversion code. -/
def withConv (e : W64) (conv : Nat) : W64 := mkEntry (entFlags e) (entTq e) conv (entVal e)

/-- The entry with LATE set. -/
def withLate (e : W64) : W64 := e ||| (1 <<< 62 : W64)

/-- Magnitude or value of an entry as a single, by KIND. -/
def entSingle (kind : Nat) (e : W64) : W32 := BitVec.ofNat 32 (if kind ≤ 1 then ebits e 51 20 else ebits e 31 0)

/-- A phasor's angle in degrees. -/
def entAngle (e : W64) : Q :=
  let n := ebits e 19 0
  let n : Int := if n < 2 ^ 19 then n else (n : Int) - 2 ^ 20
  Q.norm (n * 360) (2 ^ 20)

/-- An angle in degrees as the low 20 bits of a phasor entry: the nearest step (notes/assumptions/4.md). -/
def angleBits (a : Q) : Nat := ((Q.round (Q.div (a.mul (Q.ofNat (2 ^ 20))) (Q.ofNat 360))) % 2 ^ 20).toNat

/-- The value field of a number and an angle, by KIND. -/
def mkValue (kind : Nat) (v : W32) (ang : Nat) : Nat := if kind ≤ 1 then v.toNat * 2 ^ 20 + ang % 2 ^ 20 else v.toNat

/-! ### Reports -/

/-- Entry of the report's first channel of a KIND, where it is present. -/
def firstKind (kinds : List Nat) (entries : List W64) (kind : Nat) : Option Q :=
  match (kinds.zip entries).find? fun p => p.1 == kind && entPresent p.2 with
  | none => none
  | some p => singleQ (entSingle kind p.2)

/-- Seconds of so many ticks. -/
def tickQ (n : Nat) : Q := Q.norm n tickS

/-- Interpolated number (R141); a NaN where a report holds none. -/
def interpNum (a0 a1 : Option Q) (tau T : Nat) : W32 :=
  match a0, a1 with
  | some x, some y => toSingle (x.add ((y.sub x).mul (Q.norm tau T)))
  | _, _ => nanW

/-- Interpolated angle (R141). -/
def interpAngle (f0 : Nat) (th0 th1 d0 d1 : Q) (tau T : Nat) : Q :=
  let df0 := d0.sub (Q.ofNat f0)
  let df1 := d1.sub (Q.ofNat f0)
  let t := tickQ tau
  let p := tickQ T
  let r := wrap180 ((th1.sub th0).sub ((Q.ofNat 180).mul ((df0.add df1).mul p)))
  let quad := Q.div ((df1.sub df0).mul (t.mul t)) ((Q.ofNat 2).mul p)
  wrap180 ((th0.add ((Q.ofNat 360).mul ((df0.mul t).add quad))).add (r.mul (Q.norm tau T)))

/-- The interpolated entry of a channel between two reports `T` ticks apart (R141, R568). -/
def interpEntry (f0 kind : Nat) (fr0 fr1 : Option Q) (e0 e1 : W64) (tau T : Nat) : W64 :=
  if !entPresent e0 || !entPresent e1 then 0
  else
    let flags := entFlags e0 ||| entFlags e1
    let tq := max (entTq e0) (entTq e1)
    let value :=
      if kind = 5 then entVal e0
      else
        let v := interpNum (singleQ (entSingle kind e0)) (singleQ (entSingle kind e1)) tau T
        if kind ≤ 1 then
          match fr0, fr1 with
          | some d0, some d1 => mkValue kind v (angleBits (interpAngle f0 (entAngle e0) (entAngle e1) d0 d1 tau T))
          | _, _ => mkValue kind v (ebits (Config.openEntry e0 e1 tau) 19 0)
        else mkValue kind v 0
    mkEntry flags tq convInterp value

/-- The predicted entry of a channel `tau` ticks after its report (R142). -/
def predictEntry (f0 kind : Nat) (fr rocof : Option Q) (e : W64) (tau : Nat) : W64 :=
  if !entPresent e then 0
  else
    let t := tickQ tau
    let open_ := Config.openEntry e e tau
    let value :=
      if kind ≤ 1 then
        match fr, rocof with
        | some d, some r =>
          let adv := ((d.sub (Q.ofNat f0)).mul t).add (Q.div (r.mul (t.mul t)) (Q.ofNat 2))
          mkValue kind (entSingle kind e) (angleBits (wrap180 ((entAngle e).add ((Q.ofNat 360).mul adv))))
        | _, _ => mkValue kind (entSingle kind e) (ebits open_ 19 0)
      else if kind = 2 then
        match fr, rocof with
        | some d, some r => (toSingle (d.add (r.mul t))).toNat
        | _, _ => ebits open_ 31 0
      else entVal e
    mkEntry (entFlags e) (entTq e) convPredicted value

/-- Every channel interpolated. -/
def interpReport (f0 : Nat) (kinds : List Nat) (r0 r1 : Report) (s : Nat) : List W64 :=
  let fr0 := firstKind kinds r0.entries 2
  let fr1 := firstKind kinds r1.entries 2
  (kinds.zip (r0.entries.zip r1.entries)).map fun p => interpEntry f0 p.1 fr0 fr1 p.2.1 p.2.2 (s - r0.t) (r1.t - r0.t)

/-- Every channel predicted. -/
def predictReport (f0 : Nat) (kinds : List Nat) (r : Report) (s : Nat) : List W64 :=
  let fr := firstKind kinds r.entries 2
  let ro := firstKind kinds r.entries 3
  (kinds.zip r.entries).map fun p => predictEntry f0 p.1 fr ro p.2 (s - r.t)

/-- Every channel under a conversion code. -/
def recode (entries : List W64) (conv : Nat) : List W64 := entries.map fun e => if entPresent e then withConv e conv else 0

/-! ### The method (R140) -/

/-- How a spoke is brought to the cadence. -/
inductive Method where
  | direct
  | decimate
  | hold
  | interp
  | predict
  deriving DecidableEq, Repr

/-- The method of a spoke of `fs8` eighths of a report a second at `fc` slots/s. -/
def methodOf (fs8 fc type setting : Nat) : Method :=
  if fs8 = 8 * fc ∨ fc = 0 then .direct
  else if 8 * fc < fs8 then (if fs8 % (8 * fc) = 0 then .decimate else .interp)
  else if setting = 1 then .hold
  else if setting = 2 then .interp
  else if setting = 3 then .predict
  else if type = 1 then .interp else .hold

/-- Ticks of `n` report periods. -/
def reportTicks (fs8 n : Nat) : Nat := if fs8 = 0 then 0 else 8 * n * tickS / fs8

/-- Ticks from a report's time to the last slot it could still fill (R125, R143). -/
def reachTicks (m : Method) (fs8 hold : Nat) : Nat :=
  match m with
  | .direct | .decimate => 0
  | .interp => reportTicks fs8 1 - 1
  | .hold | .predict => reportTicks fs8 hold

/-- What a report lets ING write now (R137, R140 to R143): S and the entries. `slots a b` lists the slot times from `a` to `b`;
`prev` and `next` are the neighbouring reports of the same version. HELD and PREDICTED values are written for every slot the
report may serve, up to HOLD_MAX report periods and to `ahead`, and a later report's values replace them
(notes/assumptions/25.md). -/
def derail (m : Method) (fs8 hold f0 ahead : Nat) (kinds : List Nat) (prev next : Option Report) (r : Report)
    (slots : Nat → Nat → List Nat) : List (Nat × List W64) :=
  let here := (slots r.t r.t).map fun s => (s, recode r.entries (if m = .decimate then convDecimated else convDirect))
  let between := fun (a b : Report) => (slots (a.t + 1) (b.t - 1)).map fun s => (s, interpReport f0 kinds a b s)
  let before := match prev with
    | none => []
    | some p => between p r
  let after := match next with
    | none => []
    | some n => between r n
  match m with
  | .direct | .decimate => here
  | .interp => before ++ here ++ after
  | .hold =>
    let stop := match next with
      | none => r.t + reachTicks .hold fs8 hold
      | some n => min (n.t - 1) (r.t + reachTicks .hold fs8 hold)
    here ++ (slots (r.t + 1) (min stop ahead)).map fun s => (s, recode r.entries convHeld)
  | .predict =>
    before ++ here ++ (match next with
      | some _ => after
      | none => (slots (r.t + 1) (min ahead (r.t + reachTicks .predict fs8 hold))).map fun s => (s, predictReport f0 kinds r s))

end Sys2Proof.Machine
end

