-- ==== Sys2Proof/Machine/Rows.lean ====
section
/-!
DEFINITION. Rows and reports: the slots on the grid, a value written into its row (R158 to R162, R168, R175, R177), and
what an accepted report goes through (R125, R126, R134, R135, R360). Shared by every kind of spoke.
-/
namespace Sys2Proof.Machine

/-! ### Slots -/

/-- The cadence code that governs slot time `s` (R153). -/
def Block.codeAt (b : Block) (s : Nat) : Nat :=
  b.aln.cadPend.foldl (fun code p => if p.2 * tickS ≤ s then p.1 else code) (b.fld F.ALN_CADENCE_ACTIVE)

/-- The last slot time of the grid at or before `t`. -/
def slotFloor (c t : Nat) : Nat := slotAt c (t / tickS) (((t % tickS + 1) * c - 1) / tickS)

/-- The slot times of the grid of `c` slots/s from `a` to `z`. -/
def gridSlots (c a z : Nat) : List Nat :=
  if c = 0 ∨ z < a then []
  else
    let first := if onGrid c a then a else slotAfter c a 0
    let n := (z - a) * c / tickS + 2
    (List.range n).filterMap fun i => let s := slotAfter c first i; if a ≤ s ∧ s ≤ z then some s else none

/-- The slot times from `a` to `z` of grids that follow one another: `c` slots/s, then each change of `l` from its T (R153). -/
def segments (z : Nat) : Nat → Nat → List (Nat × Nat) → List Nat
  | c, a, [] => gridSlots c a z
  | c, a, (code, t) :: l => gridSlots c a (min z (t * tickS - 1)) ++ segments z (cadenceOf code) (max a (t * tickS)) l

/-- The slot times from `a` to `z`: slots held, and slots of the grid still to start. -/
def Block.slotsIn (b : Block) (a z : Nat) : List Nat :=
  let held := b.aln.slots.filterMap fun x => if a ≤ x.s ∧ x.s ≤ z then some x.s else none
  let from_ := match b.aln.lastS with
    | none => a
    | some l => max a (l + 1)
  let ahead := segments z b.cadence from_ b.aln.cadPend
  (held ++ ahead).foldr insNat []

/-- The slot is settled, or left the ring without being held (R125, R179). -/
def Block.isSettled (b : Block) (s : Nat) : Bool :=
  match b.slot s with
  | some x => x.phase == 2
  | none => match b.aln.lastS with
    | none => false
    | some l => decide (s ≤ l)

/-- The latest slot held with S at or before `z`. -/
def Block.slotTo (b : Block) (z : Nat) : Option Slot := b.aln.slots.foldl (fun (m : Option Slot) y => if y.s ≤ z then some y else m) none

/-- A slot at its opening (R161). -/
def Slot.new (s code : Nat) : Slot :=
  { s := s, code := code, dl := none, wSlot := 0, phase := 0, stage := 0, c := 0, rseq := 0, early := false, stepClose := false, gap := false,
    filled := false, fillDone := false, critMiss := 0, hzn := 0, arrived := 0, bitmap := [], relayed := [], stats := [], amends := 0, tq := 0, errC := 0, timC := 0,
    row := [], origin := [], frame := none, flOrigin := [], flFilled := false, flGap := false, flCap := false, wEnv := false, ends := [], ovr := 0, ovrDue := [],
    active := [], keep := 0, due := [], srcTq0 := false, unlockC := 0, poisoned := [], ties := [], incomplete := false, cutSent := false, partnerCut := none, needOpen := [], schedGot := false,
    digOwn := none, digPart := none }

/-- A slot put in its place by S: the list rises. -/
def insSlot (x : Slot) : List Slot → List Slot
  | [] => [x]
  | y :: r => if x.s < y.s then x :: y :: r else y :: insSlot x r

/-- The block with the slot opened where it is not yet held (R161). -/
def Block.openSlot (b : Block) (s : Nat) : Block :=
  match b.slot s with
  | some _ => b
  | none => (b.modAln fun u => { u with slots := insSlot (Slot.new s (b.codeAt s)) b.aln.slots })

/-- More than 128 slot periods after the device time (R161). -/
def Block.tooEarly (b : Block) (s : Nat) : Bool := let c := b.cadence; decide (b.tai * c + 128 * tickS < s * c)

/-! ### Spokes -/

/-- The block with one spoke changed. -/
def Block.modSpoke (b : Block) (n : Nat) (f : Spoke → Spoke) : Block :=
  (b.modIng fun u => { u with spokes := b.ing.spokes.map fun x => if x.num = n then f x else x })

/-- Words of a spoke's context (R147). -/
def Spoke.w (x : Spoke) (n : Nat) : W32 := x.words.getD n 0
def Spoke.type (x : Spoke) : Nat := bits (x.w 0) 2 0
def Spoke.holdMax (x : Spoke) : Nat := max 1 (bits (x.w 13) 11 8)
def Spoke.method (x : Spoke) : Nat := bits (x.w 13) 1 0
def Spoke.testOk (x : Spoke) : Bool := (x.w 17).getLsbD 1
def Spoke.managed (x : Spoke) : Bool := (x.w 17).getLsbD 0
def Spoke.silentTmo (x : Spoke) : Nat := bits (x.w 16) 15 0

/-- Counters of a spoke, in the order of W28 to W39. -/
abbrev spCrc : Nat := 0
abbrev spSize : Nat := 1
abbrev spOffGrid : Nat := 2
abbrev spRange : Nat := 3
abbrev spDupSame : Nat := 4
abbrev spDupConflict : Nat := 5
abbrev spFrames : Nat := 6
abbrev spLate : Nat := 7
abbrev spGap : Nat := 8
abbrev spConv : Nat := 9
abbrev spInvalid : Nat := 10
abbrev spSampleGap : Nat := 11

/-- A counter of a spoke raised, saturating (R147). -/
def Block.cntSpoke (b : Block) (n c k : Nat) : Block :=
  b.modSpoke n fun x => { x with cnt := modAt x.cnt c fun v => min 0xFFFFFFFF (v + k) }

/-! ### Amendments (R175, R177) -/

/-- An amendment record: the new entries of one spoke for one slot, by channel. -/
def amendRecord (spoke aseq s ver : Nat) (vals : List (Nat × W64)) : List Byte :=
  let body := beBytes 1 1 ++ beBytes 1 vals.length ++ beBytes 2 spoke ++ beBytes 4 aseq ++ beBytes 6 (s % 2 ^ 48) ++ beBytes 2 ver
    ++ beBytes 8 (maskOf (vals.map (·.1))) ++ vals.flatMap fun v => beBytes 8 v.2.toNat
  body ++ beBytes 4 (crc32c body).toNat

/-- A settle notice (R177). -/
def settleNotice (aseq s amends : Nat) : List Byte :=
  let body := beBytes 1 2 ++ beBytes 1 0 ++ beBytes 2 0xFFFF ++ beBytes 4 aseq ++ beBytes 6 (s % 2 ^ 48) ++ beBytes 2 0 ++ beBytes 8 amends
  body ++ beBytes 4 (crc32c body).toNat

/-- The subscription admits a spoke's amendments, or settle notices (R446). -/
def amendAdmits (spoke filter : Nat) : Bool := decide (filter % 4096 ≤ spoke ∧ spoke ≤ filter / 4096 % 4096)
def noticeAdmits (filter : Nat) : Bool := filter.testBit 24

/-- An output set has an amended channel to send again (R185). -/
def OutSet.amended (o : OutSet) (s : Nat) (chans : List Nat) : OutSet :=
  if o.amendPort ≠ 0 ∧ o.state = 2 ∧ o.entries.any (fun e => chans.contains e.rowCh) then { o with amendDue := insNat s o.amendDue } else o

/-- Values written late into a row: counted, and issued as one amendment record (R175, R177). -/
def Block.amend (b : Block) (spoke ver base s : Nat) (vals : List (Nat × W64)) : Block :=
  if vals.isEmpty then b
  else
    let n := vals.length
    let b := b.modSlot s fun x => { x with amends := x.amends + n }
    let b := (b.bumpBy Reg.ALN_CNT_AMEND n).cntSpoke spoke spLate n
    let rec_ := amendRecord spoke b.aln.aseq s ver vals
    let chans := vals.map fun v => base + v.1
    let outs : List OutSet := b.aln.outs.map fun o => o.amended s chans
    let b := (b.modAln fun u => { u with aseq := (b.aln.aseq + 1) % 2 ^ 32, outs := outs })
    b.event 0 (amendAdmits spoke) rec_

/-! ### Writing a row (R162, R168, R175) -/

/-- The entry may be written over what the row holds (R175, R142): absent, or HELD, PREDICTED or FILLED, and its block not
poisoned. -/
def Slot.takes (x : Slot) (ch : Nat) : Bool :=
  !x.poisoned.contains (ch / 32 * 32) &&
  match tabGet x.row ch with
  | none => true
  | some e => entConv e == convHeld || entConv e == convPredicted || entConv e == convFilled

/-- The channels of a report the row takes, by channel of the spoke. -/
def Slot.taken (x : Slot) (base : Nat) (vals : List W64) : List (Nat × W64) :=
  vals.zipIdx.filterMap fun p => if entPresent p.1 && x.takes (base + p.2) then some (p.2, p.1) else none

/-- Entries put into a row. -/
def putRow (row : Tab W64) (base : Nat) (vals : List (Nat × W64)) : Tab W64 := vals.foldl (fun r v => tabSet r (base + v.1) v.2) row

/-- A value of this spoke is late: after the freeze, or after the tandem's cut for a spoke outside the union (R18, R361). -/
def Slot.lateFor (x : Slot) (spoke : Nat) (own : Bool) : Bool :=
  x.phase == 1 || (x.cutSent && match x.partnerCut with
    | none => own
    | some l => !l.contains spoke && !x.bitmap.contains spoke)

/-- The exchange of values and cuts runs: CATCHUP, MATCHING and IN_STEP. -/
def Block.inExchange (b : Block) : Bool := decide (2 ≤ b.tdmState ∧ b.tdmState ≤ 4)

/-- Spokes of the critical set. -/
def Block.members (b : Block) : List Nat := (b.ing.spokes.filter (·.member)).map (·.num)

/-- Own claim asserted: the unit is the captain. -/
def Block.captain (b : Block) : Bool := b.flag F.TDM_STAT_CLAIM

/-- Microseconds from cut to deadline. -/
def Block.leadUs (b : Block) : Nat := b.fld F.TDM_XCHG_LEAD

/-- The captain may cut early (R363): every spoke of its critical set has its values, local or relayed. -/
def Block.mayCutEarly (b : Block) (x : Slot) (p : Nat) : Bool :=
  let m := b.members
  b.inExchange && b.captain && b.flag F.ALN_CTRL_EARLY_EN && x.phase == 0 && x.dl.isSome && !x.cutSent && !x.early
  && !m.isEmpty && m.all x.bitmap.contains
  && decide (p + b.leadUs * tickUs ≤ x.dl.getD 0 ∧ b.aln.lastC + tickMs ≤ p + b.leadUs * tickUs)

/-- The slot is to be cut at P′ (R363). -/
def Block.setEarly (b : Block) (s p : Nat) : Block := b.modSlot s fun x => { x with early := true, dl := some (p + b.leadUs * tickUs) }

/-- The captain that holds its critical set names P′ (R363). -/
def Block.earlyCut (b : Block) (s : Nat) : Block :=
  let p := b.tai + 60 * tickUs + Config.earlyLead
  match b.slot s with
  | none => b
  | some x => if b.mayCutEarly x p then (b.setEarly s p).tdmSend [3, s, 1, p] else b

/-- The values of a report for one slot (R161, R162, R168, R175, R363): `own` of this unit's ING, not a relay; `arr` the tick of
arrival; `stat` the source STAT. -/
def Block.writeSlot (b : Block) (spoke : Nat) (v : SpVer) (own : Bool) (stat arr s : Nat) (vals : List W64) : Block :=
  let n := vals.countP entPresent
  if n = 0 then b
  else if b.tooEarly s then b.bumpBy Reg.ALN_CNT_TOO_EARLY n
  else if b.isSettled s then b
  else
    let b := b.openSlot s
    match b.slot s with
    | none => b
    | some x =>
      let base := v.rowBase
      if x.lateFor spoke own then
        let put := (x.taken base vals).map fun p => (p.1, withLate p.2)
        let b := b.modSlot s fun x => { x with row := putRow x.row base put, stats := tabSet x.stats spoke stat }
        let b := if arr < x.c then b.bumpBy Reg.ING_CNT_LATE_WRITE put.length else b
        let conv := put.countP fun p => entConv p.2 != convDirect
        (b.cntSpoke spoke spConv conv).amend spoke v.ver base s put
      else
        let put := x.taken base vals
        let fast := put.filter fun p => b.aln.flChans.contains (base + p.1)
        let conv := put.countP fun p => entConv p.2 != convDirect
        let first := !x.bitmap.contains spoke
        let b := b.modSlot s fun x =>
          let x := { x with row := putRow x.row base put, stats := tabSet x.stats spoke stat, bitmap := insNat spoke x.bitmap }
          let x := { x with frame := x.frame.map fun f => putRow f base fast }
          { x with relayed := if own then x.relayed.filter (· != spoke) else if first then insNat spoke x.relayed else x.relayed }
        (b.cntSpoke spoke spConv conv).earlyCut s

/-- The slot without a spoke's values, at row channels `base` up to `base + n`. -/
def Slot.without (x : Slot) (spoke base n : Nat) : Slot :=
  let keep := fun (e : Nat × W64) => decide (e.1 < base ∨ base + n ≤ e.1)
  { x with row := x.row.filter keep, frame := x.frame.map fun f => f.filter keep, bitmap := x.bitmap.filter (· != spoke),
           relayed := x.relayed.filter (· != spoke), stats := x.stats.filter (·.1 != spoke) }

/-- The values a spoke's version has ahead of the device time are taken back: the version no longer serves those slots
(R118, R119). -/
def Block.takeBack (b : Block) (x : Spoke) : Block :=
  match x.cur with
  | none => b
  | some v => b.modAln fun u => { u with slots := b.aln.slots.map fun y =>
      if y.phase = 0 ∧ b.tai < y.s then y.without x.num v.rowBase v.kinds.length else y }

/-! ### An accepted report -/

/-- A report as its source delivered it: report time and arrival as ticks, latency in ns, flags (bits of `entFlags`), class,
source STAT, entries, and whether its time lies on the spoke's grid. -/
structure Incoming where
  t       : Nat
  arr     : Nat
  lat     : Int
  flags   : Nat
  tq      : Nat
  stat    : Nat
  entries : List W64
  onGrid  : Bool

/-- Flag bits of `entFlags`. -/
abbrev flPresent : Nat := 32
abbrev flLate : Nat := 16
abbrev flInvalid : Nat := 8
abbrev flTest : Nat := 4
abbrev flSrcErr : Nat := 2
abbrev flSuspect : Nat := 1

/-- Histogram bin of a latency in ns (R135). -/
def latBin (lat : Int) : Nat :=
  [0, 1, 2, 3, 4, 6, 8, 10, 12, 15, 20, 30, 50, 100, 250].countP fun ms => decide (((ms * 1000000 : Nat) : Int) ≤ lat)

/-- A report put among those kept, newest first. -/
def insReport (r : Report) : List Report → List Report
  | [] => [r]
  | y :: l => if y.t < r.t then r :: y :: l else y :: insReport r l

/-- The version a report time falls under (R118). -/
def Spoke.verAt (x : Spoke) (t : Nat) : Option SpVer :=
  match x.cur, x.prev with
  | some c, some p => if t ≤ c.since then some p else some c
  | c, _ => c

/-- The version serves slot time `s`: the current one after its commit, the previous one up to it; none after a removal. -/
def Spoke.serves (x : Spoke) (v : SpVer) (s : Nat) : Bool :=
  (match x.cur with
    | none => false
    | some c => if c.ver = v.ver then decide (c.since < s) else decide (s ≤ c.since))
  && (x.state != 5 || decide (s ≤ x.removeAt))

/-- The method of a spoke under a version. -/
def Block.methodFor (b : Block) (x : Spoke) (v : SpVer) : Method := methodOf v.fs8 b.cadence x.type x.method

/-- Every slot the report could still fill has settled (R125). -/
def Block.spent (b : Block) (x : Spoke) (v : SpVer) (t : Nat) : Bool :=
  let z := t + reachTicks (b.methodFor x v) v.fs8 x.holdMax
  match b.aln.lastS with
  | none => false
  | some l =>
    if l < slotFloor b.cadence z then false
    else match b.slotTo z with
      | none => true
      | some y => y.phase == 2

/-- The device time lies more than 1 s before the report time (R125). -/
def Block.ahead1s (b : Block) (t : Nat) : Bool := decide (b.tai + tickS < t)

/-- A relay of an accepted report to the partner (R360): sent at once while the lane is up, otherwise it waits. -/
def Block.relay (b : Block) (spoke t : Nat) (entries : List W64) : Block :=
  if !b.inExchange then b
  else
    let n := entries.countP entPresent
    let b := b.bumpBy Reg.TDM_CNT_RELAY_TX n
    let msg := [5, spoke, t] ++ entries.map BitVec.toNat
    if b.laneUp then b.tdmSend msg else (b.modTdm fun u => { u with relays := b.tdm.relays ++ [(n, b.now, msg)] })

/-- A configuration request is sent: CFG-3 first (R567). -/
def Block.requestCfg (b : Block) (n kind : Nat) : Block :=
  let b := b.modSpoke n fun x => { x with reqKind := kind, reqAt := b.now }
  match b.spoke n with
  | none => b
  | some x => b.sendNet (bits (x.w 2) 2 0) Emit.c37 (max 64 (udpLen (bits (x.w 2) 27 16 != 0xFFF) 18)) [2, n, bits (x.w 7) 15 0, kind + 3]

/-- A first attempt of a series, unless a request is out (R567). -/
def Block.fetchCfg (b : Block) (n : Nat) : Block :=
  match b.spoke n with
  | none => b
  | some x => if x.reqKind ≠ 0 then b else (b.modSpoke n fun x => { x with tries := 0 }).requestCfg n 3

/-- Checks 9 to 11 of R124 over a report: the counter it fails with, none when it is accepted. -/
def Block.reportFails (b : Block) (x : Spoke) (v : SpVer) (r : Incoming) : Option Nat :=
  if b.ahead1s r.t || b.spent x v r.t then some spRange
  else if !r.onGrid then some spOffGrid
  else
    match tabGet x.seen r.t with
    | none => none
    | some c => some (if c = (Config.reportChecksum r.entries).toNat then spDupSame else spDupConflict)

/-- What the report's reception leaves in the spoke's context (R134 to R136, W18 to W22). -/
def Spoke.hear (x : Spoke) (now : Nat) (v : SpVer) (r : Incoming) (rep : Report) : Spoke :=
  let keep := max (11 * tickS) (reportTicks v.fs8 (x.holdMax + 1))
  let newest := match x.reports with
    | [] => r.t
    | y :: _ => max y.t r.t
  let us := r.lat / 1000
  { x with
    seen := (tabSet x.seen r.t (Config.reportChecksum r.entries).toNat).filter fun e => decide (newest ≤ e.1 + keep)
    reports := (insReport rep x.reports).filter fun y => decide (newest ≤ y.t + keep)
    hist := modAt x.hist (latBin r.lat) fun n => min 0xFFFFFFFF (n + 1)
    latMax := some (max us (x.latMax.getD us))
    lastTime := r.t, lastArr := r.arr, lastTq := r.tq, lastSt := r.stat, heardAt := now, sizeFails := 0
    gapFrom := if x.gapFrom = 0 then r.t + 1 else x.gapFrom }

/-- An accepted report's values into the rows (R137, R140 to R143). -/
def Block.convert (b : Block) (x : Spoke) (v : SpVer) (own : Bool) (r : Incoming) (rep : Report) : Block :=
  let same := x.reports.filter fun y => y.ver == v.ver && y.t != r.t
  let prev := same.find? (·.t < r.t)
  let next := (same.filter (r.t < ·.t)).getLast?
  let ahead := b.tai + 128 * tickS / max 1 b.cadence
  let out := derail (b.methodFor x v) v.fs8 x.holdMax b.f0 ahead v.kinds prev next rep b.slotsIn
  out.foldl (fun b o => if x.serves v o.1 then b.writeSlot x.num v own r.stat r.arr o.1 o.2 else b) b

/-- A SILENT spoke that is heard again (R120). -/
def Block.resume (b : Block) (n : Nat) : Block :=
  match b.spoke n with
  | none => b
  | some x =>
    if x.state ≠ 3 then b
    else (b.modSpoke n fun x => { x with state := 2, critWhy := 4 }).note 0x0406 n ((b.now - x.silentAt) / tickS)

/-- A report of a spoke that takes reports (R124 checks 9 to 11, R126, R134, R135). -/
def Block.takeReport (b : Block) (n : Nat) (own : Bool) (r : Incoming) : Block :=
  match b.spoke n with
  | none => b
  | some x =>
    match x.verAt r.t with
    | none => b.bump Reg.ING_CNT_NO_CFG
    | some v =>
      match b.reportFails x v r with
      | some c =>
        let b := b.cntSpoke n c 1
        if c = spDupConflict && !b.within x.dupAt tickS then
          (b.modSpoke n fun x => { x with dupAt := some b.now }).note 0x0408 n (lt32 r.t)
        else b
      | none =>
        if r.flags &&& flTest ≠ 0 ∧ !x.testOk then b
        else
          let entries := r.entries.map fun e => if entPresent e then mkEntry (flPresent ||| r.flags) r.tq convDirect (entVal e) else 0
          let rep : Report := ⟨r.t, v.ver, entries⟩
          let b := b.cntSpoke n spFrames 1
          let b := if r.flags &&& flInvalid ≠ 0 then b.cntSpoke n spInvalid 1 else b
          let b := (b.modSpoke n fun x => x.hear b.now v r rep).resume n
          let b := b.convert x v own r rep
          if own then b.relay n r.t entries else b

end Sys2Proof.Machine
end

