-- ==== Sys2Proof/Machine/Ingest.lean ====
section
/-!
DEFINITION. Spokes: taking in streams (spec/04_spokes.md, R115 to R151, R566 to R568).
-/
namespace Sys2Proof.Machine

/-- The block with its spokes replaced. -/
def Block.setSpokes (b : Block) (l : List Spoke) : Block := (b.modIng fun u => { u with spokes := l })

/-! ### Definitions and versions (R115 to R119, R157) -/

/-- The RW bits of the context words W00 to W17 (R147). -/
def ctxMasks : List W32 :=
  [0x7, 0xFFFF, 0x0FFF0007, 0xFFFFFFFF, 0xFFFF, 0xFFFFFFFF, 0xFFFFFFFF, 0xFFFFF, 0, 0, 0, 0, 0, 0xF03, 0x3, 0x03FF00FF, 0xFFFF, 0x3]

/-- What a LOAD of a FREE spoke shows in W00 to W17: each RW field at its reset value (R147). -/
def ctxDefaults : List W32 :=
  [0, 0xFFFF, 0x0FFF0000, 0, 0, 0, 0x12691268, 0, 0, 0, 0, 0, 0, 0x200, 2, 0x03DE001E, 1000, 0]

/-- A spoke as its definition leaves it, in FREE. -/
def Spoke.fresh (n : Nat) (words : List W32) (svid : List Byte) : Spoke :=
  { num := n, state := 0, words := words, svidHash := crc32c svid, ver := 0, cur := none, prev := none, lastTime := 0, lastArr := 0,
    lastTq := 0, lastSt := 0, p50 := 0, p99 := 0, p999 := 0, latMax := none, cnt := List.replicate 12 0, hist := List.replicate 16 0,
    reports := [], seen := [], sizeFails := 0, heardAt := 0, reqKind := 0, reqAt := 0, tries := 0, retryAt := 0, changeDue := false,
    header := [], removeAt := 0, dupAt := none, member := false, autoFrom := none, envHold := false, svMiss := 0, svGapTo := 0,
    pendCfg := none, critWhy := 0, fillNow := (0, 0), fillHist := [], gapFrom := 0, silentAt := 0 }

/-- Eighths of a channel-value per second of a configuration at a cadence (R116). -/
def loadCv (type nch fs8 c : Nat) : Nat := nch * max fs8 (8 * c) + (if type = 2 then 8 * 38400 else 0)

/-- Eighths of a frame per second (R116). -/
def loadFr (type fs8 : Nat) : Nat := if type = 2 then 8 * 2400 else fs8

/-- The committed sums at a cadence, without spoke `skip`, in eighths (R116). -/
def Block.loads (b : Block) (skip c : Nat) : Nat × Nat :=
  b.ing.spokes.foldl (fun a x =>
    match x.cur with
    | none => a
    | some v => if x.num = skip then a else (a.1 + loadCv x.type v.kinds.length v.fs8 c, a.2 + loadFr x.type v.fs8)) (0, 0)

/-- Both sums stay within their limits (R116). -/
def withinBudget (l : Nat × Nat) : Bool := decide (l.1 ≤ 8 * 62914560 ∧ l.2 ≤ 8 * 983040)

/-- A cadence fits the ingest budget (R116, R153). -/
def Block.cadenceFits (b : Block) (c : Nat) : Bool := withinBudget (b.loads 4096 c)

/-- Granules that hold so many channels (R157). -/
def granulesFor (nch : Nat) : Nat := (nch + 31) / 32

/-- A run of granules is free. -/
def Block.runFree (b : Block) (base count : Nat) : Bool :=
  decide (base + count ≤ 8192) && b.aln.runs.all fun r => decide (r.base + r.count ≤ base ∨ base + count ≤ r.base)

/-- The lowest granule where a run fits (R157). -/
def Block.findRun (b : Block) (count : Nat) : Option Nat :=
  ((0 :: b.aln.runs.map fun r => r.base + r.count).filter fun g => b.runFree g count).foldl (fun (m : Option Nat) g =>
    match m with
    | none => some g
    | some n => some (min n g)) none

/-- A configuration fits: the budget, then row space; the run it would take (R116, R157). 0 budget, 1 row space. -/
def Block.place (b : Block) (x : Spoke) (cfg : SpVer) : Except Nat (Nat × Bool) :=
  let l := b.loads x.num b.cadence
  let n := cfg.kinds.length
  if !withinBudget (l.1 + loadCv x.type n cfg.fs8 b.cadence, l.2 + loadFr x.type cfg.fs8) then .error 0
  else
    match x.cur with
    | some c =>
      if granulesFor c.kinds.length = granulesFor n then .ok (c.rowBase, false)
      else match b.findRun (granulesFor n) with
        | none => .error 1
        | some g => .ok (32 * g, true)
    | none => match b.findRun (granulesFor n) with
      | none => .error 1
      | some g => .ok (32 * g, true)

/-- A commit under R118: VER rises, the version before is kept, and a run of its own where it needs one. -/
def Block.commitVer (b : Block) (n : Nat) (cfg : SpVer) : Except Nat Block :=
  match b.spoke n with
  | none => .error 1
  | some x =>
    match b.place x cfg with
    | .error e => .error e
    | .ok (base, own) =>
      let ver := (x.ver + 1) % 256
      let new := { cfg with ver := ver, since := b.tai, rowBase := base }
      let b := (b.takeBack x).modSpoke n fun x => { x with ver := ver, cur := some new, prev := x.cur, pendCfg := none }
      let run : GranRun := ⟨n, ver, base / 32, granulesFor cfg.kinds.length, none⟩
      .ok (if own then (b.modAln fun u => { u with runs := run :: b.aln.runs }) else b)

/-- Every slot with S at or before `t` has settled. -/
def Block.settledTo (b : Block) (t : Nat) : Bool :=
  (b.aln.slots.all fun y => decide (t < y.s) || y.phase == 2) && match b.aln.lastS with
    | none => true
    | some l => decide (slotFloor b.cadence t ≤ l)

/-- A run still in use: it holds the current or the previous version of its spoke. -/
def Block.runUsed (b : Block) (r : GranRun) : Bool :=
  match b.spoke r.spoke with
  | none => false
  | some x => [x.cur, x.prev].any fun v => match v with
    | none => false
    | some v => decide (v.rowBase = 32 * r.base)

/-- Versions and spokes whose last slots have settled are let go (R118, R119, R157), with what MOD keeps of their channels. -/
def Block.dropOld (b : Block) : Block :=
  let spokes := (b.ing.spokes.filter fun x => !(x.state == 5 && b.settledTo x.removeAt)).map fun x =>
    match x.cur with
    | none => x
    | some v => if x.prev.isSome && b.settledTo v.since then { x with prev := none } else x
  let b := b.setSpokes spokes
  let gone := b.aln.runs.filter fun r => !b.runUsed r
  let b := b.modAln fun u => { u with runs := b.aln.runs.filter b.runUsed }
  b.modMod fun m => { m with chans := m.chans.filter fun e => !(gone.any fun r => e.1 / 8 / 32 ≥ r.base && e.1 / 8 / 32 < r.base + r.count) }

/-- The GSP fixes the spoke in the critical set (R138, parameter 0x0401). -/
def Block.envFixed (b : Block) (n : Nat) : Bool :=
  match b.grd.gsp with
  | none => false
  | some g => g.envelopes.any fun e => e.param == 0x0401 && decide (e.min ≤ n ∧ n ≤ e.max)

/-- The words a definition or commit would leave: RW bits taken, an unlisted MODE ignored, HOLD_MAX within 1 to 15 (R565). -/
def mergeCtx (old new : List W32) : List W32 :=
  (ctxMasks.zip (old.zip new)).zipIdx.map fun p =>
    let v := (p.1.2.1 &&& ~~~p.1.1) ||| (p.1.2.2 &&& p.1.1)
    if p.2 = 13 ∧ bits v 11 8 = 0 then putBits v 11 8 1
    else if p.2 = 14 ∧ bits v 1 0 = 3 then putBits v 1 0 (bits p.1.2.1 1 0)
    else v

/-- Words a spoke may have (R115, R133, R147). -/
def ctxOk (w : List W32) : Bool :=
  let at_ := fun i => w.getD i 0
  let type := bits (at_ 0) 2 0
  let st := bits (at_ 1) 15 0
  decide (1 ≤ type ∧ type ≤ 5) && (decide (st ≤ 1023) || st == 0xFFFF) && bits (at_ 2) 2 0 != 7
  && !(type == 3 && bits (at_ 13) 1 0 == 2)

/-- No more of its kind may be defined (R115, R3). -/
def Block.kindFull (b : Block) (type : Nat) : Bool :=
  let n := b.ing.spokes.countP fun x => x.type == type
  if type = 2 then decide (32 ≤ n)
  else if type = 3 then decide (256 ≤ n) || b.top.variant == .n0
  else if type = 4 then decide (1 ≤ n)
  else if type = 5 then decide (1 ≤ n) || !b.flag F.TDM_CTRL_EN
  else false

/-- 1.0 as a single: the scale factor of values in engineering units. -/
abbrev oneW : W32 := 0x3F800000#32

/-- KINDs of the local PMU's channels (R216). -/
def Block.localKinds (b : Block) : List Nat :=
  ((List.range 8).map fun k => b.fld (F.AFE_CH_CFG_KIND.at (4 * k))) ++ [0, 1, 0, 1, 2, 3, 0, 2, 5, 5]

/-- The configuration a spoke of TYPE 2 to 5 has by its kind (R131, R133, R216, R566). -/
def Block.kindConfig (b : Block) (x : Spoke) : SpVer :=
  let base : SpVer := { ver := 0, since := 0, fs8 := 8 * b.cadence, ext := false, kinds := [], scales := [], format := 0, conf := 0,
                        size := 0, timeBase := 0, rowBase := 0 }
  if x.type = 2 then { base with kinds := [1, 1, 1, 1, 0, 0, 0, 0, 0, 1, 2, 3], scales := List.replicate 12 oneW }
  else if x.type = 3 then
    let i := bits (x.w 7) 15 0 % 256
    let a := tabGet b.rad.entries i
    let nch := match a with
      | none => 16
      | some a => if a.state = 0 ∨ a.nch = 0 then 16 else min 16 a.nch
    let gear := match a with
      | none => 0
      | some a => a.gear % 4
    { base with fs8 := 40 / 2 ^ gear, kinds := (List.range nch).map fun c => Config.radioKind i c % 6,
                scales := (List.range nch).map fun c => Config.radioScale i c }
  else { base with kinds := b.localKinds, scales := List.replicate 18 oneW }

/-- A definition of a FREE number (R115 to R120). -/
def Block.defineSpoke (b : Block) (n : Nat) (words : List W32) (svid : List Byte) : Nat × Block :=
  let w := mergeCtx ctxDefaults words
  let x := Spoke.fresh n w svid
  if !ctxOk w then (yBadParam, b)
  else if b.kindFull x.type then (yResource, b)
  else
    let b1 := b.setSpokes ((b.ing.spokes.filter fun y => decide (y.num < n)) ++ [x] ++ b.ing.spokes.filter fun y => decide (n < y.num))
    if x.type = 1 then
      (yOk, ((b1.modSpoke n fun x => { x with state := 1 }).note 0x0401 n 1 0).fetchCfg n)
    else match b1.commitVer n (b1.kindConfig x) with
      | .error e => (yResource, if e = 0 then b.bump Reg.ING_CNT_BUDGET_REJ else b)
      | .ok b2 => (yOk, (b2.modSpoke n fun x => { x with state := 2, heardAt := b.now, critWhy := 4 }).note 0x0401 n x.type 1)

/-- A commit over a defined spoke (R118, R120). -/
def Block.recommitSpoke (b : Block) (x : Spoke) (words : List W32) : Nat × Block :=
  let w := mergeCtx x.words (words.set 0 (x.w 0))
  if x.state = 5 ∨ x.prev.isSome then (yBusy, b)
  else if !ctxOk w then (yBadParam, b)
  else
    let keep := fun (y : Spoke) => { y with words := w, critWhy := if bits (w.getD 14 0) 1 0 = bits (x.w 14) 1 0 then y.critWhy else 2 }
    let cfg := if x.state = 4 then (match x.pendCfg with
      | none => x.cur
      | some p => some p) else x.cur
    match cfg with
    | none => if x.state = 4 then (yResource, b) else (yOk, b.modSpoke x.num keep)
    | some v => match (b.modSpoke x.num keep).commitVer x.num v with
      | .error e => (yResource, if e = 0 then b.bump Reg.ING_CNT_BUDGET_REJ else b)
      | .ok b1 => (yOk, if x.state = 4 then b1.modSpoke x.num fun y => { y with state := 2, heardAt := b.now, critWhy := 4 } else b1)

/-- A definition or change of a spoke, by SPOKE_DEFINE or a window commit (R118, R139). -/
def Block.setSpoke (b : Block) (n session : Nat) (words : List W32) (svid : List Byte) : Nat × Block :=
  let old := b.spoke n
  if 4096 ≤ n then (yBadParam, b)
  else if bits (words.getD 14 0) 1 0 = 0 ∧ b.envFixed n ∧ !(match old with
      | none => false
      | some x => x.state == 5) then
    let kept := match old with
      | none => 2
      | some x => bits (x.w 14) 1 0
    (yDenied, (b.modSpoke n fun x => { x with envHold := true }).denyEnvelope 0x0401 0 session kept)
  else match old with
    | none => b.defineSpoke n words svid
    | some x => b.recommitSpoke x words

/-- SPOKE_DEFINE (R118, R433). -/
def spokeDefine (h : Hdr) (spoke : Nat) (words : List W32) (svid : List Byte) (k : Key) (b : Block) : Block :=
  b.ycp k h 0x0201 ⟨some roleEng, true⟩ fun b =>
    if 64 < svid.length then yErr b yBadParam
    else
      let r := b.setSpoke spoke h.session words svid
      let ver := ((r.2.spoke spoke).map Spoke.ver).getD 0
      if r.1 = yOk then ⟨yOk, beBytes 1 ver, r.2⟩ else yErr r.2 r.1

/-- A C37.118 command to a managed PMU (R123). -/
def Block.commandPmu (b : Block) (x : Spoke) (cmd : Nat) : Block :=
  if x.type ≠ 1 ∨ !x.managed then b
  else b.sendNet (bits (x.w 2) 2 0) Emit.c37 (max 64 (udpLen (bits (x.w 2) 27 16 != 0xFFF) 18)) [2, x.num, bits (x.w 7) 15 0, cmd]

/-- SPOKE_REMOVE (R119, R120). -/
def spokeRemove (h : Hdr) (spoke : Nat) (k : Key) (b : Block) : Block :=
  b.ycp k h 0x0202 ⟨some roleEng, true⟩ fun b =>
    match b.spoke spoke with
    | none => yErr b yBadParam
    | some x =>
      if x.state = 5 then yErr b yBusy
      else
        let b := ((b.commandPmu x 1).takeBack x).modSpoke spoke fun x => { x with state := 5, removeAt := b.tai, critWhy := 4, reqKind := 0 }
        yDone (b.note 0x0402 spoke x.ver)

/-! ### Configuration frames (R120, R121, R567) -/

/-- The spoke's source is the datagram's (R124 check 1), but for the port. -/
def Spoke.fromSrc (x : Spoke) (s : NetSrc) : Bool :=
  bits (x.w 2) 2 0 == s.port && bits (x.w 2) 27 16 == s.vlan && (x.w 3).toNat * 65536 + bits (x.w 4) 15 0 == s.mac
  && ((x.w 5).toNat == 0 || (x.w 5).toNat == s.ip)

def Spoke.dataPort (x : Spoke) : Nat := bits (x.w 6) 31 16
def Spoke.cmdPort (x : Spoke) : Nat := bits (x.w 6) 15 0
def Spoke.idcode (x : Spoke) : Nat := bits (x.w 7) 15 0
def Spoke.block (x : Spoke) : Nat := bits (x.w 7) 19 16

/-- Reporting rates a C37.118 spoke may have (R122). -/
def rateOk (r : Int) : Bool := [10, 12, 15, 20, 25, 30, 50, 60, 100, 120, 200, 240, 400, 480].any fun (n : Nat) => (n : Int) == r

/-- A rate outside the list of C37.118.1-2011 for the nominal frequency (R122). -/
def rateExt (f0 r : Nat) : Bool := !(if f0 = 50 then [10, 25, 50] else [10, 12, 15, 20, 30, 60]).contains r

/-- The configuration of one block as a version's content. -/
def cfgVersion (f0 : Nat) (c : CfgFrame) (p : CfgBlock) : SpVer :=
  { ver := 0, since := 0, fs8 := 8 * c.rate.toNat, ext := rateExt f0 c.rate.toNat, kinds := p.kinds, scales := p.scales, format := p.format,
    conf := p.conf, size := c.size, timeBase := c.timeBase, rowBase := 0 }

/-- Two configurations are the same but for version, instant and row space. -/
def SpVer.sameAs (a b : SpVer) : Bool :=
  a.fs8 == b.fs8 && a.kinds == b.kinds && a.scales == b.scales && a.format == b.format && a.conf == b.conf && a.size == b.size
  && a.timeBase == b.timeBase

/-- A retry is due 10 s from now. -/
def Block.retryLater (b : Block) (n : Nat) : Block := b.modSpoke n fun x => { x with reqKind := 0, retryAt := b.now }

/-- A parsed configuration meets the spoke's state (R120). -/
def Block.takeCfg (b : Block) (n : Nat) (v : SpVer) : Block :=
  match b.spoke n with
  | none => b
  | some x =>
    let old := match x.cur with
      | none => 0
      | some c => c.conf
    let same : Bool := match x.cur with
      | none => false
      | some c => c.sameAs v
    if (x.state = 2 ∨ x.state = 3) ∧ same then b.modSpoke n fun x => { x with changeDue := false, reqKind := 0 }
    else if x.prev.isSome then b.modSpoke n fun x => { x with pendCfg := some v, reqKind := 0 }
    else match (b.modSpoke n fun x => { x with reqKind := 0 }).commitVer n v with
      | .error e =>
        let b := if e = 0 then b.bump Reg.ING_CNT_BUDGET_REJ else b
        let b := (b.modSpoke n fun x => { x with state := 4, pendCfg := some v, critWhy := 4 }).retryLater n
        if x.state = 4 then b else b.note 0x0409 n e
      | .ok b =>
        let b := if x.state = 1 then b else b.note 0x0403 n old v.conf ((x.ver + 1) % 256)
        let b := b.modSpoke n fun x => { x with state := 2, heardAt := b.now, changeDue := false, sizeFails := 0, gapFrom := 0, critWhy := 4 }
        if x.ver = 0 then (b.commandPmu x 2).commandPmu x 3 else b

/-- A configuration frame for one spoke (R120). -/
def Block.cfgFor (b : Block) (n : Nat) (cfg : Option CfgFrame) : Block :=
  match b.spoke n with
  | none => b
  | some x =>
    let blk := match cfg with
      | none => none
      | some c => (c.blocks[x.block]?).map fun p => (c, p)
    let live := x.state == 2 || x.state == 3
    match blk with
    | none => if x.state = 1 ∨ live then (b.note 0x0404 n 1).retryLater n else b.retryLater n
    | some (c, p) =>
      if 64 < p.kinds.length then (if x.state = 1 ∨ live then (b.note 0x0404 n 1).retryLater n else b.retryLater n)
      else if !rateOk c.rate then
        if x.state = 1 then (b.note 0x0404 n 2).retryLater n
        else if live then ((b.modSpoke n fun x => { x with state := 4, critWhy := 4 }).note 0x0409 n 2).retryLater n
        else b.retryLater n
      else b.takeCfg n (cfgVersion b.f0 c p)

/-- C37_CONFIG_FRAME (R120, R121): CFG-1 frames are ignored. -/
def c37ConfigFrame (src : NetSrc) (idcode kind : Nat) (cfg : Option CfgFrame) (b : Block) : Block :=
  if kind ≠ 2 ∧ kind ≠ 3 then b
  else
    let cands := b.ing.spokes.filter fun x => x.type == 1 && x.fromSrc src && (x.dataPort == src.dport || x.cmdPort == src.dport)
    if cands.isEmpty then b.bump Reg.ING_CNT_NO_SPOKE
    else (cands.filter fun x => x.idcode == idcode && x.state != 5).foldl (fun b x => b.cfgFor x.num cfg) b

/-- C37_HEADER_FRAME (R123): up to 1,024 bytes of text are kept. -/
def c37HeaderFrame (src : NetSrc) (idcode : Nat) (text : List Byte) (b : Block) : Block :=
  let hit := fun (x : Spoke) => x.type == 1 && x.fromSrc src && (x.dataPort == src.dport || x.cmdPort == src.dport)
  if !b.ing.spokes.any hit then b.bump Reg.ING_CNT_NO_SPOKE
  else b.setSpokes (b.ing.spokes.map fun x => if hit x && x.idcode == idcode then { x with header := text.take 1024 } else x)

/-- CFG_REQUEST_TIMEOUT (R567): 2 s without a reply. -/
def cfgRequestTimeout (spoke : Nat) (b : Block) : Block :=
  match b.spoke spoke with
  | none => b
  | some x =>
    if x.reqKind = 0 ∨ !b.since x.reqAt (2 * tickS) then b
    else if x.reqKind = 3 then b.requestCfg spoke 2
    else if x.tries + 1 < max 1 (b.fld F.ING_CTRL_CFG_TRIES) then
      (b.modSpoke spoke fun x => { x with tries := x.tries + 1 }).requestCfg spoke 3
    else
      let b := (b.modSpoke spoke fun x => { x with tries := x.tries + 1 }).retryLater spoke
      if x.state = 1 then b.note 0x0404 spoke 0 else b

/-- CFG_RETRY (R120, R567): every 10 s. -/
def cfgRetry (spoke : Nat) (b : Block) : Block :=
  match b.spoke spoke with
  | none => b
  | some x =>
    let wants := x.state == 1 || x.state == 4 || ((x.state == 2 || x.state == 3) && x.changeDue)
    if x.type ≠ 1 ∨ !wants ∨ x.reqKind ≠ 0 ∨ !b.since x.retryAt (10 * tickS) then b
    else (b.modSpoke spoke fun x => { x with retryAt := b.now }).fetchCfg spoke

/-- SPOKE_SILENT (R120). -/
def spokeSilent (spoke : Nat) (b : Block) : Block :=
  match b.spoke spoke with
  | none => b
  | some x =>
    if x.state ≠ 2 ∨ !b.since x.heardAt (x.silentTmo * tickMs) then b
    else (b.modSpoke spoke fun x => { x with state := 3, silentAt := b.now, critWhy := 4 }).note 0x0405 spoke (lt32 x.lastArr)

/-! ### C37.118 data frames (R124 to R126) -/

/-- TAI seconds of a SOC (R76): around a leap, the inserted second is told by the leap-occurred bit. -/
def Block.socTai (b : Block) (soc : Nat) (occ : Bool) : Nat :=
  let ofs := b.fld F.TIM_UTC_UTC_OFS
  let del := b.flag F.TIM_UTC_LEAP_DIR
  let t := soc + ofs
  if b.flag F.TIM_UTC_LEAP_PEND && soc % 86400 == 86399 && occ && !del then t + 1
  else if b.afterLeap b.tai (60 * tickS) && decide (86340 ≤ soc % 86400) then
    if del then t + 1 else if soc % 86400 = 86399 && occ then t else t - 1
  else t

/-- Class of a FRACSEC code and of STAT[8:6]; none where STAT gives none (R126). -/
def codeClass (code : Nat) : Nat := if code ≤ 3 then 0 else if code ≤ 6 then code - 3 else 4
def statClass (stat : Nat) : Nat :=
  let s := stat / 64 % 8
  if s = 0 then 0 else if s ≤ 4 then s - 1 else 4

/-- Flags of STAT[15:14], and TIME_SUSPECT (R126). -/
def statFlags (stat : Nat) (suspect : Bool) : Nat :=
  [0, flSrcErr, flTest, flInvalid].getD (stat / 16384 % 4) 0 ||| (if suspect then flSuspect else 0)

/-- The PMU signals a change of configuration, STAT bit 10, or no longer does (R120, R567). -/
def Block.signal (b : Block) (x : Spoke) (stat : Nat) : Block :=
  let on := stat.testBit 10
  if on = x.changeDue then b
  else
    let b := b.modSpoke x.num fun x => { x with changeDue := on }
    if on then b.fetchCfg x.num else b

/-- A block of a spoke that takes no reports (R124 check 7): a SUSPENDED spoke's signal is heeded (R567). -/
def Block.noCfg (b : Block) (x : Spoke) (stat : Nat) : Block :=
  let b := b.bump Reg.ING_CNT_NO_CFG
  if x.state = 4 then b.signal x stat else b

/-- One spoke's block of a data frame that passed checks 1 to 6. -/
def Block.c37Block (b : Block) (x : Spoke) (d : C37Data) : Block :=
  let sec := b.socTai d.soc d.leapOcc
  let blk := d.blocks.getD x.block ⟨0, []⟩
  match x.cur with
  | none => b.noCfg x blk.stat
  | some c =>
    let rough := sec * tickS + d.frac * tickS / max 1 c.timeBase
    if !(x.state == 2 || x.state == 3 || (x.state == 5 && decide (rough ≤ x.removeAt))) then b.noCfg x blk.stat
    else match x.verAt rough with
      | none => b.bump Reg.ING_CNT_NO_CFG
      | some v =>
        if d.frameSize ≠ v.size then
          let b := (b.cntSpoke x.num spSize 1).modSpoke x.num fun x => { x with sizeFails := x.sizeFails + 1 }
          if x.sizeFails + 1 < 3 ∨ x.state = 5 then b
          else (b.modSpoke x.num fun x => { x with state := 1, sizeFails := 0, critWhy := 4 }).fetchCfg x.num
        else
          let fs := max 1 (v.fs8 / 8)
          let tb := max 1 v.timeBase
          let k := (2 * d.frac * fs + tb) / (2 * tb)
          let ofs := (((d.frac * fs : Nat) : Int) - ((k * tb : Nat) : Int)).natAbs
          let t := slotAt fs sec k
          let lat : Int := (d.arrival : Int) - ((sec * 1000000000 + d.frac * 1000000000 / tb : Nat) : Int)
          let suspect := decide (blk.stat / 4096 % 4 ≠ 0) || decide (lat < -1000000)
          let tq := if suspect then 4 else max (codeClass d.code) (if d.version = 1 then 0 else statClass blk.stat)
          let b := b.modSpoke x.num fun x => { x with sizeFails := 0 }
          let b := b.takeReport x.num true ⟨t, d.arrival / 8, lat, statFlags blk.stat suspect, tq, blk.stat, blk.entries,
            decide (ofs * 1000000 ≤ fs * 1000000 + tb * fs)⟩
          if x.state = 5 then b else b.signal x blk.stat

/-- C37_DATA_FRAME (R121, R124). -/
def c37DataFrame (d : C37Data) (b : Block) : Block :=
  if d.tcp then b.bump Reg.ING_CNT_TCP_DATA
  else
    let cands := b.ing.spokes.filter fun x => x.type == 1 && x.fromSrc d.src && x.dataPort == d.src.dport
    if cands.isEmpty then b.bump Reg.ING_CNT_NO_SPOKE
    else if d.sync = 0xAA ∧ [1, 2, 3, 5].contains d.ftype then b
    else if d.sync ≠ 0xAA ∨ d.ftype ≠ 0 ∨ !(d.version == 1 || d.version == 2) then b.bump Reg.ING_CNT_SYNC
    else if d.frameSize ≠ d.len then cands.foldl (fun b x => b.cntSpoke x.num spSize 1) b
    else if !d.crcOk then cands.foldl (fun b x => b.cntSpoke x.num spCrc 1) b
    else
      let serve := cands.filter fun x => x.idcode == d.idcode
      if serve.isEmpty then b.bump Reg.ING_CNT_NO_SPOKE
      else serve.foldl (fun b x => b.c37Block x d) b

/-! ### SV spokes (R129 to R132) -/

/-- A frame's samples counted: missing ones, and the slots a gap of three or more leaves without values (R132). -/
def Spoke.svGap (x : Spoke) (f : SvFrame) (cycle : Nat) : Spoke × Nat :=
  let bad := f.lost + (!f.valid0).toNat + (!f.valid1).toNat
  let run := if f.valid0 then x.svMiss + f.lost else x.svMiss + f.lost + 1
  let run2 := if f.valid1 then 0 else if f.valid0 then 1 else run + 1
  let worst := max run run2
  ({ x with svMiss := run2, svGapTo := if 3 ≤ worst then max x.svGapTo (f.last + cycle) else x.svGapTo }, bad)

/-- SV_FRAME (R129 to R132). -/
def svFrame (f : SvFrame) (b : Block) : Block :=
  match b.ing.spokes.find? fun x => x.type == 2 && x.idcode == f.appid && x.svidHash == crc32c f.svid with
  | none => b.bump Reg.ING_CNT_SV_REJ
  | some x =>
    match x.cur with
    | none => b.bump Reg.ING_CNT_SV_REJ
    | some v =>
      if !f.inScope ∨ f.src.port ≠ 1 ∨ (f.sim && !x.testOk) ∨ !(x.state == 2 || x.state == 3 || x.state == 5)
          ∨ (v.conf ≠ 0 ∧ v.conf ≠ f.confRev) then b.bump Reg.ING_CNT_SV_REJ
      else
        let b := if v.conf = 0 then b.modSpoke x.num fun x => { x with cur := some { v with conf := f.confRev } } else b
        let g := x.svGap f (tickS / b.f0)
        let b := (b.modSpoke x.num fun x => { x with svMiss := g.1.svMiss, svGapTo := g.1.svGapTo }).cntSpoke x.num spSampleGap g.2
        let tq := if f.synch = 2 then min 4 (f.declared.getD 1) else 4
        (f.out.filter fun o => decide (g.1.svGapTo < o.1)).foldl (fun b o =>
          b.takeReport x.num true ⟨o.1, f.arrival / 8, (f.arrival : Int) - ((o.1 * 8 : Nat) : Int), if f.sim then flTest else 0, tq, 0, o.2, true⟩) b

/-! ### Windows (R146 to R149) -/

/-- The words W00 to W39 of a spoke (R147). -/
def Block.ctxWords (b : Block) (n : Nat) : List W32 :=
  match b.spoke n with
  | none => ctxDefaults ++ List.replicate 22 0
  | some x =>
    let w := fun i => (x.w i).toNat
    let cnt := fun (l : List Nat) (k : Nat) => l.countP (· == k)
    let (ext, fs8, nch, fmt, conf, base) := match x.cur with
      | none => (0, 0, 0, 0, 0, 0)
      | some v =>
        let np := cnt v.kinds 0 + cnt v.kinds 1
        (v.ext.toNat, v.fs8, cnt v.kinds 4 * 2 ^ 24 + np * 2 ^ 16 + cnt v.kinds 5 * 2 ^ 8 + v.kinds.length, v.format, v.conf, v.rowBase)
    let crit := w 14 + 64 * x.envHold.toNat + 32 * (b.envFixed n).toNat + 16 * x.member.toNat
    ([x.ver * 2 ^ 24 + x.state * 2 ^ 16 + x.type, w 1, w 2, w 3, w 4, w 5, w 6, w 7, x.svidHash.toNat, ext * 2 ^ 31 + fs8, nch, fmt, conf,
      w 13, crit, w 15, w 16, w 17, x.lastTime % 2 ^ 32, x.lastTime / 2 ^ 32 % 65536, x.lastArr % 2 ^ 32, x.lastArr / 2 ^ 32 % 65536,
      x.lastTq * 65536 + x.lastSt % 65536, s32 x.p50, s32 x.p99, s32 x.p999, s32 (x.latMax.getD 0), base] ++ x.cnt).map (BitVec.ofNat 32)

/-- The 16 bins of a spoke. -/
def Block.histWords (b : Block) (n : Nat) : List W32 :=
  match b.spoke n with
  | none => List.replicate 16 0
  | some x => x.hist.map (BitVec.ofNat 32)

/-- SPOKE_STATUS (R433). -/
def spokeStatus (h : Hdr) (spoke opt : Nat) (k : Key) (b : Block) : Block :=
  b.ycp k h 0x0203 ⟨some roleObs, false⟩ fun b =>
    if 4096 ≤ spoke then yErr b yBadParam
    else
      let text := ((b.spoke spoke).map Spoke.header).getD []
      ⟨yOk, wordBytes (b.ctxWords spoke) ++ (if opt % 2 = 1 then wordBytes (b.histWords spoke) else [])
        ++ (if opt / 2 % 2 = 1 then text else []), b⟩

/-- SPOKE_CONTEXT_LOAD (R147, R148, R570): into the accessor's own windows. -/
def spokeContextLoadW (acc spoke : Nat) (k : Key) (b : Block) : WRes :=
  let st := b.mayWrite k acc roleObs false
  if st ≠ yOk then wErr b acc st
  else
    let n := spoke % 4096
    ⟨yOk, ((b.aput acc F.ING_CTX_SEL_SPOKE n).awrs acc Reg.ING_CTX_W (b.ctxWords n)).awrs acc Reg.ING_HIST_B (b.histWords n)⟩

/-- SPOKE_CONTEXT_COMMIT (R146, R118, R570). -/
def spokeContextCommitW (acc spoke : Nat) (k : Key) (b : Block) : WRes :=
  let n := spoke % 4096
  let r := (b.aput acc F.ING_CTX_SEL_SPOKE n).winAct k acc F.ING_CTX_SEL_ERR fun b =>
    let r := b.setSpoke n ((sessionOf acc).getD 0xFF) (b.ards acc Reg.ING_CTX_W 18) []
    ⟨r.1, r.2⟩
  ⟨r.status, if r.status = yBusy then r.b.aput acc F.ING_CTX_SEL_ERR 4 else r.b⟩

/-- Index of a channel among the fields of its own kind (R149). -/
def descIndex (type : Nat) (kinds : List Nat) (ch : Nat) : Nat :=
  if type ≠ 1 then ch
  else
    let group := fun k => if k ≤ 1 then 0 else k
    let g := group (kinds.getD ch 7)
    if g = 2 ∨ g = 3 then 0 else (kinds.take ch).countP fun k => group k == g

/-- The three descriptor words of a channel; 0 where the spoke has no such channel (R149). -/
def Block.descWords (b : Block) (n c : Nat) : List W32 :=
  match b.spoke n with
  | none => [0, 0, 0]
  | some x => match x.cur with
    | none => [0, 0, 0]
    | some v =>
      match v.kinds[c]? with
      | none => [0, 0, 0]
      | some kind =>
        let fast := (b.aln.flChans.contains (v.rowBase + c)).toNat
        [BitVec.ofNat 32 (descIndex x.type v.kinds c * 256 + fast * 8 + kind), v.scales.getD c 0, BitVec.ofNat 32 (v.rowBase + c)]

/-- CHANNEL_DESC_LOAD (R149). -/
def channelDescLoadW (acc spoke ch : Nat) (k : Key) (b : Block) : WRes :=
  let st := b.mayWrite k acc roleObs false
  if st ≠ yOk then wErr b acc st
  else
    let n := spoke % 4096
    let c := ch % 64
    let b := (b.aput acc F.ING_CH_SEL_SPOKE n).aput acc F.ING_CH_SEL_CH c
    ⟨yOk, b.awrs acc Reg.ING_CH_DESC (b.descWords n c)⟩

/-! ### Once per second (R135, R136, R138, R143) -/

/-- HIST_DECAY (R135). -/
def histDecay (b : Block) : Block :=
  if !b.since b.ing.decayAt (clampNat 1 3600 (b.fld F.ING_CTRL_HIST_DECAY) * tickS) then b
  else
    let spokes := b.ing.spokes.map fun x => { x with hist := x.hist.map (· / 2), latMax := none }
    b.modIng fun _ => { spokes := spokes, decayAt := b.now }

/-- Bounds of a histogram bin in µs; bin 15 counts as 250 ms (R135, R136). -/
def binBounds (i : Nat) : Int × Int :=
  let edges : List Int := [-1, 0, 1, 2, 3, 4, 6, 8, 10, 12, 15, 20, 30, 50, 100, 250, 250]
  (1000 * edges.getD i 0, 1000 * edges.getD (i + 1) 0)

/-- A percentile of a histogram in µs, in parts of 1,000 (R136). -/
def percentile (hist : List Nat) (pm : Nat) : Int :=
  let total := hist.foldl (· + ·) 0
  if total = 0 then 0
  else
    let rank := pm * total
    let r := hist.zipIdx.foldl (fun (a : Nat × Option Int) p =>
      match a.2 with
      | some _ => a
      | none =>
        if p.1 ≠ 0 ∧ rank ≤ 1000 * (a.1 + p.1) then
          let (lo, hi) := binBounds p.2
          let part := Q.norm ((hi - lo) * ((rank : Int) - 1000 * a.1)) (1000 * p.1)
          (a.1, some (lo + part.round))
        else (a.1 + p.1, none)) (0, none)
    r.2.getD 250000

/-- The auto rule over the last 10 s (R138): fill, then latency. -/
def Spoke.autoFill (x : Spoke) : Bool :=
  let slots := x.fillHist.foldl (fun n p => n + p.1) 0
  let got := x.fillHist.foldl (fun n p => n + p.2) 0
  decide (0 < slots ∧ bits (x.w 15) 25 16 * slots ≤ 1000 * got)

/-- The spoke ought to be in the critical set (R138). -/
def Block.critWanted (b : Block) (x : Spoke) : Bool :=
  x.state == 2 && (bits (x.w 14) 1 0 == 1 || b.envFixed x.num || (bits (x.w 14) 1 0 == 2 && match x.autoFrom with
    | none => false
    | some t => b.since t (bits (x.w 15) 7 0 * tickS)))

/-- One spoke's figures of the second (R136, R138). -/
def Block.secondOf (b : Block) (x : Spoke) : Spoke :=
  let x := { x with p50 := percentile x.hist 500, p99 := percentile x.hist 990, p999 := percentile x.hist 999,
                    fillHist := (x.fillNow :: x.fillHist).take 10, fillNow := (0, 0) }
  let fill := x.autoFill
  let lat := decide (x.p99 ≤ ((b.rd Reg.ALN_WAIT_MAX).toNat : Int))
  if x.state == 2 && fill && lat then
    let x := { x with autoFrom := some (x.autoFrom.getD b.now) }
    if b.critWanted x && !x.member then { x with critWhy := 5 } else x
  else if x.autoFrom.isSome then { x with autoFrom := none, critWhy := if x.state = 2 then (if fill then 1 else 0) else 4 }
  else x

/-- Reports missing from the spoke's grid whose time fell out of range (R143). -/
def Block.missing (b : Block) (x : Spoke) : Block :=
  match x.cur with
  | none => b
  | some v =>
    if v.fs8 = 0 ∨ x.gapFrom = 0 ∨ !(x.state == 2 || x.state == 3) then b
    else
      let fs := max 1 (v.fs8 / 8)
      let due := (gridSlots fs x.gapFrom b.tai).takeWhile fun t => b.spent x v t
      let gaps := due.countP fun t => (tabGet x.seen t).isNone
      let last := due.getLast?
      (b.cntSpoke x.num spGap gaps).modSpoke x.num fun x => { x with gapFrom := match last with
        | none => x.gapFrom
        | some t => t + 1 }

/-- A configuration that waited for the version before it is taken (R118, R120). -/
def Block.takePending (b : Block) (x : Spoke) : Block := match x.pendCfg with
  | some v => if x.state ≠ 4 ∧ x.state ≠ 5 ∧ x.prev.isNone then (b.modSpoke x.num fun x => { x with pendCfg := none }).takeCfg x.num v else b
  | none => b

/-- PERCENTILE_UPDATE (R136, R138, R143). -/
def percentileUpdate (b : Block) : Block :=
  let b := b.setSpokes (b.ing.spokes.map b.secondOf)
  let b := b.ing.spokes.foldl (fun b x => b.missing x) b
  let b := b.dropOld
  b.ing.spokes.foldl Block.takePending b

/-- Membership as it is from this close on, with SPOKE_CRIT (R138, R139), and the fill of the slot `x` (R138). -/
def Block.critClose (b : Block) (s : Nat) : Block :=
  let b := b.ing.spokes.foldl (fun b x =>
    let want := b.critWanted x
    if want = x.member then b
    else (b.modSpoke x.num fun y => { y with member := want }).note 0x0407 x.num want.toNat x.critWhy) b
  let bm := match b.slot s with
    | none => []
    | some y => y.bitmap
  b.setSpokes (b.ing.spokes.map fun x =>
    if x.state = 2 then { x with fillNow := (x.fillNow.1 + 1, x.fillNow.2 + (bm.contains x.num).toNat) } else x)

/-! ### The commands -/

def execC37DataFrame (d : C37Data) (s : State) : Host.Outcome State Fault Refusal := .next (s.onB fun _ => c37DataFrame d)
def execC37ConfigFrame (src : NetSrc) (idcode kind : Nat) (cfg : Option CfgFrame) (s : State) : Host.Outcome State Fault Refusal :=
  .next (s.onB fun _ => c37ConfigFrame src idcode kind cfg)
def execC37HeaderFrame (src : NetSrc) (idcode : Nat) (text : List Byte) (s : State) : Host.Outcome State Fault Refusal :=
  .next (s.onB fun _ => c37HeaderFrame src idcode text)
def execCfgRequestTimeout (spoke : Nat) (s : State) : Host.Outcome State Fault Refusal := .next (s.onB fun _ => cfgRequestTimeout spoke)
def execCfgRetry (spoke : Nat) (s : State) : Host.Outcome State Fault Refusal := .next (s.onB fun _ => cfgRetry spoke)
def execSpokeSilent (spoke : Nat) (s : State) : Host.Outcome State Fault Refusal := .next (s.onB fun _ => spokeSilent spoke)
def execSvFrame (f : SvFrame) (s : State) : Host.Outcome State Fault Refusal := .next (s.onB fun _ => svFrame f)
def execSpokeDefine (h : Hdr) (spoke : Nat) (words : List W32) (svid : List Byte) (s : State) : Host.Outcome State Fault Refusal :=
  .next (s.onB (spokeDefine h spoke words svid))
def execSpokeRemove (h : Hdr) (spoke : Nat) (s : State) : Host.Outcome State Fault Refusal := .next (s.onB (spokeRemove h spoke))
def execSpokeStatus (h : Hdr) (spoke opt : Nat) (s : State) : Host.Outcome State Fault Refusal := .next (s.onB (spokeStatus h spoke opt))
def execSpokeContextLoad (acc spoke : Nat) (s : State) : Host.Outcome State Fault Refusal :=
  .next (s.onB fun k b => (spokeContextLoadW acc spoke k b).b)
def execSpokeContextCommit (acc spoke : Nat) (s : State) : Host.Outcome State Fault Refusal :=
  .next (s.onB fun k b => (spokeContextCommitW acc spoke k b).b)
def execChannelDescLoad (acc spoke ch : Nat) (s : State) : Host.Outcome State Fault Refusal :=
  .next (s.onB fun k b => (channelDescLoadW acc spoke ch k b).b)
def execHistDecay (s : State) : Host.Outcome State Fault Refusal := .next (s.onB fun _ => histDecay)
def execPercentileUpdate (s : State) : Host.Outcome State Fault Refusal := .next (s.onB fun _ => percentileUpdate)

end Sys2Proof.Machine
end

