-- ==== Sys2Proof/Machine/Ledger.lean ====
section
/-!
DEFINITION. The cycle ledger: fixed stages, overruns, shedding and shares (R15, R25 to R43).
-/
namespace Sys2Proof.Machine

/-- Allotment of a fixed stage, in ticks (R25): 0 close and extract, 1 island, 2 guard, 3 pins, 4 bell frame. -/
def allotment (i : Nat) : Nat := [150, 300, 100, 50, 200].getD i 0 * tickUs

/-- The oldest slot that has completed `n` fixed stages: the next stage works on it (R15). -/
def Block.atStage (b : Block) (n : Nat) : Option Slot := b.aln.slots.find? fun x => x.stage == n && x.phase != 0

/-- The slot count in ALN_LDG_LAST_ and the results of the five stages, once all have completed (R42). -/
def Block.lastGroup (b : Block) (x : Slot) : Block :=
  let c := (lt48 x.c).toNat
  let b := (b.wr Reg.ALN_LDG_LAST_SEQ (BitVec.ofNat 32 x.rseq)).wr Reg.ALN_LDG_LAST_C_LO (BitVec.ofNat 32 c)
  let b := b.wr Reg.ALN_LDG_LAST_C_HI (BitVec.ofNat 32 (c >>> 32 + (if x.early then 2 ^ 16 else 0)))
  b.wrWords Reg.ALN_LDG_LAST_ (x.ends.zipIdx.map fun e =>
    BitVec.ofNat 32 (min e.1 (2 ^ 20 - 1) + (if x.ovr.testBit e.2 then 2 ^ 31 else 0)))

/-- Stage `i` of slot `s` completes after `run` ticks: its end from C, its overrun flag and the worst case (R15, R30, R42). -/
def Block.finishStage (b : Block) (s i run : Nat) : Block :=
  match b.slot s with
  | none => b
  | some x =>
    let e := x.ends.getLastD 0 + run
    let late := decide (allotment i < run)
    let x := { x with stage := i + 1, ends := x.ends ++ [e], ovr := if late then x.ovr ||| (1 <<< i) else x.ovr,
                      ovrDue := if late then x.ovrDue ++ [i] else x.ovrDue }
    let b := b.modSlot s fun _ => x
    let w := Reg.ALN_LDG_WORST_ + 4 * i
    let b := if (b.rd w).toNat < e then b.wr w (BitVec.ofNat 32 (min e (2 ^ 20 - 1))) else b
    if i = 4 then
      let used := decide (800 * tickUs < e)
      let b := (b.lastGroup x).putFlag F.ALN_LDG_STAT_RESERVE_USED used
      if used then b.bump Reg.ALN_LDG_CNT_RESERVE else b
    else b

/-! ### Levels (R32) -/

/-- Defined output sets in the order they are shed: the lowest priority first, of equal priority the higher number (R32). -/
def Block.shedOrder (b : Block) : List Nat :=
  let sets := (b.aln.outs.zipIdx.filter fun e => e.1.state != 0).map fun e => (e.1.prio, e.2)
  ((List.range 8).flatMap fun p => (sets.reverse.filter fun e => e.1 == p)).map (·.2)

/-- Levels in use (R32): those kept for sets that are not defined are passed over. -/
def Block.levels (b : Block) : List Nat := List.range (3 + b.shedOrder.length) ++ [19]

/-- One step up from a level. -/
def Block.levelUp (b : Block) (l : Nat) : Nat := (b.levels.find? (l < ·)).getD 19

/-- One step down from a level. -/
def Block.levelDown (b : Block) (l : Nat) : Nat := (b.levels.reverse.find? (· < l)).getD 0

/-- The set that a level sheds, if it sheds one. -/
def Block.shedAt (b : Block) (l : Nat) : Option Nat := if 3 ≤ l ∧ l ≤ 18 then b.shedOrder[l - 3]? else none

/-- An output set is shed at the level in force (R32). -/
def Block.isShed (b : Block) (set : Nat) : Bool := (b.shedOrder.take (b.level - 2)).contains set

/-- SHED_MODE: 0 AUTO, 1 PIN, 2 OFF. -/
def Block.shedMode (b : Block) : Nat := b.fld F.ALN_LDG_CTRL_SHED_MODE

/-- The level for the next close: raised by one step when the last slot overran, and no lower than a pinned one
(R31, R37). -/
def Block.nextLevel (b : Block) : Nat :=
  let l := if b.ldg.raise && b.shedMode != 2 then b.levelUp b.level else b.level
  if b.shedMode = 1 then max l (b.fld F.ALN_LDG_CTRL_PIN_LEVEL) else l

/-- At a close instant C the level and the shares take effect (R31, R41): LEDGER_SHED for a raise. SATURATED stays only while
overruns continue (R39; notes/assumptions/46.md). -/
def Block.ledgerClose (b : Block) (c : Nat) : Block :=
  let l := b.nextLevel
  let old := b.level
  let again := b.ldg.raise
  let b := (b.modLdg fun u => { u with raise := false, shareA := b.ldg.pendA.getD b.ldg.shareA, shareB := b.ldg.pendB.getD b.ldg.shareB,
                                        pendA := none, pendB := none })
  let b := if l = old then b else b.put F.ALN_LDG_STAT_LEVEL l
  let b := b.put F.ALN_LDG_STAT_CLEAN_SLOTS (min 65535 (b.fld F.ALN_LDG_STAT_CLEAN_SLOTS + 1))
  let b := if l < 19 || !again then b.put F.ALN_LDG_STAT_SATURATED 0 else b
  if old < l then (b.bump Reg.ALN_LDG_CNT_SHED).note 0x0502 l (lt32 c) ((b.shedAt l).getD 0xFFFFFFFF) else b

/-- LEDGER_OVERRUN (R30, R31, R34): class `cls` is the bit of ALN_LDG_OVR. -/
def ledgerOverrun (cls : Nat) (b : Block) : Block :=
  let fixed := decide (cls < 5)
  let x := if fixed then b.aln.slots.find? fun x => x.ovrDue.contains cls
    else b.aln.slots.foldl (fun (m : Option Slot) y => if y.phase = 0 then m else some y) none
  match x with
  | none => b
  | some x =>
    if !fixed && !(8 ≤ cls && cls ≤ 12) then b
    else
      let ovr := x.ovr ||| (1 <<< cls)
      let b := b.modSlot x.s fun y => { y with ovr, ovrDue := y.ovrDue.erase cls }
      let b := b.wr Reg.ALN_LDG_OVR (b.rd Reg.ALN_LDG_OVR ||| BitVec.ofNat 32 (1 <<< cls))
      let b := b.bump (if fixed then Reg.ALN_LDG_CNT_STAGE + 4 * cls else Reg.ALN_LDG_CNT_SHARED)
      let sat := decide (b.level = 19)
      let b := if sat then b.put F.ALN_LDG_STAT_SATURATED 1 else b
      let b := b.put F.ALN_LDG_STAT_CLEAN_SLOTS 0
      let b := if b.ldg.raiseSlot = some x.s then b else (b.modLdg fun u => { u with raise := true, raiseSlot := some x.s })
      b.note 0x0501 ovr (lt32 x.c) (x.ends.foldl max 0) sat.toNat

/-- LEDGER_RESTORE (R35): one step down; in PIN no lower than PIN_LEVEL (R37). -/
def ledgerRestore (b : Block) : Block :=
  let l := b.levelDown b.level
  let l := if b.shedMode = 1 then max l (b.fld F.ALN_LDG_CTRL_PIN_LEVEL) else l
  if b.fld F.ALN_LDG_STAT_CLEAN_SLOTS < b.fld F.ALN_LDG_CTRL_RESTORE_SLOTS ∨ b.level ≤ l then b
  else (((b.put F.ALN_LDG_STAT_LEVEL l).put F.ALN_LDG_STAT_CLEAN_SLOTS 0).put F.ALN_LDG_STAT_SATURATED 0).note 0x0503 l (lt32 b.aln.lastC)

/-- Every ALN_LDG_WORST_ register cleared (R38). -/
def Block.clearWorst (b : Block) : Block := b.wrWords Reg.ALN_LDG_WORST_ [0, 0, 0, 0, 0]

/-- WORST_CLR (R38). -/
def worstClrW (acc : Nat) (k : Key) (b : Block) : WRes :=
  let st := b.mayWrite k acc roleEng true
  if st ≠ yOk then wErr b acc st else ⟨yOk, b.clearWorst⟩

/-- The envelope forbids a SHED_MODE with a PIN_LEVEL (R37, R326): OFF, or a pinned level below the floor. -/
def Block.shedForbidden (b : Block) (mode pin : Nat) : Bool :=
  match b.envelope 0x0102 with
  | none => false
  | some e => (mode == 2 && !e.max.testBit 0) || (mode == 1 && decide (pin < e.min))

/-- SHED_MODE_SET (R37, R38): a write of ALN_LDG_CTRL. -/
def shedModeSetW (acc : Nat) (value : W32) (k : Key) (b : Block) : WRes :=
  let st := b.mayWrite k acc roleEng true
  if st ≠ yOk then wErr b acc st
  else
    let mode := if bits value 1 0 = 3 then b.shedMode else bits value 1 0
    let pin := min 19 (bits value 8 4)
    if b.shedForbidden mode pin then
      let kept := bits (b.rd Reg.ALN_LDG_CTRL) 8 0
      let b := (b.put F.ALN_LDG_STAT_ENVELOPE_HOLD 1).denyEnvelope 0x0102 (mode + 16 * pin) ((sessionOf acc).getD 0xFF) kept
      wErr b acc yDenied
    else
      let b := ((b.put F.ALN_LDG_CTRL_SHED_MODE mode).put F.ALN_LDG_CTRL_PIN_LEVEL pin).put F.ALN_LDG_CTRL_RESTORE_SLOTS
        (max 16 (bits value 27 16))
      let b := b.put F.ALN_LDG_STAT_ENVELOPE_HOLD 0
      ⟨yOk, if value.getLsbD 31 then b.clearWorst else b⟩

/-- The shares are allowed (R28). -/
def sharesOk (a bb : W32) : Bool :=
  decide (bits a 7 0 + bits a 15 8 + bits a 23 16 + bits a 31 24 + bits bb 7 0 ≤ 100 ∧ bits bb 15 8 ≤ bits bb 7 0 ∧ 2 ≤ bits bb 15 8)

/-- LEDGER_SHARE_WRITE (R28, R41): 0 ALN_LDG_SHARE_A, 1 ALN_LDG_SHARE_B. -/
def ledgerShareW (acc which : Nat) (value : W32) (k : Key) (b : Block) : WRes :=
  let st := b.mayWrite k acc roleEng true
  if st ≠ yOk then wErr b acc st
  else
    let a := if which = 0 then value else b.rd Reg.ALN_LDG_SHARE_A
    let c := if which = 0 then b.rd Reg.ALN_LDG_SHARE_B else value &&& 0xFFFF
    if !sharesOk a c then ⟨yBadParam, b.put F.ALN_LDG_STAT_SHARE_ERR 1⟩
    else
      let b := ((b.wr Reg.ALN_LDG_SHARE_A a).wr Reg.ALN_LDG_SHARE_B c).put F.ALN_LDG_STAT_SHARE_ERR 0
      ⟨yOk, (b.modLdg fun u => { u with pendA := some a, pendB := some c })⟩

/-! ### The commands -/

def execLedgerOverrun (cls : Nat) (s : State) : Host.Outcome State Fault Refusal := .next (s.onB fun _ => ledgerOverrun cls)
def execLedgerRestore (s : State) : Host.Outcome State Fault Refusal := .next (s.onB fun _ => ledgerRestore)
def execWorstClr (acc : Nat) (s : State) : Host.Outcome State Fault Refusal := .next (s.onB fun k b => (worstClrW acc k b).b)
def execShedModeSet (acc : Nat) (value : W32) (s : State) : Host.Outcome State Fault Refusal :=
  .next (s.onB fun k b => (shedModeSetW acc value k b).b)
def execLedgerShareWrite (acc which : Nat) (value : W32) (s : State) : Host.Outcome State Fault Refusal :=
  .next (s.onB fun k b => (ledgerShareW acc which value k b).b)

end Sys2Proof.Machine
end

