-- ==== Sys2Proof/Machine/Modal.lean ====
section
/-!
DEFINITION. Oscillation screening, modal tracking and source location (R257 to R290).
-/
namespace Sys2Proof.Machine

/-- An item put before the first that it precedes. -/
def insBy {α : Type} (before : α → α → Bool) (x : α) : List α → List α
  | [] => [x]
  | y :: r => if before x y then x :: y :: r else y :: insBy before x r

/-- A list in order; items that tie keep their order. -/
def sortBy {α : Type} (before : α → α → Bool) (l : List α) : List α := l.foldr (fun x r => insBy before x r) []

/-- A fraction times `scale`, rounded, as 32 bits (notes/assumptions/21.md). -/
def qField (q : Q) (scale : Nat) : Nat := s32 (q.mul (Q.ofNat scale)).round

/-- A watch by context. -/
def Block.watch (b : Block) (ctx : Nat) : Option Watch := tabGet b.mod.watches ctx

/-- A watch set. -/
def Block.setWatch (b : Block) (ctx : Nat) (w : Watch) : Block := b.modMod fun m => { m with watches := tabSet m.watches ctx w }

/-- MOD runs: EN, and the device is not in WATCH (R279, R280). -/
def Block.modOn (b : Block) : Bool := b.flag F.MOD_CTRL_EN && b.topState != stWatch

/-- B3 has stopped: the cadence is below 30 slots/s (R258). -/
def Block.b3Off (b : Block) : Bool := decide (b.cadence < 30)

/-- The band works: 1 to 4, B3 at a cadence of 30 and above, B4 while B4_EN (R258, R259). -/
def Block.bandOn (b : Block) (band : Nat) : Bool :=
  b.modOn && (band == 1 || band == 2 || (band == 3 && !b.b3Off) || (band == 4 && b.flag F.MOD_CTRL_B4_EN))

/-- The state of a channel-band; what a new one holds. -/
def ChBand.fresh : ChBand := ⟨Q.zero, Q.zero, 0, none, false, false, Q.zero, 0⟩

/-- Key of a channel-band. -/
def cbKey (ch band : Nat) : Nat := 8 * ch + band

/-- A channel-band. -/
def Block.cb (b : Block) (ch band : Nat) : ChBand := (tabGet b.mod.chans (cbKey ch band)).getD .fresh

/-- A channel-band set. -/
def Block.setCb (b : Block) (ch band : Nat) (c : ChBand) : Block :=
  b.modMod fun m => { m with chans := tabSet m.chans (cbKey ch band) c }

/-- FIR span and energy window of a band, in ms (R257). -/
def bandFill (band : Nat) : Nat := [0, 20000, 6000, 1500, 300].getD band 0

/-- A detector of the band restarts after a gap: its FIR span and energy window are not yet full (R265). B4 never restarts
(R259). -/
def Block.restarting (b : Block) (band : Nat) : Bool :=
  band != 4 && match b.mod.resumeAt with
  | none => false
  | some s => decide (b.mod.screened < s + bandFill band * tickMs)

/-- A mode is in alarm. -/
def Mode.alarm (m : Mode) : Bool := m.lowDamp || m.forced || m.resonance

/-- A watch has a mode in alarm. -/
def Watch.alarm (w : Watch) : Bool := w.modes.any Mode.alarm

/-- Peak ratio of the last 60 s (R269). -/
def Block.peakOf (b : Block) (w : Watch) : Q :=
  w.peaks.foldl (fun m p => if b.now / tickS < p.1 + 60 then m.max p.2 else m) Q.zero

/-- A watch of the band includes the channel. -/
def Block.watched (b : Block) (ch band : Nat) : Bool := b.mod.watches.any fun e => e.2.band == band && e.2.chans.contains ch

/-! ### Screening -/

/-- One ratio and RMS of a screened channel-band (R263). -/
def Block.screenOne (b : Block) (shed : Bool) (v : Nat × Q × W32) : Block :=
  let band := v.1 % 8
  if !b.bandOn band || (shed && band != 4) then b
  else b.modMod fun m => { m with chans := tabSet m.chans v.1 { (tabGet m.chans v.1).getD .fresh with ratio := v.2.1, rms := v.2.2 } }

/-- Peaks and quiet times of the watches after new ratios (R269, R270). -/
def Block.trackRatios (b : Block) : Block :=
  let quiet := Q.div (Q.ofNat (b.fld F.MOD_WATCH_CTRL_RETIRE_RATIO)) (Q.ofNat 100)
  let sec := b.now / tickS
  b.modMod fun m => { m with watches := m.watches.map fun e =>
    let w := e.2
    let rs := w.chans.map fun c => (b.cb c w.band).ratio
    let top := rs.foldl Q.max Q.zero
    (e.1, { w with peaks := (sec, top) :: w.peaks.filter (fun p => decide (sec < p.1 + 60) && !(p.1 == sec && p.2.le top)),
                   quietFrom := if rs.all (·.lt quiet) then some (w.quietFrom.getD b.now) else none }) }

/-- The shed gap of screening opens (R265). -/
def Block.shedGap (b : Block) : Block :=
  if b.mod.shedEp then b else (b.modMod fun m => { m with shedEp := true }).note 0x0809 0

/-- SCREENING_UPDATE (R263 to R265). -/
def screeningUpdate (slot : Nat) (vals : List (Nat × Q × W32)) (b : Block) : Block :=
  if !b.modOn then b
  else
    match b.slot slot with
    | none => b
    | some x =>
      if x.phase ≠ 2 then b
      else if 1 ≤ b.level then (vals.foldl (fun b v => b.screenOne true v) b.shedGap).trackRatios
      else
        let b := b.modMod fun m => { m with screened := max m.screened slot, shedEp := false,
                                            resumeAt := if m.shedEp then some slot else m.resumeAt }
        (vals.foldl (fun b v => b.screenOne false v) b).trackRatios

/-! ### Watches -/

/-- Damping window in s and update period in 0.05 s of a band, by default (R257). -/
def bandWin (band : Nat) : Nat := [600, 120, 30, 10, 5].getD band 5
def bandUpd (band : Nat) : Nat := [200, 20, 20, 10, 5].getD band 5

/-- The lowest-numbered FREE context (R268). -/
def Block.freeCtxLow (b : Block) : Option Nat := (List.range 128).find? fun c => (b.watch c).isNone

/-- The highest-numbered FREE context (R268). -/
def Block.freeCtxHigh (b : Block) : Option Nat := (List.range 128).reverse.find? fun c => (b.watch c).isNone

/-- The AUTO watch with the lowest peak, none of its modes in alarm (R269). -/
def Block.evictee (b : Block) : Option (Nat × Q) :=
  (b.mod.watches.filter fun e => !e.2.host && !e.2.alarm).foldl (fun best e =>
    let p := b.peakOf e.2
    match best with
    | none => some (e.1, p)
    | some (c, q) => if p.lt q then some (e.1, p) else some (c, q)) none

/-- A watch ends (R270): 0 quiet, 1 evicted, 2 host. -/
def Block.dropWatch (b : Block) (ctx reason : Nat) : Block :=
  ((b.modMod fun m => { m with watches := tabDel m.watches ctx }).bump Reg.MOD_CNT_RETIRE).note 0x0803 ctx reason

/-- A watch that begins to fill. -/
def Block.newWatch (b : Block) (host : Bool) (band : Nat) (chans : List Nat) (nmMax winS upd alarm drop : Nat) : Watch :=
  { state := 1, gapped := false, band, host, chans, nmMax, winS, upd, zetaAlarm := alarm, zetaDrop := drop, peaks := [],
    spawned := lt48 b.tai, updates := 0, gaps := 0, fillFrom := b.now, updAt := b.now, quietFrom := none, modes := [], nextId := 1,
    seq := 0 }

/-- At most `per` channels of one spoke, and 32 in all, in the order given (R268). -/
def Block.takeChans (b : Block) (per : Nat) (l : List Nat) : List Nat :=
  l.foldl (fun acc c =>
    let sp := (b.runOf c).map (·.spoke)
    let same := acc.filter fun d => (b.runOf d).map (·.spoke) == sp
    if 32 ≤ acc.length ∨ per ≤ same.length then acc else acc ++ [c]) []

/-- A spawn for a hit (R268, R269). -/
def Block.spawnWatch (b : Block) (ch band : Nat) (ratio : Q) : Block :=
  if !b.flag F.MOD_CTRL_AUTO_SPAWN || b.watched ch band then b
  else
    let co := Q.div (Q.ofNat (b.fld F.MOD_WATCH_CTRL_SPAWN_CO)) (Q.ofNat 100)
    let cands := b.mod.chans.filter fun e => e.1 % 8 == band && (co.le e.2.ratio || e.1 == cbKey ch band)
    let order := sortBy (fun (x y : Nat × ChBand) => !(x.2.ratio.lt y.2.ratio)) cands
    let chans := b.takeChans (b.fld F.MOD_WATCH_CTRL_PER_SPOKE) (order.map fun e => e.1 / 8)
    let w := b.newWatch false band chans 4 (bandWin band) (bandUpd band) 30 30
    let put (b : Block) (ctx evicted : Nat) : Block :=
      ((b.setWatch ctx w).bump Reg.MOD_CNT_SPAWN).note 0x0802 ctx band chans.length evicted
    match b.freeCtxHigh with
    | some c => put b c 0xFFFFFFFF
    | none =>
      match b.evictee with
      | none => b.bump Reg.MOD_CNT_SPAWN_FULL
      | some (c, p) => if p.lt ratio then put (b.dropWatch c 1) c c else b.bump Reg.MOD_CNT_SPAWN_FULL

/-- PERSIST of a band in ms. -/
def Block.persist (b : Block) (band : Nat) : Nat := b.fld (F.MOD_SCR_PERS_PERSIST.at (4 * (band - 1)))

/-- MOD_HIT, at most 50 in a second (R263). -/
def Block.hitRecord (b : Block) (ch band : Nat) (ratio : Q) : Block :=
  let recs := if b.mod.hitSec = b.tim.sec then b.mod.hitRecs else 0
  if recs < 50 then
    (b.modMod fun m => { m with hitSec := b.tim.sec, hitRecs := recs + 1 }).note 0x0801 band ch
      ((ratio.mul (Q.ofNat 100)).floor.toNat) (lt32 (if band = 4 then b.tai else b.mod.screened))
  else b.bump Reg.MOD_CNT_HIT_SUPP

/-- SCREENING_HIT (R263, R268). -/
def screeningHit (ch band : Nat) (ratio : Q) (ms : Nat) (b : Block) : Block :=
  let c := b.cb ch band
  if !b.bandOn band || c.hit || b.restarting band || ratio.lt (Q.ofNat 1) || ms < b.persist band then b
  else
    let b := (b.setCb ch band { c with hit := true, ratio }).bump Reg.MOD_CNT_HIT
    (b.hitRecord ch band ratio).spawnWatch ch band ratio

/-- HIT_CLEAR (R263). -/
def hitClear (ch band : Nat) (ratio : Q) (ms : Nat) (b : Block) : Block :=
  let c := b.cb ch band
  if !b.bandOn band || !c.hit || b.restarting band || !(ratio.lt ⟨4, 5⟩) || ms < b.persist band then b
  else b.setCb ch band { c with hit := false, ratio }

/-- LEARNING_SAMPLE (R266): not while the channel has a hit, a watch of it is in alarm, or the detector restarts. -/
def learningSample (ch band : Nat) (mu sigma : Q) (b : Block) : Block :=
  let hit := [1, 2, 3, 4].any fun d => (b.cb ch d).hit
  let alarm := b.mod.watches.any fun e => e.2.chans.contains ch && e.2.alarm
  if !b.bandOn band || hit || alarm || b.restarting band || b.mod.shedEp then b
  else
    let c := b.cb ch band
    b.setCb ch band { c with mu, sigma, samples := c.samples + 1 }

/-- A channel-band is learned (R266). -/
def ChBand.learned (c : ChBand) : Bool := decide (86400 ≤ c.samples)

/-- A two's-complement 32-bit number. -/
def sgn32 (n : Nat) : Int := (BitVec.ofNat 32 n).toInt

/-- The envelope's offsets ENV_LO_dB and ENV_HI_dB of a band (R267, R326). -/
def Block.thrEnv (b : Block) (band : Nat) : Option (Q × Q) :=
  (b.envelope (0x0501 + band)).map fun e => (Q.div (Q.ofInt (sgn32 e.min)) (Q.ofNat 10), Q.div (Q.ofInt (sgn32 e.max)) (Q.ofNat 10))

/-- A threshold in dB clamped to the envelope about `dflt`, and whether it sits at a bound. -/
def Block.clampThr (b : Block) (band : Nat) (dflt x : Q) : Q × Bool :=
  match b.thrEnv band with
  | none => (x, false)
  | some (lo, hi) =>
    let l := dflt.add lo
    let h := dflt.add hi
    let y := Q.clamp l h x
    (y, y == l || y == h)

/-- The hourly step of one channel-band's threshold (R267). -/
def Block.adaptOne (b : Block) (defDb : List Q) (e : Nat × ChBand) : Nat × ChBand :=
  let band := e.1 % 8
  let dflt := defDb.getD (2 * (band - 1) + (if b.kindOf (e.1 / 8) = 2 then 1 else 0)) Q.zero
  let c := e.2
  if c.learned && b.flag F.MOD_CTRL_ADAPT_EN then
    let k := Q.div (Q.ofNat (b.fld F.MOD_ADAPT_K_X10)) (Q.ofNat 10)
    let slew := Q.div (Q.ofNat (b.fld F.MOD_ADAPT_SLEW_X10)) (Q.ofNat 10)
    let target := (b.clampThr band dflt (c.mu.add (k.mul c.sigma))).1
    let now := c.thrDb.getD (b.clampThr band dflt dflt).1
    let thr := now.add (Q.clamp slew.neg slew (target.sub now))
    (e.1, { c with thrDb := some thr, clamped := (b.clampThr band dflt thr).2 })
  else (e.1, { c with thrDb := none, clamped := (b.clampThr band dflt dflt).2 })

/-- What MRAM keeps of a channel-band: its learned state (R266). -/
def ChBand.learntOnly (c : ChBand) : ChBand := { c with hit := false, ratio := Q.zero, rms := 0 }

/-- THRESHOLD_UPDATE (R266, R267). -/
def thresholdUpdate (defDb : List Q) (b : Block) : Block :=
  if !b.modOn then b
  else
    let new := b.mod.chans.map (b.adaptOne defDb)
    let changed := (List.zip b.mod.chans new).countP fun p => p.1.2.thrDb != p.2.2.thrDb
    let b := b.modMod fun m => { m with chans := new, saved := new.map fun e => (e.1, e.2.learntOnly) }
    b.note 0x0808 changed (new.countP (·.2.clamped)) (new.countP (·.2.learned))

/-- MOD_WATCH_RETIRE (R270). -/
def modWatchRetire (ctx : Nat) (b : Block) : Block :=
  match b.watch ctx with
  | none => b
  | some w =>
    match w.quietFrom with
    | none => b
    | some t =>
      if w.host || w.state != 2 || w.alarm || !b.since t (b.fld F.MOD_WATCH_CTRL_RETIRE_S * tickS) then b else b.dropWatch ctx 0

/-! ### Identification -/

/-- CONF (R273). -/
def modeConf (e : ModeEst) : Nat :=
  if 2 ≤ e.absentQ then 0
  else if e.sigZx ≤ 100 ∧ e.sigFx ≤ 100 then 3
  else if e.sigZx ≤ 200 ∧ e.sigFx ≤ 200 then 2
  else 1

/-- The tick a window's last sample has: the newest settled row, for B4 the present. -/
def Block.windowEnd (b : Block) (band : Nat) : LT48 := lt48 (if band = 4 then b.tai else b.lastSettled)

/-- The alarm threshold of a mode, and whether ζ_base sets it (R274). -/
def Block.zthr (b : Block) (w : Watch) (base : Option Q) : Q × Bool :=
  let alarm := Q.div (Q.ofNat w.zetaAlarm) (Q.ofNat 1000)
  let raw := match base with
    | none => (alarm, false)
    | some z =>
      let t := z.sub (Q.div (Q.ofNat w.zetaDrop) (Q.ofNat 1000))
      if b.flag F.MOD_CTRL_ADAPT_EN && alarm.lt t then (t, true) else (alarm, false)
  match b.envelope 0x0506 with
  | none => raw
  | some e =>
    let y := Q.clamp (Q.div (Q.ofNat e.min) (Q.ofNat 1000)) (Q.div (Q.ofNat e.max) (Q.ofNat 1000)) raw.1
    (y, raw.2 && y == raw.1)

/-- Updates in 24 h at a watch's update period of UPD × 0.05 s (R274). -/
def Watch.dayOfUpdates (w : Watch) : Nat := 1728000 / max 1 w.upd

/-- A mode within 5 % of `f` whose ζ_base is below 10 % (R276). -/
def naturalIn (f : Q) (modes : List Mode) : Option Mode :=
  modes.find? fun m => (match m.zbase with
    | none => false
    | some z => z.lt ⟨1, 10⟩) && (Q.abs (f.sub m.freq)).le (m.freq.mul ⟨1, 20⟩)

/-- The natural mode of the same watch or of a HOST watch of the band that makes a forced mode a RESONANCE (R276). -/
def Block.natural (b : Block) (ctx : Nat) (w : Watch) (id : Nat) (f : Q) : Option (Nat × Nat) :=
  match naturalIn f (w.modes.filter (·.id != id)) with
  | some m => some (ctx, m.id)
  | none =>
    (b.mod.watches.filter fun e => e.2.host && e.2.band == w.band && e.1 != ctx).foldl (fun r e =>
      match r with
      | some x => some x
      | none => (naturalIn f e.2.modes).map fun m => (e.1, m.id)) none

/-- A mode after an update that found it (R273 to R276). `refill`: the first update after filling (R272). -/
def Block.updMode (b : Block) (ctx : Nat) (w : Watch) (refill : Bool) (m : Mode) (e : ModeEst) : Mode :=
  let conf := modeConf e
  let learnt := if w.host && decide (2 ≤ conf) && !m.alarm then m.learnt + 1 else m.learnt
  let zbase := match m.zbase with
    | some z => some z
    | none => if w.host && decide (w.dayOfUpdates ≤ learnt) then some e.median else none
  let thr := b.zthr w zbase
  let low := decide (2 ≤ conf) && e.zeta.lt thr.1
  let high := !(e.zeta.lt (thr.1.add ⟨1, 100⟩))
  let runLow := if low then (if refill then 1 else m.runLow + 1) else 0
  let runHigh := if high then (if refill then 1 else m.runHigh + 1) else 0
  let runForced := if e.forced then (if refill then 1 else m.runForced + 1) else 0
  let runFree := if e.forced then 0 else (if refill then 1 else m.runFree + 1)
  let lowDamp := if refill then m.lowDamp && low else if m.lowDamp then decide (runHigh < 3) else decide (3 ≤ runLow)
  let forced := if refill then m.forced && e.forced else if m.forced then decide (runFree < 3) else decide (3 ≤ runForced)
  let shape := e.suspect
  { m with valid := true, absent := 0, freq := e.freq, zeta := e.zeta, amp := e.amp, sigF := e.sigF, sigZ := e.sigZ, conf, zthr := thr.1,
           zbase, learnt, lowDamp, dampDrop := lowDamp && (if m.lowDamp then m.dampDrop else thr.2), forced,
           resonance := forced && (b.natural ctx w m.id e.freq).isSome, runLow, runHigh, runForced, runFree, suspect := shape,
           refCh := e.refCh, tEnd := b.windowEnd w.band, shape := e.shape }

/-- A mode seen for the first time. -/
def Mode.fresh (id : Nat) : Mode :=
  { id, valid := false, absent := 0, freq := Q.zero, zeta := Q.zero, amp := 0, sigF := 0, sigZ := 0, conf := 0, zthr := Q.zero, zbase := none,
    learnt := 0, lowDamp := false, dampDrop := false, forced := false, resonance := false, runLow := 0, runHigh := 0, runForced := 0,
    runFree := 0, suspect := false, refCh := 0, tEnd := 0, shape := [] }

/-- The mode a pole matches: the nearest within 10 % of frequency (R273). -/
def nearest (modes : List Mode) (f : Q) : Option Nat :=
  (modes.foldl (fun (best : Option (Nat × Q)) m =>
    let d := Q.abs (f.sub m.freq)
    if !(d.le (m.freq.mul ⟨1, 10⟩)) then best
    else match best with
      | none => some (m.id, d)
      | some (i, e) => if d.lt e then some (m.id, d) else some (i, e)) none).map (·.1)

/-- Modes after the poles of an update are matched in turn: matched ones updated in place, new ones at the end. -/
def Block.matchModes (b : Block) (ctx : Nat) (refill : Bool) (w : Watch) (ests : List ModeEst) : Watch × List Nat :=
  ests.foldl (fun (p : Watch × List Nat) e =>
    let w := p.1
    match nearest (w.modes.filter fun m => !p.2.contains m.id) e.freq with
    | some id => ({ w with modes := w.modes.map fun m => if m.id = id then b.updMode ctx w refill m e else m }, id :: p.2)
    | none =>
      let id := w.nextId % 256
      ({ w with modes := w.modes ++ [b.updMode ctx w refill (.fresh id) e], nextId := w.nextId + 1 }, id :: p.2)) (w, [])

/-- A mode an update did not find: kept with VALID 0 for 5 updates (R273). Its runs of updates break, the update fails the
conditions of FORCED, and the first update after refill clears what it does not assert again (R272, R275, R276;
notes/assumptions/100.md). -/
def Mode.missed (refill : Bool) (m : Mode) : Mode :=
  let free := if refill then 1 else m.runFree + 1
  let forced := m.forced && !refill && decide (free < 3)
  { m with valid := false, absent := m.absent + 1, runLow := 0, runHigh := 0, runForced := 0, runFree := free,
           lowDamp := m.lowDamp && !refill, dampDrop := m.dampDrop && !refill, forced, resonance := m.resonance && forced }

/-- The NM_MAX modes of greatest amplitude, in their order (R273). -/
def capModes (n : Nat) (modes : List Mode) : List Mode :=
  let order := sortBy (fun (x y : Mode) => decide (y.amp.toNat ≤ x.amp.toNat)) modes
  let keep := (order.take n).map (·.id)
  modes.filter fun m => keep.contains m.id

/-- P0 of an alarm record (R290). -/
def alarmP0 (ctx id : Nat) (on : Bool) : Nat := ctx + id * 256 + (if on then 2 ^ 31 else 0)

/-- MOD_M_FLAGS of a mode (R285). -/
def Mode.flags (w : Watch) (m : Mode) : Nat :=
  m.conf + 4 * m.valid.toNat + 8 * m.lowDamp.toNat + 16 * m.dampDrop.toNat + 32 * m.forced.toNat + 64 * m.resonance.toNat
  + 128 * m.suspect.toNat + 256 * w.gapped.toNat + 2 ^ 16 * m.id + 2 ^ 24 * m.refCh

/-- MOD_M_SEQ to MOD_M_SH31 of a mode, by MODE index (R285). -/
def Block.modeGroup (b : Block) (ctx mode : Nat) : List W32 :=
  match b.watch ctx with
  | none => List.replicate 47 0
  | some w =>
    let seq := BitVec.ofNat 32 w.seq
    match w.modes[mode]? with
    | none => seq :: List.replicate 46 0
    | some m =>
      [seq, BitVec.ofNat 32 (m.flags w), toSingle m.freq, toSingle m.zeta, m.amp, m.sigF, m.sigZ, toSingle m.zthr, optSingle m.zbase,
       m.tEnd.setWidth 32, (m.tEnd >>> 32).setWidth 32, 0, 0, 0, 0] ++ (m.shape ++ List.replicate 32 0).take 32

/-- A location is requested (R277): it joins the queue. -/
def Block.askLocation (b : Block) (ctx mode : Nat) (who : Option (Nat × Nat)) : Block :=
  b.modMod fun m => { m with locs := m.locs ++ [(ctx, mode, who)] }

/-- Records of one mode's changed alarms (R275, R276, R290). -/
def Block.alarmNotes (b : Block) (ctx : Nat) (w : Watch) (o m : Mode) : Block :=
  let mHz := qField m.freq 1000
  let b := if o.lowDamp = m.lowDamp then b
    else b.note 0x0804 (alarmP0 ctx m.id m.lowDamp) (qField m.zeta 10000) mHz ((m.dampDrop || (!m.lowDamp && o.dampDrop)).toNat)
  let b := if o.forced = m.forced then b else b.note 0x0805 (alarmP0 ctx m.id m.forced) mHz m.amp.toNat
  if o.resonance = m.resonance then b
  else
    let n := (b.natural ctx w m.id m.freq).getD (0, 0)
    b.note 0x0806 (alarmP0 ctx m.id m.resonance) mHz (n.1 + n.2 * 256)

/-- The mode with no alarm. -/
def Mode.calm (m : Mode) : Mode := { m with lowDamp := false, dampDrop := false, forced := false, resonance := false }

/-- Records, counts, deliveries and locations of one mode's changed alarms (R274 to R277, R446). -/
def Block.alarmChanges (b : Block) (ctx : Nat) (w : Watch) (idx : Nat) (old : Option Mode) (m : Mode) : Block :=
  let o := old.getD (.fresh m.id)
  let b := b.alarmNotes ctx w o m
  let rose := (m.lowDamp && !o.lowDamp).toNat + (m.forced && !o.forced).toNat + (m.resonance && !o.resonance).toNat
  let b := if rose = 0 then b else b.bumpBy Reg.MOD_CNT_ALARM rose
  let b := if b.flag F.MOD_DEF_CTRL_AUTO && ((m.lowDamp && !o.lowDamp) || (m.forced && !o.forced)) then b.askLocation ctx idx none else b
  if o.lowDamp = m.lowDamp ∧ o.forced = m.forced ∧ o.resonance = m.resonance then b
  else b.event 4 (fun f => f.testBit w.band) (wordBytes (b.modeGroup ctx idx))

/-- An identification update of a watch that holds a full window (R273); a mode that is dropped takes its alarms with it. -/
def Block.identify (b : Block) (ctx : Nat) (w : Watch) (refill : Bool) (ests : List ModeEst) : Block :=
  let p := b.matchModes ctx refill { w with state := 2, gapped := false } ests
  let modes := (p.1.modes.map fun m => if p.2.contains m.id then m else m.missed refill).filter fun m => decide (m.absent ≤ 5)
  let new := { p.1 with modes := capModes w.nmMax modes, updates := if refill then 1 else w.updates + 1, seq := w.seq + 1, updAt := b.now }
  let b := (b.setWatch ctx new).bump Reg.MOD_CNT_UPDATE
  let gone := w.modes.filter fun m => m.alarm && !(new.modes.any (·.id == m.id))
  let b := gone.foldl (fun b m => b.alarmNotes ctx w m m.calm) b
  (new.modes.zipIdx).foldl (fun b e => b.alarmChanges ctx new e.2 (w.modes.find? (·.id == e.1.id)) e.1) b

/-- A gap (R272): estimates held, the window refills. -/
def Block.gapWatch (b : Block) (ctx : Nat) (w : Watch) : Block :=
  (b.setWatch ctx { w with state := 1, gapped := true, gaps := w.gaps + 1, fillFrom := b.now, updates := 0 }).bump Reg.MOD_CNT_GAP

/-- A modal update is shed: level 2 or above, not on the path of B4 (R32, R259). -/
def Block.modalShedNow (b : Block) (band : Nat) : Bool := decide (2 ≤ b.level) && band != 4

/-- An update that falls due: a gap when it is shed or more than half the channels are dropped (R261, R272). -/
def Block.updateWatch (b : Block) (ctx : Nat) (w : Watch) (refill : Bool) (ests : List ModeEst) (dropped : Nat) : Block :=
  if b.modalShedNow w.band then
    let b := if b.mod.modalShed then b else (b.modMod fun m => { m with modalShed := true }).note 0x0809 1
    b.gapWatch ctx w
  else
    let b := if w.band = 4 then b else b.modMod fun m => { m with modalShed := false }
    if w.chans.length < 2 * dropped then b.gapWatch ctx w else b.identify ctx w refill ests

/-- WATCH_WINDOW_FILLED (R272). -/
def watchWindowFilled (ctx : Nat) (modes : List ModeEst) (dropped : Nat) (b : Block) : Block :=
  match b.watch ctx with
  | none => b
  | some w =>
    if !b.modOn || w.state ≠ 1 || !b.since w.fillFrom (w.winS * tickS) then b else b.updateWatch ctx w true modes dropped

/-- IDENTIFICATION_UPDATE (R273). -/
def identificationUpdate (ctx : Nat) (modes : List ModeEst) (dropped : Nat) (b : Block) : Block :=
  match b.watch ctx with
  | none => b
  | some w =>
    if !b.modOn || w.state ≠ 2 || !b.since w.updAt (w.upd * 50 * tickMs) then b else b.updateWatch ctx w false modes dropped

/-! ### Source location -/

/-- A defined branch is usable: EN is set (R287). -/
def Branch.en (x : Branch) : Bool := x.w0.getLsbD 31

/-- FROM station of a branch. -/
def Branch.fromSt (x : Branch) : Nat := bits x.w3 25 16

/-- Rates of the branches that are defined. -/
def Block.usable (b : Block) (rates : List (Nat × Q × W32)) : List (Nat × Q × W32) :=
  rates.filter fun r => match tabGet b.mod.branches r.1 with
    | none => false
    | some x => x.en

/-- Net injection of each FROM station: the sum of the rates of its branches (R278). -/
def Block.injections (b : Block) (rates : List (Nat × Q × W32)) : Tab Q :=
  rates.foldl (fun t r => match tabGet b.mod.branches r.1 with
    | none => t
    | some x => tabSet t x.fromSt (((tabGet t x.fromSt).getD Q.zero).add r.2.1)) []

/-- MOD_LOC_SEQ to the last entry (R288). -/
def Block.locGroup (b : Block) : List W32 :=
  let seq := BitVec.ofNat 32 b.mod.locSeq
  let busy : W32 := if b.mod.locs.isEmpty then 0 else 0x80000000
  match b.mod.locLast with
  | none => [seq, busy, 0] ++ List.replicate 32 0
  | some r =>
    let ents := r.entries.flatMap fun e => [BitVec.ofNat 32 e.1, e.2]
    [seq, busy ||| BitVec.ofNat 32 (r.station % 1024 + 2 ^ 12 * r.conf + 2 ^ 16 * r.used), 0] ++ (ents ++ List.replicate 32 0).take 32

/-- The station of greatest net injection, where it exceeds MIN_KW (R278). -/
def Block.foundStation (b : Block) (inj : Tab Q) : Option (Nat × Q) :=
  (inj.foldl (fun (r : Option (Nat × Q)) e => match r with
    | none => some e
    | some x => if x.2.lt e.2 then some e else some x) none).filter fun x => (Q.ofNat (b.fld F.MOD_DEF_CTRL_MIN_KW)).lt x.2

/-- Confidence of a location: 0 none found, 1 another station beyond half of it, 2 otherwise (R278). -/
def locConf (inj : Tab Q) : Option (Nat × Q) → Nat
  | none => 0
  | some x => if inj.any (fun e => e.1 != x.1 && (x.2.mul ⟨1, 2⟩).lt e.2) then 1 else 2

/-- The result of a location; its station is free where none is found (notes/assumptions/3.md). -/
def Block.locResult (b : Block) (ctx mode : Nat) (rates : List (Nat × Q × W32)) : LocResult :=
  let use := b.usable rates
  let inj := b.injections use
  let found := b.foundStation inj
  let order := sortBy (fun (x y : Nat × Q × W32) => !((Q.abs x.2.1).lt (Q.abs y.2.1))) use
  ⟨ctx, mode, (found.map (·.1)).getD (bits (b.free.1.setWidth 32) 9 0), locConf inj found, use.length, (order.take 16).map fun e => (e.1, e.2.2)⟩

/-- The net injection a location records; free where none is found (notes/assumptions/3.md). -/
def Block.locNet (b : Block) (rates : List (Nat × Q × W32)) : Nat :=
  ((b.foundStation (b.injections (b.usable rates))).map fun x => qField x.2 1).getD ((b.free.1 >>> 32).setWidth 32 : W32).toNat

/-- MODE_ID of a mode of a watch by its index, 0 where there is none. -/
def Block.modeId (b : Block) (ctx mode : Nat) : Nat := (((b.watch ctx).bind fun w => w.modes[mode]?).map Mode.id).getD 0

/-- A location is complete: kept, counted, recorded, and answered where a session asked (R277, R278). -/
def Block.endLocation (b : Block) (res : LocResult) (net : Nat) (who : Option (Nat × Nat)) : Block :=
  let b := b.modMod fun m => { m with locs := m.locs.drop 1, locSeq := m.locSeq + 1, locLast := some res,
                                      foundAt := if res.conf = 0 then m.foundAt else some b.now }
  let b := (b.bump Reg.MOD_CNT_LOC).note 0x0807 (alarmP0 res.ctx (b.modeId res.ctx res.mode) false) res.station net res.conf
  match who with
  | none => b
  | some (s, tag) => (b.awrs (accOf s) Reg.MOD_LOC_ b.locGroup).finish s tag 0x0405 yOk (wordBytes b.locGroup)

/-- SOURCE_LOCATION (R278): the oldest request completes. -/
def sourceLocation (rates : List (Nat × Q × W32)) (b : Block) : Block :=
  match b.mod.locs with
  | [] => b
  | (ctx, mode, who) :: _ =>
    if !b.modOn || 2 ≤ b.level then b
    else
      let res := b.locResult ctx mode rates
      (if res.conf = 0 then b.free.2 else b).endLocation res (b.locNet rates) who

/-- The mode exists in a tracked context. -/
def Block.hasMode (b : Block) (ctx mode : Nat) : Bool :=
  match b.watch ctx with
  | none => false
  | some w => decide (mode < w.modes.length)

/-- LOCATE (R277). -/
def locate (h : Hdr) (ctx mode : Nat) (k : Key) (b : Block) : Block :=
  b.ycp k h 0x0405 ⟨some roleOpr, false⟩ fun b =>
    if !b.hasMode ctx mode then yErr b yBadParam else ⟨yPending, [], b.askLocation ctx mode (some (h.session, h.tag))⟩

/-- LOCATE_REQUEST (R277): a write of MOD_LOC_SEL.REQ. -/
def locateRequestW (acc ctx mode : Nat) (k : Key) (b : Block) : WRes :=
  let st := b.mayWrite k acc roleOpr false
  if st ≠ yOk then wErr b acc st
  else
    let b := (b.aput acc F.MOD_LOC_SEL_CTX ctx).aput acc F.MOD_LOC_SEL_MODE mode
    if b.hasMode ctx mode then ⟨yOk, b.askLocation ctx mode none⟩ else ⟨yBadParam, b⟩

/-! ### Evidence -/

/-- A band's bits of an alarm. -/
def Block.bandBits (b : Block) (base : Nat) (p : Mode → Bool) : List Nat :=
  ((List.range 5).filter fun d => b.mod.watches.any fun e => e.2.band == d && e.2.modes.any p).map (base + ·)

/-- A HOST watch is FILLING (R272). -/
def Block.unfilled (b : Block) : Bool := b.mod.watches.any fun e => e.2.host && e.2.state == 1

/-- ITEMS of the MOD record (R279). -/
def Block.modItems (b : Block) : Nat :=
  if !b.modOn then 1
  else
    maskOf (((List.range 4).filter fun d => b.mod.chans.any fun e => e.1 % 8 == d + 1 && e.2.hit).map (· + 1)
      ++ (if 1 ≤ b.level then [5] else []) ++ (if 2 ≤ b.level then [6] else []) ++ (if b.b3Off then [7] else [])
      ++ b.bandBits 8 (·.lowDamp) ++ b.bandBits 16 (·.dampDrop) ++ b.bandBits 24 (·.forced) ++ b.bandBits 32 (·.resonance)
      ++ (if b.mod.chans.any (·.2.clamped) then [40] else []) ++ (if b.unfilled then [41] else [])
      ++ (if b.within b.mod.foundAt (60 * tickS) then [42] else [])
      ++ (if b.mod.watches.any (fun e => 64 ≤ e.1 && e.2.alarm) then [43] else [])
      ++ (b.mod.watches.filter fun e => e.1 < 64 && e.2.alarm).map (64 + ·.1))

/-- Worst class of the row screened last (R22). -/
def Block.screenedTq (b : Block) : Nat :=
  match b.slot b.mod.screened with
  | none => b.devClass
  | some x => worstTq x.row

/-- The MOD record with these items. -/
def Block.postMod (b : Block) (items : Nat) : Block :=
  let b := b.modMod fun m => { m with rseq := m.rseq + 1 }
  b.postEvid (mkEvid 3 true (b.unfilled || b.b3Off) false (decide (1 ≤ b.level)) b.mod.rseq b.mod.screened b.screenedTq items)

/-- MOD_EVIDENCE_POST (R279); none while the engine is off in WATCH (R280). -/
def modEvidencePost (_slot : Nat) (b : Block) : Block := if b.topState = stWatch then b else b.postMod b.modItems

/-- Every watch gapped (R272, R280). -/
def Block.gapAll (b : Block) : Block := b.mod.watches.foldl (fun b e => b.gapWatch e.1 e.2) b

/-! ### Definitions -/

/-- The parameters of a HOST watch lie in their ranges (R257, R284). -/
def watchParamsOk (band nch nmMax winS upd zetaAlarm zetaDrop : Nat) (chans : List Nat) : Bool :=
  decide (band ≤ 4 ∧ 1 ≤ nmMax ∧ nmMax ≤ 8 ∧ 1 ≤ nch ∧ nch ≤ 32 ∧ nch = chans.length ∧ (if band = 0 then 300 else 5) ≤ winS ∧ winS ≤ 600
    ∧ 1 ≤ upd ∧ upd < 1024 ∧ zetaAlarm < 1024 ∧ zetaDrop < 1024) && chans.all (· < 2 ^ 18)

/-- The context a definition takes, with what it evicts made free (R268, R269). -/
def Block.hostCtx (b : Block) (ctx : Nat) : Option (Nat × Block) :=
  if ctx = 0xFF then
    match b.freeCtxLow with
    | some c => some (c, b)
    | none => (b.evictee).map fun e => (e.1, b.dropWatch e.1 1)
  else
    match b.watch ctx with
    | none => some (ctx, b)
    | some w => if w.host then some (ctx, b) else if w.alarm then none else some (ctx, b.dropWatch ctx 1)

/-- A HOST watch defined or redefined (R269). -/
def Block.defineWatch (b : Block) (ctx band nch nmMax winS upd zetaAlarm zetaDrop : Nat) (chans : List Nat) : WRes × Nat :=
  if !watchParamsOk band nch nmMax winS upd zetaAlarm zetaDrop chans || (128 ≤ ctx && ctx != 0xFF) then (⟨yBadParam, b⟩, 0)
  else
    match b.hostCtx ctx with
    | none => (⟨yResource, b⟩, 0)
    | some (c, b) => (⟨yOk, b.setWatch c (b.newWatch true band chans nmMax winS upd zetaAlarm zetaDrop)⟩, c)

/-- WATCH_DEFINE (R268). -/
def watchDefine (h : Hdr) (ctx band nch nmMax winS upd zetaAlarm zetaDrop : Nat) (chans : List Nat) (k : Key) (b : Block) : Block :=
  b.ycp k h 0x0401 ⟨some roleEng, true⟩ fun b =>
    let r := b.defineWatch ctx band nch nmMax winS upd zetaAlarm zetaDrop chans
    r.1.toY (beBytes 1 r.2)

/-- A host removal of a watch (R270). -/
def Block.removeWatch (b : Block) (ctx : Nat) : WRes := if (b.watch ctx).isNone then ⟨yBadParam, b⟩ else ⟨yOk, b.dropWatch ctx 2⟩

/-- WATCH_REMOVE (R270). -/
def watchRemove (h : Hdr) (ctx : Nat) (k : Key) (b : Block) : Block :=
  b.ycp k h 0x0402 ⟨some roleEng, true⟩ fun b => (b.removeWatch ctx).toY []

/-- MODE_REPORT (R445): each entry latched into the session's copy as it is returned. -/
def modeReport (h : Hdr) (ctx mode : Nat) (k : Key) (b : Block) : Block :=
  b.ycp k h 0x0403 ⟨some roleObs, false⟩ fun b =>
    if 128 ≤ ctx ∨ (8 ≤ mode ∧ mode ≠ 0xFF) then yErr b yBadParam
    else
      let n := ((b.watch ctx).map fun w => w.modes.length).getD 0
      let groups := (if mode = 0xFF then List.range n else [mode]).map (b.modeGroup ctx)
      ⟨yOk, groups.flatMap wordBytes, groups.foldl (fun b g => b.awrs (accOf h.session) Reg.MOD_M_ g) b⟩

/-- A branch applied (R287). -/
def Block.defineBranch (b : Block) (br : Nat) (w0 w1 w2 w3 w4 : W32) : WRes :=
  if 1024 ≤ br ∨ bits w3 1 0 = 2 then ⟨yBadParam, b⟩
  else
    let x : Branch := ⟨w0 &&& 0x8003FFFF, w1 &&& 0x3FFFF, w2, w3 &&& 0x03FF0003, w4 &&& 0x3FF⟩
    ⟨yOk, b.modMod fun m => { m with branches := tabSet m.branches br x }⟩

/-- BRANCH_DEFINE (R287). -/
def branchDefine (h : Hdr) (br : Nat) (w0 w1 w2 w3 w4 : W32) (k : Key) (b : Block) : Block :=
  b.ycp k h 0x0404 ⟨some roleEng, true⟩ fun b => (b.defineBranch br w0 w1 w2 w3 w4).toY []

/-! ### Windows -/

/-- MOD_W_W00 to W39 of a context (R284). -/
def Block.watchWords (b : Block) (ctx : Nat) : List W32 :=
  match b.watch ctx with
  | none => [0, 0, 0x001E001E] ++ List.replicate 37 0
  | some w =>
    [BitVec.ofNat 32 (w.state + 8 * w.gapped.toNat + 16 * w.band + 256 * w.host.toNat + 2 ^ 16 * w.chans.length + 2 ^ 24 * w.nmMax),
     BitVec.ofNat 32 (w.winS + 2 ^ 16 * w.upd), BitVec.ofNat 32 (w.zetaAlarm + 2 ^ 16 * w.zetaDrop), toSingle (b.peakOf w),
     w.spawned.setWidth 32, (w.spawned >>> 32).setWidth 32, BitVec.ofNat 32 (w.updates % 65536), BitVec.ofNat 32 (min 65535 w.gaps)]
    ++ (w.chans.map (BitVec.ofNat 32) ++ List.replicate 32 0).take 32

/-- WATCH_WINDOW_LOAD (R284). -/
def watchWindowLoad (acc ctx : Nat) (b : Block) : Block :=
  let c := ctx % 128
  (b.aput acc F.MOD_W_SEL_CTX c).awrs acc Reg.MOD_W_W (b.watchWords c)

/-- WATCH_WINDOW_COMMIT (R284): the staged RW fields of the accessor's copy. -/
def watchWindowCommitW (acc ctx : Nat) (k : Key) (b : Block) : WRes :=
  let b := b.aput acc F.MOD_W_SEL_CTX ctx
  b.winAct k acc F.MOD_W_SEL_ERR fun b =>
    let w i := b.ard acc (Reg.MOD_W_W + 4 * i)
    let nch := bits (w 0) 21 16
    (b.defineWatch (ctx % 128) (bits (w 0) 6 4) nch (bits (w 0) 27 24) (bits (w 1) 9 0) (bits (w 1) 25 16) (bits (w 2) 9 0) (bits (w 2) 25 16)
      (((List.range (min 32 nch)).map fun i => bits (w (8 + i)) 17 0))).1

/-- WATCH_WINDOW_REMOVE (R284). -/
def watchWindowRemoveW (acc ctx : Nat) (k : Key) (b : Block) : WRes :=
  (b.aput acc F.MOD_W_SEL_CTX ctx).winAct k acc F.MOD_W_SEL_ERR fun b => b.removeWatch (ctx % 128)

/-- BRANCH_WINDOW_LOAD (R287). -/
def branchWindowLoad (acc br : Nat) (b : Block) : Block :=
  let n := br % 1024
  let x := (tabGet b.mod.branches n).getD ⟨0, 0, 0, 0, 0⟩
  (b.aput acc F.MOD_BR_SEL_BR n).awrs acc Reg.MOD_BR_W [x.w0, x.w1, x.w2, x.w3, x.w4]

/-- BRANCH_WINDOW_COMMIT (R287). -/
def branchWindowCommitW (acc br : Nat) (k : Key) (b : Block) : WRes :=
  (b.aput acc F.MOD_BR_SEL_BR br).winAct k acc F.MOD_BR_SEL_ERR fun b =>
    let w i := b.ard acc (Reg.MOD_BR_W + 4 * i)
    b.defineBranch (br % 1024) (w 0) (w 1) (w 2) (w 3) (w 4)

/-- The offset in dB that brings a default inside the envelope (R267): 0 where the envelope admits it. -/
def Block.defOffset (b : Block) (band : Nat) : Q := match b.thrEnv band with
  | none => Q.zero
  | some (lo, hi) => Q.clamp lo hi Q.zero

/-- The threshold of a channel-band in the unit of R260: the default within the envelope, or one adapted; where it is not the
default it is irrational in general and so free (notes/assumptions/4.md). -/
def Block.thrWord (b : Block) (ch band : Nat) : W32 :=
  let dflt := if band = 4 then b.fld F.MOD_SCR_THR4_REL_DEF
    else if b.kindOf ch = 2 then b.fld (F.MOD_SCR_THR_FREQ_DEF.at (4 * (band - 1))) else b.fld (F.MOD_SCR_THR_REL_DEF.at (4 * (band - 1)))
  match if b.flag F.MOD_CTRL_ADAPT_EN then (b.cb ch band).thrDb else none with
  | none =>
    let o := b.defOffset band
    if o.num = 0 then toSingle (Q.ofNat dflt) else Config.offsetDb dflt o
  | some q => Config.fromDb q

/-- CHANNEL_WINDOW_LOAD (R286): MOD_CH_B1_RMS to MOD_CH_FLAGS. -/
def channelWindowLoad (acc ch : Nat) (b : Block) : Block :=
  let c := ch % 2 ^ 18
  let pairs := [1, 2, 3, 4].flatMap fun d => [(b.cb c d).rms, b.thrWord c d]
  let bit (base : Nat) (p : Nat → Bool) := ([1, 2, 3, 4].filter p).map (base - 1 + ·)
  let flags := maskOf (bit 0 (fun d => (b.cb c d).hit) ++ bit 4 (fun d => (b.cb c d).learned) ++ bit 8 (fun d => (b.cb c d).clamped)
    ++ bit 12 (fun d => b.restarting d))
  (b.aput acc F.MOD_CH_SEL_CH c).awrs acc Reg.MOD_CH_ (pairs ++ [BitVec.ofNat 32 flags])

/-- MOD_STAT (R282). -/
def Block.modStat (b : Block) : W32 :=
  let ws := b.mod.watches
  let learned := !b.mod.chans.isEmpty && b.mod.chans.all (·.2.learned)
  BitVec.ofNat 32 (2 ^ 24 * ws.length + 2 ^ 16 * ws.countP (fun e => !e.2.host) + 2 ^ 8 * min 255 b.mod.locs.length
    + 16 * b.fld F.MOD_STAT_ENVELOPE_HOLD + 8 * learned.toNat + 4 * b.b3Off.toNat + 2 * (decide (1 ≤ b.level)).toNat + (!b.modOn).toNat)

/-! ### The meanings -/

def execScreeningUpdate (slot : Nat) (vals : List (Nat × Q × W32)) (s : State) : Host.Outcome State Fault Refusal :=
  .next (s.onB fun _ => screeningUpdate slot vals)
def execScreeningHit (ch band : Nat) (ratio : Q) (ms : Nat) (s : State) : Host.Outcome State Fault Refusal :=
  .next (s.onB fun _ => screeningHit ch band ratio ms)
def execHitClear (ch band : Nat) (ratio : Q) (ms : Nat) (s : State) : Host.Outcome State Fault Refusal :=
  .next (s.onB fun _ => hitClear ch band ratio ms)
def execLearningSample (ch band : Nat) (mu sigma : Q) (s : State) : Host.Outcome State Fault Refusal :=
  .next (s.onB fun _ => learningSample ch band mu sigma)
def execThresholdUpdate (defDb : List Q) (s : State) : Host.Outcome State Fault Refusal := .next (s.onB fun _ => thresholdUpdate defDb)
def execModWatchRetire (ctx : Nat) (s : State) : Host.Outcome State Fault Refusal := .next (s.onB fun _ => modWatchRetire ctx)
def execWatchWindowFilled (ctx : Nat) (modes : List ModeEst) (dropped : Nat) (s : State) : Host.Outcome State Fault Refusal :=
  .next (s.onB fun _ => watchWindowFilled ctx modes dropped)
def execIdentificationUpdate (ctx : Nat) (modes : List ModeEst) (dropped : Nat) (s : State) : Host.Outcome State Fault Refusal :=
  .next (s.onB fun _ => identificationUpdate ctx modes dropped)
def execSourceLocation (rates : List (Nat × Q × W32)) (s : State) : Host.Outcome State Fault Refusal :=
  .next (s.onB fun _ => sourceLocation rates)
def execModEvidencePost (slot : Nat) (s : State) : Host.Outcome State Fault Refusal := .next (s.onB fun _ => modEvidencePost slot)
def execLocate (h : Hdr) (ctx mode : Nat) (s : State) : Host.Outcome State Fault Refusal := .next (s.onB (locate h ctx mode))
def execLocateRequest (acc ctx mode : Nat) (s : State) : Host.Outcome State Fault Refusal :=
  .next (s.onB fun k b => (locateRequestW acc ctx mode k b).b)
def execWatchDefine (h : Hdr) (ctx band nch nmMax winS upd zetaAlarm zetaDrop : Nat) (chans : List Nat) (s : State) :
    Host.Outcome State Fault Refusal := .next (s.onB (watchDefine h ctx band nch nmMax winS upd zetaAlarm zetaDrop chans))
def execWatchRemove (h : Hdr) (ctx : Nat) (s : State) : Host.Outcome State Fault Refusal := .next (s.onB (watchRemove h ctx))
def execModeReport (h : Hdr) (ctx mode : Nat) (s : State) : Host.Outcome State Fault Refusal := .next (s.onB (modeReport h ctx mode))
def execBranchDefine (h : Hdr) (br : Nat) (w0 w1 w2 w3 w4 : W32) (s : State) : Host.Outcome State Fault Refusal :=
  .next (s.onB (branchDefine h br w0 w1 w2 w3 w4))
def execWatchWindowLoad (acc ctx : Nat) (s : State) : Host.Outcome State Fault Refusal := .next (s.onB fun _ => watchWindowLoad acc ctx)
def execWatchWindowCommit (acc ctx : Nat) (s : State) : Host.Outcome State Fault Refusal :=
  .next (s.onB fun k b => (watchWindowCommitW acc ctx k b).b)
def execWatchWindowRemove (acc ctx : Nat) (s : State) : Host.Outcome State Fault Refusal :=
  .next (s.onB fun k b => (watchWindowRemoveW acc ctx k b).b)
def execBranchWindowLoad (acc br : Nat) (s : State) : Host.Outcome State Fault Refusal := .next (s.onB fun _ => branchWindowLoad acc br)
def execBranchWindowCommit (acc br : Nat) (s : State) : Host.Outcome State Fault Refusal :=
  .next (s.onB fun k b => (branchWindowCommitW acc br k b).b)
def execChannelWindowLoad (acc ch : Nat) (s : State) : Host.Outcome State Fault Refusal := .next (s.onB fun _ => channelWindowLoad acc ch)

end Sys2Proof.Machine
end

