-- ==== Sys2Proof/Machine/Islands.lean ====
section
/-!
DEFINITION. Island detection, local loss of mains, ties and breaker sources (R291 to R314).
-/
namespace Sys2Proof.Machine

/-- No row channel. -/
abbrev noCh : Nat := 0x3FFFF

/-! ### Entries of the fast-lane row (R159, R293) -/

/-- Usable (R293). -/
def entUsable (e : W64) : Bool :=
  entPresent e && !entInvalid e && !entTest e && !entSrcErr e && !entSuspect e && [0, 1, 2, 4].contains (entConv e)

/-- Magnitude and angle of a phasor entry (R159); none where the magnitude is not a number. -/
def entPhasor (e : W64) : Option (Q × Q) :=
  (singleQ (e.extractLsb' 20 32)).map fun m => (m, Q.norm ((e.extractLsb' 0 20).toInt * 360) (2 ^ 20))

/-- Value of a frequency, ROCOF or analogue entry (R159). -/
def entValue (e : W64) : Option Q := singleQ (e.extractLsb' 0 32)

/-- A frame's usable entry. -/
def usableAt (fr : Tab W64) (ch : Nat) : Option W64 :=
  if ch = noCh then none
  else match tabGet fr ch with
    | none => none
    | some e => if entUsable e then some e else none

/-! ### Stations (R294, R295) -/

/-- Voltage and frequency row channels of representative `k`. -/
def Station.repCh (t : Station) (k : Nat) : Nat × Nat := (t.reps.getD (2 * k) noCh, t.reps.getD (2 * k + 1) noCh)

/-- F, |V| and class from representative `k`. -/
def Station.supply (t : Station) (fr : Tab W64) (k : Nat) : Option (Q × Q × Nat) :=
  let c := t.repCh k
  match usableAt fr c.1, usableAt fr c.2 with
  | some v, some f =>
    match entPhasor v, entValue f with
    | some p, some q => some (q, p.1, max (entTq v) (entTq f))
    | _, _ => none
  | _, _ => none

/-- θ and class from representative `k`. -/
def Station.angle (t : Station) (fr : Tab W64) (k : Nat) : Option (Q × Nat) :=
  match usableAt fr (t.repCh k).1 with
  | none => none
  | some v =>
    if 2 < entTq v then none
    else (entPhasor v).map fun p => (wrap180 (p.2.sub ((singleQ t.angOfs).getD Q.zero)), entTq v)

/-- The first representative for which a function answers. -/
def firstRep {α : Type} (f : Nat → Option α) : Option (Nat × α) :=
  [0, 1, 2, 3].foldl (fun (r : Option (Nat × α)) k => match r with
    | some x => some x
    | none => (f k).map fun x => (k, x)) none

/-- A station's quantities in a slot (R294). -/
def Station.observe (t : Station) (fr : Tab W64) : StaObs :=
  let th := firstRep (t.angle fr)
  let thTq := match th with
    | none => 0
    | some x => x.2.2
  let theta := th.map fun x => (x.1, x.2.1)
  match firstRep (t.supply fr) with
  | none => ⟨7, thTq, Q.zero, Q.zero, theta⟩
  | some (k, f, v, tq) => ⟨k, max tq thTq, f, v, theta⟩

/-- UNOBSERVED (R294). -/
def StaObs.unobserved (o : StaObs) : Bool := o.rep == 7

/-- The quantities of `n` slots ago, 0 the present one. -/
def Station.ago (t : Station) (n : Nat) : Option StaObs := t.hist[n]?

/-- Change of θ over `n` slots from one representative (R299, R302). -/
def Station.dTheta (t : Station) (n : Nat) : Option Q :=
  match t.ago 0, t.ago n with
  | some o, some p =>
    match o.theta, p.theta with
    | some x, some y => if x.1 = y.1 then some (x.2.sub y.2) else none
    | _, _ => none
  | _, _ => none

/-- VNOM of a station. -/
def Station.vn (t : Station) : Q := (singleQ t.vnom).getD Q.zero

/-- The present quantities. -/
def Station.obs (t : Station) : StaObs := (t.ago 0).getD ⟨7, 0, Q.zero, Q.zero, none⟩

/-- Neither UNOBSERVED nor DEAD: it takes part in clustering. -/
def Station.live (t : Station) : Bool := !t.dead && !t.obs.unobserved

/-- DEAD and history after a slot's quantities (R295). -/
def Station.advance (t : Station) (s tBlock : Nat) (o : StaObs) : Station :=
  let low := !o.unobserved && o.vMag.lt (t.vn.mul ⟨1, 10⟩)
  let t := { t with hist := (o :: t.hist).take 16 }
  if o.unobserved then t
  else if low then
    let from_ := t.lowFrom.getD s
    { t with lowFrom := some from_, dead := t.dead || decide (from_ + tBlock ≤ s) }
  else { t with lowFrom := none, dead := false }

/-- Angle rate R of a station in °/s over N slots of period 1 / cadence (R299). -/
def Station.rate (t : Station) (n cadence : Nat) : Option Q :=
  (t.dTheta n).map fun d => Q.mul (wrap180 d) (Q.norm cadence n)

/-- |V| below V_DIP percent of VNOM (R302). -/
def Station.dips (t : Station) (vDip : Nat) : Bool := t.live && t.obs.vMag.lt (t.vn.mul (Q.norm vDip 100))

/-- The angle jumps by more than `jump` degrees (R302). -/
def Station.jumps (t : Station) (jump f0 cadence : Nat) : Bool :=
  t.live && match t.dTheta 1, t.ago 1 with
    | some d, some p =>
      !p.unobserved && (Q.ofNat jump).lt (Q.abs (wrap180 (d.sub ((Q.ofNat 360).mul ((p.f.sub (Q.ofNat f0)).mul ⟨1, cadence⟩)))))
    | _, _ => false

/-! ### Ties (R296, R298) -/

/-- A GOOSE member's state (R296): 0 CLOSED, 1 OPEN, 2 UNKNOWN. -/
def GooseSub.memberState (g : GooseSub) (i : Nat) : Nat :=
  if !g.en || !g.alive || g.confErr || (g.sim && !g.testOk) then 2
  else match g.members[i]? with
    | some (.dbpos v good) => if !good then 2 else if v = 2 then 0 else if v = 1 then 1 else 2
    | some (.bool v good) => if !good then 2 else if v then 0 else 1
    | _ => 2

/-- A digital source's state from the fast-lane row (R296): HELD is used too. -/
def digitalState (fr : Tab W64) (src : W32) : Nat :=
  match tabGet fr (bits src 17 0) with
  | none => 2
  | some e =>
    if !(entPresent e && !entInvalid e && !entTest e && !entSrcErr e && !entSuspect e && [0, 1, 2, 3, 4].contains (entConv e)) then 2
    else
      let v := (e.extractLsb' 0 16).toNat
      let k := bits src 27 24
      if src.getLsbD 28 then
        match v.testBit (k + 1), v.testBit k with
        | true, false => 0
        | false, true => 1
        | _, _ => 2
      else if v.testBit k = src.getLsbD 29 then 0 else 1

/-- A breaker source's state (R296); 2 of KIND 0. -/
def Block.srcState (b : Block) (fr : Tab W64) (src : W32) : Nat :=
  if bits src 31 30 = 1 then digitalState fr src
  else if bits src 31 30 = 2 then
    match tabGet b.isl.gooses (bits src 7 0) with
    | none => 2
    | some g => g.memberState (bits src 15 8)
  else 2

/-- BREAKER_CAPTURE (R298): every source at the freeze; ISL_TOPO for each tie whose state changes. -/
def Block.captureTies (b : Block) (s : Nat) (fr : Tab W64) : Block :=
  b.isl.ties.foldl (fun b e =>
    if !e.2.en then b
    else
      let sa := b.srcState fr e.2.srcA
      let sb := b.srcState fr e.2.srcB
      let st := if sa = 1 ∨ sb = 1 then 1 else 0
      let b := if st = e.2.state then b else b.note 0x0907 e.1 st
      let b := b.modIsl fun i => { i with ties := tabSet i.ties e.1 { e.2 with state := st, stA := sa, stB := sb } }
      b.modSlot s fun x => { x with ties := tabSet x.ties e.1 st }) b

/-! ### Definitions (R292) -/

/-- A candidate entry is dropped (R301). -/
def Block.dropEntry (b : Block) (i : Nat) : Block :=
  (b.modIsl fun x => { x with entries := x.entries.set i .free }).bump Reg.ISL_CNT_CAND_DROP

/-- Candidates with a member for which `p` holds are dropped. -/
def Block.dropCandidates (b : Block) (p : Nat → Bool) : Block :=
  (List.range 16).foldl (fun b i =>
    let e : Island := b.isl.entries.getD i .free
    if e.state == 1 && e.members.any p then b.dropEntry i else b) b

/-- One definition takes effect. -/
def Isl.apply (x : Isl) : IslDef → Isl
  | .station n s => { x with stations := tabSet x.stations n s }
  | .tie n t => { x with ties := tabSet x.ties n t }
  | .goose n g => { x with gooses := tabSet x.gooses n g }
  | .area n a => { x with stations := tabMod x.stations n fun s => { s with area := a } }

/-- The definitions committed since the last close take effect (R292). -/
def Block.applyIslDefs (b : Block) : Block :=
  let defs := b.isl.pending
  let changed := defs.filterMap fun d => match d with
    | .station n _ => some n
    | .area n _ => some n
    | _ => none
  let b := b.dropCandidates changed.contains
  b.modIsl fun x => { defs.foldl Isl.apply x with pending := [] }

/-- The definitions as they will stand at the next close. -/
def Block.islNext (b : Block) : Isl := b.isl.pending.foldl Isl.apply b.isl

/-- Row channels the stations and ties name (R167). -/
def Isl.channels (x : Isl) : List Nat :=
  let st := x.stations.flatMap fun e => if e.2.en then e.2.reps.filter (· != noCh) else []
  let ti := x.ties.flatMap fun e =>
    if e.2.en then [e.2.srcA, e.2.srcB].filterMap fun s => if bits s 31 30 = 1 then some (bits s 17 0) else none else []
  (st ++ ti).foldl (fun l c => insNat c l) []

/-- A definition is added to those of the next close, unless the fast lane would hold more than 8,192 channels (R167). -/
def Block.addIslDef (b : Block) (d : IslDef) : WRes :=
  if 8192 < (b.islNext.apply d).channels.length then ⟨yResource, b⟩
  else ⟨yOk, b.modIsl fun x => { x with pending := x.pending ++ [d] }⟩

/-- A spoke's station (W01). -/
def Spoke.station (x : Spoke) : Nat := bits (x.words.getD 1 0) 15 0

/-- A representative channel belongs to a spoke of the station (R292). -/
def Block.repOk (b : Block) (st ch : Nat) : Bool :=
  ch == noCh || match b.chanOf ch with
    | none => false
    | some (x, _) => x.station == st

/-- A station from its words W00 to W10 (R311). -/
def stationOf (w : List W32) : Station :=
  let g i := w.getD i 0
  { en := (g 0).getLsbD 31, area := bits (g 0) 21 16, vnom := g 1, angOfs := g 2,
    reps := (List.range 8).map fun i => bits (g (3 + i)) 17 0, dead := false, lowFrom := none, hist := [], dip := false, jump := false,
    group := 0x7FF, lastRep := 7, repRec := none }

/-- A station commit (R292). -/
def Block.commitStation (b : Block) (st : Nat) (w : List W32) : WRes :=
  let t := stationOf w
  if 1024 ≤ st then ⟨yBadParam, b⟩
  else if t.en && !t.reps.all (b.repOk st) then ⟨yBadParam, b⟩
  else b.addIslDef (.station st t)

/-- A tie from its words W00 to W02 (R311). -/
def tieOf (w : List W32) : Tie :=
  let g i := w.getD i 0
  { en := (g 0).getLsbD 31, fromSt := bits (g 0) 25 16, toSt := bits (g 0) 9 0, srcA := g 1, srcB := g 2, state := 0, stA := 2, stB := 2 }

/-- A tie commit (R292). -/
def Block.commitTie (b : Block) (n : Nat) (w : List W32) : WRes :=
  let t := tieOf w
  if 4096 ≤ n ∨ bits t.srcA 31 30 = 3 ∨ bits t.srcB 31 30 = 3 then ⟨yBadParam, b⟩ else b.addIslDef (.tie n t)

/-- A GOOSE subscription from its words W00 to W02 (R311). -/
def gooseOf (w : List W32) : GooseSub :=
  let g i := w.getD i 0
  { en := (g 0).getLsbD 31, testOk := (g 0).getLsbD 30, appid := bits (g 0) 15 0, hash := g 1, confRev := g 2, alive := false, confErr := false,
    sim := false, liveTo := 0, members := [] }

/-- A subscription commit (R292, R297). -/
def Block.commitGoose (b : Block) (n : Nat) (w : List W32) : WRes :=
  if 256 ≤ n then ⟨yBadParam, b⟩ else b.addIslDef (.goose n (gooseOf w))

/-- STATION_DEFINE. -/
def stationDefine (h : Hdr) (st : Nat) (w : List W32) (k : Key) (b : Block) : Block :=
  b.ycp k h 0x0501 ⟨some roleEng, true⟩ fun b => if w.length ≠ 11 then yErr b yBadLength else (b.commitStation st w).toY []

/-- A station is defined and enabled. -/
def Isl.knows (x : Isl) (n : Nat) : Bool := ((tabGet x.stations n).map Station.en).getD false

/-- AREA_DEFINE (R292). -/
def areaDefine (h : Hdr) (area : Nat) (stations : List Nat) (k : Key) (b : Block) : Block :=
  b.ycp k h 0x0502 ⟨some roleEng, true⟩ fun b =>
    let next := b.islNext
    if 63 < area || !stations.all next.knows then yErr b yBadParam
    else yDone (b.modIsl fun x => { x with pending := x.pending ++ stations.map fun n => .area n area })

/-- TIE_DEFINE. -/
def tieDefine (h : Hdr) (tie : Nat) (w : List W32) (k : Key) (b : Block) : Block :=
  b.ycp k h 0x0503 ⟨some roleEng, true⟩ fun b => if w.length ≠ 3 then yErr b yBadLength else (b.commitTie tie w).toY []

/-- GOOSE_SUB. -/
def gooseSub (h : Hdr) (sub : Nat) (w : List W32) (k : Key) (b : Block) : Block :=
  b.ycp k h 0x0504 ⟨some roleEng, true⟩ fun b => if w.length ≠ 3 then yErr b yBadLength else (b.commitGoose sub w).toY []

/-! ### GOOSE (R297) -/

/-- The enabled subscription of a message: APPID and hash of gocbRef. -/
def Block.gooseFor (b : Block) (m : GooseMsg) : Option (Nat × GooseSub) :=
  b.isl.gooses.find? fun e => e.2.en && e.2.appid == m.appid && e.2.hash == m.hash

/-- GOOSE_MESSAGE_RECEIVE (R297). -/
def gooseMessageReceive (m : GooseMsg) (b : Block) : Block :=
  if m.ndsCom then b
  else match b.gooseFor m with
    | none => b.bump Reg.ISL_CNT_GOOSE_REJ
    | some (n, g) =>
      let g := if m.confRev ≠ g.confRev then { g with confErr := true }
        else { g with alive := true, confErr := false, sim := m.sim, liveTo := b.now + m.ttl * tickMs, members := m.members }
      b.modIsl fun x => { x with gooses := tabSet x.gooses n g }

/-- ISL_GOOSE_TAL (R297). -/
def islGooseTal (sub : Nat) (b : Block) : Block :=
  match tabGet b.isl.gooses sub with
  | none => b
  | some g =>
    if !g.alive || b.now < g.liveTo then b
    else ((b.modIsl fun x => { x with gooses := tabSet x.gooses sub { g with alive := false } }).bump Reg.ISL_CNT_GOOSE_TAL).note 0x0908 sub

/-! ### Grouping (R299, R569) -/

/-- A group under way: its stations, and whether it started as a topology part. -/
structure Grp where
  mem  : List Nat
  topo : Bool

/-- Classes of stations joined by edges. -/
def joinParts (nodes : List Nat) (edges : List (Nat × Nat)) : List (List Nat) :=
  edges.foldl (fun ps e =>
    let a := ps.filter fun p => p.contains e.1 || p.contains e.2
    let rest := ps.filter fun p => !(p.contains e.1 || p.contains e.2)
    if a.isEmpty then ps else a.flatten :: rest) (nodes.map ([·]))

/-- Least number of a list. -/
def leastOf (l : List Nat) : Nat := l.foldl min (l.headD 0)

/-- The main one of several lists of stations: the one with `ref`, else the longest, on a tie that of the lowest station. -/
def mainOf (ref : Nat) (ps : List (List Nat)) : Option (List Nat) :=
  match ps.find? (·.contains ref) with
  | some p => some p
  | none => ps.foldl (fun (r : Option (List Nat)) p => match r with
    | none => some p
    | some q => if q.length < p.length ∨ (q.length = p.length ∧ leastOf p < leastOf q) then some p else some q) none

/-- The starting groups (R299). -/
def Block.startGroups (b : Block) (all : List Nat) (ties : Tab Nat) : List Grp :=
  if !b.flag F.ISL_CTRL_TOPO_EN then [⟨all, false⟩]
  else
    let ref := b.fld F.ISL_CTRL_REF_STATION
    let defs := b.isl.ties.filter fun e => e.2.en
    let comps := joinParts all (defs.map fun e => (e.2.fromSt, e.2.toSt))
    let parts := joinParts all ((defs.filter fun e => tabGet ties e.1 != some 1).map fun e => (e.2.fromSt, e.2.toSt))
    let split := comps.map fun c =>
      let ps := parts.filter fun p => p.all c.contains
      match mainOf ref ps with
      | none => (([] : List Nat), ([] : List (List Nat)))
      | some m => (m, ps.filter (· != m))
    ⟨split.flatMap (·.1), false⟩ :: split.flatMap fun x => x.2.map fun p => ⟨p, true⟩

/-- A sorted list cut wherever adjacent keys differ by more than `thr`. -/
def cutList (key : Nat → Q) (thr : Q) : List Nat → List (List Nat)
  | [] => []
  | x :: r =>
    match r, cutList key thr r with
    | y :: _, p :: ps => if thr.lt ((key y).sub (key x)) then [x] :: p :: ps else (x :: p) :: ps
    | _, _ => [[x]]

/-- Stations in order of a key, then of number. -/
def byKey (key : Nat → Q) (l : List Nat) : List Nat :=
  sortBy (fun x y => (key x).lt (key y) || (key x == key y && decide (x ≤ y))) l

/-- One part cut by R, stations without R placed by F (R299). -/
def cutByRate (f : Nat → Q) (r : Nat → Option Q) (thr : Q) (p : List Nat) : List (List Nat) :=
  let key x := (r x).getD Q.zero
  let with_ := byKey key (p.filter fun x => (r x).isSome)
  if with_.length < 2 then [p]
  else
    let pieces := cutList key thr with_
    (p.filter fun x => (r x).isNone).foldl (fun (acc : List (List Nat)) x =>
      let dist (q : List Nat) : Option Q := (q.filter fun y => (r y).isSome).foldl (fun (m : Option Q) y =>
        let d := Q.abs ((f x).sub (f y))
        match m with
        | none => some d
        | some e => some (e.min d)) none
      let best := acc.zipIdx.foldl (fun (m : Option (Nat × Q)) e => match dist e.1, m with
        | some d, none => some (e.2, d)
        | some d, some (i, v) => if d.lt v then some (e.2, d) else some (i, v)
        | none, m => m) none
      match best with
      | none => acc
      | some (i, _) => modAt acc i (· ++ [x])) pieces

/-- One pass over the groups (R299), and whether it made a cut. -/
def groupPass (f : Nat → Q) (r : Nat → Option Q) (dfThr daThr : Q) (gs : List Grp) : List Grp × Bool :=
  let new := gs.flatMap fun g =>
    (((cutList f dfThr (byKey f g.mem)).flatMap (cutByRate f r daThr)).map fun p => (⟨p, g.topo⟩ : Grp))
  (new, decide (gs.length < new.length))

/-- At most `n` passes; whether the last one still cut (R299, R569). -/
def groupPasses (f : Nat → Q) (r : Nat → Option Q) (dfThr daThr : Q) : Nat → List Grp → List Grp × Bool
  | 0, gs => (gs, true)
  | n + 1, gs =>
    let p := groupPass f r dfThr daThr gs
    if p.2 then groupPasses f r dfThr daThr n p.1 else (p.1, false)

/-- A candidate: its stations and its cause bits, 1 FREQ, 2 ANGLE, 4 TOPO (R569). -/
structure Cand where
  mem   : List Nat
  cause : Nat
  deriving DecidableEq, Repr

/-- Cause bits of a candidate against the main group (R569). -/
def causeOf (f : Nat → Q) (r : Nat → Option Q) (dfThr daThr : Q) (main : List Nat) (g : Grp) : Nat :=
  let pairs := g.mem.flatMap fun a => main.map fun c => (a, c)
  let freq := !pairs.isEmpty && pairs.all fun p => dfThr.lt (Q.abs ((f p.1).sub (f p.2)))
  let rates := pairs.filterMap fun p => match r p.1, r p.2 with
    | some x, some y => some (Q.abs (x.sub y))
    | _, _ => none
  let ang := !rates.isEmpty && rates.all daThr.lt
  freq.toNat + 2 * ang.toNat + 4 * g.topo.toNat

/-! ### Blocking (R302, R303) -/

/-- T_BLOCK in ticks. -/
def Block.tBlock (b : Block) : Nat := b.fld F.ISL_BLOCK_T_BLOCK * tickMs

/-- A trigger at S `t` still blocks slot `s`. -/
def Block.stillBlocks (b : Block) (t : Option Nat) (s : Nat) : Bool :=
  match t with
  | none => false
  | some u => decide (s < u + b.tBlock)

/-- Blocking is in force for a set of stations in slot `s`; for a candidate also by its cause (R302, R303). -/
def Block.blockedFor (b : Block) (s : Nat) (mem : List Nat) (cause : Nat) : Bool :=
  if b.flag F.ISL_BLOCK_TOPO_EXEMPT && cause.testBit 2 then false
  else if b.flag F.ISL_BLOCK_SCOPE then
    mem.any fun m => match tabGet b.isl.stations m with
      | none => false
      | some t => b.stillBlocks (tabGet b.isl.trigAreas t.area) s
  else b.stillBlocks b.isl.trigS s

/-- The triggers of a slot are taken, and the start or end of blocking is recorded (R302, R303). -/
def Block.evalBlocking (b : Block) (s : Nat) : Block :=
  let trig := b.isl.stations.flatMap fun e =>
    (if e.2.dip then [(e.1, 0)] else []) ++ (if e.2.jump then [(e.1, 1)] else [])
  let areas := b.isl.stations.filterMap fun e => if e.2.dip || e.2.jump then some e.2.area else none
  let b := b.modIsl fun x => { x with
    trigS := if trig.isEmpty then x.trigS else some s,
    dipS := if trig.any (·.2 == 0) then some s else x.dipS,
    jumpS := if trig.any (·.2 == 1) then some s else x.jumpS,
    trigAreas := areas.foldl (fun t a => tabSet t a s) x.trigAreas }
  let on := b.stillBlocks b.isl.trigS s
  let b := if on && !b.isl.blocking then
      let first := trig.headD b.isl.trigFirst
      (b.modIsl fun x => { x with trigFirst := first }).note 0x0903 1 first.1 first.2 (lt32 s)
    else if !on && b.isl.blocking then b.note 0x0903 0 b.isl.trigFirst.1 b.isl.trigFirst.2 (lt32 s)
    else b
  let b := if on then b.bump Reg.ISL_CNT_BLOCK else b
  b.modIsl fun x => { x with blocking := on }

/-! ### Confirmation (R300, R301) -/

/-- Size of what two member lists share. -/
def overlap (a c : List Nat) : Nat := a.countP c.contains

/-- Candidate index to entry index (R300). -/
def matchCands (ents : List Island) (cands : List Cand) : List (Nat × Nat) :=
  let pairs := cands.zipIdx.flatMap fun c => ents.zipIdx.filterMap fun e =>
    let o := overlap c.1.mem e.1.members
    if [1, 2, 3].contains e.1.state && decide (0 < o ∧ min c.1.mem.length e.1.members.length ≤ 2 * o) then some (o, e.2, leastOf c.1.mem, c.2)
    else none
  let order := sortBy (fun (x y : Nat × Nat × Nat × Nat) =>
    decide (y.1 < x.1 ∨ (y.1 = x.1 ∧ (x.2.1 < y.2.1 ∨ (x.2.1 = y.2.1 ∧ x.2.2.1 ≤ y.2.2.1))))) pairs
  order.foldl (fun acc p => if acc.any (fun q => q.1 == p.2.2.2 || q.2 == p.2.1) then acc else acc ++ [(p.2.2.2, p.2.1)]) []

/-- K_need (R301). -/
def Block.kNeed (b : Block) (cause : Nat) : Nat := if cause.testBit 2 then b.fld F.ISL_CRIT_K_TOPO else b.fld F.ISL_CRIT_K

/-- An entry set. -/
def Block.setEntry (b : Block) (i : Nat) (e : Island) : Block := b.modIsl fun x => { x with entries := x.entries.set i e }

/-- ISL_DECLARE (R301): the next ISLAND_ID. -/
def Block.declare (b : Block) (i : Nat) (e : Island) : Block :=
  let id := b.isl.nextId
  let b := (b.setEntry i { e with state := 2, id }).modIsl fun x => { x with nextId := (x.nextId + 1) % 2 ^ 32, newIsland := true }
  (b.bump Reg.ISL_CNT_DECLARE).note 0x0901 id (lt32 e.firstS) e.cause e.members.length

/-- ISL_CLEAR (R301). -/
def Block.clearIsland (b : Block) (i : Nat) (e : Island) (reason s : Nat) : Block :=
  ((b.setEntry i .free).bump Reg.ISL_CNT_CLEAR).note 0x0902 e.id reason (lt32 s)

/-- A candidate's count goes on, or it is declared. -/
def Block.countEntry (b : Block) (i : Nat) (e : Island) : Block :=
  if b.kNeed e.cause ≤ e.count then b.declare i e else b.setEntry i { e with state := 1 }

/-- The stations for which `p` holds among `mem`, all of them. -/
def Block.allSta (b : Block) (mem : List Nat) (p : Station → Bool) : Bool :=
  !mem.isEmpty && mem.all fun m => match tabGet b.isl.stations m with
    | none => false
    | some t => p t

/-- The row of R301 for entry `i` with its matched candidate, if any. -/
def Block.stepEntry (b : Block) (s : Nat) (c : Option Cand) (i : Nat) : Block :=
  let e : Island := b.isl.entries.getD i .free
  if e.state = 1 then
    match c with
    | none => b.dropEntry i
    | some c =>
      if b.blockedFor s c.mem c.cause then b.dropEntry i
      else b.countEntry i { e with members := c.mem, cause := c.cause, count := e.count + 1 }
  else if e.state = 2 ∨ e.state = 3 then
    let blk := b.blockedFor s (e.members ++ (match c with
      | none => []
      | some c => c.mem)) 0
    let dead := if b.allSta e.members (·.dead) then e.deadRun + 1 else 0
    let kClear := b.fld F.ISL_CLEAR_K_CLEAR
    let e := { e with blocked := blk, deadRun := dead }
    if kClear ≤ dead ∧ !blk then b.clearIsland i e 1 s
    else match c with
      | some c =>
        b.setEntry i (if blk then { e with unmatched := 0, degraded := false }
          else { e with members := c.mem, cause := c.cause, unmatched := 0, degraded := false })
      | none =>
        if b.allSta e.members (·.obs.unobserved) then b.setEntry i { e with degraded := true }
        else if blk then b.setEntry i { e with degraded := false }
        else if kClear ≤ e.unmatched + 1 then b.clearIsland i e 0 s
        else b.setEntry i { e with unmatched := e.unmatched + 1, degraded := false }
  else b

/-- An unmatched candidate takes the lowest FREE entry (R300). -/
def Block.newEntry (b : Block) (s : Nat) (c : Cand) (i : Nat) : Block :=
  b.countEntry i { Island.free with members := c.mem, count := 1, firstS := s, cause := c.cause }

/-- Confirmation of a slot's candidates, in order of their lowest station (R300, R301). -/
def Block.confirm (b : Block) (s : Nat) (cands : List Cand) : Block :=
  let b := b.modIsl fun x => { x with entries := x.entries.map fun e => if e.state = 4 then { e with state := 2 } else e }
  let pairs := matchCands b.isl.entries cands
  let free := (List.range 16).filter fun i => (b.isl.entries.getD i .free).state == 0
  let b := (List.range 16).foldl (fun b i =>
    b.stepEntry s (match pairs.find? (·.2 == i) with
      | none => none
      | some p => cands[p.1]?) i) b
  let fresh := (cands.zipIdx.filter fun c => !pairs.any (·.1 == c.2)).map (·.1)
  let new := fresh.filter fun c => !b.blockedFor s c.mem c.cause
  let b := (new.zip free).foldl (fun b p => b.newEntry s p.1 p.2) b
  let excess := new.length - free.length
  (if excess = 0 then b else b.bumpBy Reg.ISL_CNT_FULL excess).putFlag F.ISL_STAT_FULL (excess != 0)

/-! ### Merge advice (R307) -/

/-- Mean of a list. -/
def meanQ (l : List Q) : Option Q := if l.isEmpty then none else some ((l.foldl Q.add Q.zero).div (Q.ofNat l.length))

/-- Mean F of the observed ones of some stations. -/
def Block.meanF (b : Block) (mem : List Nat) : Option Q :=
  meanQ (mem.filterMap fun m => match tabGet b.isl.stations m with
    | none => none
    | some t => if t.obs.unobserved then none else some t.obs.f)

/-- θ of a station in the slot. -/
def Block.thetaOf (b : Block) (st : Nat) : Option Q :=
  match tabGet b.isl.stations st with
  | none => none
  | some t => t.obs.theta.map (·.2)

/-- |V| / VNOM of a station. -/
def Block.perUnit (b : Block) (st : Nat) : Q :=
  match tabGet b.isl.stations st with
  | none => Q.zero
  | some t => t.obs.vMag.div t.vn

/-- The advised tie: number, Δθ, ΔV (R307). -/
def Block.advise (b : Block) (ties : Tab Nat) (mem main : List Nat) : Option (Nat × Q × Q) :=
  (b.isl.ties.filterMap fun e =>
    if !e.2.en || tabGet ties e.1 != some 1 then none
    else
      let ends := if mem.contains e.2.fromSt && main.contains e.2.toSt then some (e.2.fromSt, e.2.toSt)
        else if mem.contains e.2.toSt && main.contains e.2.fromSt then some (e.2.toSt, e.2.fromSt) else none
      match ends with
      | none => none
      | some (i, m) =>
        match b.thetaOf i, b.thetaOf m with
        | some x, some y => some (e.1, wrap180 (x.sub y), (b.perUnit i).sub (b.perUnit m))
        | _, _ => none).foldl (fun (r : Option (Nat × Q × Q)) x => match r with
    | none => some x
    | some y => if (Q.abs x.2.1).lt (Q.abs y.2.1) then some x else some y) none

/-- Advice and SYNC_OK of one entry (R301, R307). -/
def Block.mergeEntry (b : Block) (ties : Tab Nat) (main : List Nat) (i : Nat) : Block :=
  let e : Island := b.isl.entries.getD i .free
  if e.state = 0 ∨ e.state = 4 then b
  else
    let f := b.meanF e.members
    let fm := b.meanF main
    let e : Island := { e with meanF := f, df := none, da := none, dv := none, adv := none, tClose := none }
    match b.flag F.ISL_CTRL_MERGE_EN && e.state != 1, f, fm with
    | true, some f, some fm =>
      let df := f.sub fm
      let adv := b.advise ties e.members main
      let within_ (x : Q) (lim : Q) : Bool := (Q.abs x).le lim
      let ok := match adv with
        | none => false
        | some (_, da, dv) => within_ df (Q.norm (b.fld F.ISL_MERGE_MRG_DF) 200) && within_ da (Q.ofNat (b.fld F.ISL_MERGE_MRG_DA))
          && within_ dv (Q.norm (b.fld F.ISL_MERGE_MRG_DV) 100)
      let tc := match adv with
        | none => none
        | some (_, da, _) =>
          if df.num = 0 then none
          else
            let t := da.neg.div ((Q.ofNat 360).mul df)
            if Q.zero.le t && t.le (Q.ofNat 60) then some t else none
      let e : Island := { e with df := some df, da := adv.map (·.2.1), dv := adv.map (·.2.2), adv := adv.map (·.1), tClose := tc }
      if e.state = 2 then
        let run := if ok then e.mergeRun + 1 else 0
        if b.fld F.ISL_MERGE_MRG ≤ run then
          (b.setEntry i { e with state := 3, mergeRun := run }).note 0x0905 e.id (e.adv.getD 0) (qField df 1000) (qField (e.da.getD Q.zero) 100)
        else b.setEntry i { e with mergeRun := run }
      else if ok then b.setEntry i e
      else b.setEntry i { e with state := 2, mergeRun := 0 }
    | _, _, _ => b.setEntry i { e with state := if e.state = 3 then 2 else e.state, mergeRun := 0 }

/-! ### The result group and its delivery (R312, R446) -/

/-- ISL_IS_SEQ to ISL_IS_MBR31 of an entry. -/
def Block.islandGroup (b : Block) (i : Nat) : List W32 :=
  let e : Island := b.isl.entries.getD i .free
  let stat := e.state + 16 * min 15 e.count + 256 * e.cause + 2 ^ 11 * e.blocked.toNat + 2 ^ 12 * e.degraded.toNat + 2 ^ 16 * e.members.length
  let first := (lt48 e.firstS).toNat
  [e.seq, BitVec.ofNat 32 stat, BitVec.ofNat 32 e.id, BitVec.ofNat 32 first, BitVec.ofNat 32 (first >>> 32), optSingle e.meanF, optSingle e.df,
   optSingle e.da, optSingle e.dv, BitVec.ofNat 32 (match e.adv with
     | none => 0
     | some t => 2 ^ 31 + t), optSingle e.tClose, 0, 0, 0, 0]
  ++ (List.range 32).map fun k => BitVec.ofNat 32 (maskOf ((e.members.filter fun m => m / 32 == k).map (· % 32)))

/-- What an ISLAND subscription watches of an entry. -/
def Island.watched (e : Island) : Nat × Nat × List Nat := (e.state, e.cause, sortBy (fun x y => decide (x ≤ y)) e.members)

/-- An event for each entry that differs from the old ones (R446). -/
def Block.islandEvents (b : Block) (old : List Island) : Block :=
  (List.range 16).foldl (fun b i =>
    if (old.getD i .free).watched = (b.isl.entries.getD i .free).watched then b
    else b.event 3 (fun _ => true) (wordBytes (b.islandGroup i))) b

/-! ### Evaluation (R291, R301, R308, R309) -/

/-- Angle histories cleared and candidates dropped: a cadence change, a time step, a gap in closed slots, WATCH (R301). -/
def Block.islRestart (b : Block) : Block :=
  let b := b.dropCandidates fun _ => true
  b.modIsl fun x => { x with stations := x.stations.map fun e => (e.1, { e.2 with hist := [] }), lastEval := 0 }

/-- Quantities of every station in a slot (R294, R295, R302), with ISL_REP_CHANGE at most once per second per station. -/
def Block.observeAll (b : Block) (x : Slot) (fr : Tab W64) : Block :=
  let cad := cadenceOf x.code
  b.isl.stations.foldl (fun b e =>
    if !e.2.en then b
    else
      let o := e.2.observe fr
      let t := e.2.advance x.s b.tBlock o
      let t := { t with dip := t.dips (b.fld F.ISL_BLOCK_V_DIP), jump := t.jumps (b.fld F.ISL_BLOCK_JUMP) b.f0 cad, group := 0x7FF }
      let rec_ := decide (o.rep ≠ t.lastRep) && !t.hist.tail.isEmpty && b.sinceOpt t.repRec tickS
      let b := if rec_ then b.note 0x0906 e.1 t.lastRep o.rep else b
      let b := if o.unobserved then b.bump Reg.ISL_CNT_UNOBS else if o.rep ≠ 0 then b.bump Reg.ISL_CNT_BACKUP else b
      let t := { t with lastRep := o.rep, repRec := if rec_ then some b.now else t.repRec }
      b.modIsl fun i => { i with stations := tabSet i.stations e.1 t }) b

/-- A station holds the local spoke (TYPE 4) (R308). -/
def Block.localStation (b : Block) : Nat :=
  match b.ing.spokes.find? (fun x => bits (x.words.getD 0 0) 2 0 == 4) with
  | none => 0xFFFF
  | some x => x.station

/-- Loss-of-mains items (R306, R308). -/
def Block.lomItems (b : Block) : List Nat :=
  (if b.isl.lomVs.on then [8] else []) ++ (if b.isl.lomRocof.on then [9] else []) ++ (if b.now < b.isl.lomBlockTo then [10] else [])

/-- ITEMS of the ISL record after an evaluation of slot `s` (R308). -/
def Block.islItems (b : Block) (s : Nat) : Nat :=
  let i := b.isl
  let act := i.entries.filter fun e => e.state == 2 || e.state == 3
  let local_ := b.localStation
  maskOf ((if act.isEmpty then [] else [0]) ++ (if i.newIsland then [1] else [])
    ++ (if act.any (·.cause.testBit 2) then [2] else []) ++ (if act.any (·.cause.testBit 0) then [3] else [])
    ++ (if act.any (·.cause.testBit 1) then [4] else []) ++ (if i.entries.any (·.state == 1) then [5] else [])
    ++ (if b.stillBlocks i.dipS s then [6] else []) ++ (if b.stillBlocks i.jumpS s then [7] else []) ++ b.lomItems
    ++ (if i.entries.any (·.state == 3) then [11] else []) ++ (if act.any (·.members.contains local_) then [12] else [])
    ++ (if i.refUnobs then [13] else []) ++ (if b.flag F.ISL_STAT_FULL then [14] else [])
    ++ ((List.range 16).filter fun n => let e := i.entries.getD n .free; e.state == 2 || e.state == 3).map (16 + ·)
    ++ (i.splitAreas.filter (· < 64)).map (64 + ·))

/-- The ISL record of a slot. -/
def Block.postIsl (b : Block) (s : Nat) (valid degraded blocked : Bool) (items : Nat) : Block :=
  let b := b.modIsl fun i => { i with rseq := i.rseq + 1, items }
  b.postEvid (mkEvid 2 valid degraded blocked false b.isl.rseq s b.isl.tqWorst items)

/-- Full evaluation of a closed slot (R299 to R303, R307, R308). -/
def Block.islEvaluate (b : Block) (x : Slot) : Block :=
  let fr := x.frame.getD []
  let b := if b.isl.lastEval ≠ 0 ∧ slotAfter (cadenceOf x.code) b.isl.lastEval 1 ≠ x.s then b.islRestart else b
  let old := b.isl.entries
  let b := b.observeAll x fr
  let b := (b.modIsl fun i => { i with newIsland := false, lastEval := x.s }).evalBlocking x.s
  let stas := b.isl.stations.filter fun e => e.2.en
  let live := stas.filter fun e => e.2.live
  let isLive n := live.any (·.1 == n)
  let f (n : Nat) : Q := match tabGet b.isl.stations n with
    | none => Q.zero
    | some t => t.obs.f
  let cad := cadenceOf x.code
  let r (n : Nat) : Option Q := match tabGet b.isl.stations n with
    | none => none
    | some t => t.rate (b.fld F.ISL_CRIT_RATE_SLOTS) cad
  let dfThr := Q.norm (b.fld F.ISL_CRIT_DF_THR) 200
  let daThr := Q.ofNat (b.fld F.ISL_CRIT_DA_THR)
  let start := ((b.startGroups (stas.map (·.1)) x.ties).map fun g => ({ g with mem := g.mem.filter isLive } : Grp)).filter fun g => !g.mem.isEmpty
  let p := if b.flag F.ISL_CTRL_COH_EN then groupPasses f r dfThr daThr 8 start else (start, false)
  let ref := b.fld F.ISL_CTRL_REF_STATION
  let main := (mainOf ref (p.1.map (·.mem))).getD []
  let minSt := b.fld F.ISL_CRIT_MIN_STATIONS
  let cands := (p.1.filter fun g => g.mem != main && decide (minSt ≤ g.mem.length)).map fun g => (⟨g.mem, causeOf f r dfThr daThr main g⟩ : Cand)
  let cands := sortBy (fun (c d : Cand) => decide (leastOf c.mem ≤ leastOf d.mem)) cands
  let groupOf n := ((p.1.zipIdx.find? fun g => g.1.mem.contains n).map (·.2)).getD 0x7FF
  let areas := (stas.map (·.2.area)).foldl (fun l a => insNat a l) []
  let split := areas.filter fun a =>
    let gs := (live.filter fun e => e.2.area == a).map fun e => groupOf e.1
    gs.any (· != gs.headD 0)
  let b := b.modIsl fun i => { i with
    stations := i.stations.map fun e => (e.1, { e.2 with group := groupOf e.1 }), splitAreas := split,
    refUnobs := ref != 0x3FF && !(stas.any fun e => e.1 == ref && !e.2.obs.unobserved), noRef := !main.contains ref && !main.isEmpty,
    backup := stas.any fun e => !e.2.obs.unobserved && e.2.obs.rep != 0,
    tqWorst := stas.foldl (fun m e => max m e.2.obs.tq) 0 }
  let b := (b.putFlag F.ISL_STAT_PASS_LIMIT p.2).put F.ISL_STAT_UNOBS (stas.countP fun e => e.2.obs.unobserved)
  let b := b.confirm x.s cands
  let b := (List.range 16).foldl (fun b i => b.mergeEntry x.ties main i) b
  let b := b.modIsl fun i => { i with entries := i.entries.map fun e => { e with seq := BitVec.ofNat 32 x.rseq } }
  let on := b.isl.blocking
  let b := (b.putFlag F.ISL_STAT_BLOCKED on).putFlag F.ISL_STAT_LOCAL_MODE false
  let deg := b.isl.backup || b.isl.noRef || b.isl.entries.any (·.degraded) || p.2 || b.flag F.TDM_STAT_DEG_CAPTAIN
  (b.islandEvents old).postIsl x.s true deg on (b.islItems x.s)

/-- ISLAND_EVALUATION (R301, R308, R309): on the slot whose close and extract has completed. -/
def islandEvaluation (run : Nat) (b : Block) : Block :=
  match b.atStage 1 with
  | none => b
  | some x =>
    let b :=
      if !b.flag F.ISL_CTRL_EN then b.postIsl x.s false false false 0
      else if b.topState = stWatch then
        let b := b.putFlag F.ISL_STAT_LOCAL_MODE true
        b.postIsl x.s true true false (((b.isl.items &&& 0xFFFF001F) ||| 2 ^ 15) ||| maskOf b.lomItems)
      else b.islEvaluate x
    b.finishStage x.s 1 run

/-- The IDN8400 enters WATCH (R301, R309): declared islands become STALE. -/
def Block.islWatch (b : Block) : Block :=
  let old := b.isl.entries
  let b := b.islRestart
  (b.modIsl fun x => { x with entries := x.entries.map fun (e : Island) => if e.state = 2 ∨ e.state = 3 then { e with state := 4 } else e }).islandEvents old

/-! ### Loss of mains (R304) -/

/-- ISL_LOM (R304, R314). -/
def Block.lomRecord (b : Block) (which : Nat) (on : Bool) (v : Nat) (t : Nat) : Block := b.note 0x0904 which on.toNat v (lt32 t)

/-- LOM_EVALUATION (R304): a V1 quarter-cycle angle in degrees and QC_FREQ in Hz at tick `t`; `low`: |V1| below
V_DIP × FLT_VNOM. -/
def Block.lomEvaluate (b : Block) (t : Nat) (theta freq : Q) (low : Bool) : Block :=
  if !(b.flag F.ISL_CTRL_LOM_EN && b.flag F.FLT_PMU_QC_EN) then b
  else
    let f0 := Q.ofNat b.f0
    let past := b.isl.qc[3]?
    let blockTo := if low then b.now + b.tBlock else b.isl.lomBlockTo
    let blocked := decide (b.now < blockTo)
    let b := b.modIsl fun x => { x with qc := ((theta, freq) :: x.qc).take 4, lomBlockTo := blockTo }
    match past with
    | none => b
    | some (th4, fr4) =>
      let vs := Q.abs (wrap180 ((theta.sub th4).sub (((Q.ofNat 360).mul (fr4.sub f0)).div f0)))
      let rocof := (freq.sub fr4).mul f0
      let vsHit := b.flag F.ISL_LOM_VS_EN && !blocked && (Q.norm (b.fld F.ISL_LOM_VS_THR) 10).lt vs
      let thr := Q.norm (b.fld F.ISL_LOM_ROCOF_THR) 100
      let n := b.fld F.ISL_LOM_ROCOF_N
      let r := b.isl.lomRocof
      let run := if thr.lt (Q.abs rocof) then r.run + 1 else 0
      let lowRun := if (Q.abs rocof).lt (thr.mul ⟨4, 5⟩) then r.low + 1 else 0
      let rHit := b.flag F.ISL_LOM_ROCOF_EN && !blocked && decide (n ≤ run)
      let v := b.isl.lomVs
      let b := if vsHit && !v.on then (b.bump Reg.ISL_CNT_LOM_VS).lomRecord 0 true (qField vs 10) t else b
      let b := if rHit && !r.on then (b.bump Reg.ISL_CNT_LOM_ROCOF).lomRecord 1 true (qField rocof 1000) t else b
      b.modIsl fun x => { x with
        lomVs := { v with on := v.on || vsHit, lastOn := if vsHit then b.now else v.lastOn },
        lomRocof := { r with on := r.on || rHit, lastOn := if rHit then b.now else r.lastOn, run, low := lowRun } }

/-- LOM_HOLD_EXPIRY (R304): element 0 vector shift, 1 ROCOF; the ROCOF element also needs its values below 0.8 of the
threshold. P2 is the element's present value, which the row names. -/
def lomHoldExpiry (which value : Nat) (b : Block) : Block :=
  let hold := b.fld F.ISL_LOM_HOLD * 100 * tickMs
  if which = 0 then
    let v := b.isl.lomVs
    if !v.on || !b.since v.lastOn hold then b
    else (b.modIsl fun x => { x with lomVs := { v with on := false } }).lomRecord 0 false value b.tai
  else if which = 1 then
    let r := b.isl.lomRocof
    if !r.on || !b.since r.lastOn hold || r.low < b.fld F.ISL_LOM_ROCOF_N then b
    else (b.modIsl fun x => { x with lomRocof := { r with on := false } }).lomRecord 1 false value b.tai
  else b

/-! ### Reports and windows -/

/-- ISLAND_REPORT (R445). -/
def islandReport (h : Hdr) (isl : Nat) (k : Key) (b : Block) : Block :=
  b.ycp k h 0x0505 ⟨some roleObs, false⟩ fun b =>
    if 16 ≤ isl ∧ isl ≠ 0xFF then yErr b yBadParam
    else
      let which := if isl = 0xFF then (List.range 16).filter fun i => (b.isl.entries.getD i .free).state != 0 else [isl]
      let groups := which.map b.islandGroup
      ⟨yOk, groups.flatMap wordBytes, groups.foldl (fun b g => b.awrs (accOf h.session) Reg.ISL_IS_ g) b⟩

/-- ISL_ST_W00 to W13 (R311). -/
def Block.stationWords (b : Block) (n : Nat) : List W32 :=
  match tabGet b.isl.stations n with
  | none => [0x00000071] ++ [0, 0] ++ List.replicate 8 0x0003FFFF ++ [0x7FF, nanW, nanW]
  | some t =>
    let o := t.obs
    [BitVec.ofNat 32 (2 ^ 31 * t.en.toNat + 2 ^ 16 * t.area + 16 * o.rep + 4 * t.jump.toNat + 2 * t.dip.toNat + o.unobserved.toNat),
     t.vnom, t.angOfs] ++ t.reps.map (BitVec.ofNat 32)
    ++ [BitVec.ofNat 32 (2 ^ 31 * t.dead.toNat + t.group), if o.unobserved then nanW else toSingle o.f, optSingle (o.theta.map (·.2))]

/-- STATION_WINDOW_LOAD (R311). -/
def stationWindowLoad (acc st : Nat) (b : Block) : Block :=
  (b.aput acc F.ISL_ST_SEL_IDX st).awrs acc Reg.ISL_ST_W (b.stationWords (st % 1024))

/-- STATION_WINDOW_COMMIT (R311). -/
def stationWindowCommitW (acc st : Nat) (k : Key) (b : Block) : WRes :=
  (b.aput acc F.ISL_ST_SEL_IDX st).winAct k acc F.ISL_ST_SEL_ERR fun b => b.commitStation (st % 1024) (b.ards acc Reg.ISL_ST_W 11)

/-- ISL_TIE_W00 to W03 (R311). -/
def Block.tieWords (b : Block) (n : Nat) : List W32 :=
  match tabGet b.isl.ties n with
  | none => [0, 0, 0, 0xA0]
  | some t => [BitVec.ofNat 32 (2 ^ 31 * t.en.toNat + 2 ^ 16 * t.fromSt + t.toSt), t.srcA, t.srcB,
      BitVec.ofNat 32 (t.state + 16 * t.stA + 64 * t.stB)]

/-- TIE_WINDOW_LOAD (R311). -/
def tieWindowLoad (acc tie : Nat) (b : Block) : Block :=
  (b.aput acc F.ISL_TIE_SEL_IDX tie).awrs acc Reg.ISL_TIE_W (b.tieWords (tie % 4096))

/-- TIE_WINDOW_COMMIT (R311). -/
def tieWindowCommitW (acc tie : Nat) (k : Key) (b : Block) : WRes :=
  (b.aput acc F.ISL_TIE_SEL_IDX tie).winAct k acc F.ISL_TIE_SEL_ERR fun b => b.commitTie (tie % 4096) (b.ards acc Reg.ISL_TIE_W 3)

/-- ISL_GS_W00 to W03 (R311). -/
def Block.gooseWords (b : Block) (n : Nat) : List W32 :=
  match tabGet b.isl.gooses n with
  | none => [0, 0, 0, 0]
  | some g => [BitVec.ofNat 32 (2 ^ 31 * g.en.toNat + 2 ^ 30 * g.testOk.toNat + g.appid), g.hash, g.confRev,
      BitVec.ofNat 32 (2 ^ 31 * g.alive.toNat + 2 ^ 30 * g.confErr.toNat + g.members.length)]

/-- GOOSE_WINDOW_LOAD (R311). -/
def gooseWindowLoad (acc sub : Nat) (b : Block) : Block :=
  (b.aput acc F.ISL_GS_SEL_IDX sub).awrs acc Reg.ISL_GS_W (b.gooseWords (sub % 256))

/-- GOOSE_WINDOW_COMMIT (R311). -/
def gooseWindowCommitW (acc sub : Nat) (k : Key) (b : Block) : WRes :=
  (b.aput acc F.ISL_GS_SEL_IDX sub).winAct k acc F.ISL_GS_SEL_ERR fun b => b.commitGoose (sub % 256) (b.ards acc Reg.ISL_GS_W 3)

/-- ISL_STAT (R310). -/
def Block.islStat (b : Block) : W32 :=
  let n := b.isl.entries.countP fun e => e.state == 2 || e.state == 3 || e.state == 4
  putBits (putBits (b.rd Reg.ISL_STAT) 20 16 n) 8 8 (b.isl.lomVs.on || b.isl.lomRocof.on).toNat

/-! ### The commands -/

def execIslandEvaluation (run : Nat) (s : State) : Host.Outcome State Fault Refusal := .next (s.onB fun _ => islandEvaluation run)
def execGooseMessageReceive (m : GooseMsg) (s : State) : Host.Outcome State Fault Refusal := .next (s.onB fun _ => gooseMessageReceive m)
def execIslGooseTal (sub : Nat) (s : State) : Host.Outcome State Fault Refusal := .next (s.onB fun _ => islGooseTal sub)
def execStationDefine (h : Hdr) (st : Nat) (w : List W32) (s : State) : Host.Outcome State Fault Refusal := .next (s.onB (stationDefine h st w))
def execAreaDefine (h : Hdr) (area : Nat) (stations : List Nat) (s : State) : Host.Outcome State Fault Refusal :=
  .next (s.onB (areaDefine h area stations))
def execTieDefine (h : Hdr) (tie : Nat) (w : List W32) (s : State) : Host.Outcome State Fault Refusal := .next (s.onB (tieDefine h tie w))
def execGooseSub (h : Hdr) (sub : Nat) (w : List W32) (s : State) : Host.Outcome State Fault Refusal := .next (s.onB (gooseSub h sub w))
def execIslandReport (h : Hdr) (isl : Nat) (s : State) : Host.Outcome State Fault Refusal := .next (s.onB (islandReport h isl))
def execStationWindowLoad (acc st : Nat) (s : State) : Host.Outcome State Fault Refusal := .next (s.onB fun _ => stationWindowLoad acc st)
def execStationWindowCommit (acc st : Nat) (s : State) : Host.Outcome State Fault Refusal :=
  .next (s.onB fun k b => (stationWindowCommitW acc st k b).b)
def execTieWindowLoad (acc tie : Nat) (s : State) : Host.Outcome State Fault Refusal := .next (s.onB fun _ => tieWindowLoad acc tie)
def execTieWindowCommit (acc tie : Nat) (s : State) : Host.Outcome State Fault Refusal :=
  .next (s.onB fun k b => (tieWindowCommitW acc tie k b).b)
def execGooseWindowLoad (acc sub : Nat) (s : State) : Host.Outcome State Fault Refusal := .next (s.onB fun _ => gooseWindowLoad acc sub)
def execGooseWindowCommit (acc sub : Nat) (s : State) : Host.Outcome State Fault Refusal :=
  .next (s.onB fun k b => (gooseWindowCommitW acc sub k b).b)
def execLomHoldExpiry (which value : Nat) (s : State) : Host.Outcome State Fault Refusal := .next (s.onB fun _ => lomHoldExpiry which value)

end Sys2Proof.Machine
end

