-- ==== Sys2Proof/Machine/TimeBase.lean ====
section
/-!
DEFINITION. The time base: counter, sources, servo, freewheel, leap seconds and departure times (R46 to R87).
-/
namespace Sys2Proof.Machine

/-! ### The counter (R46) -/

/-- The increment of one CK_TIME tick in 2^-32 ns: 8 ns scaled by 1 + y × 10^-9 (R46). -/
def tickInc (y : Q) : Nat := (((Q.ofNat 1000000000).add y).mul (Q.norm (8 * 2 ^ 32) 1000000000)).floor.toNat

/-- One CK_TIME tick (R46). -/
def Tim.tick (t : Tim) : Tim :=
  let f := t.frac + tickInc t.y
  let n := t.ns + f / 2 ^ 32
  { t with mono := t.mono + 1, frac := f % 2 ^ 32, ns := n % 1000000000, sec := t.sec + n / 1000000000 }

/-- One CK_TIME tick with no command: the time base alone advances (R46; notes/assumptions/1.md). -/
def idleTick (b : Block) : Block := b.modTim Tim.tick

/-- The counter in ns of TAI. -/
def Tim.nowNs (t : Tim) : Nat := t.sec * 1000000000 + t.ns

/-- The counter moved by a number of ns; not below 0. -/
def Tim.jump (t : Tim) (d : Int) : Tim :=
  let n := (t.nowNs + d).toNat
  { t with sec := n / 1000000000, ns := n % 1000000000 }

/-! ### Classes (R14) and sources (R57 to R61) -/

/-- Class of an error bound in ns (R14). -/
def classOf (ns : Nat) : Nat :=
  if ns ≤ 100 then 0 else if ns ≤ 1000 then 1 else if ns ≤ 10000 then 2 else if ns ≤ 100000 then 3 else 4

abbrev tmInit : Nat := 0
abbrev tmAcquire : Nat := 1
abbrev tmLocked : Nat := 2
abbrev tmFree : Nat := 3

/-- TIM_STAT.STATE. -/
def Block.timState (b : Block) : Nat := b.fld F.TIM_STAT_STATE

/-- The selected source; 0xF when none. -/
def Block.timSrc (b : Block) : Nat := b.fld F.TIM_STAT_SRC

/-- A source. -/
def Block.src (b : Block) (k : Nat) : TimSrc := b.tim.srcs.getD k .none

/-- A source changed. -/
def Block.modSrc (b : Block) (k : Nat) (f : TimSrc → TimSrc) : Block := b.modTim fun t => { t with srcs := modAt t.srcs k f }

/-- LOSS_TMO in ticks. -/
def Block.lossTicks (b : Block) : Nat := b.fld F.TIM_SRC_CTRL_LOSS_TMO * tickS

/-- The source is valid: enabled, a valid sample within LOSS_TMO, and not switched off with its domain in WATCH (R61). -/
def Block.srcValid (b : Block) (k : Nat) : Bool :=
  let x := b.src k
  x.valid && !b.since x.lastTick b.lossTicks && (b.fld F.TIM_SRC_CTRL_SRC_EN).testBit k
  && !(b.topState == stWatch && [0, 1, 4, 5].contains k)

/-- The envelope allows the source (R60). -/
def Block.srcAllowed (b : Block) (k : Nat) : Bool :=
  match b.envelope 0x0201 with
  | none => true
  | some e => e.max.testBit k

/-- The pin does not shut the source out (R60). -/
def Block.srcPinOk (b : Block) (k : Nat) : Bool := !b.flag F.TIM_SRC_CTRL_PIN_EN || b.fld F.TIM_SRC_CTRL_PIN_SRC == k

/-- The source may be selected. -/
def Block.srcUsable (b : Block) (k : Nat) : Bool := b.srcValid k && b.srcAllowed k && b.srcPinOk k

/-- Ranking keys of a source, as one number: class of E_src + 40 ns, NET before MGT, priority, code (R58). -/
def Block.srcRank (b : Block) (k : Nat) : Nat :=
  let mgt := if k = 4 ∨ k = 5 then 1 else 0
  classOf ((b.src k).eSrc + 40) * 4096 + mgt * 1024 + bits (b.rd Reg.TIM_SRC_PRIO) (4 * k + 3) (4 * k) * 16 + k

/-- The best of the sources for which `p` holds (R58). -/
def Block.bestSrc (b : Block) (p : Nat → Bool) : Option Nat :=
  ((List.range 8).filter p).foldl (fun (r : Option Nat) k => match r with
    | none => some k
    | some j => if b.srcRank k < b.srcRank j then some k else some j) none

/-- Since when each source has ranked above the selected one (R59). -/
def Block.rankSources (b : Block) : Block :=
  let sel := b.timSrc
  (List.range 8).foldl (fun b k =>
    let better := k != sel && b.srcUsable k && decide (b.srcRank k < b.srcRank sel)
    b.modSrc k fun x => { x with betterAt := if better then some (x.betterAt.getD b.now) else none }) b

/-! ### Error estimate and class (R67, R87) -/

/-- Saturated to 32 bits. -/
def sat32 (n : Nat) : Nat := min n 0xFFFFFFFF

/-- A signed number saturated to 32 bits. -/
def satS32 (n : Int) : Nat := s32 (clampInt (-2147483648) 2147483647 n)

/-- |mean offset of the last 8 samples| in ns. -/
def Tim.mean8 (t : Tim) : Q :=
  if t.last8.isEmpty then Q.zero else Q.abs (Q.norm (t.last8.foldl (· + ·) 0) t.last8.length)

/-- TIM_ERR_EST written; the class follows, and a change of class is recorded (R67, R87). -/
def Block.setErr (b : Block) (ns : Nat) : Block :=
  let ns := sat32 ns
  let old := b.devClass
  let new := if b.timState = tmInit then 4 else classOf ns
  let b := (b.wr Reg.TIM_ERR_EST (BitVec.ofNat 32 ns)).put F.TIM_STAT_TQ new
  if old = new then b else b.note 0x0205 old new ns

/-- The freewheel bound E(t) in ns (R67): E0 + Y0 t + A t² / 2. -/
def Block.freeBound (b : Block) : Nat :=
  let t := Q.norm (b.now - b.tim.freeAt) tickS
  let a := Q.norm (b.fld F.TIM_HO_MODEL_AGE) 100000
  ((b.tim.e0.add (b.tim.y0.mul t)).add ((a.mul (t.mul t)).mul ⟨1, 2⟩)).round.toNat

/-- TIM_ERR_EST in ACQUIRE and LOCKED (R66, R67). -/
def Block.trackErr (b : Block) : Block :=
  let own := ((Q.ofNat ((b.src b.timSrc).eSrc + 40)).add b.tim.mean8).round.toNat
  let e := if b.timState = tmAcquire then max own b.tim.exitBound else own
  let off := match b.tim.last8 with
    | [] => 0
    | x :: _ => x.natAbs
  b.setErr (if b.tim.slewing then max e off else e)

/-- STATE written; leaving LOCKED is remembered. -/
def Block.setTimState (b : Block) (s : Nat) : Block :=
  let left := if b.timState = tmLocked ∧ s ≠ tmLocked then some b.now else if s = tmLocked then none else b.tim.leftLock
  (b.modTim fun t => { t with leftLock := left, nGood := 0, nOut := 0 }).put F.TIM_STAT_STATE s

/-! ### Servo (R62) -/

/-- SERVO_UPDATE: one accepted sample of offset `e` ns (R62). -/
def Block.servo (b : Block) (e : Int) : Block :=
  let t := b.tim
  let dt := Q.norm (b.now - t.sampleAt) tickS
  let lim := Q.ofNat (1000 * b.fld F.TIM_LIMITS_SLEW_MAX)
  let ki := Q.pow2 (-(b.fld F.TIM_SERVO_KI_SH : Int))
  let kp := Q.pow2 (-(b.fld F.TIM_SERVO_KP_SH : Int))
  let integ := Q.clamp lim.neg lim (t.integ.add ((ki.mul (Q.ofInt e)).mul dt))
  let y := Q.clamp lim.neg lim ((kp.mul (Q.ofInt e)).add integ)
  let b := b.modTim fun t => { t with integ, y, sampleAt := b.now, last8 := (e :: t.last8).take 8, last64 := (y :: t.last64).take 64 }
  (b.put ⟨Reg.TIM_OFFSET, 31, 0⟩ (satS32 e)).put ⟨Reg.TIM_FREQ_ADJ, 31, 0⟩ (qField y 1000)

/-! ### Steps (R65, R66, R156) -/

/-- A step is allowed: START, or STEP_RUN and the envelope does not forbid it (R65, R66). -/
def Block.stepAllowed (b : Block) : Bool :=
  b.topState == stStart || (b.flag F.TIM_CTRL_STEP_RUN && match b.envelope 0x0202 with
    | none => true
    | some e => e.max.testBit 0)

/-- The time base calls for a step by `m` ns: ALN discards the open slots whose S lies after the counter (R65, R156). -/
def Block.callStep (b : Block) (m : Int) : Block :=
  let drop := b.aln.slots.filter fun x => x.phase == 0 && decide (b.tai < x.s)
  let vals : Nat := drop.foldl (fun (n : Nat) x => n + x.row.countP fun e => entPresent e.2) 0
  let b := (b.modAln fun u => { u with slots := b.aln.slots.filter (fun x => !(x.phase == 0 && decide (b.tai < x.s))),
                                        stepClosed := 0, stepDropped := drop.length, stepLast := none })
  let b := if vals = 0 then b else b.bumpBy Reg.ALN_CNT_STEP_DROP vals
  b.modTim fun t => { t with stepDue := some m }

/-- The samples beyond STEP_THR that agree within 1,000 ns, newest first. -/
def agreeing (e : Int) (run : List Int) : List Int := if run.all fun x => (x - e).natAbs ≤ 1000 then e :: run else [e]

/-- The step rule over one sample (R65, R66). -/
def Block.judgeStep (b : Block) (e : Int) : Block :=
  let thr := 1000 * b.fld F.TIM_LIMITS_STEP_THR
  if e.natAbs ≤ thr then b.modTim fun t => { t with stepRun := [], slewing := false }
  else
    let run := agreeing e b.tim.stepRun
    let b := b.modTim fun t => { t with stepRun := run }
    if run.length < b.fld F.TIM_SERVO_LOCK_CNT ∨ b.tim.stepDue.isSome then b
    else if b.stepAllowed then b.callStep (run.foldl (· + ·) 0 / (run.length : Int))
    else if b.tim.slewing then b
    else (b.modTim fun t => { t with slewing := true }).note 0x0207 (satS32 e)

/-- ALN_STEP_CLOSE (R156). -/
def Block.stepRecord (b : Block) : Block := b.note 0x050B b.aln.stepClosed b.aln.stepDropped

/-- TIME_STEP (R65): once ALN has released the step. -/
def timeStep (b : Block) : Block :=
  match b.tim.stepDue with
  | none => b
  | some m =>
    if b.aln.slots.any fun x => x.phase == 0 || (x.stepClose && decide (x.stage < 3)) then b
    else
      let before := lt32 b.tai
      let b := if b.aln.stepLast.isNone then b.stepRecord else b
      let b := b.modTim fun t => t.jump m
      let b := b.modTim fun t =>
        { t with stepDue := none, stepRun := [], last8 := [], stepAt := some t.mono,
                 lockTai := t.lockTai.map fun x => if x ≤ t.sec then 0 else x }
      let b := (b.modAln fun u => { u with lastS := none, lastD := 0, lastC := 0, stepLast := none })
      let b := (b.modGrd fun u => { u with restart := true })
      ((b.islRestart.bump Reg.TIM_CNT_STEP).note 0x0203 (satS32 m) before).trackErr

/-! ### State machine (R63) -/

/-- A switch to source `k` (R59, R60): reason 0 lost, 1 better, 2 pin, 3 envelope. -/
def Block.switchSrc (b : Block) (k reason : Nat) : Block :=
  let old := b.timSrc
  let b := (b.setTimState tmAcquire).put F.TIM_STAT_SRC k
  let b := b.modTim fun t => { t with switchAt := some t.mono, stepRun := [], last8 := [], sampleAt := t.mono }
  ((b.bump Reg.TIM_CNT_SWITCH).note 0x0204 old k reason).trackErr.rankSources

/-- The selected source is lost with no other valid one (R63). -/
def Block.loseSrc (b : Block) : Block :=
  let st := b.timState
  if st = tmAcquire ∧ !b.tim.lockedOnce then ((b.setTimState tmInit).put F.TIM_STAT_SRC 0xF).setErr 0xFFFFFFFF
  else if st = tmAcquire ∨ st = tmLocked then
    let last := b.tim.last64
    let spread := match last with
      | [] => Q.zero
      | y :: r => (r.foldl Q.max y).sub (r.foldl Q.min y)
    let floor := Q.norm (b.fld F.TIM_HO_MODEL_Y0_FLOOR) 100
    let e0 := Q.ofNat (b.rd Reg.TIM_ERR_EST).toNat
    let b := (b.setTimState tmFree).modTim fun t => { t with y := t.integ, e0, y0 := floor.max spread, freeAt := t.mono, slewing := false }
    let adj := qField b.tim.y 1000
    let b := b.put ⟨Reg.TIM_FREQ_ADJ, 31, 0⟩ adj
    if st = tmLocked then b.note 0x0202 b.timSrc adj else b
  else b

/-- The selected source may no longer be used: another takes over, or the source is lost (R59, R60). -/
def Block.dropSrc (b : Block) (reason : Nat) : Block :=
  let sel := b.timSrc
  if b.timState ≠ tmAcquire ∧ b.timState ≠ tmLocked then b
  else if b.srcUsable sel then b
  else match b.bestSrc b.srcUsable with
    | some k => b.switchSrc k reason
    | none => b.loseSrc

/-- A sample of offset `e` ns from source `k` (R62 to R67). -/
def Block.sample (b : Block) (k : Nat) (e : Int) : Block :=
  let b := b.modSrc k fun x => { x with valid := true, lastTick := b.now }
  let st := b.timState
  if !b.srcUsable k then b.rankSources
  else if st = tmInit then
    let b := ((b.modTim fun t => { t.jump e with sampleAt := t.mono, last8 := [], exitBound := 0 }).put F.TIM_STAT_SRC k).setTimState tmAcquire
    b.trackErr.rankSources
  else
    let b := if st = tmFree then
        let bound := b.freeBound
        ((b.put F.TIM_STAT_SRC k).setTimState tmAcquire).modTim fun t => { t with exitBound := bound, last8 := [], stepRun := [] }
      else b
    if b.timSrc ≠ k then b.rankSources
    else
      let b := b.judgeStep e
      let far := decide (1000 < e.natAbs)
      let b :=
        if b.timState = tmLocked then
          if far ∧ b.tim.nOut < 2 then (b.modTim fun t => { t with nOut := t.nOut + 1 }).bump Reg.TIM_CNT_OUTLIER
          else
            let b := b.servo e
            if far then b.setTimState tmAcquire else b.modTim fun t => { t with nOut := 0 }
        else
          let b := b.servo e
          b.modTim fun t => { t with nGood := if e.natAbs ≤ 100 then t.nGood + 1 else 0 }
      b.trackErr.rankSources

/-! ### PTP (R51 to R55, R77) -/

/-- PTP_SYNC_RECEIVE (R62). -/
def ptpSyncReceive (src domain origin arrival : Nat) (b : Block) : Block :=
  if 6 ≤ src ∨ domain ≠ b.fld F.TIM_CTRL_DOMAIN ∨ (b.src src).announced.isNone then b
  else
    let e : Int := ((origin + b.tim.pdelay.getD src 0 : Nat) : Int) - ((arrival : Int) - b.rxLat src)
    let b := if b.timSrc = src then b.bump Reg.TIM_CNT_SYNC else b
    b.sample src (e / 2)

/-- PTP_ANNOUNCE_RECEIVE (R58, R73, R74). -/
def ptpAnnounceReceive (src domain bound : Nat) (utcOfs : Option Nat) (leap61 leap59 : Bool) (b : Block) : Block :=
  if 6 ≤ src ∨ domain ≠ b.fld F.TIM_CTRL_DOMAIN then b
  else
    let b := b.modSrc src fun x => { x with announced := some bound, eSrc := bound }
    let b :=
      if b.timSrc ≠ src then b
      else
        let b := match utcOfs with
          | none => b
          | some n => (b.put F.TIM_UTC_UTC_OFS (n % 256)).put F.TIM_UTC_OFS_SRC 1
        if leap61 || leap59 then (b.put F.TIM_UTC_LEAP_PEND 1).putFlag F.TIM_UTC_LEAP_DIR (!leap61) else b
    b.rankSources

/-- PDELAY_REQ_RECEIVE (R77): a one-step Pdelay_Resp. -/
def pdelayReqReceive (port seq turn : Nat) (b : Block) : Block := if port < 6 then 
  b.send port Emit.ptp 72 [3, seq, turn + (b.txLat port + b.rxLat port) * 0x8000] else b

/-- PDELAY_RESP_RECEIVE (R51): half of what the exchange took beyond the responder's turnaround. -/
def pdelayRespReceive (port arrival turn : Nat) (b : Block) : Block :=
  match (b.tim.pdelayReq[port]?).join with
  | none => b
  | some t1 =>
    (b.modTim fun t => { t with pdelay := t.pdelay.set port ((arrival - b.rxLat port - t1 - turn) / 2), pdelayReq := t.pdelayReq.set port none }).bump
      Reg.TIM_CNT_PDELAY

/-- E2E_DELAY_DISCARD (R51). -/
def e2eDelayDiscard (b : Block) : Block := b.bump Reg.TIM_CNT_E2E_DROP

/-- A timestamp in 2^-1 ns: the counter plus P × 0.5 ns (R47). -/
def Block.stamp (b : Block) (phase : Nat) : Nat := 2 * b.tim.nowNs + phase % 16

/-- The unit acts as grandmaster (R55). -/
def Block.isGm (b : Block) : Bool := b.flag F.TIM_CTRL_GM_EN && b.timSrc == 6 && (b.timState == tmLocked || b.timState == tmFree)

/-- A NET port that acts as master: it does not carry the selected source (R53). -/
def Block.isMaster (b : Block) (port : Nat) : Bool := decide (port < 4) && b.timSrc != port

/-- PTP_SYNC_SEND (R77): originTimestamp and the correction for the fraction, in ns × 2^16. -/
def ptpSyncSend (port phase : Nat) (b : Block) : Block :=
  if !b.isMaster port then b
  else
    let st := b.stamp phase + b.txLat port
    b.send port Emit.ptp 64 [0, st / 2000000000, st / 2 % 1000000000, st % 2 * 0x8000 + b.tim.frac >>> 16]

/-- PDELAY_REQ_SEND (R51): the departure time is captured. -/
def pdelayReqSend (port phase : Nat) (b : Block) : Block :=
  if 6 ≤ port then b
  else
    let st := b.stamp phase + b.txLat port
    (b.modTim fun t => { t with pdelayReq := t.pdelayReq.set port (some st) }).send port Emit.ptp 72 [2]

/-- clockClass as grandmaster (R55). -/
def Block.clockClass (b : Block) : Nat :=
  if b.timState = tmLocked then 6 else if (b.rd Reg.TIM_ERR_EST).toNat ≤ 1000 then 7 else 187

/-- ANNOUNCE_SEND (R55): as grandmaster with the clockClass of R55, otherwise as a boundary clock's port. -/
def announceSend (port : Nat) (b : Block) : Block :=
  if !b.isMaster port then b else b.send port Emit.ptp 82 (if b.isGm then [11, b.clockClass] else [11])

/-! ### 1PPS and IRIG-B (R56, R57, R84) -/

/-- Nanoseconds from a timestamp in 2^-1 ns to the nearest second. -/
def toSecond (st : Int) : Int := let s := 2000000000; ((st + s / 2) / s * s - st) / 2

/-- PPS_IN_EDGE (R57). -/
def ppsInEdge (stamp : Nat) (b : Block) : Block :=
  let st : Int := (stamp : Int) - b.fld F.TIM_PPS_DLY_IN_DLY
  let b := b.modSrc 6 fun x => { x with eSrc := b.fld F.TIM_SRC_ACC_PPS_ACC }
  let e := toSecond st
  if b.tim.todArmed then
    let sec : Nat := (b.rd Reg.TIM_TOD_SEC_LO).toNat + 4294967296 * b.fld F.TIM_TOD_SEC_HI_SEC_HI
    let at_ := (st / 2 + e) / 1000000000
    let b := b.modTim fun t => { t.jump (((sec : Int) - at_) * 1000000000) with todArmed := false }
    b.sample 6 e
  else
    let other := (List.range 8).any fun k => k != 6 && b.srcValid k
    let counter := b.timState != tmInit && decide ((b.rd Reg.TIM_ERR_EST).toNat < 500000000)
    if other || counter then b.sample 6 e else b

/-- PPS_IN_EDGE_MISSING (R86): an edge is expected while the source is valid. -/
def ppsInEdgeMissing (b : Block) : Block := if (b.src 6).valid then b.bump Reg.TIM_CNT_PPS_MISS else b

/-- IRIGB_FRAME_RECEIVE (R56, R58, R74). -/
def irigbFrameReceive (ok : Bool) (utc stamp bound : Nat) (leapPend leapDel : Bool) (b : Block) : Block :=
  if !ok then b.bump Reg.TIM_CNT_IRIG_ERR
  else
    let b := b.modSrc 7 fun x => { x with eSrc := max (b.fld F.TIM_SRC_ACC_IRIG_ACC) bound }
    let b := if leapPend && b.timSrc == 7 then (b.put F.TIM_UTC_LEAP_PEND 1).putFlag F.TIM_UTC_LEAP_DIR leapDel else b
    let tai : Nat := utc + b.fld F.TIM_UTC_UTC_OFS * 1000000000
    b.sample 7 ((tai : Int) - (stamp : Int))

/-- TOD_LOAD (R57): a write of TIM_CTRL.TOD_LOAD. -/
def todLoadW (acc : Nat) (k : Key) (b : Block) : WRes :=
  let st := b.mayWrite k acc roleEng true
  if st ≠ yOk then wErr b acc st else ⟨yOk, b.modTim fun t => { t with todArmed := true }⟩

/-- PPS_OUT_PULSE (R84). -/
def ppsOutPulse (b : Block) : Block :=
  if !b.flag F.TIM_PPS_OUT_EN || b.timState = tmInit || b.fld F.TIM_PPS_OUT_SQUELCH_TQ < b.devClass then b
  else (b.modTim fun t => { t with ppsOut := some (t.mono + b.fld F.TIM_PPS_OUT_WIDTH * tickUs) }).emit 9 Emit.land [0, 1]

/-! ### Selection rows -/

/-- SOURCE_LOSS (R59, R63). -/
def sourceLoss (b : Block) : Block := (b.dropSrc 0).rankSources

/-- The source has been usable and ranked above the selected one for SW_HOLD (R59). -/
def Block.srcHeld (b : Block) (k : Nat) : Bool := b.srcUsable k && match (b.src k).betterAt with
  | none => false
  | some t => b.since t (b.fld F.TIM_SRC_CTRL_SW_HOLD * tickS)

/-- SW_HOLD_EXPIRY (R59). -/
def swHoldExpiry (b : Block) : Block :=
  if b.timState ≠ tmAcquire ∧ b.timState ≠ tmLocked then b
  else
    match b.bestSrc b.srcHeld with
    | none => b
    | some k => b.switchSrc k 1

/-- TIME_LOCK (R63). -/
def timeLock (b : Block) : Block :=
  if b.timState ≠ tmAcquire ∨ b.tim.nGood < b.fld F.TIM_SERVO_LOCK_CNT then b
  else
    let b := (b.setTimState tmLocked).modTim fun t => { t with lockedOnce := true, lockTai := some (t.lockTai.getD (t.sec + (if t.ns = 0 then 1 else 2))), exitBound := 0 }
    let b := b.trackErr
    b.note 0x0201 b.timSrc b.devClass

/-- ERR_EST_UPDATE (R67). -/
def errEstUpdate (b : Block) : Block := if b.timState = tmFree then b.setErr b.freeBound else b

/-- SOURCE_PIN_WRITE (R60, R81): a write of TIM_SRC_CTRL. -/
def sourcePinWriteW (acc : Nat) (value : W32) (k : Key) (b : Block) : WRes :=
  let st := b.mayWrite k acc roleEng true
  let pin := min 7 (bits value 3 0)
  if st ≠ yOk then wErr b acc st
  else if value.getLsbD 4 && !b.srcAllowed pin then
    let b := (b.put F.TIM_STAT_ENVELOPE_HOLD 1).denyEnvelope 0x0201 pin ((sessionOf acc).getD 0xFF) (b.fld F.TIM_SRC_CTRL_PIN_SRC)
    wErr b acc yDenied
  else
    let v := (value &&& 0xFF000010) ||| BitVec.ofNat 32 (2 ^ 18 * clampNat 1 60 (bits value 23 18) + 2 ^ 8 * max 1 (bits value 15 8) + pin)
    let b := (b.wr Reg.TIM_SRC_CTRL v).putFlag F.TIM_STAT_PINNED (value.getLsbD 4)
    let b := b.put F.TIM_STAT_ENVELOPE_HOLD 0
    ⟨yOk, (b.dropSrc (if value.getLsbD 4 then 2 else 0)).rankSources⟩

/-- The leap's instant has come (R74, R75): the counter reads 00:00:00 UTC, or, for a deletion, the second that would be 23:59:59
(notes/assumptions/52.md). -/
def Block.leapDue (b : Block) : Bool :=
  b.flag F.TIM_UTC_LEAP_PEND && (b.tim.sec + (b.flag F.TIM_UTC_LEAP_DIR).toNat) % 86400 == b.fld F.TIM_UTC_UTC_OFS

/-- LEAP_APPLY (R74). -/
def leapApply (b : Block) : Block :=
  if !b.leapDue then b
  else
    let del := b.flag F.TIM_UTC_LEAP_DIR
    let ofs := b.fld F.TIM_UTC_UTC_OFS
    let new := if del then ofs - 1 else min 255 (ofs + 1)
    let b := (b.put F.TIM_UTC_UTC_OFS new).put F.TIM_UTC_LEAP_PEND 0
    ((b.modTim fun t => { t with leapAt := some (t.sec * tickS) }).bump Reg.TIM_CNT_LEAP).note 0x0206 new del.toNat

/-- Leap occurred is being reported (R75). -/
def Block.leapActive (b : Block) : Bool := b.afterLeap b.tai (86400 * tickS)

/-! ### C37.118 quality (R72, R75) -/

/-- STAT[8:6] and the FRACSEC code (R72). -/
def qualCode (state cls err : Nat) (lockedTq0 : Bool) : Nat × Nat :=
  if state = tmInit then (7, 15)
  else match cls with
    | 0 => (1, if lockedTq0 then 0 else 3)
    | 1 => (2, 4)
    | 2 => (3, 5)
    | 3 => (4, 6)
    | _ => if err ≤ 1000000 then (5, 7) else if err ≤ 10000000 then (6, 8) else if err ≤ 100000000 then (7, 9)
      else if err ≤ 1000000000 then (7, 10) else if err < 0xFFFFFFFF then (7, 11) else (7, 15)

/-! ### Evidence (R71) -/

/-- ITEMS of the TIM record (R71). -/
def Block.timItems (b : Block) : Nat :=
  let st := b.timState
  let on (i : Nat) (c : Bool) : List Nat := if c then [i] else []
  maskOf (on 0 (st == tmLocked) ++ on 1 (st == tmAcquire) ++ on 2 (st == tmFree) ++ on 3 (st == tmInit)
    ++ on 4 (1 ≤ b.devClass) ++ on 5 (2 ≤ b.devClass) ++ on 6 (3 ≤ b.devClass) ++ on 7 (4 ≤ b.devClass)
    ++ on 8 (b.within b.tim.switchAt (60 * tickS)) ++ on 9 (b.within b.tim.stepAt (60 * tickS)) ++ on 10 b.tim.slewing
    ++ on 11 (b.flag F.TIM_UTC_LEAP_PEND) ++ on 12 b.leapActive ++ on 13 b.isGm ++ on 14 (b.flag F.TIM_STAT_PINNED)
    ++ on 15 (b.flag F.TIM_STAT_ENVELOPE_HOLD) ++ on 16 (b.timSrc == 4 || b.timSrc == 5) ++ on 17 (!(List.range 8).any b.srcValid))

/-- TIM_EVIDENCE_POST (R71). -/
def timEvidencePost (slot : Nat) (b : Block) : Block :=
  let b := b.modTim fun t => { t with rseq := t.rseq + 1 }
  b.postEvid (mkEvid 6 true (b.timState != tmLocked || decide (3 ≤ b.devClass)) false false b.tim.rseq slot b.devClass b.timItems)

/-! ### Registers computed at a read (R80, R85) -/

/-- TIM_STAT. -/
def Block.timStat (b : Block) : W32 :=
  putBits (putBits (putBits (b.rd Reg.TIM_STAT) 31 24 (maskOf ((List.range 8).filter b.srcValid))) 9 9 b.isGm.toNat) 8 8 b.leapActive.toNat

/-- TIM_NOW_NS to TIM_NOW_LT_HI (R50). -/
def Block.timNow (b : Block) : List W32 :=
  let lt := (lt48 b.tai).toNat
  [BitVec.ofNat 32 b.tim.ns, BitVec.ofNat 32 b.tim.sec, BitVec.ofNat 32 ((b.tim.frac >>> 16) * 2 ^ 16 + (b.tim.sec >>> 32) % 2 ^ 16),
   BitVec.ofNat 32 lt, BitVec.ofNat 32 (lt >>> 32)]

/-- TIM_HO_TIME: seconds since leaving LOCKED. -/
def Block.hoTime (b : Block) : W32 :=
  match b.tim.leftLock with
  | none => 0
  | some t => BitVec.ofNat 32 ((b.now - t) / tickS)

/-! ### The commands -/

def execPtpSyncReceive (src domain origin arrival : Nat) (s : State) : Host.Outcome State Fault Refusal :=
  .next (s.onB fun _ => ptpSyncReceive src domain origin arrival)
def execPtpAnnounceReceive (src domain bound : Nat) (utcOfs : Option Nat) (leap61 leap59 : Bool) (s : State) :
    Host.Outcome State Fault Refusal := .next (s.onB fun _ => ptpAnnounceReceive src domain bound utcOfs leap61 leap59)
def execPdelayReqReceive (port seq turn : Nat) (s : State) : Host.Outcome State Fault Refusal :=
  .next (s.onB fun _ => pdelayReqReceive port seq turn)
def execPdelayRespReceive (port arrival turn : Nat) (s : State) : Host.Outcome State Fault Refusal :=
  .next (s.onB fun _ => pdelayRespReceive port arrival turn)
def execE2eDelayDiscard (s : State) : Host.Outcome State Fault Refusal := .next (s.onB fun _ => e2eDelayDiscard)
def execPpsInEdge (stamp : Nat) (s : State) : Host.Outcome State Fault Refusal := .next (s.onB fun _ => ppsInEdge stamp)
def execIrigbFrameReceive (ok : Bool) (utc stamp bound : Nat) (leapPend leapDel : Bool) (s : State) : Host.Outcome State Fault Refusal :=
  .next (s.onB fun _ => irigbFrameReceive ok utc stamp bound leapPend leapDel)
def execSourceLoss (s : State) : Host.Outcome State Fault Refusal := .next (s.onB fun _ => sourceLoss)
def execSwHoldExpiry (s : State) : Host.Outcome State Fault Refusal := .next (s.onB fun _ => swHoldExpiry)
def execTimeLock (s : State) : Host.Outcome State Fault Refusal := .next (s.onB fun _ => timeLock)
def execTimeStep (s : State) : Host.Outcome State Fault Refusal := .next (s.onB fun _ => timeStep)
def execErrEstUpdate (s : State) : Host.Outcome State Fault Refusal := .next (s.onB fun _ => errEstUpdate)
def execTodLoad (acc : Nat) (s : State) : Host.Outcome State Fault Refusal := .next (s.onB fun k b => (todLoadW acc k b).b)
def execSourcePinWrite (acc : Nat) (value : W32) (s : State) : Host.Outcome State Fault Refusal :=
  .next (s.onB fun k b => (sourcePinWriteW acc value k b).b)
def execLeapApply (s : State) : Host.Outcome State Fault Refusal := .next (s.onB fun _ => leapApply)
def execPpsOutPulse (s : State) : Host.Outcome State Fault Refusal := .next (s.onB fun _ => ppsOutPulse)
def execPtpSyncSend (port phase : Nat) (s : State) : Host.Outcome State Fault Refusal := .next (s.onB fun _ => ptpSyncSend port phase)
def execTimEvidencePost (slot : Nat) (s : State) : Host.Outcome State Fault Refusal := .next (s.onB fun _ => timEvidencePost slot)
def execPdelayReqSend (port phase : Nat) (s : State) : Host.Outcome State Fault Refusal := .next (s.onB fun _ => pdelayReqSend port phase)
def execAnnounceSend (port : Nat) (s : State) : Host.Outcome State Fault Refusal := .next (s.onB fun _ => announceSend port)
def execPpsInEdgeMissing (s : State) : Host.Outcome State Fault Refusal := .next (s.onB fun _ => ppsInEdgeMissing)

end Sys2Proof.Machine
end

