-- ==== Sys2Proof/Machine/Align.lean ====
section
/-!
DEFINITION. Peloton alignment (spec/05_peloton_alignment.md): slots from S to settling, the wait budget, the fill policy,
the cadence and DRAM integrity (R152 to R179, R186, R190, R191).
-/
namespace Sys2Proof.Machine

/-- Slots run (R17, R525): not in START or KICKSTAND, not during a reset or an L2 self-test, and the time base has locked since the
start. -/
def Block.slotsRun (b : Block) : Bool :=
  let st := b.topState
  (st == stRun || st == stWatch || st == stMaint) && b.top.rstRun.isNone && b.tim.lockTai.isSome && match b.flt.test with
    | some (level, _) => level != 2
    | none => true

/-! ### The row in DRAM (R157, R160, R190, R191) -/

/-- Runs of granules in granule order. -/
def insRun (r : Nat × Nat) : List (Nat × Nat) → List (Nat × Nat)
  | [] => [r]
  | x :: l => if r.1 < x.1 then r :: x :: l else x :: insRun r l

/-- The active row: the granules in use, in granule order. -/
def Block.activeRuns (b : Block) : List (Nat × Nat) := b.aln.runs.foldr (fun r l => insRun (r.base, r.count) l) []

/-- Granules of an active row. -/
def granCount (l : List (Nat × Nat)) : Nat := l.foldl (fun n r => n + r.2) 0

/-- Longest free run of granules (ALN_ROW_STAT.FREE_RUN). -/
def Block.freeRun (b : Block) : Nat :=
  let r := b.activeRuns.foldl (fun (a : Nat × Nat) r => (max a.1 (r.1 - a.2), r.1 + r.2)) (0, 0)
  max r.1 (8192 - r.2)

/-- The active row of a slot. -/
def Block.rowRuns (b : Block) (x : Slot) : List (Nat × Nat) := if x.phase = 0 then b.activeRuns else x.active

/-- The descriptor of a row (R160). -/
def Block.descriptor (b : Block) (x : Slot) : List Byte :=
  let flags := x.early.toNat + 2 * x.stepClose.toNat + 4 * x.gap.toNat + 8 * x.filled.toNat
  let body := beBytes 6 x.s ++ beBytes 6 x.c ++ beBytes 4 x.rseq ++ beBytes 1 x.phase ++ beBytes 1 flags ++ beBytes 1 x.tq
    ++ beBytes 1 x.code ++ beBytes 2 (granCount (b.rowRuns x)) ++ beBytes 2 (if x.phase = 0 then x.bitmap.length else x.arrived)
    ++ beBytes 2 x.critMiss ++ beBytes 4 x.amends ++ List.replicate 30 0
  body ++ beBytes 4 (crc32c body).toNat

/-- Granule numbers of an active row, in order. -/
def granules (l : List (Nat × Nat)) : List Nat := l.flatMap fun r => (List.range r.2).map (r.1 + ·)

/-- The 32 entries of a granule, big-endian (R443). -/
def granBytes (row : Tab W64) (g : Nat) : List Byte := (List.range 32).flatMap fun i => beBytes 8 ((tabGet row (32 * g + i)).getD 0).toNat

/-- An entry of a poisoned block (R190): PRESENT, INVALID, CONV POISONED; its other bits are not stated (notes/assumptions/26.md). -/
def poisonEntry (old : W64) (ch : Nat) : W64 :=
  let o := Config.openEntry old old ch
  mkEntry (entFlags o ||| flPresent ||| flInvalid) (min 4 (entTq o)) convPoisoned (entVal o)

/-- A block of a row is poisoned (R190): counted and recorded. -/
def Block.poison (b : Block) (s blk : Nat) : Block :=
  match b.slot s with
  | none => b
  | some x =>
    if x.poisoned.contains (32 * blk) then b
    else
      let chans := (List.range 32).map (32 * blk + ·)
      let bad := chans.map fun ch => (ch, poisonEntry ((tabGet x.row ch).getD 0) ch)
      let fast := bad.filter fun e => b.aln.flChans.contains e.1
      let open_ := x.phase == 0
      let b := b.modSlot s fun x =>
        { x with row := putRow x.row 0 bad, poisoned := insNat (32 * blk) x.poisoned, gap := true,
                 flGap := x.flGap || (open_ && !fast.isEmpty),
                 frame := if open_ then x.frame.map fun f => putRow f 0 fast else x.frame }
      (b.bump Reg.ALN_CNT_POISON).note 0x0507 (lt32 s) (32 * blk)

/-- What the reads of a row meet (R190, R191). -/
def Block.dramReads (b : Block) (s : Nat) (r : DramReads) : Block :=
  let b := if r.flits = 0 then b else b.bumpBy Reg.ALN_CNT_FLIT_RETRY r.flits
  r.fails.foldl (fun b f => if 8192 ≤ f.1 then b else if f.2 then b.bump Reg.ALN_CNT_CRC_CORR else b.poison s f.1) b

/-- The store horizon in ms (R186). -/
def Block.storeHorizon (b : Block) : Nat :=
  let g := granCount b.activeRuns * 256 * b.cadence
  if g = 0 then 600000 else min 600000 (12 * 2 ^ 30 * 1000 / g)

/-- Settled rows whose space the ring reuses (R179, R186). -/
def Block.dropStore (b : Block) : Block :=
  let gone := fun (x : Slot) => x.phase == 2 && decide (x.s + x.keep ≤ b.tai)
  let last := b.aln.slots.foldl (fun m x => if gone x then max m x.s else m) b.aln.lostS
  b.modAln fun a => { a with slots := a.slots.filter fun x => !gone x, lostS := last }

/-! ### The fill policy (R178) -/

/-- Row channels some spoke's current version serves in slot `s`. -/
def Block.served (b : Block) (s : Nat) : List Nat :=
  b.ing.spokes.flatMap fun x => match x.cur with
    | none => []
    | some v => if x.serves v s then (List.range v.kinds.length).map (v.rowBase + ·) else []

/-- The slot closed before `s`. -/
def Block.closedBefore (b : Block) (s : Nat) : Option Slot :=
  b.aln.slots.foldl (fun (m : Option Slot) y => if y.phase ≠ 0 ∧ y.s < s then some y else m) none

/-- Slots held later than `o`, up to `s`. -/
def Block.slotsSince (b : Block) (o s : Nat) : Nat := b.aln.slots.countP fun y => decide (o < y.s ∧ y.s ≤ s)

/-- The fill of one channel: the source entry, and S of the slot its value was first written for. -/
def Block.fillEntry (b : Block) (src : Tab W64) (origin : Tab Nat) (from_ s ch : Nat) : Option (W64 × Nat) :=
  match tabGet src ch with
  | none => none
  | some e =>
    let o := if entConv e = convFilled then (tabGet origin ch).getD from_ else from_
    if !entPresent e || entInvalid e || max 1 (b.fld F.ALN_FILL_MAX) < b.slotsSince o s then none
    else some (mkEntry (entFlags e &&& (flPresent ||| flInvalid ||| flTest ||| flSrcErr ||| flSuspect)) (entTq e) convFilled (entVal e), o)

/-- The fills of the channels of `chans` that `dst` lacks. -/
def Block.fills (b : Block) (dst src : Tab W64) (origin : Tab Nat) (from_ s : Nat) (chans : List Nat) : List (Nat × W64 × Nat) :=
  chans.filterMap fun ch => if (tabGet dst ch).isSome then none else (b.fillEntry src origin from_ s ch).map fun p => (ch, p)

/-- Filled entries put into a row, with their origins. -/
def putFills (row : Tab W64) (origin : Tab Nat) (l : List (Nat × W64 × Nat)) : Tab W64 × Tab Nat :=
  l.foldl (fun a f => (tabSet a.1 f.1 f.2.1, tabSet a.2 f.1 f.2.2)) (row, origin)

/-- HOLD_LAST is set. -/
def Block.fillOn (b : Block) : Bool := b.fld F.ALN_FILL_POLICY == 1

/-- The fast-lane row filled from the fast-lane row before it (R165, R178; notes/assumptions/27.md). -/
def Block.fastFill (b : Block) (s : Nat) : Block :=
  if !(b.fillOn && b.flag F.ALN_FILL_FAST) then b
  else
    match b.slot s, b.closedBefore s with
    | some x, some p =>
      match x.frame, p.frame with
      | some f, some pf =>
        let l := b.fills f pf p.flOrigin p.s s b.aln.flChans
        let r := putFills f [] l
        let b := b.modSlot s fun x => { x with frame := some r.1, flOrigin := r.2, flFilled := !l.isEmpty }
        b.bumpBy Reg.ALN_CNT_FILL l.length
      | _, _ => b
    | _, _ => b

/-- The DRAM row of a closed slot filled (R165, R178). -/
def Block.fillRow (b : Block) (s : Nat) : Block :=
  match b.slot s with
  | none => b
  | some x =>
    if x.phase = 0 ∨ x.fillDone then b
    else
      let l := match b.closedBefore s with
        | none => []
        | some p => b.fills x.row p.row p.origin p.s s (b.served s)
      let r := putFills x.row [] l
      let b := b.modSlot s fun x => { x with row := r.1, origin := r.2, filled := !l.isEmpty, fillDone := true }
      b.bumpBy Reg.ALN_CNT_FILL l.length

/-! ### The wait budget (R169 to R174) -/

/-- w_slot, and what bound it. -/
structure SlotBudget where
  w     : Nat
  cap   : Bool
  env   : Bool
  /-- P2 of ALN_WAIT_CHANGE. -/
  bound : Nat

/-- The unit is a captain in the exchange: it fixes D for both (R359). -/
def Block.leadsSlots (b : Block) : Bool := b.inExchange && b.captain

/-- Limits of the wait budget in µs. -/
def Block.waitMin (b : Block) : Nat := b.fld F.ALN_WAIT_MIN_MIN
def Block.waitMax (b : Block) : Nat := b.fld F.ALN_WAIT_MAX_MAX

/-- The fast-lane cap in µs: 16 slot periods less 0.5 ms (R169). -/
def fastCap (c : Nat) : Nat := 16000000 / max 1 c - 500

/-- w_slot (R172, R359). -/
def Block.slotBudget (b : Block) (code : Nat) : SlotBudget :=
  let lo := b.waitMin
  let hi := b.waitMax
  let base := if b.fld F.ALN_WAIT_CTRL_MODE = 1 then clampNat lo hi (b.fld F.ALN_WAIT_PIN_PIN) else if b.aln.wSet then b.aln.w else hi
  let e := b.envelope 0x0101
  let v := match e with
    | none => base
    | some e => clampNat e.min e.max base
  let capOn := !b.aln.flChans.isEmpty && decide (8 ≤ code)
  let cap := capOn && decide (fastCap (cadenceOf code) < v)
  let w := if cap then fastCap (cadenceOf code) else v
  let w := if b.leadsSlots then max w (b.fld F.TDM_XCHG_LEAD + 200) else w
  let atEnv := match e with
    | none => false
    | some e => decide (w = e.min ∨ w = e.max)
  ⟨w, cap, v != base, if capOn ∧ w = fastCap (cadenceOf code) then 4 else if atEnv then 3 else if w = hi then 2 else if w = lo then 1 else 0⟩

/-- The largest LAT_P99 of the critical set, 0 for none or a negative one (R170). -/
def Block.largestP99 (b : Block) : Nat := b.ing.spokes.foldl (fun m x => if x.member then max m x.p99.toNat else m) 0

/-- ALN_WAIT_NOW and ALN_WAIT_CHANGE for a slot's budget (R172, R174). -/
def Block.waitNow (b : Block) (q : SlotBudget) : Block :=
  let b := b.wr Reg.ALN_WAIT_NOW (BitVec.ofNat 32 (q.w % 2 ^ 18 + (if q.env then 2 ^ 30 else 0) + (if q.cap then 2 ^ 31 else 0)))
  let due := match b.aln.lastWRec with
    | none => true
    | some w => decide (1000 ≤ max w q.w - min w q.w) || (q.bound != 0 && q.bound != b.aln.lastBound)
  let b := b.modAln fun a => { a with lastBound := q.bound, lastWRec := if due then some q.w else a.lastWRec }
  if due then b.note 0x0505 q.w b.largestP99 q.bound else b

/-- WAIT_BUDGET_UPDATE (R170). -/
def waitBudgetUpdate (b : Block) : Block :=
  let hi := b.waitMax
  let target := if b.ing.spokes.any (·.member) then
      b.largestP99 * (100 + b.fld F.ALN_WAIT_CTRL_MARGIN_PCT) / 100 + 100 * b.fld F.ALN_WAIT_CTRL_MARGIN_ABS
    else hi
  let w := if b.aln.wSet then b.aln.w else hi
  let sh := clampNat 1 8 (b.fld F.ALN_WAIT_CTRL_DECAY_SH)
  let w := if w ≤ target then target else w - (w - target) >>> sh
  b.modAln fun a => { a with w := clampNat b.waitMin hi w, wSet := true }

/-- WAIT_LIMIT_WRITE (R173): 0 ALN_WAIT_MIN, 1 ALN_WAIT_MAX. -/
def waitLimitW (acc which : Nat) (value : W32) (k : Key) (b : Block) : WRes :=
  let st := b.mayWrite k acc roleEng true
  if st ≠ yOk then wErr b acc st
  else
    let v := clampNat 500 250000 (bits value 17 0)
    let lo := if which = 0 then v else b.waitMin
    let hi := if which = 0 then b.waitMax else v
    if hi < lo then ⟨yBadParam, b.put F.ALN_STAT_CFG_ERR 1⟩
    else ⟨yOk, (b.put F.ALN_WAIT_MIN_MIN lo).put F.ALN_WAIT_MAX_MAX hi⟩

/-! ### The cadence (R153 to R155) -/

/-- A cadence change accepted: it applies from the first top of a TAI second at least 2 s ahead (R153). -/
def Block.scheduleCadence (b : Block) (code : Nat) : Nat × Block :=
  let t := (b.tai + 2 * tickS + tickS - 1) / tickS
  (t, (b.modAln fun a => { a with cadPend := a.cadPend ++ [(code, t)] }).put F.ALN_CADENCE_PEND 1)

/-- A cadence requested by a host (R153): status, T, and the block. -/
def Block.requestCadence (b : Block) (code : Nat) : Nat × Nat × Block :=
  if b.topState ≠ stRun ∧ b.topState ≠ stMaint then (yDenied, 0, b)
  else if 14 ≤ code then (yBadParam, 0, b)
  else if !b.cadenceFits (cadenceOf code) then (yResource, 0, b.bump Reg.ING_CNT_BUDGET_REJ)
  else
    let r := (b.put F.ALN_CADENCE_CODE code).scheduleCadence code
    (yOk, r.1, r.2)

/-- CADENCE_SET (R153). -/
def cadenceSet (h : Hdr) (code : Nat) (k : Key) (b : Block) : Block :=
  b.ycp k h 0x0301 ⟨some roleEng, true⟩ fun b =>
    let r := b.requestCadence code
    ⟨r.1, if r.1 = yOk then beBytes 6 r.2.1 else [], r.2.2⟩

/-- CADENCE_CODE_WRITE (R153). -/
def cadenceCodeW (acc code : Nat) (k : Key) (b : Block) : WRes :=
  let st := b.mayWrite k acc roleEng true
  if st ≠ yOk then wErr b acc st
  else
    let r := b.requestCadence (code % 16)
    ⟨r.1, if r.1 = yDenied then b.writeDenied acc else r.2.2⟩

/-- The rate of an output set divides the cadence into a reporting rate (R182). -/
def outRateOk (c div : Nat) : Bool := div != 0 && c % div == 0 && rateOk ((c / div : Nat) : Int)

/-- Output sets whose rate a new cadence breaks are suspended (R155). -/
def Block.suspendOuts (b : Block) : Block :=
  let bad := fun (o : OutSet) => (o.state == 1 || o.state == 2) && !outRateOk b.cadence o.div
  let l := (b.aln.outs.zipIdx.filter fun e => bad e.1).map (·.2)
  let b := b.modAln fun a => { a with outs := a.outs.map fun o => if bad o then { o with state := 3 } else o }
  l.foldl (fun b i => b.note 0x050A i 0) b

/-- CADENCE_APPLY (R153, R155, R301): the local, partner and sampled-value spokes report at the cadence (R129, R218). -/
def cadenceApply (b : Block) : Block :=
  match b.aln.cadPend with
  | [] => b
  | (code, t) :: rest =>
    if b.tai < t * tickS then b
    else
      let old := b.fld F.ALN_CADENCE_ACTIVE
      let b := ((b.modAln fun a => { a with cadPend := rest }).put F.ALN_CADENCE_ACTIVE code).putFlag F.ALN_CADENCE_PEND (!rest.isEmpty)
      let fs8 := 8 * cadenceOf code
      let b := b.setSpokes (b.ing.spokes.map fun x =>
        if x.type = 2 ∨ x.type = 4 ∨ x.type = 5 then { x with cur := x.cur.map fun v => { v with fs8 } } else x)
      (b.islRestart.note 0x0506 old code (t % 2 ^ 32)).suspendOuts

/-! ### A slot opens (R161, R163, R168) -/

/-- HELD or PREDICTED values of a spoke whose last report still serves the slot, where its row holds none (R120, R142). -/
def Block.holdInto (b : Block) (s : Nat) (x : Spoke) : Block :=
  match x.cur with
  | none => b
  | some v =>
    let m := b.methodFor x v
    match x.reports.find? fun r => r.ver == v.ver && decide (r.t ≤ s) with
    | none => b
    | some r =>
      let has : Bool := match b.slot s with
        | none => false
        | some y => y.bitmap.contains x.num
      if (x.state ≠ 2 ∧ x.state ≠ 5) ∨ (m ≠ .hold ∧ m ≠ .predict) ∨ has = true ∨ x.serves v s = false ∨ r.t + reachTicks m v.fs8 x.holdMax < s then b
      else b.writeSlot x.num v true x.lastSt b.tai s (if m = .hold then recode r.entries convHeld else predictReport b.f0 v.kinds r s)

/-- The slot's fields fixed at S. -/
def Slot.start (x : Slot) (b : Block) (q : SlotBudget) (code d : Nat) : Slot :=
  { x with code := code, dl := some (if x.schedGot then x.dl.getD d else d), wSlot := q.w, flCap := q.cap, wEnv := q.env,
           hzn := b.fld F.ALN_LATE_HZN_HZN * 10 * tickMs, keep := b.storeHorizon * tickMs,
           frame := some (x.row.filter fun e => b.aln.flChans.contains e.1) }

/-- The slot time follows the last one started, or the first lock (R161). -/
def Block.follows (b : Block) (s : Nat) : Bool := match b.aln.lastS with
  | none => decide (b.tim.lockTai.getD 0 * tickS ≤ s)
  | some l => decide (l < s)

/-- SLOT_START (R163, R168, R172, R359). -/
def slotStart (s : Nat) (b : Block) : Block :=
  let code := b.codeAt s
  let c := cadenceOf code
  if !b.slotsRun || b.tim.stepDue.isSome || decide (b.tai < s) || !onGrid c s || !b.follows s then b
  else
    let b := b.modAln fun a => { a with slots := a.slots.filter fun x => !(x.phase == 0 && x.dl.isNone && decide (x.s < s)) }
    let b := b.dropStore.openSlot s
    let q := b.slotBudget code
    let b := b.waitNow q
    let old := slotBefore c s 16
    let b := b.modAln fun a => { a with slots := a.slots.map fun x => if x.s ≤ old then { x with frame := none } else x }
    let b := b.modSlot s fun x => x.start b q code (max (s + q.w * tickUs) (b.aln.lastD + tickMs))
    let d := ((b.slot s).bind Slot.dl).getD 0
    let b := b.modAln fun a => { a with lastS := some s, lastD := d }
    let b := b.ing.spokes.foldl (fun b x => b.holdInto s x) b
    let b := (b.modGrd fun u => { u with sched := ((s, d) :: b.grd.sched).take 256 })
    if b.leadsSlots then b.tdmSend [2, s, d] else b

/-! ### A slot closes (R164 to R166) -/

/-- A slot is marked INCOMPLETE (R359, R362): counted once. -/
def Block.markIncomplete (b : Block) (s : Nat) : Block :=
  match b.slot s with
  | none => b
  | some x =>
    if x.incomplete then b
    else
      let sec := b.now / tickS
      let b := (b.modSlot s fun x => { x with incomplete := true }).bump Reg.TDM_CNT_INCOMPLETE
      (b.modTdm fun u => { u with incAt := some b.now, incSecN := if b.tdm.incSec = sec then b.tdm.incSecN + 1 else 1, incSec := sec })

/-- The union frozen in a tandem (R362): a spoke of it without a value makes the slot INCOMPLETE; so does a partner's CUT that
never came (notes/assumptions/28.md). -/
def Block.freezeUnion (b : Block) (s : Nat) : Block :=
  match b.slot s with
  | none => b
  | some x =>
    if !b.inExchange then b
    else
      match x.partnerCut with
      | none => b.markIncomplete s
      | some l =>
        let b := if l.all x.bitmap.contains then b else b.markIncomplete s
        b.modSlot s fun x => { x with bitmap := l.foldl (fun m n => insNat n m) x.bitmap }

/-- The close of slot `x` may happen now (R164): earlier slots closed, 1.0 ms since the last close, and the deadline reached, an
early close allowed, or a step called for. -/
def Block.closable (b : Block) (x : Slot) : Bool :=
  let m := b.members
  let early := b.flag F.ALN_CTRL_EARLY_EN && !b.inExchange && !m.isEmpty && m.all x.bitmap.contains
  x.phase == 0 && x.dl.isSome && !(b.aln.slots.any fun y => y.phase == 0 && decide (y.s < x.s)) && decide (b.aln.lastC + tickMs ≤ b.tai)
  && (decide (x.dl.getD 0 ≤ b.tai) || early || b.tim.stepDue.isSome)

/-- ITEMS of the ALN record (R166). -/
def Block.alnItems (b : Block) (x : Slot) (crit : Bool) (prevOvr : Bool) : Nat :=
  maskOf (([x.early, x.critMiss != 0, !crit, x.flGap, x.flFilled, x.flCap, x.wSlot == b.waitMax, x.wEnv, x.stepClose, b.flag F.ALN_CADENCE_PEND,
    x.incomplete, b.flag F.ALN_LDG_STAT_RESERVE_USED, prevOvr, b.aln.outs.any (·.state == 3), b.within b.aln.frozenAt tickS].zipIdx.filter
    (·.1)).map (·.2))

/-- The ALN evidence record of a slot (R166). -/
def Block.postAln (b : Block) (s : Nat) (crit prevOvr : Bool) : Block :=
  match b.slot s with
  | none => b
  | some x =>
    let deg := x.critMiss != 0 || x.flFilled || x.flGap || x.incomplete
    let b := b.postEvid (mkEvid 1 true deg false false b.aln.rseq s x.tq (b.alnItems x crit prevOvr))
    b.modAln fun a => { a with rseq := (a.rseq + 1) % 65536 }

/-- Code of the time since the time base left LOCKED (R72). -/
def Block.unlockCode (b : Block) : Nat :=
  if b.timState = tmLocked then 0
  else match b.tim.leftLock with
    | none => 3
    | some t => [10, 100, 1000].countP fun s => decide (t + s * tickS ≤ b.now)

/-- The selected source's class is TQ0 while LOCKED. -/
def Block.lockedTq0 (b : Block) : Bool := b.timState == tmLocked && decide ((b.src b.timSrc).eSrc ≤ 100)

/-- Output sets that owe the frame of slot `s` (R181, R182, R32). -/
def Block.framesDue (b : Block) (s code : Nat) : List Nat :=
  (b.aln.outs.zipIdx.filter fun e => e.1.state == 2 && !b.isShed e.2 && e.1.div != 0 && slotIdx (cadenceOf code) s % e.1.div == 0).map (·.2)

/-- The fields of a slot at its close. -/
def Slot.close (x : Slot) (b : Block) (miss : Nat) (early step : Bool) : Slot :=
  { x with phase := 1, c := b.tai, early := early, stepClose := step, critMiss := miss, arrived := x.bitmap.length, tq := b.devClass,
           errC := (b.rd Reg.TIM_ERR_EST).toNat, timC := b.timState, srcTq0 := b.lockedTq0, unlockC := b.unlockCode,
           rseq := b.aln.closed + 1, active := b.activeRuns, fillDone := !b.fillOn }

/-- The wait budget raised by a close that misses a critical spoke (R171). -/
def Block.missBump (b : Block) : Block :=
  let k := b.fld F.ALN_WAIT_CTRL_BUMP
  let b := b.bump Reg.ALN_CNT_CRIT_MISS
  if k = 0 then b else (b.modAln fun a => { a with w := min b.waitMax (a.w + 500 * k) }).bump Reg.ALN_CNT_BUMP

/-- Degraded captaincy ends by a close (R370). -/
def Block.captaincyClose (b : Block) : Block :=
  let b := (b.modTdm fun u => { u with closedSince := b.tdm.closedSince + 1 })
  let full := !b.unfilled && decide (b.fld F.ISL_CRIT_RATE_SLOTS ≤ b.tdm.closedSince)
  if b.tdmState == tdInStep || full then b.put F.TDM_STAT_DEG_CAPTAIN 0 else b

/-- What a close changes beside its slot: level and shares, island definitions, membership, tie states, step accounts. -/
def Block.closeEffects (b : Block) (s : Nat) (step : Bool) : Block :=
  let b := (b.ledgerClose b.tai).critClose s
  let b := if 1 ≤ b.level ∧ b.modOn then b.shedGap else b
  let b := b.applyIslDefs
  let b := b.modAln fun a => { a with flChans := b.isl.channels, closed := (a.closed + 1) % 2 ^ 32, lastC := b.tai }
  let b := b.captaincyClose
  let b := b.captureTies s (match b.slot s with
    | none => []
    | some x => x.frame.getD [])
  let left := b.aln.slots.any (·.phase == 0)
  if step then b.modAln fun a => { a with stepClosed := a.stepClosed + 1, stepLast := if left then none else some s } else b

/-- SLOT_CLOSE (R164, R165): `run` is the ticks of the close-and-fast-lane-extract stage. -/
def slotClose (s run : Nat) (r : DramReads) (b : Block) : Block :=
  match b.slot s with
  | none => b
  | some x =>
    if !b.slotsRun || !b.closable x then b
    else
      let step := b.tim.stepDue.isSome
      let early := x.early || (!step && decide (b.tai < x.dl.getD 0))
      let crit := b.members
      let miss := crit.countP fun n => !x.bitmap.contains n
      let prevOvr := ((b.closedBefore s).map fun p => p.ovr != 0).getD false
      let b := b.dramReads s r
      let b := b.modSlot s fun x => x.close b miss early step
      let b := b.freezeUnion s
      let b := if early then b.bump Reg.ALN_CNT_EARLY_CLOSE else b
      let b := if miss = 0 then b else b.missBump
      let b := (b.closeEffects s step).fastFill s
      let b := b.modSlot s fun x => { x with due := b.framesDue s x.code }
      let inc := ((b.slot s).map Slot.incomplete).getD false
      let b := (b.modTdm fun u => { u with lastInc := inc, incRun := if inc then b.tdm.incRun + 1 else 0 })
      (b.postAln s (!crit.isEmpty) prevOvr).finishStage s 0 run

/-! ### After the close (R165, R179) -/

/-- DRAM_ROW_FILL (R165). -/
def dramRowFill (s : Nat) (r : DramReads) (b : Block) : Block :=
  match b.slot s with
  | none => b
  | some x => if x.phase = 0 then b else (b.dramReads s r).fillRow s

/-- ROW_SETTLE (R156, R177, R179): the settle notice, and what no longer has a slot to settle is let go. -/
def rowSettle (s : Nat) (b : Block) : Block :=
  match b.slot s with
  | none => b
  | some x =>
    let due := x.stepClose || decide (x.dl.getD 0 + x.hzn ≤ b.tai)
    if x.phase ≠ 1 ∨ !x.fillDone ∨ !due then b
    else
      let b := b.modSlot s fun x => { x with phase := 2 }
      let b := if x.amends = 0 then b
        else
          let n := settleNotice b.aln.aseq s x.amends
          (b.modAln fun a => { a with aseq := (a.aseq + 1) % 2 ^ 32 }).event 0 noticeAdmits n
      b.dropOld

/-! ### The commands -/

def execSlotStart (slot : Nat) (s : State) : Host.Outcome State Fault Refusal := .next (s.onB fun _ => slotStart slot)
def execSlotClose (slot run : Nat) (reads : DramReads) (s : State) : Host.Outcome State Fault Refusal :=
  .next (s.onB fun _ => slotClose slot run reads)
def execDramRowFill (slot : Nat) (reads : DramReads) (s : State) : Host.Outcome State Fault Refusal :=
  .next (s.onB fun _ => dramRowFill slot reads)
def execWaitBudgetUpdate (s : State) : Host.Outcome State Fault Refusal := .next (s.onB fun _ => waitBudgetUpdate)
def execWaitLimitWrite (acc which : Nat) (value : W32) (s : State) : Host.Outcome State Fault Refusal :=
  .next (s.onB fun k b => (waitLimitW acc which value k b).b)
def execCadenceSet (h : Hdr) (code : Nat) (s : State) : Host.Outcome State Fault Refusal := .next (s.onB (cadenceSet h code))
def execCadenceCodeWrite (acc code : Nat) (s : State) : Host.Outcome State Fault Refusal :=
  .next (s.onB fun k b => (cadenceCodeW acc code k b).b)
def execCadenceApply (s : State) : Host.Outcome State Fault Refusal := .next (s.onB fun _ => cadenceApply)

end Sys2Proof.Machine
end

