-- ==== Sys2Proof/Machine/Gate.lean ====
section
/-!
DEFINITION. What the bells show, outside any evaluation: the lands and BELL_OK (R336 to R339), the captain-claim gate and the end
of a claim (R337, R349, R355 to R358), who sends network bells (R368) and the GOOSE publication (R344, R345).
-/
namespace Sys2Proof.Machine

/-- An L2 self-test runs (R222). -/
def Block.inL2 (b : Block) : Bool := match b.flt.test with
  | some (level, _) => level == 2
  | none => false

/-- The radio is in TEST while L2 runs, and waits for its first superframe after it (R385, R415). -/
def Block.radTest (b : Block) (on : Bool) : Block :=
  if b.top.variant = .n0 then b
  else { b.put F.RAD_STAT_STATE (if on then 4 else b.fld F.RAD_CTRL_EN) with rad := { b.rad with started := false, beaconed := false } }

/-- TOP_STATE is RUN, WATCH or MAINT. -/
def Block.active (b : Block) : Bool := b.topState == stRun || b.topState == stWatch || b.topState == stMaint

/-- TOP_STATE is RUN, WATCH or MAINT without L2. -/
def Block.bellsRun (b : Block) : Bool := b.active && !b.inL2

/-- A reset of reach A or B is in progress (R338). -/
def Block.inDeepReset (b : Block) : Bool := match b.top.rstRun with
  | some r => decide (r.reach < 2)
  | none => false

/-- Own claim is asserted (TDM_STAT.CLAIM); CPT_IN is present (TDM_STAT.PCLAIM). -/
def Block.claims (b : Block) : Bool := b.flag F.TDM_STAT_CLAIM
def Block.partnerClaims (b : Block) : Bool := b.flag F.TDM_STAT_PCLAIM

/-- The captain-claim gate is open (R337): always outside a tandem (R349). -/
def Block.gate (b : Block) : Bool := !b.tdm.enNow || b.grd.gateOpen

/-! ### BELL_OK (R339) -/

/-- A bell is in fail-safe. -/
def Block.anyFs (b : Block) : Bool := b.grd.bells.any (·.fs)

/-- What BELL_OK should show. -/
def Block.okNow (b : Block) : Bool :=
  b.grd.gsp.isSome && b.bellsRun && !b.inDeepReset && !b.anyFs && !b.grd.wdtFired && b.grd.lockstepOk

/-- A bell's state changes: counted and recorded (R347, R348). -/
def Block.bellNote (b : Block) (bell on t cause : Nat) : Block := (b.bump Reg.GRD_CNT_BELL_CHG).note 0x0A03 bell on t cause

/-- BELL_OK follows its conditions; `t` is the time its record carries. -/
def Block.refreshOk (b : Block) (t cause : Nat) : Block :=
  let ok := b.okNow
  if ok = b.grd.bellOk then b else (b.modGrd fun g => { g with bellOk := ok }).bellNote 8 ok.toNat t cause

/-! ### Lands (R336 to R338) -/

/-- How a land is driven. -/
inductive LandState where
  | highZ
  | low
  | toggling
  deriving DecidableEq, Repr

/-- The state of land BELL0 to BELL7, and of BELL_OK as 8 (R338). -/
def Block.land (b : Block) (n : Nat) : LandState :=
  if b.inDeepReset || !b.top.bellsConfigured then .highZ
  else
    match b.grd.gsp with
    | none => .low
    | some g =>
      if g.pinRoles.getD n 0 = 0 then .highZ
      else if n = 8 then (if b.grd.bellOk then .toggling else .low)
      else if b.bellsRun && b.gate && (b.grd.bells.getD n .reset).drive then .toggling
      else .low

/-- A mask over the eight bells. -/
def Grd.mask (g : Grd) (p : Bell → Bool) : Nat := maskOf ((g.bells.zipIdx.filter fun e => p e.1).map (·.2))

/-! ### Network bells (R325, R368) -/

/-- The unit sends network bells: outside a tandem always, IN_STEP both units but for the stoker of R366's last case, otherwise
the captain. -/
def Block.sendsBells (b : Block) : Bool :=
  if !b.tdm.enNow then true
  else if b.tdmState = tdInStep then !(b.tdm.bothKatFail && !b.claims)
  else b.claims

/-- DEGRADED_CAPTAIN. -/
def Block.degCaptain (b : Block) : Bool := b.flag F.TDM_STAT_DEG_CAPTAIN

/-- The GOOSE dataset (R344): BOOLEAN and Quality of each bell mapped to GOOSE, then of BELL_OK, then the two flags. A Quality is
1 for questionable plus 2 for test. None while none is published (R325; notes/assumptions/33.md). -/
def Block.gooseSet (b : Block) : Option (List Nat) :=
  match b.grd.gsp with
  | none => none
  | some g =>
    if !b.active || b.inDeepReset then none
    else
      let test := if b.topState = stMaint then 2 else 0
      let bells := (b.grd.bells.zipIdx.filter fun e => (g.bellMap.getD e.2 0).testBit 1).flatMap fun e => [e.1.on.toNat, e.1.fs.toNat + test]
      some (bells ++ [b.grd.bellOk.toNat, test, b.degCaptain.toNat, b.anyFs.toNat])

/-- A number that wraps to 1 (R345). -/
def wrap1 (n : Nat) : Nat := if n = 0xFFFFFFFF then 1 else n + 1

/-- Bytes of a BER INTEGER's content. -/
def berInt (n : Nat) : Nat := (Nat.log2 (max n 1) + 1) / 8 + 1

/-- Bytes a GOOSE frame takes on the wire, by the coding of IEC 61850-8-1 (notes/assumptions/32.md): Ethernet header, tag, the 8
bytes of the GOOSE header, the PDU and FCS. -/
def gooseLen (n : NetSection) (ttl stNum sqNum version bells : Nat) : Nat :=
  let data := 8 * (bells + 1) + 6
  let pdu := (2 + n.gocbRef.length) + (2 + berInt ttl) + (2 + n.datSet.length) + (2 + n.goId.length) + 10 + (2 + berInt stNum)
    + (2 + berInt sqNum) + 3 + (2 + berInt version) + 3 + 3 + (2 + data)
  34 + pdu + (if 127 < pdu then 3 else 2)

/-- Interval in ms from a message sent `off` ms after the change to the next (R345). -/
def gooseInterval (t0 off : Nat) : Nat := if off = 0 then 2 else min off t0

/-- A GOOSE message (R345): sent on NETA2 and NETB2 where this unit sends network bells; the next one is due after the
interval. -/
def Block.gooseSend (b : Block) (g : GspPkg) (off : Nat) : Block :=
  let iv := gooseInterval g.net.gooseT0 off
  let b := b.modGrd fun x => { x with gooseOff := off, gooseNext := b.now + iv * tickMs }
  if !b.sendsBells then b
  else
    let x := b.grd
    let sync := b.fld F.TIM_STAT_STATE == 2
    let len := gooseLen g.net (2 * iv) x.stNum x.sqNum g.version ((x.gooseData.length - 4) / 2)
    (b.bump Reg.GRD_CNT_GOOSE).sendNet 1 Emit.goose len ([g.net.gooseApp, x.stNum, x.sqNum, 2 * iv, g.version, x.gooseTai, b.devClass,
      (!sync).toNat, (decide (b.devClass = 4)).toNat] ++ x.gooseData)

/-- The GOOSE dataset is compared with what was published last: a change is published at once (R344, R345). A unit that does not
send keeps the same stNum and sqNum (R368; notes/assumptions/33.md). -/
def Block.goosePublish (b : Block) : Block :=
  match b.gooseSet, b.grd.gsp with
  | some d, some g =>
    if d = b.grd.gooseData then b
    else (b.modGrd fun x => { x with gooseData := d, stNum := wrap1 x.stNum, sqNum := 0, gooseTai := b.tai }).gooseSend g 0
  | _, _ => b.modGrd fun x => { x with gooseData := [] }

/-! ### The captain's claim (R355 to R358) -/

/-- ELIGIBLE (R356). -/
def Block.eligible (b : Block) : Bool :=
  b.tdm.enNow && b.grd.gsp.isSome && b.bellsRun && !b.inDeepReset && b.tdmState != tdFailed

/-- The radio superframe a tick lies in (R387): superframes of 200 ms from the top of the TAI second. -/
abbrev sfTicks : Nat := 25000000
def sfnAt (t : Nat) : Nat := t / sfTicks % 2 ^ 32

/-- The claim is released (R357, R358): the gate closes, DEG_CAPTAIN ends (R370), the lockout of 1.0 ms runs. In a handover the
unit still sends the beacon of the superframe that begins next (R377). -/
def Block.releaseClaim (b : Block) (reason : Nat) : Block :=
  if !b.claims then b
  else
    let b := if reason = 1 then (b.modRad fun u => { u with lastTo := some (sfnAt (b.tai + sfTicks)) }) else b
    let b := (b.put F.TDM_STAT_CLAIM 0).put F.TDM_STAT_DEG_CAPTAIN 0
    let b := b.modGrd fun g => { g with gateOpen := false }
    let b := b.modTdm fun t => { t with lockTo := some (b.now + tickMs), handDue := false }
    b.note 0x0B02 0 reason (lt32 b.tai)

/-- A claim ends with eligibility (R357). -/
def Block.dropIneligible (b : Block) : Block := if b.eligible then b else b.releaseClaim 4

/-- What follows any change of the conditions of R338, R339, R344 and R356: claim, BELL_OK and GOOSE. -/
def Block.settleGuard (b : Block) (cause : Nat := 0) : Block := (b.dropIneligible.refreshOk (lt32 b.tai) cause).goosePublish

end Sys2Proof.Machine
end

