-- ==== Sys2Proof/Machine/FrontEnd.lean ====
section
/-!
DEFINITION. The local front end (spec/06_local_front_end.md): ranges, settling, the spare modulator, rotating calibration,
threshold units, the local PMU and self-test (R200 to R231).
-/
namespace Sys2Proof.Machine

/-- The front end runs (R225). -/
def Block.afeOn (b : Block) : Bool := b.flag F.AFE_CTRL_EN

/-! ### Ranges and settling (R200, R201, R207) -/

/-- Range in force of a channel: 0 ×1, 1 ×4, 2 ×16. -/
def Block.range (b : Block) (ch : Nat) : Nat := b.fld (F.AFE_CH_CFG_RANGE.at (4 * ch))
def Block.autoRange (b : Block) (ch : Nat) : Bool := b.flag (F.AFE_CH_CFG_AUTO.at (4 * ch))

/-- The spare carries a channel: in CARRY, RETURN and MATCH_BACK, or swapped in (R208, R210). -/
def Flt.spareOn (x : Flt) (ch : Nat) : Bool :=
  x.swapCh == some ch || match x.rot with
    | some r => r.ch == ch && decide (4 ≤ r.phase)
    | none => false

/-- The lane that carries a channel; the modulator of the same number serves it. -/
def Flt.laneOf (x : Flt) (ch : Nat) : Nat := if x.spareOn ch then 8 else ch

/-- 42 output periods of 40 µs (R207). -/
abbrev settleTicks : Nat := 42 * 40 * tickUs

/-- Single-cycle-settling starts on a lane (R207): counted. -/
def Block.startSettle (b : Block) (lane : Nat) : Block :=
  (b.modFlt fun x => { x with settle := x.settle.set lane (some b.now), settleSeen := true }).bump Reg.AFE_CNT_SETTLE

/-- MATCH restarts once both lanes have left single-cycle-settling (R212). -/
def Rotation.rematch (r : Rotation) (now : Nat) : Rotation := if r.phase = 3 then { r with next := now + settleTicks + 200 * tickMs } else r

/-- A channel's range changes (R200, R201, R207, R212): counted and recorded; in MATCH the spare follows and settles too. -/
def Block.setRange (b : Block) (ch new : Nat) : Block :=
  let old := b.range ch
  let b := (b.put (F.AFE_CH_CFG_RANGE.at (4 * ch)) new).bump Reg.AFE_CNT_RANGE
  b.note 0x0601 ch old new (lt32 b.tai)

/-- Settling on the lane of a channel whose range changed, and on the spare that follows it (R212). -/
def Block.rangeSettle (b : Block) (ch : Nat) : Block :=
  let b := b.startSettle (b.flt.laneOf ch)
  match b.flt.rot with
  | some r =>
    if r.ch = ch ∧ (r.phase = 2 ∨ r.phase = 3) then
      (b.startSettle 8).modFlt fun x => { x with rot := x.rot.map fun r => r.rematch b.now }
    else b
  | none => b

/-- Ranges lowered one at a time down to `fits` (R200). -/
def Block.lowerTo (b : Block) (ch fits : Nat) : Nat → Block
  | 0 => b
  | n + 1 => if fits ≤ n then (b.setRange ch n).lowerTo ch fits n else b

/-- OVERLOAD_DETECT (R200). -/
def overloadDetect (ch fits : Nat) (clips : Bool) (b : Block) : Block :=
  if !b.afeOn || 8 ≤ ch then b
  else
    let r := b.range ch
    let b := if b.autoRange ch ∧ fits < r then (b.lowerTo ch fits r).rangeSettle ch else b
    if clips ∧ (b.range ch = 0 ∨ !b.autoRange ch) then (b.modFlt fun x => { x with clipSeen := true }).bump Reg.AFE_CNT_CLIP else b

/-- RANGE_UP (R201). -/
def rangeUp (ch cycles : Nat) (b : Block) : Block :=
  let r := b.range ch
  if !b.afeOn || 8 ≤ ch || !b.autoRange ch || 2 ≤ r || decide (cycles < max 10 (b.fld (F.AFE_CH_CFG_DOWN_CYC.at (4 * ch)))) then b
  else (b.setRange ch (r + 1)).rangeSettle ch

/-! ### The spare (R208 to R213) -/

/-- AFE_STAT's view of the spare. -/
def Block.spareStat (b : Block) (phase ch : Nat) : Block := (b.put F.AFE_STAT_SPARE_PHASE phase).put F.AFE_STAT_SPARE_CH ch

/-- A modulator is marked faulty. -/
def Block.faulty (b : Block) (m : Nat) : Bool := (b.fld F.AFE_STAT_FAULT).testBit m
def Block.setFault (b : Block) (m : Nat) : Block := b.put F.AFE_STAT_FAULT (b.fld F.AFE_STAT_FAULT ||| (1 <<< m))

/-- M8 is switched to a failed modulator's channel (R208). -/
def Block.swapIn (b : Block) (ch : Nat) : Block :=
  let b := ((b.modFlt fun x => { x with swapCh := some ch, rot := none }).spareStat 7 ch).put F.AFE_STAT_SWAPPED 1
  (b.note 0x0602 ch ch).startSettle 8

/-- A rotation is abandoned (R209, R212). -/
def Block.abortRot (b : Block) : Block :=
  match b.flt.rot with
  | none => b
  | some _ => ((b.modFlt fun x => { x with rot := none }).spareStat 0 0xF).bump Reg.FLT_CNT_ROT_ABORT

/-- A modulator that serves a channel has failed while the spare is busy (R209). -/
def Block.swapBusy (b : Block) (m : Nat) (r : Rotation) : Block :=
  if r.phase < 4 then b.abortRot.swapIn m
  else if r.ch = m then b.abortRot.swapIn m
  else
    let b := (b.startSettle r.ch).bump Reg.FLT_CNT_ROT_ABORT
    b.modFlt fun x => { x with rot := some { r with phase := 5, ok := false, next := b.now + settleTicks, swap := some m } }

/-- MODULATOR_FAULT (R208, R209). -/
def modulatorFault (m cause : Nat) (b : Block) : Block :=
  if !b.afeOn || 9 ≤ m || b.faulty m then b
  else
    let b := (b.setFault m).note 0x0603 m cause
    if m = 8 then
      match b.flt.rot with
      | some r => if r.phase < 4 then b.abortRot else b.abortRot.startSettle r.ch
      | none => b
    else if b.flt.swapCh.isSome || b.faulty 8 || b.fld F.AFE_STAT_SPARE_PHASE == 8 then b
    else match b.flt.rot with
      | none => b.swapIn m
      | some r => if r.swap.isSome then b else b.swapBusy m r

/-- SETTLE_END (R207, R209): a channel taken back by its modulator frees the spare for the failed one. -/
def settleEnd (lane : Nat) (b : Block) : Block :=
  match b.flt.settle.getD lane none with
  | none => b
  | some t =>
    if !b.since t settleTicks then b
    else
      let b := b.modFlt fun x => { x with settle := x.settle.set lane none, settleSeen := true }
      match b.flt.rot with
      | some r => match r.swap with
        | some m => if r.ch = lane then b.swapIn m else b
        | none => b
      | none => b

/-- The next channel in turn whose modulator may be rotated to (R211). -/
def Flt.inTurn (x : Flt) : Option Nat := ((List.range 8).map fun i => (x.nextCh + i) % 8).find? fun c => !x.barred.contains c

/-- Rotation can start: enabled, the spare idle and sound, no test or full calibration on the modulators. -/
def Block.mayRotate (b : Block) : Bool :=
  b.afeOn && b.flag F.FLT_CAL_CTRL_EN && b.flt.rot.isNone && b.flt.swapCh.isNone && b.fld F.AFE_STAT_SPARE_PHASE == 0 && !b.faulty 8
  && (match b.flt.test with
    | some (l, _) => l == 0
    | none => true)
  && match b.flt.cal with
    | some c => c.ch != 255
    | none => true

/-- ROTATION_START (R210, R211, R223). -/
def rotationStart (b : Block) : Block :=
  if !b.mayRotate || !b.since b.flt.rotAt (b.fld F.FLT_CAL_CTRL_INTERVAL * tickS) then b
  else
    let q := b.flt.queued.filter fun c => !b.flt.barred.contains c
    match q.orElse fun _ => b.flt.inTurn with
    | none => b
    | some ch =>
      let r : Rotation := ⟨ch, 1, b.now + 450 * tickMs, true, 0, 0, none⟩
      let b := b.modFlt fun x => { x with rot := some r, rotAt := b.now, queued := none, nextCh := if q.isSome then x.nextCh else (ch + 1) % 8 }
      b.spareStat 1 0xF

/-- Trims in force changed. -/
def Block.modTrims (b : Block) (f : TrimImage → TrimImage) : Block := (b.modTop fun u => { u with trims := f b.top.trims })

/-- The trims written to MRAM copy A, then copy B (R213). -/
def Block.saveTrims (b : Block) : Block :=
  (b.modTop fun u => { u with trimA := some b.top.trims, trimB := some b.top.trims })

/-- A modulator's trims moved by a change, and no longer defaults. -/
def TrimImage.adjust (t : TrimImage) (m : Nat) (gain off : Int) : TrimImage :=
  { t with mods := modAt t.mods m fun p => (p.1 + gain, p.2 + off) }
def TrimImage.calibrated (t : TrimImage) (m : Nat) : TrimImage := { t with deflt := t.deflt &&& (0x1FF - (1 <<< m)) }

/-- A modulator ran a rotation, or a full calibration, with trims adopted: its UNCAL bit clears (R213). -/
def Block.calibrated (b : Block) (m : Nat) : Block :=
  (b.modTrims (·.calibrated m)).put F.AFE_STAT_UNCAL (b.fld F.AFE_STAT_UNCAL &&& (0x1FF - (1 <<< m)))

/-- Reference readings failed (R211). -/
def Block.calFail (b : Block) (m phase : Nat) : Block :=
  ((b.setFault m).modFlt fun x => { x with barred := insNat m x.barred }).note 0x0605 m phase

/-- Mk's trims at the end of a rotation (R211): adopted at once, or in steps. -/
def Block.adoptTrims (b : Block) (m : Nat) (gain off : Int) : Block :=
  if gain.natAbs ≤ b.fld F.FLT_CAL_CTRL_MAX_STEP ∧ off.natAbs ≤ 20 then (b.modTrims (·.adjust m gain off)).saveTrims
  else (b.modFlt fun x => { x with ramps := x.ramps.filter (·.modl != m) ++ [⟨m, gain, off, b.now⟩] }).note 0x0604 m (s32 gain) (s32 off)

/-- A rotation ends: FLT_CAL_STAT, and a request for its channel is complete (R210, R211, R213, R223). -/
def Block.endRot (b : Block) (r : Rotation) : Block :=
  let b := (b.modFlt fun x => { x with rot := none }).spareStat 0 0xF
  let b := if r.ok then (((b.calibrated r.ch).calibrated 8).adoptTrims r.ch r.gainPpm r.offsetUv) else b
  let b := ((b.put F.FLT_CAL_STAT_ROT_COUNT (b.fld F.FLT_CAL_STAT_ROT_COUNT + 1)).put F.FLT_CAL_STAT_LAST_CH r.ch).putFlag F.FLT_CAL_STAT_LAST_OK r.ok
  b.modFlt fun x => { x with cal := x.cal.map fun c => if c.ch = r.ch then { c with at? := some (c.at?.getD b.now) } else c }

/-- The rotation enters a phase that lasts so many ms, the spare shown on a channel (R210). -/
def Block.rotTo (b : Block) (phase ch ms : Nat) (r : Rotation) : Block :=
  (b.modFlt fun x => { x with rot := some { r with phase := phase, next := r.next + ms * tickMs } }).spareStat phase ch

/-- ROTATION_PHASE_ADVANCE (R210, R211): in SELF_CAL the readings are M8's, in CARRY those of the channel's modulator. -/
def rotationPhaseAdvance (readingsOk : Bool) (gainPpm offsetUv : Int) (b : Block) : Block :=
  match b.flt.rot with
  | none => b
  | some r =>
    if b.now < r.next ∨ r.swap.isSome then b
    else
      match r.phase with
      | 1 =>
        if readingsOk then (b.modTrims (·.adjust 8 gainPpm offsetUv)).rotTo 2 0xF 2 r
        else ((b.modFlt fun x => { x with rot := none }).spareStat 0 0xF).calFail 8 1
      | 2 => b.rotTo 3 0xF 200 r
      | 3 => b.rotTo 4 r.ch 452 r
      | 4 =>
        if readingsOk then b.rotTo 5 r.ch 2 { r with gainPpm := gainPpm, offsetUv := offsetUv }
        else (b.calFail r.ch 4).rotTo 5 r.ch 2 { r with ok := false }
      | 5 => b.rotTo 6 r.ch 200 r
      | _ => b.endRot r

/-- A change limited to one step. -/
def stepOf (limit : Nat) (d : Int) : Int := max (-(limit : Int)) (min (limit : Int) d)

/-- TRIM_STEP (R211): one limited step per second. -/
def trimStep (m : Nat) (b : Block) : Block :=
  match b.flt.ramps.find? (·.modl == m) with
  | none => b
  | some r =>
    if b.now < r.nextAt then b
    else
      let g := stepOf (b.fld F.FLT_CAL_CTRL_MAX_STEP) r.gainPpm
      let o := stepOf 20 r.offsetUv
      let rest : TrimRamp := { r with gainPpm := r.gainPpm - g, offsetUv := r.offsetUv - o, nextAt := b.now + tickS }
      let b := b.modFlt fun x => { x with ramps := x.ramps.filter (·.modl != m) ++ (if rest.gainPpm = 0 ∧ rest.offsetUv = 0 then [] else [rest]) }
      (b.modTrims (·.adjust m g o)).saveTrims

/-- Entry to WATCH (R212): the rotation ends, with its trims when the readings were complete, and M8 is powered down. -/
def Block.fltWatch (b : Block) : Block :=
  let b := match b.flt.rot with
    | none => b
    | some r => if 5 ≤ r.phase ∧ r.swap.isNone then b.endRot r else if r.phase = 4 then b.endRot { r with ok := false } else b.abortRot
  if b.flt.swapCh.isSome then b else b.spareStat 8 0xF

/-- Leaving WATCH (R212). -/
def Block.fltResume (b : Block) : Block := if b.fld F.AFE_STAT_SPARE_PHASE = 8 then b.spareStat 0 0xF else b

/-- CAL_QUEUE (R223): QCH at the head of the rotation. -/
def calQueueW (acc qch : Nat) (k : Key) (b : Block) : WRes :=
  let st := b.mayWrite k acc roleEng true
  if st ≠ yOk then wErr b acc st
  else
    let b := b.put F.FLT_CAL_CTRL_QCH qch
    ⟨yOk, if qch < 8 then b.modFlt fun x => { x with queued := some qch } else b⟩

/-! ### Threshold units (R214, R215, R228) -/

/-- A unit. -/
def Flt.unit (x : Flt) (u : Nat) : ThrUnit := x.units.getD u .reset

/-- AFE_TE, at most 10 per second per unit (R215). -/
def Block.teRecord (b : Block) (u : Nat) (on : Bool) (at_ : Nat) (value : W32) : Block :=
  let t := b.flt.unit u
  let sec := b.now / tickS
  let n := if t.recSec = sec then t.recs else 0
  if 10 ≤ n then b.bump Reg.FLT_CNT_TE_SUPP
  else
    let b := b.modFlt fun x => { x with units := modAt x.units u fun t => { t with recs := n + 1, recSec := sec } }
    b.note 0x0606 u on.toNat (lt32 at_) value.toNat

/-- A unit's state in FLT_TE_STATE, and FLT_TE_LATCH on assertion. -/
def Block.teState (b : Block) (u : Nat) (on : Bool) : Block :=
  let m : W32 := BitVec.ofNat 32 (1 <<< u)
  if on then (b.wr Reg.FLT_TE_STATE (b.rd Reg.FLT_TE_STATE ||| m)).wr Reg.FLT_TE_LATCH (b.rd Reg.FLT_TE_LATCH ||| m)
  else b.wr Reg.FLT_TE_STATE (b.rd Reg.FLT_TE_STATE &&& ~~~m)

/-- L1 or L2 is running. -/
def Block.inL1 (b : Block) : Bool := match b.flt.test with
  | some (l, _) => l != 0
  | none => false

/-- THRESHOLD_TRANSITION (R214, R215): not during L1 or L2, which exercise the comparators in shadow (R222). -/
def thresholdTransition (u : Nat) (on : Bool) (at_ : Nat) (value : W32) (b : Block) : Block :=
  let t := b.flt.unit u
  if !b.afeOn || 32 ≤ u || !t.cfg0.getLsbD 31 || t.on == on || b.inL1 then b
  else
    let b := b.modFlt fun x => { x with units := modAt x.units u fun t => { t with on := on, seen := true } }
    (b.teState u on).teRecord u on at_ value

/-- FLT_TE_CFG0 to FLT_TE_CFG2 as a unit takes them (R228). -/
def teWords (w : List W32) : W32 × W32 × W32 :=
  let c0 := w.getD 0 0
  let c2 := w.getD 2 0
  (putBits (c0 &&& 0xE0F003FF) 9 0 (min 1000 (bits c0 9 0)), w.getD 1 0,
   BitVec.ofNat 32 (clampNat 1 25000 (bits c2 31 16) * 65536 + clampNat 1 25000 (bits c2 15 0)))

/-- TE_LOAD (R228). -/
def teLoadW (acc unit : Nat) (k : Key) (b : Block) : WRes :=
  let st := b.mayWrite k acc roleObs false
  if st ≠ yOk then wErr b acc st
  else
    let t := b.flt.unit (unit % 32)
    ⟨yOk, (b.aput acc F.FLT_TE_SEL_UNIT unit).awrs acc Reg.FLT_TE_CFG [t.cfg0, t.cfg1, t.cfg2]⟩

/-- TE_COMMIT (R228). -/
def teCommitW (acc unit : Nat) (k : Key) (b : Block) : WRes :=
  let st := b.mayWrite k acc roleEng true
  if st ≠ yOk then wErr (b.put F.FLT_ST_STAT_STAT_ERR 1) acc st
  else
    let w := teWords (b.ards acc Reg.FLT_TE_CFG 3)
    let u := unit % 32
    let b := b.aput acc F.FLT_TE_SEL_UNIT unit
    if bits w.1 23 20 = 8 then ⟨yBadParam, b.put F.FLT_ST_STAT_STAT_ERR 1⟩
    else
      let on := (b.flt.unit u).on && w.1.getLsbD 31
      let b := b.modFlt fun x => { x with units := modAt x.units u fun t => { t with cfg0 := w.1, cfg1 := w.2.1, cfg2 := w.2.2, on := on } }
      ⟨yOk, if on then b else b.teState u false⟩

/-- ITEMS of the FLT record (R215). -/
def Block.fltItems (b : Block) : Nat :=
  let x := b.flt
  let units := maskOf ((List.range 32).filter fun u => (x.unit u).seen || (x.unit u).on)
  let rest := [b.flag F.AFE_STAT_SWAPPED, b.fld F.AFE_STAT_FAULT != 0, b.fld F.AFE_STAT_UNCAL != 0,
    x.settleSeen || x.settle.any (·.isSome), x.l0Failed, x.clipSeen]
  units + maskOf ((rest.zipIdx.filter (·.1)).map (·.2 + 32))

/-- FLT_EVIDENCE_POST (R215). -/
def fltEvidencePost (slot : Nat) (b : Block) : Block :=
  let b := b.postEvid (mkEvid 4 b.afeOn (decide (3 ≤ b.devClass)) false false b.flt.rseq slot b.devClass b.fltItems)
  b.modFlt fun x =>
    { x with rseq := (x.rseq + 1) % 65536, settleSeen := false, clipSeen := false, units := x.units.map fun t => { t with seen := false } }

/-! ### The local PMU (R216 to R221) -/

/-- Modulators behind each channel of the local spoke. -/
def pmuSources (x : Flt) (i : Nat) : List Nat :=
  (if i < 8 then [i] else if i = 9 ∨ i = 11 then [4, 5, 6] else if i ≤ 15 then [0, 1, 2] else []).map x.laneOf

/-- A local value with the flags of R221: channel `i`, whether its window holds an INVALID, or a SETTLE or CLIP sample. -/
def Block.localEntry (b : Block) (i : Nat) (invalid srcErr : Bool) (e : W64) : W64 :=
  let uncal := (pmuSources b.flt i).any fun m => (b.fld F.AFE_STAT_UNCAL).testBit m
  if !entPresent e || (decide (i < 8) && !(b.fld F.AFE_CTRL_CH_EN).testBit i) then 0
  else
    let fl := flPresent + (if invalid then flInvalid else 0) + (if b.inL1 then flTest else 0)
      + (if srcErr || uncal || b.flt.l0Failed then flSrcErr else 0)
    mkEntry fl b.devClass convDirect (entVal e)

/-- The local spoke. -/
def Block.localSpoke (b : Block) : Option Spoke := b.ing.spokes.find? fun x => x.type == 4 && (x.state == 2 || x.state == 3)

/-- A part of the local report written for slot `s` (R217): `first` for part Q, whose latency is recorded and which alone sets the
arrival bit. -/
def Block.localWrite (b : Block) (s : Nat) (first : Bool) (vals : List W64) : Block :=
  match b.localSpoke with
  | none => b
  | some x =>
    match x.verAt s with
    | none => b
    | some v =>
      let lat : Int := ((b.tai - s) * 8 : Nat)
      let b := if !first then b
        else
          let r : Incoming := ⟨s, b.tai, lat, flPresent, b.devClass, 0, vals, true⟩
          ((b.modSpoke x.num fun x => x.hear b.now v r ⟨s, v.ver, vals⟩).resume x.num).cntSpoke x.num spFrames 1
      let had : Bool := match b.slot s with
        | none => false
        | some y => y.bitmap.contains x.num
      let b := if x.serves v s then b.writeSlot x.num v true 0 b.tai s vals else b
      let b := if first || had then b else b.modSlot s fun y => { y with bitmap := y.bitmap.filter (· != x.num) }
      b.relay x.num s vals

/-- Magnitude of a phasor entry below `pct` percent of a nominal register. -/
def Block.belowPct (b : Block) (e : W64) (nominal pct : Nat) : Bool :=
  match singleQ (entSingle 0 e), singleQ (b.rd nominal) with
  | some m, some n => m.lt (n.mul (Q.norm pct 100))
  | _, _ => false

/-- ESTIMATOR_REPORT (R216 to R218): part F; FREQ and ROCOF come from I1 when |V1| is below 10 % of nominal, and are absent when
|I1| is too. -/
def estimatorReport (slot : Nat) (vals : List W64) (invalid srcErr : Nat) (b : Block) : Block :=
  if !b.afeOn then b
  else
    let lowV := b.belowPct (vals.getD 8 0) Reg.FLT_VNOM 10
    let lowI := b.belowPct (vals.getD 9 0) Reg.FLT_INOM 10
    let b := b.putFlag F.FLT_PMU_FREQ_SRC lowV
    let out := (List.range 14).map fun i =>
      if lowV ∧ lowI ∧ 12 ≤ i then 0 else b.localEntry i (invalid.testBit i) (srcErr.testBit i) (vals.getD i 0)
    b.localWrite slot false out

/-- QC_V1 and QC_FREQ rotated from the instant to S (R220). -/
def qcRotate (v1 : W64) (freq : Q) (dt : Nat) : W64 :=
  if dt = 0 then v1
  else
    let th := wrap180 ((entAngle v1).add (((Q.ofNat 360).mul freq).mul (tickQ dt)))
    mkEntry (entFlags v1) (entTq v1) (entConv v1) (entVal v1 / 2 ^ 20 * 2 ^ 20 + angleBits th)

/-- QC_PHASOR_DELIVERY (R217, R220, R304): the loss-of-mains detector, then part Q of every slot this instant serves. -/
def qcPhasorDelivery (at_ : Nat) (v1 freq dig0 dig1 : W64) (invalid srcErr : Nat) (b : Block) : Block :=
  if !b.afeOn || !b.flag F.FLT_PMU_QC_EN then b
  else
    match singleQ (entSingle 2 freq) with
    | none => b
    | some f =>
      let b := b.lomEvaluate at_ (entAngle v1) f (b.belowPct v1 Reg.FLT_VNOM (b.fld F.ISL_BLOCK_V_DIP))
      let slots := b.slotsIn at_ (at_ + tickS / (4 * b.f0) - 1)
      slots.foldl (fun b s =>
        let part := [qcRotate v1 f (s - at_), freq, dig0, dig1]
        let out := part.zipIdx.map fun p => b.localEntry (14 + p.2) (invalid.testBit p.2) (srcErr.testBit p.2) p.1
        b.localWrite s true (List.replicate 14 0 ++ out)) b

/-- PMU_CLASS_APPLY (R218): at the top of a TAI second after the write. -/
def pmuClassApply (b : Block) : Block :=
  match b.flt.classAt with
  | none => b
  | some t => if b.tai < t then b else b.modFlt fun x => { x with classNow := b.fld F.FLT_PMU_CLASS, classAt := none }

/-! ### Self-test and calibration (R222 to R224) -/

/-- A level may run in the present state (R222). -/
def Block.testAllowed (b : Block) (level : Nat) : Bool :=
  let st := b.topState
  if level = 0 then st == stRun || st == stWatch || st == stMaint
  else if level = 1 then st == stMaint || (st == stRun && b.tdm.enNow && !b.flag F.TDM_STAT_CLAIM && b.flag F.TDM_STAT_PCLAIM)
  else level == 2 && st == stMaint

/-- Ticks a level takes (R222): L0 one slot period. -/
def Block.testTicks (b : Block) (level : Nat) : Nat :=
  if level = 0 then tickS / max 1 b.cadence else if level = 1 then 1400 * tickMs else 30 * tickS

/-- A level starts: BUSY, and no rotation runs beside L1 or L2; with L2 the bells stop (R338, R339). -/
def Block.startTest (b : Block) (level : Nat) (who : Option (Nat × Nat)) : Block :=
  let b := if level = 0 then b else b.abortRot
  let b := (b.modFlt fun x => { x with test := some (level, b.now + b.testTicks level, who) }).put F.FLT_ST_STAT_BUSY 1
  if level = 2 then (b.radTest true).settleGuard else b

/-- A request for a level: its status (R222). -/
def Block.requestTest (b : Block) (level : Nat) (who : Option (Nat × Nat)) : Nat × Block :=
  if 3 ≤ level then (yBadParam, b.put F.FLT_ST_STAT_STAT_ERR 1)
  else if !b.testAllowed level || !b.afeOn then (yDenied, b.put F.FLT_ST_STAT_STAT_ERR 1)
  else if b.flt.test.isSome then (yBusy, b.put F.FLT_ST_STAT_STAT_ERR 1)
  else (yPending, b.startTest level who)

/-- SELFTEST_REQUEST (R222, R229): a LEVEL of 3 is ignored. -/
def selftestRequestW (acc level : Nat) (k : Key) (b : Block) : WRes :=
  let st := b.mayWrite k acc roleEng true
  if st ≠ yOk then wErr b acc st
  else
    let level := if level = 3 then b.fld F.FLT_ST_CTRL_LEVEL else level
    let r := (b.put F.FLT_ST_CTRL_LEVEL level).requestTest level none
    ⟨if r.1 = yPending then yOk else r.1, r.2⟩

/-- SELFTEST (R222): every BLOCK names the front end, the one block with self-test levels (notes/assumptions/31.md). -/
def selftest (h : Hdr) (_block level : Nat) (k : Key) (b : Block) : Block :=
  b.ycp k h 0x0C01 ⟨some roleMnt, false⟩ fun b =>
    let r := b.requestTest level (some (h.session, h.tag))
    ⟨r.1, [], r.2⟩

/-- What an L0 replay's result leaves (R224, R230). -/
def Block.l0Result (b : Block) (pass : Bool) : Block :=
  let b := (b.modFlt fun x => { x with l0Failed := !pass }).bump Reg.FLT_CNT_L0_RUN
  if pass then b else b.bump Reg.FLT_CNT_L0_FAIL

/-- AFE_SELFTEST and FLT_ST_STAT of a completed test. -/
def Block.testStat (b : Block) (level : Nat) (pass : Bool) (failCode : Nat) : Block :=
  let b := ((b.put F.FLT_ST_STAT_LAST_LEVEL level).putFlag F.FLT_ST_STAT_LAST_PASS pass).put F.FLT_ST_STAT_FAIL_CODE (if pass then 0 else failCode)
  b.note 0x0607 level pass.toNat (if pass then 0 else failCode % 65536)

/-- A running test ends with a result. -/
def Block.endTest (b : Block) (pass : Bool) (failCode : Nat) : Block :=
  match b.flt.test with
  | none => b
  | some (level, _, who) =>
    let b := (b.modFlt fun x => { x with test := none }).put F.FLT_ST_STAT_BUSY 0
    let b := if level = 2 then (b.radTest false).settleGuard else b
    let b := (if level = 0 then b.l0Result pass else b).testStat level pass failCode
    match who with
    | none => b
    | some (s, tag) => b.finish s tag 0x0C01 yOk (beBytes 2 (b.fld F.FLT_ST_STAT_FAIL_CODE))

/-- SELFTEST_COMPLETE (R222). -/
def selftestComplete (pass : Bool) (failCode : Nat) (b : Block) : Block :=
  match b.flt.test with
  | none => b
  | some (_, t, _) => if b.now < t then b else b.endTest pass failCode

/-- L0_PERIODIC (R222, R224): a pass writes no record. -/
def l0Periodic (slack pass : Bool) (b : Block) : Block :=
  let due := b.since b.flt.l0At (max 1 (b.fld F.FLT_ST_CTRL_L0_PERIOD) * tickS)
  if !b.flag F.FLT_ST_CTRL_L0_EN || !b.afeOn || !b.testAllowed 0 || b.flt.test.isSome || !due then b
  else
    let b := b.modFlt fun x => { x with l0At := b.now }
    if !slack then b.bump Reg.FLT_CNT_L0_SKIP
    else
      let b := b.l0Result pass
      if pass then b else b.testStat 0 false (b.fld F.FLT_ST_STAT_FAIL_CODE)

/-- CALIBRATE (R223, R434, R522). -/
def calibrate (h : Hdr) (channel : Nat) (k : Key) (b : Block) : Block :=
  b.ycp k h 0x0C02 ⟨some roleMnt, false⟩ fun b =>
    let st := b.topState
    let full := channel == 255
    let ok := if full then st == stMaint || (st == stKick && b.fld F.TOP_STATE_KICK_REASON == 1) else st == stRun || st == stWatch
    if !ok then yErr b yDenied
    else if !full && 8 ≤ channel then yErr b yBadParam
    else if b.flt.cal.isSome then yErr b yBusy
    else
      let who := (h.session, h.tag)
      let b := if full then b.abortRot.modFlt fun x => { x with cal := some ⟨255, some (b.now + 452 * tickMs), who⟩ }
        else b.modFlt fun x => { x with queued := some channel, cal := some ⟨channel, none, who⟩ }
      ⟨yPending, [], b⟩

/-- The trims of a full calibration adopted (R223, R522), without the step limit. -/
def Block.fullTrims (b : Block) (bad : Nat) (trims : List (Int × Int)) : Block :=
  let good := (List.range 9).filter fun m => !bad.testBit m
  let b := good.foldl (fun b m =>
    (b.modTrims fun t => { t with mods := t.mods.set m (trims.getD m (0, 0)) }).calibrated m) b
  if good.isEmpty then b else b.saveTrims

/-- CALIBRATION_COMPLETE (R223, R522): in KICKSTAND a failing reading writes nothing and answers RESOURCE. -/
def calibrationComplete (bad : Nat) (trims : List (Int × Int)) (b : Block) : Block :=
  match b.flt.cal with
  | none => b
  | some c =>
    match c.at? with
    | none => b
    | some t =>
      if b.now < t then b
      else
        let b := b.modFlt fun x => { x with cal := none }
        let failed := c.ch == 255 && bad % 512 != 0
        let kick := b.topState == stKick
        let b := if c.ch ≠ 255 ∨ (kick ∧ failed) then b
          else
            let b := b.fullTrims bad trims
            ((List.range 9).filter bad.testBit).foldl (fun b m => b.calFail m 1) b
        if failed then b.finish c.who.1 c.who.2 0x0C02 yResource []
        else b.finish c.who.1 c.who.2 0x0C02 yOk (beBytes 4 (b.rd Reg.FLT_CAL_STAT).toNat)

/-! ### The commands -/

def execOverloadDetect (ch fits : Nat) (clips : Bool) (s : State) : Host.Outcome State Fault Refusal :=
  .next (s.onB fun _ => overloadDetect ch fits clips)
def execRangeUp (ch cycles : Nat) (s : State) : Host.Outcome State Fault Refusal := .next (s.onB fun _ => rangeUp ch cycles)
def execSettleEnd (lane : Nat) (s : State) : Host.Outcome State Fault Refusal := .next (s.onB fun _ => settleEnd lane)
def execModulatorFault (m cause : Nat) (s : State) : Host.Outcome State Fault Refusal := .next (s.onB fun _ => modulatorFault m cause)
def execRotationStart (s : State) : Host.Outcome State Fault Refusal := .next (s.onB fun _ => rotationStart)
def execRotationPhaseAdvance (readingsOk : Bool) (gainPpm offsetUv : Int) (s : State) : Host.Outcome State Fault Refusal :=
  .next (s.onB fun _ => rotationPhaseAdvance readingsOk gainPpm offsetUv)
def execTrimStep (m : Nat) (s : State) : Host.Outcome State Fault Refusal := .next (s.onB fun _ => trimStep m)
def execThresholdTransition (u : Nat) (on : Bool) (at_ : Nat) (value : W32) (s : State) : Host.Outcome State Fault Refusal :=
  .next (s.onB fun _ => thresholdTransition u on at_ value)
def execFltEvidencePost (slot : Nat) (s : State) : Host.Outcome State Fault Refusal := .next (s.onB fun _ => fltEvidencePost slot)
def execQcPhasorDelivery (at_ : Nat) (v1 freq dig0 dig1 : W64) (invalid srcErr : Nat) (s : State) : Host.Outcome State Fault Refusal :=
  .next (s.onB fun _ => qcPhasorDelivery at_ v1 freq dig0 dig1 invalid srcErr)
def execEstimatorReport (slot : Nat) (vals : List W64) (invalid srcErr : Nat) (s : State) : Host.Outcome State Fault Refusal :=
  .next (s.onB fun _ => estimatorReport slot vals invalid srcErr)
def execPmuClassApply (s : State) : Host.Outcome State Fault Refusal := .next (s.onB fun _ => pmuClassApply)
def execCalQueue (acc qch : Nat) (s : State) : Host.Outcome State Fault Refusal := .next (s.onB fun k b => (calQueueW acc qch k b).b)
def execTeLoad (acc unit : Nat) (s : State) : Host.Outcome State Fault Refusal := .next (s.onB fun k b => (teLoadW acc unit k b).b)
def execTeCommit (acc unit : Nat) (s : State) : Host.Outcome State Fault Refusal := .next (s.onB fun k b => (teCommitW acc unit k b).b)
def execSelftestRequest (acc level : Nat) (s : State) : Host.Outcome State Fault Refusal :=
  .next (s.onB fun k b => (selftestRequestW acc level k b).b)
def execL0Periodic (slack pass : Bool) (s : State) : Host.Outcome State Fault Refusal := .next (s.onB fun _ => l0Periodic slack pass)
def execSelftestComplete (pass : Bool) (failCode : Nat) (s : State) : Host.Outcome State Fault Refusal :=
  .next (s.onB fun _ => selftestComplete pass failCode)
def execCalibrationComplete (bad : Nat) (trims : List (Int × Int)) (s : State) : Host.Outcome State Fault Refusal :=
  .next (s.onB fun _ => calibrationComplete bad trims)
def execSelftest (h : Hdr) (block level : Nat) (s : State) : Host.Outcome State Fault Refusal := .next (s.onB (selftest h block level))
def execCalibrate (h : Hdr) (channel : Nat) (s : State) : Host.Outcome State Fault Refusal := .next (s.onB (calibrate h channel))

end Sys2Proof.Machine
end

