-- ==== Sys2Proof/Machine/Energy.lean ====
section
/-!
DEFINITION. Tie-line energy (spec/07_tie_line_energy.md): cycles, accumulators, latching, pulses, saves and restoring
(R232 to R256).
-/
namespace Sys2Proof.Machine

/-- The block runs (R232, R251). -/
def Block.nrgOn (b : Block) : Bool :=
  let st := b.topState
  b.flag F.NRG_CTRL_EN && (st == stRun || st == stWatch || st == stMaint)

/-! ### Scaling (R239 to R241) -/

/-- A register in IEEE 754 single precision as a number; 0 for an infinity or a NaN. -/
def Block.num (b : Block) (a : Nat) : Q := (singleQ (b.rd a)).getD Q.zero

/-- P_FS from the present scales (R239). -/
def Block.pfsNext (b : Block) : W32 :=
  let s := fun ch => b.num (Reg.AFE_CH_SCALE + 4 * ch)
  toSingle (Q.mul ⟨1, 2⟩ (((s 0).mul (s 4)).add (((s 1).mul (s 5)).add ((s 2).mul (s 6)))))

/-- The register LSB in J (R239). -/
def nrgLsb (pfs : W32) (sh : Nat) : Q := ((singleQ pfs).getD Q.zero).mul (Q.pow2 ((sh : Int) - 32))

/-- The copy of P_FS and LSB_SH taken on leaving START or MAINT (R240). -/
def Block.copyScale (b : Block) : Block :=
  let old := b.rd Reg.NRG_PFS
  let new := b.pfsNext
  let sh := b.fld F.NRG_CTRL_LSB_SH
  let oldSh := b.nrg.lsbSh
  if old = new ∧ oldSh = sh then b
  else ((b.wr Reg.NRG_PFS new).modNrg fun x => { x with lsbSh := sh }).note 0x0704 old.toNat new.toNat oldSh sh

/-! ### Pulses (R247) -/

/-- Pulses lost in a second that has ended are recorded (R247). -/
def Block.pulseFlush (b : Block) (n : Nat) : Block :=
  let p := b.nrg.pulses.getD n .reset
  if p.dropped = 0 ∨ p.dropSec = b.now / tickS then b
  else (b.modNrg fun x => { x with pulses := modAt x.pulses n fun p => { p with dropped := 0 } }).note 0x0705 n p.dropped

/-- Bits 95:32 of an accumulator. -/
def Nrg.value (x : Nrg) (i : Nat) : Nat := x.accs.getD i 0 >>> 32

/-- The multiples of K an output's accumulator has passed are queued, up to 255 (R247). -/
def Block.pulseCount (b : Block) (n : Nat) : Block :=
  let b := b.pulseFlush n
  let p := b.nrg.pulses.getD n .reset
  let k := max 1 (b.rd (Reg.PUL_K + 8 * n)).toNat
  let src := b.fld (F.PUL_CFG_SRC.at (8 * n))
  let total := (b.nrg.value src + 2 ^ 64 - p.base) % 2 ^ 64 / k
  let new := if b.flag (F.PUL_CFG_EN.at (8 * n)) then total - p.given else 0
  let fit := min new (255 - p.queue)
  let lost := new - fit
  let b := b.modNrg fun x => { x with pulses := modAt x.pulses n fun p =>
    { p with given := total, queue := p.queue + fit, dropped := p.dropped + lost, dropSec := if lost = 0 then p.dropSec else b.now / tickS } }
  if lost = 0 then b else (b.bumpBy Reg.PUL_CNT_DROP lost).put F.PUL_STAT_OVF (b.fld F.PUL_STAT_OVF ||| (1 <<< n))

/-- The count of an output restarts from its accumulator's present value (R247). -/
def Block.pulseRestart (b : Block) (n : Nat) : Block :=
  b.modNrg fun x => { x with pulses := modAt x.pulses n fun p => { p with base := x.value (b.fld (F.PUL_CFG_SRC.at (8 * n))), given := 0 } }

/-- PUL_n_CFG and PUL_n_K written (R247, R254). -/
def Block.setPulse (b : Block) (n : Nat) (cfg k : W32) : Block :=
  let c := putBits (cfg &&& 0x9F00FF00) 15 8 (max 10 (bits cfg 15 8))
  let k := if k = 0 then 1 else k
  let new := bits c 28 24 != b.fld (F.PUL_CFG_SRC.at (8 * n)) || k != b.rd (Reg.PUL_K + 8 * n)
  let b := (b.wr (Reg.PUL_CFG + 8 * n) c).wr (Reg.PUL_K + 8 * n) k
  if new then b.pulseRestart n else b

/-- PULSE_ASSIGN (R247). -/
def pulseAssign (h : Hdr) (out : Nat) (cfg k : W32) (key : Key) (b : Block) : Block :=
  b.ycp key h 0x0602 ⟨some roleEng, true⟩ fun b =>
    if 4 ≤ out then yErr b yBadParam else yDone ((b.pulseFlush out).setPulse out cfg k)

/-- A pulse output changed. -/
def Block.modPulse (b : Block) (n : Nat) (f : Pulse → Pulse) : Block := b.modNrg fun x => { x with pulses := modAt x.pulses n f }

/-- PULSE_OUTPUT (R247): WIDTH ms high, then at least WIDTH ms low. -/
def pulseOutput (n : Nat) (b : Block) : Block :=
  if 4 ≤ n then b
  else
    let b := b.pulseFlush n
    let p := b.nrg.pulses.getD n .reset
    let w := max 10 (b.fld (F.PUL_CFG_WIDTH.at (8 * n))) * tickMs
    let level := b.fld F.PUL_STAT_LEVEL
    match p.highTo with
    | some t =>
      if b.now < t then b
      else ((b.modPulse n fun p => { p with highTo := none, lowTo := t + w }).put F.PUL_STAT_LEVEL (level &&& (0xF - (1 <<< n)))).emit 9 Emit.land [n, 0]
    | none =>
      if p.queue = 0 ∨ b.now < p.lowTo then b
      else
        let b := b.modPulse n fun p => { p with queue := p.queue - 1, highTo := some (b.now + w) }
        ((b.put F.PUL_STAT_LEVEL (level ||| (1 <<< n))).bump (Reg.PUL_CNT_ + 4 * n)).emit 9 Emit.land [n, 1]

/-! ### Cycles (R233 to R237) -/

/-- One phase's energies as they count: EP, EQ, ES, substituted, below the no-load level. -/
structure PhaseUse where
  ep     : Q
  eq     : Q
  es     : Q
  subst  : Bool
  noload : Bool

/-- A phase's cycle after substitution and the no-load rule (R236, R237), and what the block keeps of it. -/
def Block.phaseUse (b : Block) (i : Nat) (p : PhaseCycle) (tc : Q) : PhaseUse × (Q × Q × Q) × Nat :=
  let run := b.nrg.substRun.getD i 0
  let prev := b.nrg.prev.getD i (Q.zero, Q.zero, Q.zero)
  let subst := p.invalid && decide (run < 8)
  let v := if !p.invalid then (p.ep, p.eq, p.es) else if subst then prev else (Q.zero, Q.zero, Q.zero)
  let lim := ((Q.norm (b.fld F.NRG_NOLOAD_LEVEL) 1000000).mul (b.num Reg.FLT_VNOM)).mul (b.num Reg.FLT_INOM)
  let idle := (Q.div v.2.2.abs tc).lt lim
  let use : PhaseUse := if idle then ⟨Q.zero, Q.zero, Q.zero, subst, true⟩ else ⟨v.1, v.2.1, v.2.2, subst, false⟩
  (use, if p.invalid then prev else v, if !p.invalid then 0 else min 8 (run + 1))

/-- What one cycle adds to the eight quantities of a phase or the total (R234). -/
def energyParts (inv : Bool) (ep eq es : Q) : List Q :=
  let imp := if inv then ep.le Q.zero else Q.zero.le ep
  let pos := Q.zero.le eq
  let on := fun (c : Bool) (q : Q) => if c then q else Q.zero
  [on imp ep.abs, on (!imp) ep.abs, on (imp && pos) eq, on (!imp && pos) eq, on (!imp && !pos) eq.neg, on (imp && !pos) eq.neg,
    on imp es, on (!imp) es]

/-- An accumulator with an energy added, rounded to its unit (R241). -/
def addEnergy (unit : Q) (acc : Nat) (e : Q) : Nat := (((acc : Int) + (Q.div e unit).round) % 2 ^ 96).toNat

/-- The phases of a cycle as they count. -/
def Block.phaseUses (b : Block) (c : LineCycle) : List (PhaseUse × (Q × Q × Q) × Nat) :=
  [c.a, c.b, c.c].zipIdx.map fun p => b.phaseUse p.2 p.1 c.tc

/-- A sum over the phases. -/
def sumUses (u : List PhaseUse) (f : PhaseUse → Q) : Q := u.foldl (fun q x => q.add (f x)) Q.zero

/-- The accumulators with a cycle's energies of the phases and of the total (R233, R234). -/
def Block.accsAfter (b : Block) (c : LineCycle) : List Nat :=
  let u := (b.phaseUses c).map (·.1)
  let inv := b.flag F.NRG_CTRL_DIR_INV
  let parts := (u.flatMap fun x => energyParts inv x.ep x.eq x.es) ++ energyParts inv (sumUses u (·.ep)) (sumUses u (·.eq)) (sumUses u (·.es))
  let unit := (nrgLsb (b.rd Reg.NRG_PFS) b.nrg.lsbSh).mul (Q.pow2 (-32))
  (b.nrg.accs.zip parts).map fun p => addEnergy unit p.1 p.2

/-- A cycle ends (R234): the accumulators, the flags of the latch period and of the evidence record, the pulses. -/
def Block.addCycle (b : Block) (c : LineCycle) : Block :=
  let uses := b.phaseUses c
  let inv := b.flag F.NRG_CTRL_DIR_INV
  let u := uses.map (·.1)
  let ep := sumUses u (·.ep)
  let es := sumUses u (·.es)
  let noload := maskOf ((u.zipIdx.filter (·.1.noload)).map (·.2))
  let substs := u.countP (·.subst)
  let b := b.modNrg fun x =>
    { x with accs := b.accsAfter c, prev := uses.map (·.2.1), substRun := uses.map (·.2.2),
             lastPower := Q.div es.abs c.tc, exported := if inv then Q.zero.lt ep else ep.lt Q.zero, cycles := x.cycles + 1,
             latchDue := x.latchDue || decide (x.latchN ≤ x.cycles + 1), crossAt := b.tai,
             perSubst := x.perSubst || substs != 0, perNoload := x.perNoload ||| noload,
             evNoload := x.evNoload ||| noload, evSubst := x.evSubst || substs != 0 }
  let b := (if substs = 0 then b else b.bumpBy Reg.NRG_CNT_SUBST substs).put F.NRG_STAT_NOLOAD noload
  (List.range 4).foldl (fun b n => b.pulseCount n) b

/-- LINE_CYCLE_END (R234). -/
def lineCycleEnd (c : LineCycle) (b : Block) : Block := if !b.nrgOn || b.flag F.NRG_STAT_TIME_LATCH then b else b.addCycle c

/-- TIME_FALLBACK_CYCLE_END (R244). -/
def timeFallbackCycleEnd (c : LineCycle) (b : Block) : Block :=
  if !b.nrgOn || !b.flag F.NRG_STAT_TIME_LATCH then b else (b.addCycle c).modNrg fun x => { x with perTime := true }

/-! ### Latching (R243 to R245) -/

/-- The latched values of the 32 accumulators, low and high word of each. -/
def Nrg.pairs (x : Nrg) : List W32 := (List.range 32).flatMap fun i => [BitVec.ofNat 32 (x.value i), BitVec.ofNat 32 (x.value i >>> 32)]

/-- A latch (R243, R253). -/
def Block.latchEnergy (b : Block) : Block :=
  let x := b.nrg
  let t := (lt48 x.crossAt).toNat
  let time := if b.flag F.NRG_STAT_TIME_LATCH then 2 ^ 16 else 0
  let b := (b.wr Reg.NRG_LAT_SEQ (b.rd Reg.NRG_LAT_SEQ + 1)).wrWords Reg.NRG_LAT_T_LO
    [BitVec.ofNat 32 t, BitVec.ofNat 32 (t >>> 32 + time), BitVec.ofNat 32 (x.perNoload % 8 + 8 * x.perSubst.toNat + 16 * x.perTime.toNat)]
  let b := (b.wrWords Reg.NRG_LAT_ x.pairs).bump Reg.NRG_CNT_LATCH
  b.modNrg fun x => { x with latchDue := false, cycles := 0, latchN := clampNat 1 256 (b.fld F.NRG_CTRL_LATCH_N),
                             perTime := false, perSubst := false, perNoload := 0 }

/-- ENERGY_LATCH (R243, R244). -/
def energyLatch (b : Block) : Block := if !b.nrgOn || !b.nrg.latchDue then b else b.latchEnergy

/-- NRG_TIME_LATCH (R244): the fallback begins, and N counts its cycles. -/
def nrgTimeLatch (b : Block) : Block :=
  if !b.nrgOn || b.flag F.NRG_STAT_TIME_LATCH then b else ((b.put F.NRG_STAT_TIME_LATCH 1).modNrg fun x => { x with cycles := 0 }).note 0x0703 1 (lt32 b.tai)

/-- TIME_LATCH_RETURN (R244): zero-crossing cycles again, with a latch at the crossing. -/
def timeLatchReturn (c : LineCycle) (b : Block) : Block :=
  if !b.nrgOn || !b.flag F.NRG_STAT_TIME_LATCH then b
  else
    let b := ((b.addCycle c).modNrg fun x => { x with perTime := true }).put F.NRG_STAT_TIME_LATCH 0
    (b.latchEnergy).note 0x0703 0 (lt32 b.tai)

/-- The RL group of energy as it stands (R245): NRG_LAT_SEQ to NRG_LAT_FLAGS, then the 32 pairs. -/
def Block.nrgGroup (b : Block) : List W32 :=
  [b.rd Reg.NRG_LAT_SEQ, b.rd Reg.NRG_LAT_T_LO, b.rd Reg.NRG_LAT_T_HI, b.rd Reg.NRG_LAT_FLAGS]
    ++ (List.range 64).map fun i => b.rd (Reg.NRG_LAT_ + 4 * i)

/-- The group latched into an accessor's copy. -/
def Block.nrgCopy (b : Block) (acc : Nat) : Block :=
  (b.awrs acc Reg.NRG_LAT_SEQ (b.nrgGroup.take 4)).awrs acc Reg.NRG_LAT_ (b.nrgGroup.drop 4)

/-- Every accumulator and register at zero (R242). -/
def Block.zeroEnergy (b : Block) : Block :=
  let b := (b.modNrg fun x => { x with accs := List.replicate 32 0 }).wrWords Reg.NRG_LAT_ (List.replicate 64 0)
  (List.range 4).foldl (fun b n => b.pulseRestart n) b

/-- ENERGY_READ (R242, R245). -/
def energyRead (h : Hdr) (clear : Bool) (k : Key) (b : Block) : Block :=
  b.ycp k h 0x0601 ⟨some (if clear then roleMnt else roleObs), false⟩ fun b =>
    if clear ∧ b.topState ≠ stMaint then yErr b yDenied
    else
      let g := wordBytes b.nrgGroup
      let b := b.nrgCopy (accOf h.session)
      ⟨yOk, g, if clear then b.zeroEnergy else b⟩

/-! ### Saving and restoring (R248, R249) -/

/-- A save record, by slot. -/
def Nrg.slotAt (x : Nrg) (i : Nat) : Option NrgSave := if i = 0 then x.slot0 else x.slot1

/-- A save of these accumulators into the slot that does not hold the newest valid record (R248): 1 periodic, 2 PFAIL. -/
def Block.saveEnergy (b : Block) (kind : Nat) (accs : List Nat) : Block :=
  let x := b.nrg
  let i := if x.slot0.isNone ∧ x.slot1.isNone then 0 else 1 - x.newest
  let seq := (x.saveSeq + 1) % 2 ^ 32
  let r : NrgSave := ⟨accs, b.rd Reg.NRG_PFS, x.lsbSh, x.lastPower, b.tim.sec, seq, kind, true⟩
  let b := b.modNrg fun x =>
    { x with slot0 := if i = 0 then some r else x.slot0, slot1 := if i = 0 then x.slot1 else some r, newest := i, saveSeq := seq, saveAt := b.now }
  (((b.bump Reg.NRG_CNT_SAVE).put F.NRG_SAVE_STAT_KIND kind).put F.NRG_SAVE_STAT_SLOT i).put F.NRG_SAVE_STAT_SEQ seq

/-- ENERGY_SAVE (R248). -/
def energySave (b : Block) : Block :=
  if !b.nrgOn || !b.since b.nrg.saveAt (clampNat 1 60 (b.fld F.NRG_SAVE_INTERVAL) * tickS) then b else b.saveEnergy 1 b.nrg.accs

/-- The valid record with the higher sequence, and its slot. -/
def Nrg.newestValid (x : Nrg) : Option (Nat × NrgSave) :=
  let ok := fun i => (x.slotAt i).filter (·.crcOk)
  match ok 0, ok 1 with
  | some a, some b => if a.seq < b.seq then some (1, b) else some (0, a)
  | some a, none => some (0, a)
  | none, some b => some (1, b)
  | none, none => none

/-- ENERGY_GAP (R249, R256). -/
def Block.energyGap (b : Block) (bound sec cause : Nat) : Block :=
  (b.put F.NRG_STAT_GAP 1).note 0x0701 (bound >>> 32 % 2 ^ 32) (bound % 2 ^ 32) sec cause

/-- Restoring at start-up (R249). -/
def Block.restoreEnergy (b : Block) : Block :=
  match b.nrg.newestValid with
  | none =>
    let b := (b.modNrg fun x => { x with accs := List.replicate 32 0 }).put F.NRG_STAT_LOST 1
    b.energyGap (2 ^ 64 - 1) 0 2
  | some (i, r) =>
    let b := (b.modNrg fun x => { x with accs := r.accs, lsbSh := r.lsbSh, newest := i, saveSeq := r.seq }).wr Reg.NRG_PFS r.pfs
    let b := ((b.put F.NRG_SAVE_STAT_KIND r.kind).put F.NRG_SAVE_STAT_SLOT i).put F.NRG_SAVE_STAT_SEQ r.seq
    let b := b.note 0x0702 i r.seq r.kind
    if r.kind = 1 then
      let bound := (Q.div (r.power.mul (Q.ofNat (clampNat 1 60 (b.fld F.NRG_SAVE_INTERVAL)))) (nrgLsb r.pfs r.lsbSh)).round.toNat
      b.energyGap bound r.sec b.nrg.startReach
    else b

/-! ### Evidence (R250) -/

def Block.nrgItems (b : Block) : Nat :=
  let x := b.nrg
  (b.flag F.NRG_STAT_TIME_LATCH).toNat + x.evNoload % 8 * 2 + 16 * x.evSubst.toNat + 32 * x.exported.toNat
    + 64 * (b.flag F.NRG_STAT_GAP).toNat + 128 * (b.flag F.NRG_STAT_LOST).toNat

/-- NRG_EVIDENCE_POST (R250). -/
def nrgEvidencePost (slot : Nat) (b : Block) : Block :=
  let b := b.postEvid (mkEvid 5 b.nrgOn (decide (3 ≤ b.devClass)) false false b.nrg.rseq slot b.devClass b.nrgItems)
  b.modNrg fun x => { x with rseq := (x.rseq + 1) % 65536, evNoload := 0, evSubst := false }

/-! ### The commands -/

def execLineCycleEnd (c : LineCycle) (s : State) : Host.Outcome State Fault Refusal := .next (s.onB fun _ => lineCycleEnd c)
def execTimeFallbackCycleEnd (c : LineCycle) (s : State) : Host.Outcome State Fault Refusal := .next (s.onB fun _ => timeFallbackCycleEnd c)
def execEnergyLatch (s : State) : Host.Outcome State Fault Refusal := .next (s.onB fun _ => energyLatch)
def execNrgTimeLatch (s : State) : Host.Outcome State Fault Refusal := .next (s.onB fun _ => nrgTimeLatch)
def execTimeLatchReturn (c : LineCycle) (s : State) : Host.Outcome State Fault Refusal := .next (s.onB fun _ => timeLatchReturn c)
def execPulseOutput (n : Nat) (s : State) : Host.Outcome State Fault Refusal := .next (s.onB fun _ => pulseOutput n)
def execNrgEvidencePost (slot : Nat) (s : State) : Host.Outcome State Fault Refusal := .next (s.onB fun _ => nrgEvidencePost slot)
def execEnergySave (s : State) : Host.Outcome State Fault Refusal := .next (s.onB fun _ => energySave)
def execEnergyRead (h : Hdr) (clear : Bool) (s : State) : Host.Outcome State Fault Refusal := .next (s.onB (energyRead h clear))
def execPulseAssign (h : Hdr) (out : Nat) (cfg k : W32) (s : State) : Host.Outcome State Fault Refusal :=
  .next (s.onB (pulseAssign h out cfg k))

end Sys2Proof.Machine
end

