-- ==== Sys2Proof/Machine/Ports.lean ====
section
/-!
DEFINITION. Network ports and MAC (spec/03_network_ports.md, R88 to R114): what a received frame goes through, pause,
rate step-down, the stranger table and the statistics snapshots.
-/
namespace Sys2Proof.Machine

/-- A port. -/
def Block.port (b : Block) (p : Nat) : Port := b.ports.getD p .reset

/-! ### Priorities and receive pools (R94 to R98) -/

/-- The priority of a received frame (R94). -/
def framePrio (b : Block) (p : Nat) (f : RxFrame) : Nat :=
  if f.ether = 0x88F7 ∨ f.ether = 0x88B8 then 7
  else if f.ether = 0x88BA then 6
  else
    match f.tag with
    | some (_, pcp) => pcp % 8
    | none => b.fld (atPort F.MAC_CTRL_DEF_PRIO p)

/-- Pool size in KiB: NET, MGT, TDM. -/
def poolKib (p : Nat) : Nat := if p < 4 then 64 else if p < 6 then 16 else 32

/-- Watermarks of a pool in bytes. -/
def Block.hiWm (b : Block) (p prio : Nat) : Nat := 1024 * b.fld ((atPort F.MAC_POOL0_WM_HI_WM p).at (4 * prio))
def Block.loWm (b : Block) (p prio : Nat) : Nat := 1024 * b.fld ((atPort F.MAC_POOL0_WM_LO_WM p).at (4 * prio))

/-- The pool generates pause (R95, R96); the TDM port never does (R98). -/
def Block.poolGen (b : Block) (p prio : Nat) : Bool := p != 6 && (b.fld (atPort F.MAC_PFC_GEN_EN p)).testBit prio

/-- MODE is 802.3x. -/
def Block.linkMode (b : Block) (p : Nat) : Bool := b.flag (atPort F.MAC_PFC_MODE p)

/-- A pause frame: for one priority, or 8 for the link. -/
def Block.sendPause (b : Block) (p prio quanta : Nat) : Block :=
  (b.send p Emit.pause 64 [prio, quanta]).cntPort p cntPauseTx 1

/-- MAC_STAT.PAUSING follows the pools. -/
def Block.showPausing (b : Block) (p : Nat) : Block := b.putFlag (atPort F.MAC_STAT_PAUSING p) ((b.port p).pausing.any id)

/-- A pool rises above HI_WM: pause begins (R95). -/
def Block.pauseStart (b : Block) (p prio : Nat) : Block :=
  let already := (b.port p).pausing.any id
  let b := b.modPort p fun x => { x with pausing := x.pausing.set prio true, pauseAt := x.pauseAt.set prio b.now }
  let b := if !b.linkMode p then b.sendPause p prio 0xFFFF else if already then b else b.sendPause p 8 0xFFFF
  b.showPausing p

/-- A frame into its pool (R95, R96): none when the pool is full. -/
def Block.toPool (b : Block) (p prio len drained : Nat) : Block × Bool :=
  let fill := (b.port p).pools.getD prio 0 - drained
  if 1024 * poolKib p < fill + len then
    ((b.modPort p fun x => { x with pools := x.pools.set prio fill }).cntPort p cntPoolDrop 1, false)
  else
    let now := fill + len
    let b := b.modPort p fun x => { x with pools := x.pools.set prio now,
                                           hiCross := x.hiCross || (decide (fill ≤ b.hiWm p prio) && decide (b.hiWm p prio < now)) }
    if b.poolGen p prio && decide (b.hiWm p prio < now) && !(b.port p).pausing.getD prio false then (b.pauseStart p prio, true)
    else (b, true)

/-- Ticks of `n` quanta at a rate code: 51.2 ns at 10 Gb/s (R95). -/
def quantaTicks (p rate n : Nat) : Nat :=
  let tenths := if 4 ≤ p ∧ p < 6 then 640 else [64, 128, 256, 640].getD rate 64
  (n * tenths + 9) / 10

/-- PAUSE_REPEAT (R95): every 0x8000 quanta while the pool stays above LO_WM. -/
def pauseRepeat (p prio : Nat) (b : Block) : Block :=
  let x := b.port p
  if !x.pausing.getD prio false || decide (x.pools.getD prio 0 ≤ b.loWm p prio)
      || !b.since (x.pauseAt.getD prio 0) (quantaTicks p (b.fld (atPort F.MAC_STAT_RATE p)) 0x8000) then b
  else
    (b.modPort p fun x => { x with pauseAt := x.pauseAt.set prio b.now }).sendPause p (if b.linkMode p then 8 else prio) 0xFFFF

/-- PAUSE_END (R95): the pool holds `fill` bytes; at LO_WM or below, its pause ends. -/
def pauseEnd (p prio fill : Nat) (b : Block) : Block :=
  let b := b.modPort p fun x => { x with pools := x.pools.set prio fill }
  if !(b.port p).pausing.getD prio false || decide (b.loWm p prio < fill) then b
  else
    let b := b.modPort p fun x => { x with pausing := x.pausing.set prio false }
    let b := if !b.linkMode p then b.sendPause p prio 0 else if (b.port p).pausing.any id then b else b.sendPause p 8 0
    b.showPausing p

/-- Some priority is held by received pause. -/
def Port.paused (x : Port) : Bool := x.heldTo.any (· != 0)

/-- A priority is held from now for so many ticks; 0 releases it. -/
def Block.holdPrio (b : Block) (p prio ticks : Nat) : Block :=
  let x := b.port p
  let start := if x.paused then x.heldFrom.foldl max 0 else b.now
  let b := b.modPort p fun x => { x with heldTo := x.heldTo.set prio (if ticks = 0 then 0 else b.now + ticks),
                                         heldFrom := if ticks = 0 then x.heldFrom else x.heldFrom.set prio start }
  let b := if x.paused && !(b.port p).paused then
      (b.cntPort p cntPausedNs (b.now - start)).modPort p fun x => { x with heldFrom := List.replicate 8 0 }
    else b
  b.putFlag (atPort F.MAC_STAT_PAUSED p) (b.port p).paused

/-- PAUSE_RECEIVE (R97): priority `i`'s quanta stand at bits 16i of `quanta`, a link pause's at bits 15:0. -/
def pauseReceive (p : Nat) (link : Bool) (prios quanta : Nat) (b : Block) : Block :=
  if p = 6 ∨ 7 < p ∨ !b.portUp p then b
  else
    let b := b.cntPort p cntPauseRx 1
    let q := fun i => if link then quanta % 65536 else (quanta >>> (16 * i)) % 65536
    let hit := fun (i : Nat) => link || prios.testBit i
    let b := if hit 7 && q 7 != 0 then b.cntPort p cntPauseIgn 1 else b
    let obey := b.fld (atPort F.MAC_PFC_OBEY_EN p)
    ((List.range 7).filter fun i => hit i && obey.testBit i).foldl
      (fun b i => b.holdPrio p i (quantaTicks p (b.fld (atPort F.MAC_STAT_RATE p)) (q i))) b

/-- PAUSE_EXPIRY (R97): the quanta have run out. -/
def pauseExpiry (p prio : Nat) (b : Block) : Block :=
  let t := (b.port p).heldTo.getD prio 0
  if t = 0 ∨ b.now < t then b else b.holdPrio p prio 0

/-- WATERMARK_WRITE (R98, R111). -/
def watermarkWriteW (acc p pool hi lo : Nat) (k : Key) (b : Block) : WRes :=
  let st := b.mayWrite k acc roleEng true
  if st ≠ yOk then wErr b acc st
  else if 6 ≤ p ∨ 8 ≤ pool then ⟨yOk, b⟩
  else if hi ≤ lo ∨ poolKib p < hi then ⟨yBadParam, b.put (atPort F.MAC_STAT_CFG_ERR p) 1⟩
  else ⟨yOk, b.wr (Reg.MAC_POOL0_WM + 0x1000 * p + 4 * pool) (BitVec.ofNat 32 (hi * 65536 + lo))⟩

/-! ### Senders and the stranger table (R105, R106) -/

/-- A VLAN setting matches a frame's tag (W02 of R147). -/
def vlanMatches (vlan : Nat) (tag : Option (Nat × Nat)) : Bool :=
  match tag with
  | none => vlan == 0xFFF
  | some (vid, _) => vlan == vid

/-- A PORT setting names the port (W02 of R147). -/
def portNames (setting p : Nat) : Bool := if p < 4 then setting == p / 2 else setting == p - 2

/-- The frame's source MAC and VLAN are those of a defined spoke. -/
def Spoke.sender (x : Spoke) (p : Nat) (f : RxFrame) : Bool :=
  let w := fun i => x.words.getD i 0
  portNames (bits (w 2) 2 0) p && vlanMatches (bits (w 2) 27 16) f.tag && f.mac == (w 3).toNat * 65536 + bits (w 4) 15 0

/-- The frame's destination is the command port of an output set, on that set's port and VLAN. -/
def OutSet.commands (x : OutSet) (p dport : Nat) (f : RxFrame) : Bool :=
  x.state != 0 && portNames x.port p && vlanMatches x.vlan f.tag && x.cmdPort == dport

/-- YCP is enabled on a management port. -/
def Block.ycpOn (b : Block) (p : Nat) : Bool := (p == 4 && b.flag F.HST_CTRL_UDP_MGT0) || (p == 5 && b.flag F.HST_CTRL_UDP_MGT1)

/-- The frame comes from a known sender (R105). -/
def Block.knows (b : Block) (p : Nat) (f : RxFrame) : Bool :=
  let mgt := p == 4 || p == 5
  (match f.cls with
    | .ptp | .lldp | .mka | .prpSup | .arpOwn => true
    | .goose appid => b.isl.gooses.any fun g => g.2.en && g.2.appid == appid
    | .udp d => b.aln.outs.any (·.commands p d f) || (b.ycpOn p && d == b.fld F.HST_CTRL_UDP_PORT)
    | .tcpC37 => mgt
    | .icmpEcho => mgt
    | .fragment _ first admits => first && admits
    | .sv | .other => false)
  || b.ing.spokes.any (·.sender p f)
  || (p == 6 && f.mac == b.tdm.pMac)
  || (mgt && b.hst.sessions.any fun x => x.state == 1 && x.mgt == p - 4 && f.ip == some x.peerIp)

/-- A stranger's entry updated or made (R106). -/
def Block.stranger (b : Block) (p : Nat) (f : RxFrame) : Block :=
  let b := b.cntPort p cntStranger 1
  let vlan := match f.tag with
    | none => 0xFFF
    | some (vid, _) => vid
  let l := (b.port p).strangers
  let isIt := fun (e : Stranger) => e.mac == f.mac && e.vlan == vlan
  let now := b.tai % 2 ^ 48
  if l.any isIt then
    let again := l.map fun e => if isIt e then { e with count := min 65535 (e.count + 1), last := now } else e
    b.modPort p fun x => { x with strangers := again }
  else
    let new : Stranger := ⟨f.mac, vlan, f.ether, f.ip.getD 0, 1, now, now⟩
    let age := fun (e : Stranger) => (now + 2 ^ 48 - e.last) % 2 ^ 48
    let oldest := (List.range l.length).foldl (fun (m : Nat) i =>
      if age (l.getD m new) < age (l.getD i new) then i else m) 0
    let b := b.modPort p fun x => { x with strangers := if l.length < 16 then l ++ [new] else l.set oldest new }
    b.note 0x0305 p (f.mac / 65536) (f.mac % 65536 * 65536 + vlan) f.ether

/-- STRANGER_CLEAR (R106). -/
def strangerClearW (acc p : Nat) (k : Key) (b : Block) : WRes :=
  let st := b.mayWrite k acc roleOpr false
  if st ≠ yOk then wErr b acc st else ⟨yOk, b.modPort p fun x => { x with strangers := [] }⟩

/-- The words MAC_STR_DATA0 to 6 of the entry that IDX names (R106). -/
def Block.strangerWords (b : Block) (p : Nat) : List W32 :=
  match (b.port p).strangers[b.fld (atPort F.MAC_STR_IDX_IDX p)]? with
  | none => List.replicate 7 0
  | some e => [e.mac / 65536, e.mac % 65536 * 65536 + e.vlan, e.ether * 65536 + e.count, e.ip, e.first % 2 ^ 32, e.last % 2 ^ 32,
      e.first / 2 ^ 32 * 65536 + e.last / 2 ^ 32].map (BitVec.ofNat 32)

/-! ### MACsec (R107, R108) -/

/-- The MACSEC key slot of a port: 10 MGT0, 11 MGT1, 12 TDM (R461). -/
def secSlot (p : Nat) : Nat := p + 6

/-- A MACsec failure is counted and recorded, at most once per second per port (R114). -/
def Block.secFailure (b : Block) (p which : Nat) : Block :=
  let b := b.cntPort p (cntSecIcv + which) 1
  if b.within (b.port p).secFail tickS then b
  else (b.modPort p fun x => { x with secFail := some b.now }).note 0x0306 p which (((b.port p).cnt.getD (cntSecIcv + which) 0) % 2 ^ 32)

/-- What may pass on the uncontrolled port (R108). -/
def Block.passesPlain (k : Key) (b : Block) (p : Nat) (f : RxFrame) : Bool :=
  match f.cls with
  | .ptp | .lldp | .mka => true
  | .udp d => !b.flag (atPort F.MAC_SEC_CTRL_REQUIRE p) || (p != 6 && !k.usable (secSlot p) && d == b.fld F.HST_CTRL_UDP_PORT)
  | .arpOwn => !b.flag (atPort F.MAC_SEC_CTRL_REQUIRE p) || (p != 6 && !k.usable (secSlot p))
  | _ => !b.flag (atPort F.MAC_SEC_CTRL_REQUIRE p)

/-- MACsec on a port that has it: what it does, and whether the frame passes. -/
def Block.macsec (k : Key) (b : Block) (p : Nat) (f : RxFrame) : Block × Bool :=
  if p < 4 then (b, true)
  else
    match f.sec with
    | none => (b, b.passesPlain k p f)
    | some (icvOk, pn) =>
      let win := if p = 6 then 0 else b.fld (atPort F.MAC_SEC_CTRL_REPLAY_WIN p)
      if !k.usable (secSlot p) then (b, false)
      else if !icvOk then (b.secFailure p 0, false)
      else if pn + win ≤ (b.port p).pn then (b.secFailure p 1, false)
      else ((b.modPort p fun x => { x with pn := max x.pn pn }).put (atPort F.MAC_STAT_SEC_UP p) 1, true)

/-! ### A received frame -/

/-- The entry-forget time of PRP (R90). -/
abbrev prpForget : Nat := 400 * tickMs

/-- The frame is the second copy of one received on either member (R90). -/
def Block.isDuplicate (b : Block) (p : Nat) (f : RxFrame) : Bool :=
  match f.prp with
  | none => false
  | some sq => decide (p < 4) && [p, if p % 2 = 0 then p + 1 else p - 1].any fun q =>
      (b.port q).dup.any fun e => e.1 == f.mac && e.2.1 == sq && decide (b.now < e.2.2 + prpForget)

/-- The first copy is remembered. -/
def Block.rememberCopy (b : Block) (p : Nat) (f : RxFrame) : Block :=
  match f.prp with
  | none => b
  | some sq => if 4 ≤ p then b else
    b.modPort p fun x => { x with dup := (f.mac, sq, b.now) :: x.dup.filter fun e => decide (b.now < e.2.2 + prpForget) }

/-- The fragments of a datagram that were held are let go (R105). -/
def Block.dropFrags (b : Block) (p id : Nat) : Block := b.modPort p fun x => { x with frags := x.frags.filter (·.1 != id) }

/-- An accepted and duplicate-free frame meets the sender filter and its pool (R94, R96, R105). -/
def Block.admitFrame (b : Block) (p : Nat) (f : RxFrame) : Block :=
  let refuse := fun (b : Block) => b.stranger p f
  let accept := fun (b : Block) => (b.toPool p (framePrio b p f) f.length f.drained).1
  match f.cls with
  | .fragment id first _ =>
    if b.knows p f then (accept b).dropFrags p id
    else if !first then b.modPort p fun x => { x with frags := x.frags ++ [(id, b.now)] }
    else
      let held := ((b.port p).frags.filter (·.1 == id)).length
      ((refuse b).cntPort p cntStranger held).dropFrags p id
  | _ => if b.knows p f then accept b else refuse b

/-- FRAME_RECEIVE (R91 to R108). -/
def frameReceive (p : Nat) (f : RxFrame) (k : Key) (b : Block) : Block :=
  if 7 ≤ p ∨ !b.portUp p then b
  else if f.length ≤ 63 then b.cntPort p cntRunt 1
  else if b.fld (atPort F.MAC_MAXLEN_LEN p) < f.length then b.cntPort p cntOversize 1
  else if !f.fcsOk then b.cntPort p cntFcs 1
  else
    let b := (b.cntPort p cntRxFrames 1).cntPort p cntRxOctets f.length
    let r := b.macsec k p f
    if !r.2 then r.1
    else if r.1.isDuplicate p f then r.1.cntPort p cntPrpDup 1
    else (r.1.rememberCopy p f).admitFrame p f

/-- REASSEMBLY_TIMEOUT (R105): what was held 1 s is discarded. -/
def reassemblyTimeout (p id : Nat) (b : Block) : Block :=
  let old := (b.port p).frags.filter fun e => e.1 == id && b.since e.2 tickS
  if old.isEmpty then b
  else
    (b.cntPort p cntStranger old.length).modPort p fun x => { x with frags := x.frags.filter fun e => !(e.1 == id && b.since e.2 tickS) }

/-- PRP_SUPERVISION_SEND (R90): on both members of network 0 NET1 or 1 NET2. -/
def prpSupervisionSend (net : Nat) (b : Block) : Block :=
  if 2 ≤ net then b
  else (b.send (2 * net) Emit.prpSup 64 [net]).send (2 * net + 1) Emit.prpSup 64 [net]

/-! ### Rate step-down (R99 to R103) -/

/-- Octets per second of a rate code. -/
def rateOctets (code : Nat) : Nat := [1250000000, 625000000, 312500000, 125000000].getD code 125000000

/-- The other member of a pair. -/
def mate (p : Nat) : Nat := if p % 2 = 0 then p + 1 else p - 1

/-- A NET port under USXGMII, whose rate may change (R103). -/
def Block.stepPort (b : Block) (p : Nat) : Bool := decide (p < 4) && b.flag (atPort F.MAC_CTRL_MODE p)

/-- The PHY is told to offer these rates and to negotiate anew (R102). -/
def Block.advertise (b : Block) (p : Nat) (rates : List Nat) : Block :=
  b.emit p Emit.mdio (b.fld (atPort F.MAC_STEP_PHY_ADDR p) :: rates)

/-- The lowest rate allowed by MAC_STEP.FLOOR and the envelope (R99). -/
def Block.stepFloor (b : Block) (p : Nat) : Nat :=
  min (b.fld (atPort F.MAC_STEP_FLOOR p)) (match b.envelope 0x0301 with
    | none => 3
    | some e => e.min)

/-- R101 lets a renegotiation start. -/
def Block.stepFree (b : Block) (p : Nat) : Bool := (b.port (mate p)).reneg.isNone && b.flag (atPort F.MAC_STAT_LINK (mate p))

/-- Link is lost: NET_LINK, and the count (R114). -/
def Block.dropLink (b : Block) (p : Nat) : Block :=
  let b := (b.put (atPort F.MAC_STAT_LINK p) 0).put (atPort F.MAC_STAT_SEC_UP p) 0
  let b := (b.cntPort p cntLinkDown 1).modPort p fun x => { x with dwell := 0 }
  b.note 0x0301 p 0 (b.fld (atPort F.MAC_STAT_RATE p))

/-- A renegotiation begins (R102). -/
def Block.renegotiate (b : Block) (p rate util : Nat) : Block :=
  let old := b.fld (atPort F.MAC_STAT_RATE p)
  let tmo := max 1 (b.fld (atPort F.MAC_STEP_TMO p))
  let b := ((b.advertise p [rate]).put (atPort F.MAC_STEP_STAT_BUSY p) 1).put (atPort F.MAC_STEP_STAT_HELD p) 0
  (b.dropLink p).modPort p fun x => { x with reneg := some ⟨old, rate, b.now + tmo * tickS, util⟩ }

/-- UTILISATION_MEASURE (R99 to R101): octets received and sent in the second. -/
def utilisationMeasure (p rx tx : Nat) (b : Block) : Block :=
  if !b.stepPort p || !b.portUp p || (b.port p).reneg.isSome then b
  else
    let x := b.port p
    let oct := max rx tx
    let cur := b.fld (atPort F.MAC_STAT_RATE p)
    let util := (oct * 1000 + rateOctets cur / 2) / rateOctets cur
    let above := decide (b.fld (atPort F.MAC_STEP_HIGH_UTIL p) * rateOctets cur < oct * 10)
    let below := decide (cur < 3 ∧ oct * 10 < b.fld (atPort F.MAC_STEP_LOW_UTIL p) * rateOctets (cur + 1))
    let dwell := if below then x.dwell + 1 else 0
    let b := b.modPort p fun x => { x with dwell := dwell, hiCross := false }
    if 0 < cur ∧ (above || x.hiCross) then
      if b.stepFree p then b.renegotiate p (cur - 1) util else b
    else
      let due := b.flag (atPort F.MAC_STEP_EN p) && below && decide (max 10 (b.fld (atPort F.MAC_STEP_DWELL p)) ≤ dwell)
        && decide (cur + 1 ≤ b.fld (atPort F.MAC_STEP_FLOOR p)) && !b.flag (atPort F.MAC_STEP_STAT_FAIL p)
      let guard := b.since (b.port (mate p)).steadyAt (max 1 (b.fld (atPort F.MAC_STEP_GUARD p)) * tickS)
      if due && decide (cur + 1 ≤ b.stepFloor p) && b.stepFree p && guard then b.renegotiate p (cur + 1) util
      else b.putFlag (atPort F.MAC_STEP_STAT_HELD p) due

/-- The port supports a link at the rate (R89). -/
def Block.rateSupported (b : Block) (p rate : Nat) : Bool :=
  if p < 4 then decide (rate ≤ 3) && (rate == 0 || b.flag (atPort F.MAC_CTRL_MODE p))
  else if p < 6 then rate == 3
  else rate == 0

/-- LINK_UP (R89, R102, R114). -/
def linkUp (p rate : Nat) (allowed : Bool) (k : Key) (b : Block) : Block :=
  if 7 ≤ p ∨ !b.portOn p ∨ !b.flag (atPort F.MAC_CTRL_EN p) ∨ b.flag (atPort F.MAC_STAT_LINK p) then b
  else if !allowed || !b.rateSupported p rate then b.cntPort p cntLinkDown 1
  else
    let x := b.port p
    let b := (b.put (atPort F.MAC_STAT_LINK p) 1).put (atPort F.MAC_STAT_RATE p) rate
    let b := b.putFlag (atPort F.MAC_STAT_SEC_UP p) (decide (4 ≤ p) && k.usable (secSlot p))
    let b := (b.modPort p fun x => { x with dwell := 0, steadyAt := b.now, reneg := none }).note 0x0301 p 1 rate
    match x.reneg with
    | none => b
    | some r =>
      let b := b.put (atPort F.MAC_STEP_STAT_BUSY p) 0
      if rate = r.toRate then (b.cntPort p cntStep 1).note 0x0302 p r.fromRate rate r.util else b

/-- LINK_DOWN (R103, R114): a step-down in progress on the other member is abandoned. -/
def linkDown (p : Nat) (b : Block) : Block :=
  if 7 ≤ p ∨ !b.flag (atPort F.MAC_STAT_LINK p) then b
  else
    let b := b.dropLink p
    let q := mate p
    match if p < 4 then (b.port q).reneg else none with
    | none => b
    | some r =>
      if r.toRate ≤ r.fromRate then b
      else
        let b := (b.advertise q [r.fromRate]).put (atPort F.MAC_STEP_STAT_BUSY q) 0
        (b.modPort q fun x => { x with reneg := none }).note 0x0304 q r.fromRate

/-- NET_STEP_FAIL (R102): every supported rate down to the floor is offered again. -/
def netStepFail (p : Nat) (b : Block) : Block :=
  match (b.port p).reneg with
  | none => b
  | some r =>
    if b.now < r.deadline then b
    else
      let b := b.advertise p ((List.range 4).filter (· ≤ b.stepFloor p))
      let b := (b.put (atPort F.MAC_STEP_STAT_BUSY p) 0).put (atPort F.MAC_STEP_STAT_FAIL p) 1
      (b.modPort p fun x => { x with reneg := none }).note 0x0303 p r.toRate

/-! ### Statistics snapshots (R109) -/

/-- One port's counters into its snapshot bank. -/
def Block.snapPort (b : Block) (clr : Bool) (p : Nat) : Block :=
  let x := b.port p
  let b := b.wrWords (Reg.MAC_BANK0 + 0x1000 * p) (x.cnt.flatMap fun v => [BitVec.ofNat 32 v, BitVec.ofNat 32 (v >>> 32)])
  if clr then b.modPort p fun x => { x with cnt := List.replicate 19 0 } else b

/-- SNAPSHOT (R109): REQ reads 0 again when the copy is done. -/
def snapshotW (acc ports : Nat) (clr : Bool) (k : Key) (b : Block) : WRes :=
  let st := b.mayWrite k acc roleOpr false
  if st ≠ yOk then wErr b acc st
  else
    let b := (b.put F.MAC_SNAP_CTRL_PORTS ports).putFlag F.MAC_SNAP_CTRL_CLR_ON_SNAP clr
    let b := ((List.range 7).filter ports.testBit).foldl (fun b p => b.snapPort clr p) b
    let lt := b.tai % 2 ^ 48
    let b := (b.wr Reg.MAC_SNAP_LT_LO (BitVec.ofNat 32 lt)).wr Reg.MAC_SNAP_LT_HI (BitVec.ofNat 32 (lt / 2 ^ 32))
    ⟨yOk, b.wr Reg.MAC_SNAP_SEQ (b.rd Reg.MAC_SNAP_SEQ + 1)⟩

/-! ### The commands -/

def execFrameReceive (p : Nat) (f : RxFrame) (s : State) : Host.Outcome State Fault Refusal := .next (s.onB (frameReceive p f))
def execPrpSupervisionSend (net : Nat) (s : State) : Host.Outcome State Fault Refusal := .next (s.onB fun _ => prpSupervisionSend net)
def execPauseRepeat (p prio : Nat) (s : State) : Host.Outcome State Fault Refusal := .next (s.onB fun _ => pauseRepeat p prio)
def execPauseEnd (p prio fill : Nat) (s : State) : Host.Outcome State Fault Refusal := .next (s.onB fun _ => pauseEnd p prio fill)
def execPauseReceive (p : Nat) (link : Bool) (prios : Nat) (quanta : Nat) (s : State) : Host.Outcome State Fault Refusal :=
  .next (s.onB fun _ => pauseReceive p link prios quanta)
def execPauseExpiry (p prio : Nat) (s : State) : Host.Outcome State Fault Refusal := .next (s.onB fun _ => pauseExpiry p prio)
def execUtilisationMeasure (p rx tx : Nat) (s : State) : Host.Outcome State Fault Refusal :=
  .next (s.onB fun _ => utilisationMeasure p rx tx)
def execLinkUp (p rate : Nat) (allowed : Bool) (s : State) : Host.Outcome State Fault Refusal := .next (s.onB (linkUp p rate allowed))
def execLinkDown (p : Nat) (s : State) : Host.Outcome State Fault Refusal := .next (s.onB fun _ => linkDown p)
def execNetStepFail (p : Nat) (s : State) : Host.Outcome State Fault Refusal := .next (s.onB fun _ => netStepFail p)
def execSnapshot (acc : Nat) (ports : Nat) (clr : Bool) (s : State) : Host.Outcome State Fault Refusal :=
  .next (s.onB fun k b => (snapshotW acc ports clr k b).b)
def execStrangerClear (acc p : Nat) (s : State) : Host.Outcome State Fault Refusal := .next (s.onB fun k b => (strangerClearW acc p k b).b)
def execWatermarkWrite (acc p pool : Nat) (hi lo : Nat) (s : State) : Host.Outcome State Fault Refusal :=
  .next (s.onB fun k b => (watermarkWriteW acc p pool hi lo k b).b)
def execReassemblyTimeout (p id : Nat) (s : State) : Host.Outcome State Fault Refusal := .next (s.onB fun _ => reassemblyTimeout p id)

end Sys2Proof.Machine
end

