-- ==== Sys2Proof/Machine/Radio.lean ====
section
/-!
DEFINITION. The field radio (spec/12_field_radio.md, R384 to R418; R374 to R378 in a tandem).
-/
namespace Sys2Proof.Machine

/-! ### Region and PHY (R384, R385) -/

/-- RAD_STAT.PROFILE is ETSI. -/
def Block.etsi (b : Block) : Bool := b.flag F.RAD_STAT_PROFILE

/-- Channels of the plan, and its bitmap. -/
def Block.planChans (b : Block) : Nat := if !b.etsi then 64 else if b.fld F.RAD_PHY_MODE = 1 then 65 else 32
def Block.planMap (b : Block) : Nat := 2 ^ b.planChans - 1

/-- The profile's floor. -/
def Block.profileFloor (b : Block) : Nat := if b.etsi then 8 else 50

/-- Bit rate in kb/s. -/
def Block.radRate (b : Block) : Nat := [50, 100, 200, 200, 400].getD (b.fld F.RAD_PHY_MODE) 50

/-- Airtime of a PSDU in ticks (R385). -/
def Block.airtime (b : Block) (psdu : Nat) : Nat := (max 4 (b.fld F.RAD_PHY_PRE_LEN) + 4 + psdu) * 8 * 125000 / b.radRate

/-- The radio runs: RAD_CTRL.EN on a device that has one, with PD_RADIO on and no L2 self-test
(R3, R385, R413, R415). -/
def Block.radOn (b : Block) : Bool := b.flag F.RAD_CTRL_EN && b.top.variant != .n0 && b.bellsRun

/-- This unit coordinates (R374, R377): alone always, in a tandem from its first beacon to the end of its claim, or to the last
beacon it owes. -/
def Block.radLead (b : Block) : Bool :=
  !b.tdm.enNow || (b.rad.lead && (b.claims || match b.rad.lastTo with
    | none => false
    | some n => decide (b.rad.sfn ≤ n)))

/-! ### The channel map (R393, R394, R396) -/

/-- A map held in three registers. -/
def Block.mapAt (b : Block) (a : Nat) : Nat := (b.rd a).toNat + (b.rd (a + 4)).toNat * 2 ^ 32 + (b.rd (a + 8)).toNat % 256 * 2 ^ 64
def Block.putMap (b : Block) (a m : Nat) : Block :=
  b.wrWords a [BitVec.ofNat 32 m, BitVec.ofNat 32 (m >>> 32), BitVec.ofNat 32 (m >>> 64 % 256)]

/-- Channels of a map. -/
def mapList (m : Nat) : List Nat := bitsSet m 72

/-- STRIDE: the smallest prime, 7 or above, that does not divide N. -/
def stride (n : Nat) : Nat := ([7, 11, 13, 17, 19, 23, 29, 31, 37, 41, 43, 47, 53, 59, 61, 67, 71, 73].find? fun p => n % p != 0).getD 73

/-- The channel of a superframe under a map. -/
def hopChan (m sfn : Nat) : Nat :=
  let l := mapList m
  l.getD (sfn * stride l.length % max 1 l.length) 0

/-- The largest of the three floors (R396). -/
def Block.mapFloor (b : Block) : Nat :=
  let env := match b.envelope 0x0701 with
    | none => 0
    | some e => e.min
  max (max b.profileFloor (b.fld F.RAD_EXC_MIN_CH)) env

/-- The lowest channels of the plan added until a map has `n` (notes/assumptions/35.md). -/
def fillMap (plan n m : Nat) : Nat :=
  (mapList plan).foldl (fun m c => if (mapList m).length < n ∧ !m.testBit c then m ||| 1 <<< c else m) m

/-- The map in force over a base map: without the excised channels, but never below the floor (R397). -/
def Block.effOf (b : Block) (base : Nat) : Nat :=
  fillMap base b.mapFloor (maskOf ((mapList base).filter fun c => (tabGet b.rad.excised c).isNone))

/-- Superframes `old` and `new` rule on either side of `act` would withhold none of the 100 from `act` on (R394, R396). -/
def holdFree (old new act : Nat) : Bool :=
  let chan := fun s => hopChan (if s < act then old else new) s
  (List.range 100).all fun i =>
    let s := act + i
    let c := chan s
    decide (((List.range 99).countP fun j => chan (s - 1 - j) == c) < 2)

/-- MAP_ACT of a change first announced in superframe `from_` (R396). -/
def Block.mapAct (b : Block) (old new from_ : Nat) : Nat :=
  if b.etsi then from_ + 50
  else match (List.range 151).find? fun i => holdFree old new (from_ + 50 + i) with
    | some i => from_ + 50 + i
    | none => from_ + 50

/-- A new map in force is announced (R396): cause 0 excision, 1 host, 2 envelope. A radio that does not run takes it at once
(notes/assumptions/35.md). -/
def Block.changeMap (b : Block) (new cause : Nat) : Block :=
  let old := b.mapAt Reg.RAD_MAP_EFF
  let ver := (b.fld F.RAD_STAT_MAP_VER + 1) % 256
  let b := b.put F.RAD_STAT_MAP_VER ver
  let b :=
    if b.radOn && b.rad.started then
      (b.modRad fun r => { r with mapPend := some ⟨new, b.mapAct old new (b.rad.sfn + 1) % 2 ^ 32⟩ }).put F.RAD_STAT_MAP_PENDING 1
    else (b.modRad fun r => { r with mapPend := none }).putMap Reg.RAD_MAP_EFF new
  let act := match b.rad.mapPend with
    | none => b.rad.sfn
    | some p => p.act
  b.note 0x0C05 ver act (mapList new).length cause

/-- The map under a floor of the GSP that has risen above it (R327): the block after it, with the channels before and after. -/
def Block.clampMap (b : Block) : Block × Option (Nat × Nat) :=
  let base := b.mapAt Reg.RAD_MAP
  let eff := match b.rad.mapPend with
    | none => b.mapAt Reg.RAD_MAP_EFF
    | some p => p.map
  let old := (mapList eff).length
  let floor := b.mapFloor
  if b.top.variant = .n0 ∨ floor ≤ old then (b, none)
  else
    let base := fillMap b.planMap floor base
    let new := b.effOf base
    let b := ((b.putMap Reg.RAD_MAP base).put F.RAD_STAT_ENVELOPE_HOLD 1).changeMap new 2
    (b, some (old, (mapList new).length))

/-! ### Associations (R398 to R402) -/

def Assoc.empty : Assoc :=
  { en := false, eui := 0, state := 0, relayed := false, relay := 0, evc := 0, slot := 31, phase := 0, gear := 0, clkPpm := 0, sup := 0, lastFc := none,
    mapVer := 0, timeCorr := 0, cntRx := 0, cntFcs := 0, cntDrift := 0, cntReplay := 0, cntMiss := 0, start := 0, heardAt := 0, relayCap := false,
    nch := 0, moveTo := none, got := false }

/-- An association entry. -/
def Block.assoc (b : Block) (i : Nat) : Assoc := (tabGet b.rad.entries i).getD .empty

/-- The block with an entry changed. -/
def Block.modAssoc (b : Block) (i : Nat) (f : Assoc → Assoc) : Block :=
  b.modRad fun r => { r with entries := tabSet r.entries i (f (b.assoc i)) }

/-- The association table goes to MRAM (R407). -/
def Block.saveAssoc (b : Block) : Block := b.modRad fun r => { r with saved := r.entries, savedAt := b.now }

/-- An association changed in this superframe (R376). -/
def Block.assocChanged (b : Block) (i : Nat) : Block := b.modRad fun r => { r with changed := insNat i r.changed }

/-- The short address of entry `i` (R398), and the entry of a short address. -/
def shortOf (i : Nat) : Nat := 1 + i
def Block.ofShort (b : Block) (short : Nat) : Option Nat :=
  if short = 0 ∨ 256 < short then none
  else if (b.assoc (short - 1)).state = 0 then none else some (short - 1)

/-- The enabled entry that holds an EUI-64. -/
def Block.ofEui (b : Block) (eui : Nat) : Option Nat := (b.rad.entries.find? fun e => e.2.en && e.2.eui == eui).map (·.1)

/-- A DIRECT association that holds a slot. -/
def Assoc.direct (a : Assoc) : Bool := a.state != 0 && !a.relayed && decide (a.slot < 24)

/-- 8 × the sum of 1 / gear (R400). -/
def Block.load8 (b : Block) : Nat := (b.rad.entries.map fun e => if e.2.direct then 8 / 2 ^ e.2.gear else 0).sum

/-- RAD_LOAD follows the table. -/
def Block.showLoad (b : Block) : Block := b.put F.RAD_LOAD_LOAD8 b.load8

/-- SFN `s` has come at SFN `now`. -/
def sfnDue (s now : Nat) : Bool := decide ((now + 2 ^ 32 - s) % 2 ^ 32 < 2 ^ 31)

/-- A superframe of EVC `evc` is a reporting one (R398). -/
def Assoc.reports (a : Assoc) (evc : Nat) : Bool := evc % 2 ^ a.gear == 0

/-- The association owns its slot in the present superframe (R398). -/
def Block.owns (b : Block) (a : Assoc) (j : Nat) : Bool := a.direct && a.slot == j && sfnDue a.start b.rad.sfn && a.reports a.evc

/-- The owner of data slot `j` in the present superframe. -/
def Block.owner (b : Block) (j : Nat) : Option Nat := (b.rad.entries.find? fun e => b.owns e.2 j).map (·.1)

/-- A place in the data slots: entry, slot, phase and gear. -/
structure RadPlace where
  idx   : Nat
  slot  : Nat
  phase : Nat
  gear  : Nat
  deriving DecidableEq, Repr

/-- Superframes `phase` modulo 2 to the gear of a slot: a block of places. -/
structure RadBlk where
  slot  : Nat
  phase : Nat
  gear  : Nat
  deriving DecidableEq, Repr

/-- Two blocks of one slot share a superframe. -/
def RadBlk.meets (x y : RadBlk) : Bool :=
  x.slot == y.slot && x.phase % 2 ^ min x.gear y.gear == y.phase % 2 ^ min x.gear y.gear

def RadPlace.blk (p : RadPlace) : RadBlk := ⟨p.slot, p.phase, p.gear⟩

/-- The places taken, those of moves under way included. -/
def Block.places (b : Block) : List RadPlace :=
  b.rad.entries.flatMap fun e =>
    if !e.2.direct then []
    else ⟨e.1, e.2.slot, e.2.phase, e.2.gear⟩ :: match e.2.moveTo with
      | none => []
      | some m => [⟨e.1, m.slot, m.phase, m.gear⟩]

/-- The free blocks of a gear, outside those held back. -/
def freeBlks (gear : Nat) (ps : List RadPlace) (held : List RadBlk) : List RadBlk :=
  ((List.range 24).flatMap fun s => (List.range (2 ^ gear)).map fun p => (⟨s, p, gear⟩ : RadBlk)).filter fun x =>
    !(ps.any fun p => p.blk.meets x) && !(held.any fun h => h.meets x)

/-- A free block of a gear, made by moving associations where the free residues are fragmented (R400): two free blocks of the next
gear are found, and what the other half of the first one's block holds moves into the second. -/
def findBlk : Nat → Nat → Nat → List RadPlace → List RadBlk → Option (RadBlk × List RadPlace)
  | fuel, pick, gear, ps, held =>
    let free := freeBlks gear ps held
    match free[pick % max 1 free.length]? with
    | some x => some (x, ps)
    | none =>
      match fuel with
      | 0 => none
      | fuel + 1 =>
        match findBlk fuel pick (gear + 1) ps held with
        | none => none
        | some (x, ps) =>
          match findBlk fuel pick (gear + 1) ps (x :: held) with
          | none => none
          | some (y, ps) =>
            let other : RadBlk := ⟨x.slot, (x.phase + 2 ^ gear) % 2 ^ (gear + 1), gear + 1⟩
            let ps := ps.map fun p =>
              if p.blk.meets other then { p with slot := y.slot, phase := y.phase + (p.phase - p.phase % 2 ^ (gear + 1)) } else p
            some (⟨x.slot, x.phase % 2 ^ gear, gear⟩, ps)

/-- The first SFN at or after `s` in which a block's superframes fall. -/
def alignSfn (s phase gear : Nat) : Nat := s + (phase + 2 ^ gear - s % 2 ^ gear) % 2 ^ gear

/-- The superframe from which a START may be set (R403: START is SFN[7:0]); `config` adds a free lead. -/
def Block.startBase (b : Block) : Nat := b.rad.sfn + 1 + Config.radioLead % 200

/-- A frame for C0 or C1 is queued (R403, R404). -/
def Block.queueDown (b : Block) (entry cmd : Nat) (body : List Nat) : Block :=
  let seqNo := b.rad.dlSeq
  b.modRad fun r => { r with dlSeq := (seqNo + 1) % 256, downlink := r.downlink ++ [⟨entry, cmd, body, seqNo, 0, false⟩] }

/-- Frames queued for an entry are dropped with its association. -/
def Block.dropDown (b : Block) (i : Nat) : Block := b.modRad fun r => { r with downlink := r.downlink.filter (·.entry != i) }

/-- An association moves to a new slot, phase and gear at a START (R399, R400). -/
def Block.moveAssoc (b : Block) (i slot phase gear base : Nat) : Block :=
  let a := b.assoc i
  let start := alignSfn base phase gear % 2 ^ 32
  let b := (b.modAssoc i fun a => { a with moveTo := some ⟨slot, phase, gear, start⟩ }).queueDown i 0x04 [slot, gear, start % 256]
  b.note 0x0C08 i (a.slot * 256 + a.phase * 16) (slot * 256 + phase * 16) start

/-- Moves that a placement makes, each at the START that comes first. -/
def Block.applyMoves (b : Block) (ps : List RadPlace) (except : Nat) : Block :=
  ps.foldl (fun b p =>
    let a := b.assoc p.idx
    let at_ := match a.moveTo with
      | none => (a.slot, a.phase)
      | some m => (m.slot, m.phase)
    if p.idx = except ∨ p.gear ≠ (match a.moveTo with
        | none => a.gear
        | some m => m.gear) ∨ at_ = (p.slot, p.phase) then b
    else b.moveAssoc p.idx p.slot p.phase p.gear b.startBase) b

/-- A place for entry `i` at a gear (R400): none when the sum would pass 24. -/
def Block.placeAssoc (b : Block) (i gear : Nat) : Option (RadBlk × Block) :=
  let others := (b.rad.entries.map fun e => if e.2.direct && e.1 != i then 8 / 2 ^ e.2.gear else 0).sum
  if 192 < others + 8 / 2 ^ gear then none
  else
    match findBlk (3 - gear) (Config.radioPick b.rad.sfn) gear (b.places.filter (·.idx != i)) [] with
    | none => none
    | some (x, ps) => some (x, b.applyMoves ps i)

/-- Supervision timeout at association, in ms (R402). -/
def Block.supMs (b : Block) (gear : Nat) : Nat := max (b.fld F.RAD_SUP_TMO) (2 * 2 ^ gear * 200 + 200)

/-- The tick, since power-up, of a superframe's origin. -/
def Block.monoOf (b : Block) (sfn : Nat) : Nat := b.now + (sfn + 2 ^ 32 - sfnAt b.tai) % 2 ^ 32 * sfTicks

/-- A granted request (R399): the slot allocated, or the relay named; the response queued. -/
def Block.grant (b : Block) (i clkPpm gear nch cap : Nat) (relay : Option Nat) (x : RadBlk) : Block :=
  let start := alignSfn (b.startBase + 8) x.phase gear % 2 ^ 32
  let sup := b.supMs gear
  let b := b.modAssoc i fun a =>
    { a with state := 1, relayed := relay.isSome, relay := relay.getD 0, evc := 0, slot := x.slot, phase := x.phase, gear := gear, clkPpm := clkPpm,
             sup := sup, start := start, heardAt := b.monoOf start, relayCap := cap % 2 == 1, nch := nch, moveTo := none, got := false }
  let short := shortOf i
  let b := b.queueDown i 0x02 [0, short / 256, short % 256, if relay.isSome then 0xFF else x.slot, gear, start % 256, sup / 100,
    b.fld F.RAD_STAT_MAP_VER]
  (b.assocChanged i).showLoad.saveAssoc

/-- The slot of an association is released: the entry is IDLE. -/
def Block.releaseAssoc (b : Block) (i : Nat) : Block :=
  (((b.modAssoc i fun a => { a with state := 0, relayed := false, relay := 0, slot := 31, phase := 0, moveTo := none }).dropDown i).assocChanged
    i).showLoad.saveAssoc

/-- An ASSOCIATED entry is dropped (R399): 0 supervision, 1 host, 2 sensor. -/
def Block.dropAssoc (b : Block) (i reason : Nat) : Block :=
  let b := (b.releaseAssoc i).modRad fun r => { r with dropAt := some b.now }
  let b := if reason = 1 then b.queueDown i 0x06 [1] else b
  b.note 0x0C02 i reason

/-- A spoke of an association whose gear changed commits a new version (R133, R118). -/
def Block.regear (b : Block) (i : Nat) : Block :=
  (b.ing.spokes.filter fun x => x.type == 3 && x.idcode == i && x.state != 5).foldl (fun b x =>
    let v := b.kindConfig x
    let same : Bool := match x.cur with
      | none => false
      | some c => c.sameAs v
    if same then b
    else if x.prev.isSome then b.modSpoke x.num fun x => { x with pendCfg := some v }
    else match b.commitVer x.num v with
      | .error e => if e = 0 then b.bump Reg.ING_CNT_BUDGET_REJ else b
      | .ok b => b) b

/-! ### Sending (R391, R394, R395, R408) -/

/-- The sub-bands that hold a channel. -/
def Block.bandsOf (b : Block) (ch : Nat) : List Nat :=
  (List.range 8).filter fun k =>
    b.flag (F.RAD_DUTY_EN.at (4 * k)) && decide (b.fld (F.RAD_DUTY_FIRST_CH.at (4 * k)) ≤ ch ∧ ch ≤ b.fld (F.RAD_DUTY_LAST_CH.at (4 * k)))

/-- Airtime of a sub-band in the last 3,600 s. -/
def Block.dutyUsed (b : Block) (k : Nat) : Nat :=
  (((tabGet b.rad.duty k).getD []).filter fun e => decide (b.now < e.1 + 3600 * tickS)).foldl (fun n e => n + e.2) 0

/-- A transmission of so many ticks would pass a sub-band's limit (R395). -/
def Block.dutyOver (b : Block) (air : Nat) : Bool :=
  b.etsi && (b.bandsOf b.rad.chan).any fun k => decide (b.fld (F.RAD_DUTY_LIMIT.at (4 * k)) * 36 * tickS < (b.dutyUsed k + air) * 100)

/-- A transmission is withheld under R395. -/
def Block.dutyHold (b : Block) : Block :=
  let b := (b.bump Reg.RAD_CNT_DUTY_HOLD).modRad fun r => { r with heldAt := some b.now }
  if b.within b.rad.dutyRec tickS then b
  else (b.modRad fun r => { r with dutyRec := some b.now }).note 0x0C06 1 b.rad.sfn b.rad.chan

/-- A frame leaves the radio: nothing in a superframe withheld, nothing over a sub-band's limit, nothing without a profile. -/
def Block.radSend (b : Block) (kind psdu : Nat) (body : List Nat) : Bool × Block :=
  let air := b.airtime psdu
  if !b.radLead || b.rad.held || b.flag F.RAD_STAT_NO_PROFILE then (false, b)
  else if b.dutyOver air then (false, b.dutyHold)
  else
    let keep := fun (l : List (Nat × Nat)) => (b.now, air) :: l.filter fun e => decide (b.now < e.1 + 3600 * tickS)
    let duty := (b.bandsOf b.rad.chan).foldl (fun t k => tabSet t k (keep ((tabGet t k).getD []))) b.rad.duty
    (true, (b.modRad fun r => { r with duty := if b.etsi then duty else r.duty }).emit 7 kind body)

/-- The key slot of a key index (R406). -/
def Block.radKeySlot (b : Block) (idx : Nat) : Nat := (b.rd Reg.RAD_KEYMAP).toNat / 256 ^ (idx - 1) % 256

/-- A key index has a key the radio can use (notes/assumptions/37.md). -/
def Block.radKey (k : Key) (b : Block) (idx : Nat) : Bool :=
  decide (1 ≤ idx ∧ idx ≤ 4 ∧ b.radKeySlot idx < 64) && k.usable (b.radKeySlot idx)

/-- The frame counter reaches 0xFFFF_0000 (R408). -/
def Block.fcCheck (b : Block) : Block :=
  if 0xFFFF0000 ≤ (b.rd Reg.RAD_FC_OUT).toNat && !b.flag F.RAD_STAT_FC_EXHAUST then
    (b.put F.RAD_STAT_FC_EXHAUST 1).note 0x0C07 (b.fld F.RAD_SEC_TX_IDX)
  else b

/-- A secured frame leaves the radio with the coordinator's counter (R406, R408). -/
def Block.radSecured (k : Key) (b : Block) (kind psdu : Nat) (body : List Nat) : Bool × Block :=
  if b.flag F.RAD_STAT_FC_EXHAUST || !b.radKey k (b.fld F.RAD_SEC_TX_IDX) then (false, b)
  else
    let fc := (b.rd Reg.RAD_FC_OUT).toNat
    let r := b.radSend kind psdu (b.fld F.RAD_SEC_TX_IDX :: fc :: body)
    if !r.1 then r
    else (true, ((r.2.wr Reg.RAD_FC_OUT (BitVec.ofNat 32 (fc + 1))).modRad fun r => { r with sinceFc := r.sinceFc + 1 }).fcCheck)

/-- The counter resumes at a value plus a lead (R408). -/
def Block.fcResume (b : Block) (from_ lead : Nat) : Block :=
  (((b.wr Reg.RAD_FC_OUT (BitVec.ofNat 32 (min 0xFFFFFFFF (from_ + lead)))).modRad fun r =>
    { r with savedFc := min 0xFFFFFFFF (from_ + lead), sinceFc := 0 }).put F.RAD_STAT_FC_EXHAUST 0).fcCheck

/-- The radio after a start (R402, R408): the table is restored, and supervision waits for the first beacon. -/
def Block.restoreRadio (b : Block) : Block :=
  ((b.modRad fun r => { r with entries := r.saved }).showLoad).fcResume b.rad.savedFc 4096

/-! ### SUPERFRAME_START (R387 to R397) -/

/-- What the superframe that ends leaves: misses, the ACK map and the use of its channel. -/
def Block.endSuperframe (b : Block) : Block :=
  let miss := fun (a : Assoc) =>
    let due := a.state == 2 && a.direct && sfnDue a.start b.rad.sfn && a.reports a.evc
    { a with cntMiss := if due && !a.got then min 0xFFFFFFFF (a.cntMiss + 1) else a.cntMiss, got := false }
  let use : RadUse := ⟨b.rad.sfn, b.rad.chan, b.rad.dueNow, b.rad.failNow⟩
  b.modRad fun r =>
    { r with entries := r.entries.map fun e => (e.1, miss e.2), ackmap := r.acknow, acknow := 0, rxSlot := none,
             used := ((if r.held then none else some r.chan) :: r.used).take 99, uses := if b.flag F.RAD_CTRL_EXC_EN then (use :: r.uses).take 1080 else r.uses }

/-- The channel of the superframe that ends is excised when R397's two conditions hold and the floor allows it. -/
def Block.judgeChannel (b : Block) : Block :=
  let ch := b.rad.chan
  let eff := b.mapAt Reg.RAD_MAP_EFF
  let n := max 1 (b.fld F.RAD_EXC_USES)
  let thr := b.fld F.RAD_EXC_THR
  let mine := (b.rad.uses.filter (·.chan == ch)).take n
  let from_ := (mine.getLast?.map (·.sfn)).getD b.rad.sfn
  let all := b.rad.uses.filter fun u => sfnDue from_ u.sfn
  let sum := fun (l : List RadUse) (f : RadUse → Nat) => (l.map f).sum
  let due := sum mine (·.due)
  let fail := sum mine (·.fail)
  let bad := decide (mine.length = n ∧ 8 ≤ due ∧ thr * due < fail * 100)
  let rest := decide (2 * 100 * sum all (·.fail) < thr * sum all (·.due))
  if b.flag F.RAD_CTRL_EXC_EN && b.radLead && b.rad.mapPend.isNone && eff.testBit ch && bad && rest && decide (b.mapFloor < (mapList eff).length) then
    let pct := fail * 100 / due
    let b := b.modRad fun r => { r with excised := tabSet r.excised ch (b.now, pct), uses := r.uses.filter (·.chan != ch) }
    let b := b.changeMap (eff ^^^ (1 <<< ch)) 0
    b.note 0x0C04 ch 1 pct (b.fld F.RAD_STAT_MAP_VER)
  else b

/-- Downlink frames sent four times and still unacknowledged are dropped (R404); a response that goes so ends its request
(R399). -/
def Block.expireDown (b : Block) : Block :=
  let dead := b.rad.downlink.filter fun d => decide (4 ≤ d.sends)
  let b := b.modRad fun r => { r with downlink := (r.downlink.filter fun d => decide (d.sends < 4)).map fun d => { d with sent := false } }
  dead.foldl (fun b d =>
    let b := b.bump Reg.RAD_CNT_DL_DROP
    if d.cmd = 0x02 ∧ (b.assoc d.entry).state = 1 then b.releaseAssoc d.entry else b) b

/-- Moves whose START has come (R400), and the event counters (R398). -/
def Block.advanceAssoc (b : Block) : Block :=
  let sfn := b.rad.sfn
  let go := fun (a : Assoc) =>
    let a := match a.moveTo with
      | none => a
      | some m => if sfnDue m.start sfn then { a with slot := m.slot, phase := m.phase, gear := m.gear, start := m.start, moveTo := none } else a
    if a.state ≠ 0 ∧ sfnDue a.start sfn then { a with evc := (sfn + 2 ^ 32 - a.start) % 2 ^ 32 % 65536 } else a
  let moved := b.rad.entries.filter fun e => match e.2.moveTo with
    | none => false
    | some m => sfnDue m.start sfn && m.gear != e.2.gear
  let b := (b.modRad fun r => { r with entries := r.entries.map fun e => (e.1, go e.2) }).showLoad
  moved.foldl (fun b e => b.regear e.1) b

/-- The superframe's channel under the map, a pending map taken at MAP_ACT (R393, R396). -/
def Block.hop (b : Block) : Block :=
  let b := match b.rad.mapPend with
    | none => b
    | some p => if sfnDue p.act b.rad.sfn then
        ((b.modRad fun r => { r with mapPend := none }).putMap Reg.RAD_MAP_EFF p.map).put F.RAD_STAT_MAP_PENDING 0 else b
  let ch := hopChan (b.mapAt Reg.RAD_MAP_EFF) b.rad.sfn
  let held := !b.etsi && decide (2 ≤ b.rad.used.countP (· == some ch))
  b.modRad fun r => { r with chan := ch, held := held }

/-- Coordination in a tandem at a superframe boundary (R377, R378): the former captain stops after the last beacon it owes, the new
one follows it. -/
def Block.passLead (b : Block) : Block :=
  let r := b.rad
  let owed := match r.lastTo with
    | none => false
    | some n => sfnDue r.sfn n
  let from_ := match r.handFrom with
    | none => false
    | some n => sfnDue n r.sfn
  if !b.tdm.enNow then b
  else if r.lead && !b.claims && !owed then
    (b.modRad fun r => { r with lead := false, lastTo := none, missed := 0, heard := true }).note 0x0B08 0 r.sfn
  else if !r.lead && b.claims && from_ && b.tdm.hbSeen then
    let b := match r.capFc with
      | none => b
      | some fc => b.fcResume fc 65536
    (b.modRad fun r => { r with lead := true, handFrom := none, lastTo := none }).note 0x0B08 1 r.sfn
  else b

/-- The beacon (R389), whose payload is 17 bytes and 2 for each pending address, in a PSDU 18 bytes longer (R395). -/
def Block.sendBeacon (k : Key) (b : Block) : Block :=
  let r := b.rad
  let pend := (r.downlink.map fun d => shortOf d.entry).eraseDups.take 8
  let pending := r.mapPend.isSome
  let flags := b.devClass * 32 + pending.toNat * 16 + b.tdm.enNow.toNat * 8 + 1
  let ns := r.origin % tickS * 8 + (max 4 (b.fld F.RAD_PHY_PRE_LEN) + 2) * 8 * 1000000 / b.radRate
  let act := match r.mapPend with
    | none => 0
    | some p => p.act % 256
  let x := b.radSecured k Emit.beacon (35 + 2 * pend.length)
    ([flags, r.sfn, r.origin / tickS % 65536, ns, b.fld F.RAD_STAT_MAP_VER, act, r.ackmap, pend.length] ++ pend)
  if x.1 then (x.2.bump Reg.RAD_CNT_BEACON).modRad fun r => { r with beaconed := true }
  else x.2.modRad fun r => { r with beaconed := false }

/-- The RADIO message of a superframe (R374, R376): SFN, map, counter, then each association that changed. -/
def Block.radioMessage (b : Block) : Block :=
  let one := fun i =>
    let a := b.assoc i
    [i, a.evc, a.mapVer, a.lastFc.getD 0, if a.relayed then 0xFF else a.slot, a.phase, a.gear]
  let body := [10, b.rad.sfn, b.mapAt Reg.RAD_MAP_EFF, (b.rd Reg.RAD_FC_OUT).toNat] ++ b.rad.changed.flatMap one
  (if b.tdm.enNow then b.tdmSend body else b).modRad fun r => { r with changed := [] }

/-- The first superframe of a running radio: supervision restarts (R402). -/
def Block.firstSuperframe (b : Block) : Block :=
  if b.rad.started then b
  else b.modRad fun r => { r with started := true, used := [], uses := [], heard := true, entries := r.entries.map fun e => (e.1, { e.2 with heardAt := max e.2.heardAt b.now }) }

/-- A superframe begins on the coordinator. -/
def Block.leadSuperframe (k : Key) (busy : Bool) (b : Block) : Block :=
  let b := b.put F.RAD_STAT_STATE 2
  let b := if busy then b.bump Reg.RAD_CNT_RX_ABORT else b
  if b.rad.held then
    ((b.bump Reg.RAD_CNT_DWELL_HOLD).modRad fun r => { r with heldAt := some b.now, beaconed := false }).note 0x0C06 0 b.rad.sfn b.rad.chan
  else b.sendBeacon k

/-- A superframe begins on a unit that listens (R374, R378). -/
def Block.listenSuperframe (b : Block) : Block :=
  (b.put F.RAD_STAT_STATE 3).modRad fun r => { r with beaconed := false, held := false, missed := if r.heard then 0 else r.missed + 1, heard := false }

/-- What the end of a superframe, or the first one, brings before the next begins (R397, R402, R404). -/
def Block.settleSuperframe (b : Block) : Block := (if b.rad.started then b.endSuperframe.judgeChannel else b.firstSuperframe).expireDown

/-- Superframe `n` since TAI 0 begins: SFN, origin, device class; then moves, hop and the lead of a tandem. -/
def Block.enterSuperframe (b : Block) (n : Nat) : Block :=
  let b := b.modRad fun r => { r with sfn := n % 2 ^ 32, origin := n * sfTicks, classes := (b.devClass :: r.classes).take 9 }
  (b.wr Reg.RAD_SFN (BitVec.ofNat 32 n)).advanceAssoc.hop.passLead

/-- Receptions due in the superframe: data slots owned by an ASSOCIATED entry. -/
def Block.dueSlots (b : Block) : Nat := (List.range 24).countP fun j => ((b.owner j).map fun i => (b.assoc i).state == 2).getD false

/-- SUPERFRAME_START (R387, R388): at a multiple of 200 ms, once the time base has left INIT. -/
def superframeStart (busy : Bool) (k : Key) (b : Block) : Block :=
  let n := b.tai / sfTicks
  if !b.radOn || b.timState == tmInit || (b.rad.started && b.rad.origin == n * sfTicks) then b
  else
    let b1 := b.settleSuperframe.enterSuperframe n
    let b2 := b1.modRad fun r => { r with dueNow := b1.dueSlots, failNow := b1.dueSlots }
    if b2.radLead then (b2.leadSuperframe k busy).radioMessage else b2.listenSuperframe

/-! ### Receiving (R386, R390, R391, R405 to R410) -/

/-- A reception still in progress when a window opens is an FCS failure of the slot it began in (R390). -/
def Block.cutReception (b : Block) : Block :=
  let b1 := b.bump Reg.RAD_CNT_FCS
  match b.rad.rxSlot.bind fun j => if 2 ≤ j ∧ j < 26 then b.owner (j - 2) else none with
  | none => b1
  | some i => b1.modAssoc i fun a => { a with cntFcs := min 0xFFFFFFFF (a.cntFcs + 1) }

/-- SLOT_WINDOW_OPEN (R390): slots 0 and 1 A0 and A1, 2 to 25 D0 to D23, 26 to 29 C0 to C3. -/
def slotWindowOpen (slot : Nat) (busy : Bool) (b : Block) : Block :=
  if !b.radOn || !b.rad.started then b
  else (if busy then b.cutReception else b).modRad fun r => { r with rxSlot := some slot }

/-- An acknowledgement (R391, R410): 0.5 ms after the frame, unless it would end later than 5.5 ms after the slot start. -/
def Block.radAck (b : Block) (f : RadFrame) (dest : Nat) : Block :=
  if !f.ar || !b.radLead then b
  else if 5500 * tickUs < (f.endUs + 500) * tickUs + b.airtime 10 then b.bump Reg.RAD_CNT_ACK_SKIP
  else
    let pend := b.rad.downlink.any fun d => shortOf d.entry == dest
    (b.radSend Emit.radio 10 [0, pend.toNat, dest, s32 f.early]).2

/-- A frame's PHY and window checks (R386, R390): true when it passes. `owner` is the owner of its data slot. -/
def Block.phyCheck (b : Block) (f : RadFrame) (owner : Option Nat) : Bool × Block :=
  let count := fun (b : Block) (g : Assoc → Assoc) => match owner with
    | none => b
    | some i => b.modAssoc i g
  if 500 < f.early.natAbs then
    (false, (count (b.bump Reg.RAD_CNT_DRIFT_REJ) fun a => { a with cntDrift := min 0xFFFFFFFF (a.cntDrift + 1) }).modRad fun r =>
      { r with driftAt := some b.now })
  else if f.phrRej then (false, b.bump Reg.RAD_CNT_PHR_REJ)
  else if f.psdu < 5 then (false, b.bump Reg.RAD_CNT_SHORT)
  else if !f.fcsOk then (false, count (b.bump Reg.RAD_CNT_FCS) fun a => { a with cntFcs := min 0xFFFFFFFF (a.cntFcs + 1) })
  else (true, b)

/-- The address checks every frame meets (R409): PAN and destination. -/
def Block.addrOk (b : Block) (f : RadFrame) (broadcast : Bool) : Bool :=
  f.pan == b.fld F.RAD_ID_PAN_ID && (f.dest == 0 || f.dest == 1 || (f.dest == 2 && broadcast))

/-- The sender of a frame (R409): the entry of its short address, or, for an association request, the enabled entry of its
EUI-64. -/
def Block.senderOf (b : Block) (f : RadFrame) (join : Bool) : Option Nat :=
  match f.srcShort with
  | some s => if join then none else b.ofShort s
  | none => if join then b.ofEui f.srcEui else none

/-- The security and frame-counter checks (R406, R407): true when the frame passes. -/
def Block.secCheck (k : Key) (b : Block) (f : RadFrame) (i : Nat) : Bool × Block :=
  if f.keyIdx < 1 ∨ 4 < f.keyIdx ∨ !(b.fld F.RAD_SEC_RX_EN).testBit (f.keyIdx - 1) ∨ !b.radKey k f.keyIdx ∨ !f.micOk then
    (false, b.bump Reg.RAD_CNT_SEC_FAIL)
  else
    let last := (b.assoc i).lastFc
    let stale : Bool := match last with
      | none => false
      | some n => decide (f.fc ≤ n)
    if stale then (false, (b.bump Reg.RAD_CNT_REPLAY).modAssoc i fun a => { a with cntReplay := min 0xFFFFFFFF (a.cntReplay + 1) })
    else
      (true, (b.modAssoc i fun a => { a with lastFc := some f.fc, timeCorr := f.early }).assocChanged i)

/-- A frame that passed every check is counted (R416, R417). -/
def Block.countRx (b : Block) (i : Nat) : Block :=
  (b.bump Reg.RAD_CNT_RX).modAssoc i fun a => { a with cntRx := min 0xFFFFFFFF (a.cntRx + 1) }

/-- A valid frame from an association, one that passed R405 to R409 (R399): counted; PENDING becomes ASSOCIATED at or after START. -/
def Block.heardFrom (b : Block) (i : Nat) : Block :=
  let b := b.countRx i
  let a := b.assoc i
  if a.state = 2 then b.modAssoc i fun a => { a with heardAt := b.now }
  else if a.state = 1 ∧ sfnDue a.start b.rad.sfn then
    let b := (b.modAssoc i fun a => { a with state := 2, heardAt := b.now }).saveAssoc
    (b.note 0x0C01 i (shortOf i) ((if a.relayed then 0xFF else a.slot) * 256 + a.gear)).regear i
  else b

/-- The frame that a tandem's listening unit received is forwarded to the captain (R375). -/
def Block.forwardRadio (b : Block) (slot : Nat) (f : RadFrame) (body : List Nat) : Block :=
  (b.bump Reg.TDM_CNT_RADIO_FWD).tdmSend ([12, slot, f.srcShort.getD 0xFFFF, f.srcEui, f.keyIdx, f.fc, f.arrival] ++ body)

/-- A received frame through every check, acknowledged between the address and the security checks (R386, R390, R405 to R410). A
forwarded frame meets the address, security and counter checks and is never acknowledged (R375). Answers the sender. -/
def Block.radReceive (k : Key) (b : Block) (f : RadFrame) (join fwd : Bool) (owner : Option Nat) (ok : Nat → Bool) : Option Nat × Block :=
  let p := if fwd then (f.fcsOk, b) else b.phyCheck f owner
  if !p.1 then (none, p.2)
  else
    let b := p.2
    match (if b.addrOk f false then b.senderOf f join else none) with
    | none => (none, b.bump Reg.RAD_CNT_ADDR_REJ)
    | some i =>
      if !ok i then (none, b.bump Reg.RAD_CNT_ADDR_REJ)
      else
        let b := if fwd then b else b.radAck f (shortOf i)
        let b := if owner.isNone || fwd || (b.assoc i).state != 2 then b else b.modRad fun r => { r with failNow := r.failNow - 1 }
        let c := b.secCheck k f i
        (if c.1 then some i else none, c.2)

/-! ### Bundles (R405) -/

/-- A channel word of a bundle as an entry's value field (R159). -/
def bundleValue (f0 kind : Nat) (scale w : W32) : Nat :=
  let micro := Q.norm w.toInt 1000000
  if kind ≤ 1 then
    let mag := match singleQ scale with
      | none => nanW
      | some s => toSingle ((Q.ofNat (w.toNat / 65536)).mul s)
    mkValue kind mag (w.toNat % 65536 * 16)
  else if kind = 2 then (toSingle ((Q.ofNat f0).add micro)).toNat
  else if kind = 3 then (toSingle micro).toNat
  else if kind = 5 then w.toNat % 65536
  else w.toNat

/-- The age in superframes of the report a bundle names: a reporting superframe no more than 8 old. -/
def Assoc.bundleAge (a : Assoc) (evc : Nat) : Option Nat :=
  (List.range 9).find? fun n => decide (n ≤ a.evc ∧ (a.evc - n) % 256 = evc) && a.reports (a.evc - n)

/-- A bundle of association `i` becomes a report of its radio spokes where it names a report R405 takes; its frame is then valid, and
the ACK map takes the bits `acks` (R133, R389, R399, R405). -/
def Block.takeBundle (b : Block) (acks i : Nat) (f : RadFrame) (x : Bundle) : Block :=
  match (b.assoc i).bundleAge x.evc with
  | none => b.modAssoc i fun a => { a with cntFcs := min 0xFFFFFFFF (a.cntFcs + 1) }
  | some age =>
    let t := b.rad.origin - age * sfTicks
    let nch := min (x.flags / 16 % 16 + 1) x.words.length
    let flags := (if x.flags.testBit 3 then flSuspect else 0) + (if x.flags.testBit 2 then flSrcErr else 0)
      + (if x.flags.testBit 1 then flInvalid else 0) + (if x.flags.testBit 0 then flTest else 0)
    let tq := if x.flags.testBit 3 then 4 else max 2 (b.rad.classes.getD age b.devClass)
    let lat : Int := ((f.arrival : Int) - (t : Int)) * 8
    let b := ((b.modRad fun r => { r with acknow := r.acknow ||| acks }).heardFrom i).modAssoc i fun a => { a with got := true }
    (b.ing.spokes.filter fun s => s.type == 3 && s.idcode == i).foldl (fun b s =>
      match s.verAt t with
      | none => b.takeReport s.num true ⟨t, f.arrival, lat, flags, tq, 0, [], true⟩
      | some v =>
        let vals := (x.words.take nch).zipIdx.map fun w => mkEntry (flPresent ||| flags) tq convDirect
          (bundleValue b.f0 (v.kinds.getD w.2 5) (v.scales.getD w.2 0) w.1)
        b.takeReport s.num true ⟨t, f.arrival, lat, flags, tq, 0, vals.take v.kinds.length, true⟩) b

/-- A bundle in data slot `j`: through the checks, then into its rows. -/
def Block.bundleIn (k : Key) (b : Block) (j : Nat) (f : RadFrame) (x : Bundle) (fwd : Bool) : Block :=
  let owner := b.owner j
  match b.radReceive k f false fwd owner (fun i => owner == some i) with
  | (none, b) => b
  | (some i, b) => b.takeBundle (1 <<< j) i f x

/-- BUNDLE_RECEIVE (R405): also on a listening unit, whose values go to the captain as relays (R375). -/
def bundleReceive (slot : Nat) (f : RadFrame) (x : Bundle) (k : Key) (b : Block) : Block :=
  if !b.radOn || !b.rad.started || 24 ≤ slot then b else b.bundleIn k slot f x false

/-! ### Requests and commands of sensors (R399, R401, R403) -/

/-- A valid association request of an IDLE entry (R399, R400). -/
def Block.joinIdle (b : Block) (i clkPpm gear nch cap : Nat) (relay : Option Nat) : Block :=
  let refuse := fun (b : Block) (status : Nat) => b.queueDown i 0x02 [status, 0, 0, 0, 0, 0, 0, 0]
  let a := b.assoc i
  let eui := a.eui
  if clkPpm < 1 ∨ 100 < clkPpm ∨ 3 < gear ∨ nch < 1 ∨ 16 < nch then refuse b 3
  else if !b.flag F.RAD_CTRL_ASSOC_EN then (refuse b 1).note 0x0C03 (eui >>> 32) eui 1
  else
    match relay with
    | some _ => b.grant i clkPpm gear nch cap relay ⟨31, 0, gear⟩
    | none => match b.placeAssoc i gear with
      | none => (refuse b 1).note 0x0C03 (eui >>> 32) eui 0
      | some (x, b) => b.grant i clkPpm gear nch cap none x

/-- A valid association request (R399): of an ASSOCIATED entry its slot is released first. -/
def Block.join (b : Block) (i clkPpm gear nch cap : Nat) (relay : Option Nat) : Block :=
  let st := (b.assoc i).state
  if st = 1 then b
  else (if st = 2 then b.releaseAssoc i else b).joinIdle i clkPpm gear nch cap relay

/-- An association request through the checks; one of an EUI-64 that no enabled entry holds is counted. -/
def Block.joinIn (k : Key) (b : Block) (f : RadFrame) (clkPpm gear nch cap : Nat) (fwd : Bool) : Block :=
  let b := if f.srcShort.isNone && (b.ofEui f.srcEui).isNone && f.fcsOk then b.bump Reg.RAD_CNT_ASSOC_REJ else b
  match b.radReceive k f true fwd none (fun _ => true) with
  | (none, b) => b
  | (some i, b) => (b.countRx i).join i clkPpm gear nch cap none

/-- ASSOC_REQ (R399, R403): in A0 or A1; a listening unit forwards it (R375). The firmware part waits while the cores are in reset
(R413). -/
def assocReq (slot : Nat) (f : RadFrame) (clkPpm gear nch cap : Nat) (k : Key) (b : Block) : Block :=
  if !b.radOn || !b.rad.started || !b.top.started || 2 ≤ slot then b
  else if !b.radLead then (if f.fcsOk then b.forwardRadio slot f [1, clkPpm, gear, nch, cap] else b)
  else b.joinIn k f clkPpm gear nch cap false

/-- A command from a short address through the checks; then `act` on its entry. -/
def Block.commandIn (k : Key) (b : Block) (f : RadFrame) (fwd : Bool) (act : Nat → Block → Block) : Block :=
  match b.radReceive k f false fwd none (fun _ => true) with
  | (none, b) => b
  | (some i, b) => act i (b.heardFrom i)

/-- A sensor leaves (R399). -/
def Block.sensorLeaves (i : Nat) (b : Block) : Block := if (b.assoc i).state = 2 then b.dropAssoc i 2 else b

/-- POLL (R403): in C2 or C3. Its acknowledgement and the next beacons carry what is queued. -/
def poll (slot : Nat) (f : RadFrame) (k : Key) (b : Block) : Block :=
  if !b.radOn || !b.rad.started || !(slot == 2 || slot == 3) then b
  else if !b.radLead then (if f.fcsOk then b.forwardRadio (26 + slot) f [5] else b)
  else b.commandIn k f false fun _ b => b

/-- DISASSOC (R399): in C2 or C3. -/
def disassoc (slot : Nat) (f : RadFrame) (reason : Nat) (k : Key) (b : Block) : Block :=
  if !b.radOn || !b.rad.started || !(slot == 2 || slot == 3) then b
  else if !b.radLead then (if f.fcsOk then b.forwardRadio (26 + slot) f [6, reason] else b)
  else b.commandIn k f false Block.sensorLeaves

/-- An inner frame of a RELAY command (R401): address, security and counter checks, then what it carries. -/
def Block.innerFrame (k : Key) (relay : Nat) (b : Block) (x : RadFrame × RadBody) : Block :=
  let f := x.1
  let mine := fun (b : Block) (i : Nat) => (b.assoc i).relayed && (b.assoc i).relay == relay
  let known := fun (act : Nat → Block → Block) =>
    match b.radReceive k f false true none (mine b) with
    | (none, b) => b
    | (some i, b) => act i b
  match x.2 with
  | .bundle y => known fun i b => b.takeBundle 0 i f y
  | .poll => known fun i b => b.heardFrom i
  | .disassoc _ => known fun i b => Block.sensorLeaves i (b.heardFrom i)
  | .other => known fun i b => b.heardFrom i
  | .assocReq clkPpm gear nch cap =>
    let b := if f.srcShort.isNone && (b.ofEui f.srcEui).isNone then b.bump Reg.RAD_CNT_ASSOC_REJ else b
    match b.radReceive k f true true none (fun _ => true) with
    | (none, b) => b
    | (some i, b) => (b.countRx i).join i clkPpm gear nch cap (some relay)

/-- RELAY (R401): in the relay's data slot. -/
def relayReceive (slot : Nat) (f : RadFrame) (inner : List (RadFrame × RadBody)) (k : Key) (b : Block) : Block :=
  if !b.radOn || !b.rad.started || 24 ≤ slot then b
  else
    let owner := b.owner slot
    match b.radReceive k f false false owner (fun i => owner == some i) with
    | (none, b) => b
    | (some i, b) =>
      let b := (b.modRad fun r => { r with acknow := r.acknow ||| 1 <<< slot }).heardFrom i
      if !b.flag F.RAD_CTRL_RELAY_EN || !(b.assoc i).relayCap || !b.top.started then b
      else inner.foldl (fun b x => b.innerFrame k i x) b

/-- An acknowledged downlink frame (R404): a response brings the map version it carried. -/
def Block.acked (b : Block) (seqNo : Nat) : Block :=
  match b.rad.downlink.find? fun d => d.sent && d.seqNo == seqNo with
  | none => b
  | some d =>
    let b := b.modRad fun r => { r with downlink := r.downlink.filter fun x => x.seqNo != seqNo }
    if d.cmd = 0x02 ∧ d.body.head? = some 0 then
      (b.modAssoc d.entry fun a => { a with mapVer := d.body.getLastD 0 }).assocChanged d.entry
    else b

/-- ENH_ACK_RECEIVE (R404): in C0 or C1; a listening unit forwards it (R375). -/
def enhAckReceive (seqNo : Nat) (b : Block) : Block :=
  if !b.radOn || !b.rad.started then b
  else if !b.radLead then (b.bump Reg.TDM_CNT_RADIO_FWD).tdmSend [12, 26, seqNo]
  else b.acked seqNo

/-- BEACON_RECEIVE (R374): the captain's beacon on a listening unit. -/
def beaconReceive (x : Beacon) (b : Block) : Block :=
  if !b.radOn || b.radLead then b
  else
    let b := b.modRad fun r => { r with heard := true, missed := 0, capSfn := x.sfn }
    (b.put F.RAD_STAT_MAP_VER x.mapVer).putFlag F.RAD_STAT_MAP_PENDING x.mapPending

/-- RADIO_FORWARD_RECEIVE (R375): slots as in SLOT_WINDOW_OPEN. -/
def radioForwardReceive (slot : Nat) (f : RadFrame) (body : RadBody) (k : Key) (b : Block) : Block :=
  if !b.radOn || !b.rad.started || !b.tdm.enNow || !b.radLead then b
  else match body with
    | .bundle x => if 2 ≤ slot ∧ slot < 26 then b.bundleIn k (slot - 2) f x true else b
    | .assocReq clkPpm gear nch cap => if b.top.started then b.joinIn k f clkPpm gear nch cap true else b
    | .poll => b.commandIn k f true fun _ b => b
    | .disassoc _ => b.commandIn k f true Block.sensorLeaves
    | .other => b.commandIn k f true fun _ b => b

/-- Associations as the captain sends them (R369, R376): a slot of 0xFF is a relayed association's, one of 31 no association's. -/
def Block.takeEntries (b : Block) (sfn : Nat) (l : List RadioEntry) : Block :=
  (l.foldl (fun b e => b.modAssoc e.idx fun a =>
    { a with state := if e.slot = 31 then 0 else 2, relayed := e.slot == 0xFF, evc := e.evc, mapVer := e.mapVer, lastFc := some e.fc,
             slot := if e.slot = 0xFF then 31 else e.slot, phase := e.phase, gear := e.gear % 4, start := (sfn + 2 ^ 32 - e.evc) % 2 ^ 32,
             moveTo := none, heardAt := b.now }) b).showLoad

/-- RADIO_MESSAGE_RECEIVE (R376): the stoker's copy of the table follows the captain's. -/
def radioMessageReceive (m : RadioMsg) (b : Block) : Block :=
  if b.top.variant = .n0 ∨ !b.tdm.enNow ∨ b.claims ∨ !b.laneUp then b
  else
    let b := b.modRad fun r => { r with capFc := some m.coordFc, capSfn := m.sfn }
    let b := if b.rad.lead then b else b.putMap Reg.RAD_MAP_EFF m.map
    b.takeEntries m.sfn m.entries

/-! ### Downlink and supervision (R399, R404) -/

/-- PSDU of a command of `n` bytes to a short or to the extended address. -/
def commandPsdu (extended : Bool) (n : Nat) : Nat := (if extended then 26 else 20) + n

/-- DOWNLINK_SLOT (R396, R404): C0 and C1. While a map is pending, C1 carries the MAP command. -/
def downlinkSlot (c : Nat) (busy : Bool) (k : Key) (b : Block) : Block :=
  if !b.radOn || !b.rad.started || !b.radLead || !b.top.started || 2 ≤ c then b
  else
    let abort := fun (b : Block) => if busy then b.bump Reg.RAD_CNT_RX_ABORT else b
    match (if c = 1 then b.rad.mapPend else none) with
    | some p =>
      let x := b.radSecured k Emit.radio (commandPsdu false 12) [0x03, 0xFFFF, b.fld F.RAD_STAT_MAP_VER, p.act % 256, p.map]
      if x.1 then abort x.2 else x.2
    | none =>
      match b.rad.downlink.find? fun d => !d.sent && decide (d.sends < 4) with
      | none => b
      | some d =>
        let x := b.radSecured k Emit.radio (commandPsdu (d.cmd == 0x02) (1 + d.body.length)) ([d.cmd, shortOf d.entry, d.seqNo] ++ d.body)
        if !x.1 then x.2
        else (abort x.2).modRad fun r => { r with downlink := r.downlink.map fun y =>
          if y.seqNo = d.seqNo then { y with sent := true, sends := y.sends + 1 } else y }

/-- SUPERVISION_TIMEOUT (R399). -/
def supervisionTimeout (i : Nat) (b : Block) : Block :=
  let a := b.assoc i
  if !b.radOn || !b.rad.started || !b.radLead || a.state == 0 || !b.since a.heardAt (a.sup * tickMs) then b
  else if a.state = 2 then b.dropAssoc i 0
  else b.releaseAssoc i

/-- CHANNEL_REINSTATE (R397): after RAD_EXC.HOLD. -/
def channelReinstate (ch : Nat) (b : Block) : Block :=
  match tabGet b.rad.excised ch with
  | none => b
  | some (t, pct) =>
    if !b.radOn || !b.radLead || b.rad.mapPend.isSome || !b.since t (b.fld F.RAD_EXC_HOLD * 10 * tickS) then b
    else
      let eff := b.mapAt Reg.RAD_MAP_EFF
      let base := b.mapAt Reg.RAD_MAP
      let b := b.modRad fun r => { r with excised := tabDel r.excised ch }
      if !base.testBit ch || eff.testBit ch then b
      else
        let b := b.changeMap (eff ||| 1 <<< ch) 0
        b.note 0x0C04 ch 0 pct (b.fld F.RAD_STAT_MAP_VER)

/-- FRAME_COUNTER_SAVE (R407): every 60 s. -/
def frameCounterSave (b : Block) : Block := if b.radOn && b.since b.rad.savedAt (60 * tickS) then b.saveAssoc else b

/-- COORD_FC_SAVE (R408): every 4,096 frames. -/
def coordFcSave (b : Block) : Block :=
  if b.rad.sinceFc < 4096 then b
  else b.modRad fun r => { r with savedFc := (b.rd Reg.RAD_FC_OUT).toNat, sinceFc := 0 }

/-- The coordinator's counter resumes where the captain's was last known, plus 65,536 (R378, R408). -/
def Block.resumeCap (b : Block) : Block :=
  match b.rad.capFc with
  | none => b
  | some fc => b.fcResume fc 65536

/-- BEACONING_START (R378). -/
def beaconingStart (b : Block) : Block :=
  if !b.radOn || !b.tdm.enNow || !b.claims || b.rad.lead || b.rad.missed < 3 || b.partnerClaims then b
  else (b.resumeCap.modRad fun r => { r with lead := true, handFrom := none, lastTo := none }).note 0x0B08 1 ((b.resumeCap.rad.sfn + 1) % 2 ^ 32)

/-! ### Evidence (R414) -/

/-- The map is at its floor (item 3). -/
def Block.mapAtMin (b : Block) : Bool := decide ((mapList (b.mapAt Reg.RAD_MAP_EFF)).length ≤ b.mapFloor)

def Block.radItems (b : Block) : Nat :=
  let r := b.rad
  b.rad.beaconed.toNat + 2 * (b.within r.heldAt tickS).toNat + 4 * (b.within r.dropAt tickS).toNat + 8 * b.mapAtMin.toNat
  + 16 * b.fld F.RAD_STAT_FC_EXHAUST + 32 * (b.within r.driftAt tickS).toNat + 64 * (b.fld F.RAD_LOAD_LOAD8 == 192).toNat

/-- RAD_EVIDENCE_POST (R414): none on a device without a radio. -/
def radEvidencePost (slot : Nat) (b : Block) : Block :=
  if b.top.variant = .n0 then b
  else
    let items := b.radItems
    let deg := items.testBit 1 || items.testBit 3
    let b := b.postEvid (mkEvid 8 b.radOn deg false false b.rad.rseq slot b.devClass items)
    b.modRad fun r => { r with rseq := (r.rseq + 1) % 65536 }

/-! ### Commands of hosts (R396, R399, R415, R416, R433) -/

/-- The association window's words (R416). -/
def Block.assocWords (b : Block) (i : Nat) : List W32 :=
  let a := b.assoc i
  let short := if a.state = 0 then 0 else shortOf i
  [a.en.toNat * 2 ^ 31 + a.relayed.toNat * 2 ^ 30 + a.state * 2 ^ 28 + a.relay % 256 * 2 ^ 16 + short, a.eui >>> 32, a.eui,
   a.evc * 2 ^ 16 + a.slot * 2 ^ 8 + a.phase * 2 ^ 4 + a.gear, a.clkPpm * 2 ^ 16 + a.sup, a.lastFc.getD 0,
   a.mapVer * 2 ^ 16 + s32 a.timeCorr % 65536, a.cntRx, a.cntFcs, a.cntDrift, a.cntReplay, a.cntMiss].map (BitVec.ofNat 32)

/-- An entry is set (R398, R399, R400, R416). An association whose entry is turned off or given another EUI-64 is dropped
(notes/assumptions/38.md). -/
def Block.setAssoc (b : Block) (i : Nat) (en : Bool) (eui gear : Nat) : WRes :=
  if b.top.variant = .n0 then ⟨yResource, b⟩
  else
    let a := b.assoc i
    let other := eui != a.eui
    let b := if a.state = 2 && (other || !en) then b.dropAssoc i 1 else if a.state = 1 && (other || !en) then b.releaseAssoc i else b
    let b := b.modAssoc i fun a => { a with en := en, eui := eui, lastFc := if other then none else a.lastFc }
    let a := b.assoc i
    let now := match a.moveTo with
      | none => a.gear
      | some m => m.gear
    let r : WRes :=
      if gear = now then ⟨yOk, b⟩
      else if !a.direct then ⟨yOk, (b.modAssoc i fun a => { a with gear := gear }).regear i⟩
      else match b.placeAssoc i gear with
        | none => ⟨yResource, b⟩
        | some (x, b) => ⟨yOk, b.moveAssoc i x.slot x.phase gear (b.startBase + 8)⟩
    ⟨r.status, r.b.saveAssoc⟩

/-- A host drops an association (R399). -/
def Block.hostDrop (b : Block) (i : Nat) : WRes :=
  if b.top.variant = .n0 then ⟨yResource, b⟩
  else ⟨yOk, if (b.assoc i).state = 2 then b.dropAssoc i 1 else b⟩

/-- ASSOC_LIST (R433). -/
def assocList (h : Hdr) (first count : Nat) (k : Key) (b : Block) : Block :=
  b.ycp k h 0x0901 ⟨some roleObs, false⟩ fun b =>
    if b.top.variant = .n0 then yErr b yResource
    else if count < 1 ∨ 256 < first + count then yErr b yBadParam
    else ⟨yOk, wordBytes ((List.range count).flatMap fun n => b.assocWords (first + n)), b⟩

/-- ASSOC_SET (R416, R433). -/
def assocSet (h : Hdr) (i : Nat) (en : Bool) (eui gear : Nat) (k : Key) (b : Block) : Block :=
  b.ycp k h 0x0902 ⟨some roleEng, true⟩ fun b => (b.setAssoc (i % 256) en (eui % 2 ^ 64) (gear % 4)).toY []

/-- ASSOC_DROP (R399, R433). -/
def assocDrop (h : Hdr) (i : Nat) (k : Key) (b : Block) : Block :=
  b.ycp k h 0x0903 ⟨some roleEng, true⟩ fun b => (b.hostDrop (i % 256)).toY []

/-- A host's map (R396). -/
def Block.setMap (b : Block) (map : Nat) : Block :=
  let b := (b.putMap Reg.RAD_MAP map).put F.RAD_STAT_ENVELOPE_HOLD 0
  b.changeMap (b.effOf map) 1

/-- MAP_ACT of the pending map; the present SFN where none is. -/
def Block.mapActNow (b : Block) : Nat := (b.rad.mapPend.map (·.act)).getD b.rad.sfn

/-- CHANMAP_SET (R396, R433): a map below the floor of the envelope is denied under R45, one below another floor or outside the plan
is a bad parameter. -/
def chanmapSet (h : Hdr) (map : Nat) (k : Key) (b : Block) : Block :=
  b.ycp k h 0x0904 ⟨some roleEng, true⟩ fun b =>
    let n := (mapList map).length
    if b.top.variant = .n0 then yErr b yResource
    else if map &&& b.planMap ≠ map then yErr b yBadParam
    else if ((b.envelope 0x0701).map fun e => decide (n < e.min)).getD false then
      yErr ((b.put F.RAD_STAT_ENVELOPE_HOLD 1).denyEnvelope 0x0701 n h.session (mapList (b.mapAt Reg.RAD_MAP)).length) yDenied
    else if n < b.mapFloor then yErr b yBadParam
    else
      let b1 := b.setMap map
      ⟨yOk, beBytes 1 (b1.fld F.RAD_STAT_MAP_VER) ++ beBytes 4 b1.mapActNow, b1⟩

/-- ASSOC_WINDOW_LOAD (R416): into the accessor's own window. -/
def assocWindowLoad (acc i : Nat) (b : Block) : Block :=
  (b.aput acc F.RAD_AS_SEL_IDX i).awrs acc Reg.RAD_AS_W (b.assocWords (i % 256))

/-- ASSOC_WINDOW_COMMIT (R416, R570). -/
def assocWindowCommitW (acc i : Nat) (k : Key) (b : Block) : WRes :=
  (b.aput acc F.RAD_AS_SEL_IDX i).winAct k acc F.RAD_AS_SEL_ERR fun b =>
    let w := b.ards acc Reg.RAD_AS_W 4
    b.setAssoc (i % 256) ((w.getD 0 0).getLsbD 31) ((w.getD 1 0).toNat * 2 ^ 32 + (w.getD 2 0).toNat) (bits (w.getD 3 0) 1 0)

/-- ASSOC_WINDOW_DROP (R416, R570). -/
def assocWindowDropW (acc i : Nat) (k : Key) (b : Block) : WRes :=
  (b.aput acc F.RAD_AS_SEL_IDX i).winAct k acc F.RAD_AS_SEL_ERR fun b => b.hostDrop (i % 256)

/-- RADIO_ENABLE (R415): a write of RAD_CTRL; EN is refused while PAN_ID is 0xFFFF. -/
def radioEnableW (acc : Nat) (value : W32) (k : Key) (b : Block) : WRes :=
  let st := b.mayWrite k acc roleEng true
  if st ≠ yOk then wErr b acc st
  else if b.top.variant = .n0 then ⟨yOk, b⟩
  else if value.getLsbD 0 && b.fld F.RAD_ID_PAN_ID == 0xFFFF then ⟨yBadParam, b⟩
  else
    let was := b.flag F.RAD_CTRL_EN
    let b := b.wr Reg.RAD_CTRL (value &&& 0x39)
    if value.getLsbD 0 == was then ⟨yOk, b⟩
    else ⟨yOk, (b.put F.RAD_STAT_STATE (value.getLsbD 0).toNat).modRad fun r => { r with started := false, beaconed := false }⟩

/-! ### The commands -/

def execSuperframeStart (busy : Bool) (s : State) : Host.Outcome State Fault Refusal := .next (s.onB (superframeStart busy))
def execSlotWindowOpen (slot : Nat) (busy : Bool) (s : State) : Host.Outcome State Fault Refusal := .next (s.onB fun _ => slotWindowOpen slot busy)
def execBundleReceive (slot : Nat) (f : RadFrame) (x : Bundle) (s : State) : Host.Outcome State Fault Refusal :=
  .next (s.onB (bundleReceive slot f x))
def execAssocReq (slot : Nat) (f : RadFrame) (clkPpm gear nch cap : Nat) (s : State) : Host.Outcome State Fault Refusal :=
  .next (s.onB (assocReq slot f clkPpm gear nch cap))
def execPoll (slot : Nat) (f : RadFrame) (s : State) : Host.Outcome State Fault Refusal := .next (s.onB (poll slot f))
def execDisassoc (slot : Nat) (f : RadFrame) (reason : Nat) (s : State) : Host.Outcome State Fault Refusal := .next (s.onB (disassoc slot f reason))
def execRelay (slot : Nat) (f : RadFrame) (inner : List (RadFrame × RadBody)) (s : State) : Host.Outcome State Fault Refusal :=
  .next (s.onB (relayReceive slot f inner))
def execEnhAckReceive (seqNo : Nat) (s : State) : Host.Outcome State Fault Refusal := .next (s.onB fun _ => enhAckReceive seqNo)
def execBeaconReceive (x : Beacon) (s : State) : Host.Outcome State Fault Refusal := .next (s.onB fun _ => beaconReceive x)
def execRadioForwardReceive (slot : Nat) (f : RadFrame) (body : RadBody) (s : State) : Host.Outcome State Fault Refusal :=
  .next (s.onB (radioForwardReceive slot f body))
def execRadioMessageReceive (m : RadioMsg) (s : State) : Host.Outcome State Fault Refusal := .next (s.onB fun _ => radioMessageReceive m)
def execDownlinkSlot (c : Nat) (busy : Bool) (s : State) : Host.Outcome State Fault Refusal := .next (s.onB (downlinkSlot c busy))
def execSupervisionTimeout (i : Nat) (s : State) : Host.Outcome State Fault Refusal := .next (s.onB fun _ => supervisionTimeout i)
def execChannelReinstate (ch : Nat) (s : State) : Host.Outcome State Fault Refusal := .next (s.onB fun _ => channelReinstate ch)
def execFrameCounterSave (s : State) : Host.Outcome State Fault Refusal := .next (s.onB fun _ => frameCounterSave)
def execCoordFcSave (s : State) : Host.Outcome State Fault Refusal := .next (s.onB fun _ => coordFcSave)
def execBeaconingStart (s : State) : Host.Outcome State Fault Refusal := .next (s.onB fun _ => beaconingStart)
def execRadEvidencePost (slot : Nat) (s : State) : Host.Outcome State Fault Refusal := .next (s.onB fun _ => radEvidencePost slot)
def execAssocList (h : Hdr) (first count : Nat) (s : State) : Host.Outcome State Fault Refusal := .next (s.onB (assocList h first count))
def execAssocSet (h : Hdr) (i : Nat) (en : Bool) (eui gear : Nat) (s : State) : Host.Outcome State Fault Refusal :=
  .next (s.onB (assocSet h i en eui gear))
def execAssocDrop (h : Hdr) (i : Nat) (s : State) : Host.Outcome State Fault Refusal := .next (s.onB (assocDrop h i))
def execChanmapSet (h : Hdr) (map : Nat) (s : State) : Host.Outcome State Fault Refusal := .next (s.onB (chanmapSet h map))
def execAssocWindowLoad (acc i : Nat) (s : State) : Host.Outcome State Fault Refusal := .next (s.onB fun _ => assocWindowLoad acc i)
def execAssocWindowCommit (acc i : Nat) (s : State) : Host.Outcome State Fault Refusal := .next (s.onB fun k b => (assocWindowCommitW acc i k b).b)
def execAssocWindowDrop (acc i : Nat) (s : State) : Host.Outcome State Fault Refusal := .next (s.onB fun k b => (assocWindowDropW acc i k b).b)
def execRadioEnable (acc : Nat) (value : W32) (s : State) : Host.Outcome State Fault Refusal := .next (s.onB fun k b => (radioEnableW acc value k b).b)

end Sys2Proof.Machine
end

