-- ==== Sys2Proof/Machine/Reset.lean ====
section
/-!
DEFINITION. Taking a reset: sources, reach, and what each reach clears (R505 to R510, R546).
-/
namespace Sys2Proof.Machine

/-- Sources by their bit of RST_CAUSE (R505). -/
abbrev srcPor : Nat := 0
abbrev srcBor : Nat := 1
abbrev srcPin : Nat := 2
abbrev srcWdt : Nat := 3
abbrev srcSwr : Nat := 4
abbrev srcDbg : Nat := 5
abbrev srcClkf : Nat := 6
abbrev srcLockup : Nat := 7

/-- Reach of a source (R505): 0 A, 1 B, 2 C. A is the largest. -/
def srcReach (src : Nat) : Nat := if src ≤ 1 then 0 else if src = srcSwr ∨ src = srcDbg then 2 else 1

/-- Minimum stretch in ticks (R507). -/
def stretch (reach : Nat) : Nat := if reach < 2 then 2 * tickMs else 100 * tickUs

/-! ### Reach C (R507) -/

/-- Every session closes (R423). -/
def Block.closeAll (b : Block) (reason : Nat) : Block := (List.range 8).foldl (fun b s => b.closeSession s reason) b

/-- The modal engine starts again (R272, R280): definitions and learned state kept, every window refilled. -/
def Block.modRestart (b : Block) (reason : Nat) : Block :=
  (b.gapAll.modMod fun m => { m with resumeAt := some m.screened }).note 0x0809 reason

/-- What a reset of reach C does: the firmware cores stop, the modal engine restarts, open slots are abandoned (R192, R280,
R423). -/
def Block.softReset (b : Block) : Block :=
  let b := b.closeAll 3
  let b := (b.modAln fun u => { u with slots := b.aln.slots.filter fun x => x.phase != 0 })
  let b := if b.modOn then b.modRestart 3 else b
  b.modTop fun t => { t with started := false }

/-! ### Reaches A and B (R507, R546) -/

/-- Registers on PD_AON that a reset of reach B keeps (R481, R507, R542; notes/assumptions/34.md). -/
def aonRegs : List Nat :=
  [Reg.RST_CAUSE, Reg.RST_CNT_B, Reg.RST_CNT_C, Reg.PWR_CNT_PFAIL, Reg.PWR_CNT_RIDE, Reg.PWR_CNT_WATCH, Reg.CLK_CNT_REF_SW,
   Reg.KEY_CNT_TAMPER, Reg.KEY_CNT_ABORT, Reg.KEY_CNT_OP, Reg.KEY_CNT_AUTH_FAIL, Reg.KEY_CNT_PUF_RETRY, Reg.KEY_TMP_CTRL,
   Reg.PWR_STAT, Reg.PWR_VIN]

/-- Registers carried over into a fresh register file. -/
def keepRegs (old new : RegFile) (l : List Nat) : RegFile := l.foldl (fun r a => r.set a (old.get a)) new

/-- The key block after a reset of reach A or B: slots EMPTY, the DUK cleared (R455); MRAM and generation counts stay, the tamper
monitor stays through reach B (R472, R473). The higher valid life-cycle copy is in force (R471). -/
def Key.deepReset (k : Key) (reachA : Bool) : Key :=
  { Key.reset with
    lcs := max (k.lcsA.getD 0) (k.lcsB.getD 0), lcsA := k.lcsA, lcsB := k.lcsB,
    slots := k.slots.map fun s => { KeySlot.empty with gen := s.gen },
    store := k.store, helperA := k.helperA, helperB := k.helperB, tseq := k.tseq, pend := k.pend, acked := k.acked,
    withheld := k.pend, latch := if reachA then 0 else k.latch, live := if reachA then 0 else k.live,
    armed := if reachA then 0xFF else k.armed, meshFails := if reachA then 0 else k.meshFails, draws := k.draws }

/-- The log header with the higher RNUM_NEXT among the valid copies (R494). -/
def Log.header (l : Log) : LogHdr :=
  if l.hdrA.crcOk && (!l.hdrB.crcOk || decide (l.hdrB.rnumNext ≤ l.hdrA.rnumNext)) then l.hdrA else l.hdrB

/-- The recorder after a reset: the queue and the counts on PD_AON stay through reach B; after reach A the log is what MRAM holds
(R483, R487, R491, R494 to R496). A new chain is due (R497). -/
def Log.afterReset (l : Log) (reachA : Bool) : Log :=
  let l := { l with chainDue := true, sealBytes := [], sealCount := 0, prevSeal := 0, marked := false, markStep := none, markLeap := none }
  if !reachA then l
  else
    let h := l.header
    { l with offered := [], queue := [], rnumNext := h.rnumNext, seq := h.seq, hdrA := { h with crcOk := true }, hdrB := { h with crcOk := true },
             opsec := l.opsecSaved + (if l.savedAtPfail then 0 else 60), opsecFrom := none, pcc := (l.pcc + 1) % 2 ^ 24,
             lost := l.lostSaved, dropped := 0 }

/-- One header copy failed and was repaired (R494). -/
def Block.repairHeaders (b : Block) (l : Log) : Block :=
  if l.hdrA.crcOk && !l.hdrB.crcOk then b.note 0x0F07 1 else if !l.hdrA.crcOk && l.hdrB.crcOk then b.note 0x0F07 0 else b

/-- The Reset column of a variant (R415, R546): on W8 the profile's registers read otherwise than on W9. -/
def resetRegs (v : Variant) : RegFile :=
  match v with
  | .w8 => (((regReset.set Reg.RAD_STAT 0x18).set (Reg.RAD_MAP + 4) 0).set (Reg.RAD_MAP_EFF + 4) 0).set Reg.RAD_EXC 0x08284168
  | _ => regReset

/-- HOST watches as they are restored (R280). -/
def Block.hostWatches (b : Block) : Tab Watch := b.mod.watches.filter (·.2.host)

/-- The block a reset of reach A or B leaves: the Reset column, MRAM, and through reach B PD_AON (R507, R546). -/
def Block.deepBlock (b : Block) (reachA : Bool) : Block :=
  let fresh := b.topState == stStart
  { Block.reset with
    regs := keepRegs b.regs (resetRegs b.top.variant) (if reachA then [] else aonRegs),
    tim := { Tim.reset with mono := b.tim.mono },
    nrg := { Nrg.reset with slot0 := b.nrg.slot0, slot1 := b.nrg.slot1, newest := b.nrg.newest, saveSeq := b.nrg.saveSeq,
                            startReach := if reachA then 0 else 1 },
    mod := { Mod.reset with saved := b.mod.saved, cfgWatches := if fresh then b.mod.cfgWatches else b.hostWatches,
                            cfgBranches := if fresh then b.mod.cfgBranches else b.mod.branches },
    grd := { Grd.reset with copyA := b.grd.copyA, copyB := b.grd.copyB, mramFloor := b.grd.mramFloor, lockup := b.grd.lockup },
    rad := { Rad.reset with saved := b.rad.saved, savedFc := b.rad.savedFc },
    top := { Top.reset with variant := b.top.variant, strapBoot := b.top.strapBoot, strapRef := b.top.strapRef,
                            strapPrefer := b.top.strapPrefer, rstRun := b.top.rstRun, resetNLow := true, mramNomf := b.top.mramNomf,
                            mramBank := b.top.mramBank, mramFloor := b.top.mramFloor, mramFsc := b.top.mramFsc, optA := b.top.optA,
                            optB := b.top.optB, trimA := b.top.trimA, trimB := b.top.trimB, lastBank := b.top.lastBank,
                            pfailAt := if reachA then none else b.top.pfailAt, disconnected := b.top.disconnected },
    log := b.log.afterReset reachA, tx := b.tx, freeCtr := b.freeCtr }

/-- What a reset of reach A or B does to a block: every session closes, and a failing log header is repaired (R423, R494, R507). -/
def Block.deepReset (b : Block) (reachA : Bool) : Block :=
  let c := b.closeAll 3
  if reachA then (c.deepBlock true).repairHeaders c.log else (c.deepBlock false).put F.PWR_STAT_CFG_ERR 0

/-! ### A source asserts (R505, R509, R510) -/

/-- The effects of a reset's reach as it is reached. -/
def resetEffects (reach : Nat) (k : Key) (b : Block) : Key × Block :=
  if reach = 0 then (k.deepReset true, b.deepReset true)
  else if reach = 1 then (k.deepReset false, b.deepReset false)
  else (k.dropEphemeral, b.softReset.tellGone k fun _ => true)

/-- RST_CAUSE.SRC takes the bits of `srcs`, and SELF where the device drives the reset itself (R506). -/
def Block.cause (b : Block) (srcs : Nat) (self : Bool) : Block :=
  let b := b.put F.RST_CAUSE_SRC (b.fld F.RST_CAUSE_SRC ||| srcs)
  if self then b.put F.RST_CAUSE_SELF 1 else b

/-- The effective reach once sources of reach `mine` have asserted: the largest so far (R509). -/
def Block.joinedReach (b : Block) (mine : Nat) : Nat :=
  match b.top.rstRun with
  | none => mine
  | some r => min r.reach mine

/-- Its effects are not yet those of the reset in progress. -/
def Block.deepens (b : Block) (mine : Nat) : Bool :=
  match b.top.rstRun with
  | none => true
  | some r => decide (mine < r.reach)

/-- The reset in progress after sources have asserted: its stretch counts from now (R509). -/
def Block.joinedRun (b : Block) (mine srcs : Nat) (self noCount : Bool) : ResetRun :=
  match b.top.rstRun with
  | none => ⟨mine, srcs, b.now, self, noCount⟩
  | some r => ⟨min r.reach mine, r.srcs ||| srcs, b.now, self || r.self, r.noCount || noCount⟩

/-- Sources of reach `mine` assert (R505): they begin a reset or join the one in progress, whose effective reach is the largest so far
and whose stretch counts from the latest assertion (R509). -/
def beginReset (mine srcs : Nat) (self noCount : Bool) (k : Key) (b : Block) : Key × Block :=
  let run := b.joinedRun mine srcs self noCount
  let kb := if b.deepens mine then resetEffects (b.joinedReach mine) k b else (k, b)
  let b := kb.2.modTop fun t => { t with rstRun := some run, resetNLow := decide (run.reach < 2) }
  (kb.1, b.cause run.srcs run.self)

/-- A source of R505 asserts. -/
def assertReset (src : Nat) (self noCount : Bool) (k : Key) (b : Block) : Key × Block :=
  beginReset (srcReach src) (1 <<< src) self noCount k b

end Sys2Proof.Machine
end

