-- ==== Sys2Proof/Machine/Guard.lean ====
section
/-!
DEFINITION. The guard partition (spec/10_guard_and_bells.md, R315 to R348): settings, evidence, bell logic, network bells and the
firmware watchdog.
-/
namespace Sys2Proof.Machine

/-! ### Evidence (R22, R23, R333, R365) -/

/-- An engine's evidence. -/
def Block.engine (b : Block) (e : Nat) : EngState := b.grd.engines.getD e .reset

/-- The records the guard judges an engine by: the captain's where it borrows them (R365). -/
def Block.recsOf (b : Block) (e : Nat) : List Evid :=
  if b.borrows && decide (3 ≤ e) then (b.engine e).fwd else (b.engine e).recs

/-- The engine is stopped by design (R333): MOD from its final record, RAD on a device without a radio, TDM while EN is 0. -/
def Block.exempt (b : Block) (e : Nat) : Bool :=
  if e = 3 then (match b.recsOf 3 with
    | [] => false
    | r :: _ => r.items.getLsbD 0)
  else if e = 8 then b.top.variant == .n0
  else if e = 7 then !b.tdm.enNow
  else false

/-- EVIDENCE_TIMEOUT in force. -/
def Block.evTimeout (b : Block) : Nat := b.fld F.GRD_EVID_TIMEOUT

/-- The engine is below its timeout (GRD_EVID.FRESH); one that has not posted since the start is not fresh. -/
def Block.fresh (b : Block) (e : Nat) : Bool := b.exempt e || (!(b.recsOf e).isEmpty && decide ((b.engine e).misses < b.evTimeout))

/-- The record an evaluation of slot `s` takes of an engine (R23). -/
def Block.recordFor (b : Block) (e s : Nat) : Option Evid :=
  if e = 2 then (b.recsOf 2).find? (·.sTick == s) else (b.recsOf e).find? fun r => decide (r.sTick ≤ s)

/-! ### Bell logic (R328 to R331) -/

/-- A literal's value before NOT; none when its record is missing. -/
def Block.litRaw (b : Block) (used : List (Option Evid)) (l : Literal) : Option Bool :=
  if l.kind = 3 then
    some (match l.index with
      | 0 => b.grd.breach
      | 1 => (match b.slot b.grd.lastS with
        | none => false
        | some x => x.ovr != 0)
      | 2 => decide (1 ≤ b.level)
      | 3 => decide (3 ≤ b.level)
      | 4 => b.anyFs
      | _ => b.degCaptain)
  else
    (used.getD l.engine none).map fun r =>
      if l.kind = 0 then r.items.getLsbD l.index
      else if l.kind = 1 then (match l.index with
        | 0 => r.valid
        | 1 => r.degraded
        | 2 => r.blocked
        | _ => r.shed)
      else decide (l.index ≤ r.tq)

/-- A literal (R329). -/
def Block.lit (b : Block) (used : List (Option Evid)) (l : Literal) : Bool :=
  match b.litRaw used l with
  | none => false
  | some v => v != l.neg

/-- The logic of a bell: an OR of terms. -/
def Block.logicOf (b : Block) (used : List (Option Evid)) (e : BellEntry) : Bool := e.terms.any fun t => t.all (b.lit used)

/-- Engines a bell's logic names. -/
def namesOf (e : BellEntry) : List Nat := (e.terms.flatMap fun t => t.filterMap fun l => if l.kind = 3 then none else some l.engine).eraseDups

def noEntry : BellEntry := ⟨[], 0, 0, false⟩

/-- A bell's entry in the package in force. -/
def Block.bellEntry (b : Block) (n : Nat) : BellEntry :=
  match b.grd.gsp with
  | none => noEntry
  | some g => g.logic.getD n noEntry

/-- A bell held by LATCH. -/
def Bell.latched (x : Bell) (e : BellEntry) : Bool := x.on && e.latch && !x.logic && !x.fs

/-- One evaluation of a bell that is not in fail-safe, at slot time `s` (R330, R331). -/
def Bell.step (x : Bell) (e : BellEntry) (logic : Bool) (s : Nat) : Bell :=
  let t := if logic then some (x.trueFrom.getD s) else none
  let f := if logic then none else some (x.falseFrom.getD s)
  let on :=
    if logic then x.on || decide (t.getD s + e.pickup * tickMs ≤ s)
    else if x.release ≠ 0 then false
    else x.on && (e.latch || decide (s < f.getD s + e.dropout * tickMs))
  { x with logic := logic, trueFrom := t, falseFrom := f, on := on, release := 0 }

/-- A bell that leaves fail-safe (R335): it asserts with its logic; held asserted with false logic it waits for its DROPOUT. -/
def Bell.leaveFs (x : Bell) (e : BellEntry) (logic : Bool) (s : Nat) : Bell :=
  { x with fs := false, logic := logic, trueFrom := if logic then some s else none, falseFrom := if logic then none else some s,
           on := logic || (x.on && (e.latch || decide (0 < e.dropout))), release := 0 }

/-- One bell in one evaluation (R330 to R335). -/
def Block.evalBell (b : Block) (used : List (Option Evid)) (s n : Nat) (x : Bell) : Bell :=
  let e := b.bellEntry n
  let x := if b.grd.restart then { x with trueFrom := none, falseFrom := none } else x
  let logic := b.logicOf used e
  if x.fs then
    if (namesOf e).all fun g => b.fresh g && (g != 2 || (used.getD 2 none).isSome) then x.leaveFs e logic s else { x with logic := logic }
  else x.step e logic s

/-- Bells that left fail-safe, by the engine that had put them there: a record for each engine (R348). -/
def Block.noteLeft (b : Block) (old new : List Bell) : Block :=
  let left := ((old.zip new).zipIdx.filter fun e => e.1.1.fs && !e.1.2.fs).map fun e => (e.1.1.fsEngine, e.2)
  (List.range 9).foldl (fun b e =>
    let m := maskOf ((left.filter (·.1 == e)).map (·.2))
    if m = 0 then b else b.note 0x0A04 m e 0) b

/-- Bells whose state changed are recorded (R347, R348). -/
def Block.noteBells (b : Block) (old new : List Bell) (t cause : Nat) : Block :=
  (old.zip new).zipIdx.foldl (fun b e =>
    if e.1.1.on = e.1.2.on then b
    else b.bellNote e.2 e.1.2.on.toNat t (if e.1.1.release ≠ 0 && !e.1.2.on then e.1.1.release else cause)) b

/-- The evaluation of slot `s` under a package (R330 to R335, R339, R344). -/
def Block.evaluate (b : Block) (s : Nat) (used : List (Option Evid)) : Block :=
  let old := b.grd.bells
  let new := old.zipIdx.map fun e => b.evalBell used s e.2 e.1
  let on := ((old.zip new).zipIdx.filter fun e => !e.1.1.on && e.1.2.on).map (·.2)
  let b := b.modGrd fun g => { g with bells := new, asserted := on, restart := false, wdtFired := false }
  (((b.noteBells old new (lt32 s) 0).noteLeft old new).refreshOk (lt32 s) 0).goosePublish

/-- The record of each engine that an evaluation of slot `s` takes; number 0 is no engine. -/
def Block.usedFor (b : Block) (s : Nat) : List (Option Evid) := (List.range 9).map fun e => if e = 0 then none else b.recordFor e s

/-- GUARD_EVALUATION (R15, R23, R325, R330): the guard stage of the oldest slot that waits for it, of `run` ticks. -/
def guardEvaluation (run : Nat) (b : Block) : Block :=
  match b.atStage 2 with
  | none => b
  | some x =>
    let used := b.usedFor x.s
    let b := (b.modGrd fun g => { g with used := used, asserted := [] }).bump Reg.GRD_CNT_EVAL
    let b := if b.grd.gsp.isSome then b.evaluate x.s used else b
    let b := b.modGrd fun g => { g with lastS := x.s }
    let b := if b.aln.stepLast = some x.s then b.stepRecord else b
    b.finishStage x.s 2 run

/-! ### Missing evidence and fail-safe (R333 to R335, R526) -/

/-- The guard watches the slot grid: in RUN, WATCH and MAINT, but in L2. -/
def Block.guardWatches (b : Block) : Bool := b.bellsRun && !b.inDeepReset

/-- The instant by which ISL and ALN must have posted for slot `s` (R333). -/
def Block.missAt (b : Block) (s : Nat) : Nat :=
  (match b.grd.sched.find? (·.1 == s) with
    | some p => p.2
    | none => s + b.fld F.ALN_WAIT_NOW_W * tickUs) + tickMs

/-- No record of the engine has been accepted for slot `s` by the instant R333 names. -/
def Block.missed (b : Block) (e s : Nat) : Bool :=
  let g := b.engine e
  if e ≤ 2 then decide (b.missAt s ≤ b.tai) && !(g.recs.any (·.sTick == s))
  else decide (s + tickMs ≤ b.tai) && slotFloor b.cadence b.tai == s && !(decide (s ≤ g.okAt ∧ g.okAt ≤ s + tickMs))

/-- EVIDENCE_MISS (R333, R357): engine and the S of the slot. An ISL miss at the captain hands the bells to a partner in step whose own
ISL evidence is fresh. -/
def evidenceMiss (e s : Nat) (b : Block) : Block :=
  let later := ((b.engine e).missS.map fun t => decide (t < s)).getD true
  let grid := onGrid b.cadence s || b.grd.sched.any (·.1 == s)
  if e = 0 ∨ 8 < e ∨ !b.guardWatches ∨ b.exempt e ∨ !grid ∨ !later ∨ !b.missed e s then b
  else
    let b := (b.modGrd fun g => { g with engines := modAt g.engines e fun x => { x with misses := min 255 (x.misses + 1), missS := some s } }).bump
      Reg.GRD_CNT_MISS
    if e = 2 && b.tdm.enNow && b.claims && b.tdm.hbSeen && b.fld F.TDM_STAT_PSTATE == tdInStep && b.tdm.pIslFresh then b.releaseClaim 3 else b

/-- A bell's fail-safe action: 0 DEASSERT, 1 HOLD, 2 ASSERT (R321, R334). -/
def Bell.enterFs (x : Bell) (action engine : Nat) : Bell :=
  let on := if action = 0 then false else if action = 2 then true else x.on
  { x with on := on, drive := on, fs := true, fsEngine := engine, trueFrom := none, falseFrom := none, release := 0 }

/-- A bell that an engine's missing evidence puts into fail-safe: it is not in it and its logic names the engine (R334). -/
def hitBy (g : GspPkg) (e n : Nat) (x : Bell) : Bool := !x.fs && ((namesOf (g.logic.getD n noEntry)).contains e)

/-- The mask of these bells; the bells after their fail-safe action. -/
def Block.hitMask (b : Block) (g : GspPkg) (e : Nat) : Nat := maskOf ((b.grd.bells.zipIdx.filter fun p => hitBy g e p.2 p.1).map (·.2))
def Block.hitBells (b : Block) (g : GspPkg) (e : Nat) : List Bell :=
  b.grd.bells.zipIdx.map fun p => if hitBy g e p.2 p.1 then p.1.enterFs (g.failsafe.getD p.2 0) e else p.1

/-- FAILSAFE_ENTRY (R334): an engine's misses reach EVIDENCE_TIMEOUT. -/
def failsafeEntry (e : Nat) (b : Block) : Block :=
  match b.grd.gsp with
  | none => b
  | some g =>
    if !b.guardWatches ∨ (b.engine e).misses < b.evTimeout ∨ b.hitMask g e = 0 then b
    else
      let new := b.hitBells g e
      let b1 := (b.modGrd fun x => { x with bells := new }).bump Reg.GRD_CNT_FAILSAFE
      ((b1.noteBells b.grd.bells new (lt32 b.tai) 1).note 0x0A04 (b.hitMask g e) e 1).settleGuard 1

/-- The bells BELL_RESET names that are held by LATCH alone; the bells with their release ordered (R331). -/
def Block.freed (b : Block) (mask : Nat) : Nat :=
  maskOf ((b.grd.bells.zipIdx.filter fun p => mask.testBit p.2 && p.1.latched (b.bellEntry p.2)).map (·.2))
def Block.release (b : Block) (mask : Nat) : List Bell :=
  b.grd.bells.zipIdx.map fun p => if mask.testBit p.2 && p.1.latched (b.bellEntry p.2) then { p.1 with release := 2 } else p.1

/-- BELL_RESET (R331): bells held by LATCH are released at the next evaluation. -/
def bellReset (h : Hdr) (mask : Nat) (k : Key) (b : Block) : Block :=
  b.ycp k h 0x0703 ⟨some roleOpr, false⟩ fun b =>
    yDone ((b.modGrd fun g => { g with bells := b.release mask }).note 0x0A08 h.session (mask % 256) (b.freed mask))

/-! ### Registers (R346) -/

/-- A GRD register as it reads. -/
def Block.guardReg (b : Block) (a : Nat) : W32 :=
  let g := b.grd
  if a = Reg.GRD_STAT then
    BitVec.ofNat 32 (g.bellOk.toNat * 2 ^ 15 + b.anyFs.toNat * 2 ^ 14 + b.gate.toNat * 2 ^ 13 + b.degCaptain.toNat * 2 ^ 12 + g.wdtStage * 2 ^ 10
      + g.lockstepOk.toNat * 2 ^ 9 + g.gsp.isSome.toNat * 2 ^ 8 + min 255 (b.engine 2).misses)
  else if a = Reg.GRD_GSP_VER then BitVec.ofNat 32 (match g.gsp with
    | none => 0
    | some p => p.version)
  else if a = Reg.GRD_GSP_FLOOR then BitVec.ofNat 32 g.mramFloor
  else if Reg.GRD_GSP_DIG ≤ a ∧ a < Reg.GRD_GSP_DIG + 48 then
    BitVec.ofNat 32 (g.gspDig.toNat >>> (32 * (11 - (a - Reg.GRD_GSP_DIG) / 4)))
  else if a = Reg.GRD_BELL then
    let latched := maskOf ((g.bells.zipIdx.filter fun p => p.1.latched (b.bellEntry p.2)).map (·.2))
    let pin := maskOf ((List.range 8).filter fun n => b.land n == .toggling)
    BitVec.ofNat 32 (latched * 2 ^ 24 + g.mask (·.fs) * 2 ^ 16 + pin * 2 ^ 8 + g.mask (·.on))
  else if a = Reg.GRD_EVID then
    let fresh := if b.topState = stStart then 0 else maskOf ((List.range 9).filter fun e => e != 0 && b.fresh e)
    b.rd a ||| BitVec.ofNat 32 fresh
  else if a = Reg.GRD_BSEQ_LO then BitVec.ofNat 32 g.bseq
  else if a = Reg.GRD_BSEQ_HI then BitVec.ofNat 32 (g.bseq >>> 32)
  else if a = Reg.GRD_GOOSE_ST then BitVec.ofNat 32 g.stNum
  else if a = Reg.GRD_GOOSE_SQ then BitVec.ofNat 32 g.sqNum
  else b.rd a

/-- GUARD_STATUS (R433): GRD_STAT to GRD_GOOSE_SQ. -/
def guardStatus (h : Hdr) (k : Key) (b : Block) : Block :=
  b.ycp k h 0x0702 ⟨some roleObs, false⟩ fun b => ⟨yOk, wordBytes ((List.range 24).map fun i => b.guardReg (Reg.GRD_STAT + 4 * i)), b⟩

/-! ### Network bells (R24, R36, R340 to R345) -/

/-- SEQ(S) (R340). -/
def seqOf (s : Nat) : Nat := s / tickS * 2 ^ 16 + s % tickS * 8 * 2 ^ 16 / 1000000000

/-- A byte of SUMMARY (R341); the other bits of a missing record's byte are 0. -/
def summaryByte (r : Option Evid) : Byte :=
  match r with
  | none => 8
  | some r => BitVec.ofNat 8 (r.valid.toNat * 128 + r.degraded.toNat * 64 + r.blocked.toNat * 32 + r.shed.toNat * 16 + r.tq % 8)

/-- ITEMS of an engine's record used last; 0 of a missing one. -/
def Block.usedItems (b : Block) (e : Nat) : Nat :=
  match b.grd.used.getD e none with
  | none => 0
  | some r => r.items.toNat

/-- FLAGS of a BELLF (R341). -/
def Block.bellfFlags (b : Block) (held : Bool) : Nat :=
  b.grd.breach.toNat * 128 + b.degCaptain.toNat * 64 + b.anyFs.toNat * 32 + b.claims.toNat * 16 + b.tdm.enNow.toNat * 8 + held.toNat * 4
    + (b.topState == stMaint).toNat * 2 + (b.topState == stWatch).toNat

/-- Bells mapped to BELLF that are asserted. -/
def Block.bellfBells (b : Block) (g : GspPkg) : Nat :=
  maskOf ((b.grd.bells.zipIdx.filter fun e => e.1.on && (g.bellMap.getD e.2 0).testBit 0).map (·.2))

/-- Bytes 0 to 59 of a BELLF (R341). -/
def Block.bellfHead (b : Block) (g : GspPkg) (x : Slot) (bseq : Nat) (held : Bool) : List Byte :=
  beBytes 2 0x4246 ++ beBytes 1 1 ++ beBytes 1 (b.bellfFlags held) ++ beBytes 4 g.groupId ++ beBytes 8 bseq
  ++ beBytes 6 (x.s / tickS) ++ beBytes 4 (x.s % tickS * 8) ++ beBytes 1 (b.bellfBells g) ++ beBytes 1 (b.grd.mask (·.fs))
  ++ beBytes 1 (b.grd.bellOk.toNat * 128 + x.tq) ++ beBytes 1 (b.level % 32) ++ beBytes 4 g.version
  ++ (List.range 8).map (fun i => summaryByte (b.grd.used.getD (i + 1) none))
  ++ beBytes 4 (b.usedItems 2) ++ beBytes 6 (b.usedItems 3) ++ beBytes 5 (b.usedItems 4) ++ beBytes 1 (b.usedItems 5) ++ beBytes 2 0

/-- The MAC of a BELLF (R78, R341); a free value while the signing slot holds no usable key. -/
def Block.bellfMac (k : Key) (b : Block) (g : GspPkg) (head : List Byte) : List Byte × Block :=
  if k.usable g.signSlot then ((beBytes 32 (Config.hmac256 (k.slot g.signSlot).secret (head ++ beBytes 10 0)).toNat).take 16, b)
  else
    let u := b.free
    let v := u.2.free
    (beBytes 8 u.1.toNat ++ beBytes 8 v.1.toNat, v.2)

/-- The BSEQ of the next BELLF (R340), and whether its frame carries SEQ_HELD. -/
def Block.nextBseq (b : Block) (s : Nat) : Nat := max (seqOf s) (b.grd.bseq + 1)
def Block.seqHeld (b : Block) (s : Nat) : Bool := decide (b.nextBseq s = b.grd.bseq + 1)

/-- The instant the frame stage of a slot ends. -/
def Slot.departs (x : Slot) (run : Nat) : Nat := x.c + x.ends.getLastD 0 + run

/-- The BELLF of a slot (R341): its bytes, and the block after its MAC; `b` still holds the last BSEQ. -/
def Block.bellfFrame (k : Key) (b : Block) (g : GspPkg) (x : Slot) (run : Nat) : List Byte × Block :=
  let head := b.bellfHead g x (b.nextBseq x.s) (b.seqHeld x.s)
  let m := b.bellfMac k g head
  let dep := x.departs run
  (head ++ beBytes 6 (dep / tickS) ++ beBytes 4 (dep % tickS * 8) ++ m.1, m.2)

/-- A BELLF leaves on NETA2 and NETB2 and is counted (R342). -/
def Block.bellfOut (b : Block) (n : NetSection) (body : List Byte) : Block :=
  let bytes := body.map BitVec.toNat
  ((b.bump Reg.GRD_CNT_BELLF).sendNet 0 Emit.bellf (udpLen true 86) ([n.group1, n.vlan1, n.dscp1, n.bellfPort] ++ bytes)).sendNet 1 Emit.bellf
    (udpLen true 86) ([n.group2, n.vlan2, n.dscp2, n.bellfPort] ++ bytes)

/-- A BELLF whose bells differ from those of the last one is an event of the sessions. -/
def Block.bellfEvent (b : Block) (shown : Nat × Nat) (body : List Byte) : Block :=
  if b.grd.lastBells = some shown then b else b.event 2 (fun _ => true) body

/-- A BELLF that left more than 1.0 ms after its deadline is a breach (R16). -/
def Block.bellfBreach (b : Block) (dep d : Nat) : Block :=
  if d + tickMs < dep then
    (b.wr Reg.ALN_LDG_OVR (b.rd Reg.ALN_LDG_OVR ||| 0x20)).bump Reg.ALN_LDG_CNT_BREACH |>.note 0x0504 (dep - d) (lt32 d)
  else b

/-- BELLF_SEND (R15, R16, R24, R340 to R342): the frame stage of the oldest slot that waits for it, of `run` ticks. -/
def bellfSend (run : Nat) (k : Key) (b : Block) : Block :=
  match b.atStage 4 with
  | none => b
  | some x =>
    let b := b.finishStage x.s 4 run
    match b.grd.gsp with
    | none => b
    | some g =>
      if !b.sendsBells then b.modGrd fun y => { y with bseq := b.nextBseq x.s }
      else
        let f := b.bellfFrame k g x run
        let b1 := f.2.modGrd fun y => { y with bseq := b.nextBseq x.s }
        let shown := (b.bellfBells g, b.grd.mask (·.fs))
        let d := x.dl.getD x.c
        let b2 := (b1.bellfOut g.net f.1).bellfEvent shown f.1
        (b2.modGrd fun y => { y with breach := decide (d + tickMs < x.departs run), lastBells := some shown }).bellfBreach (x.departs run) d

/-- GOOSE_RETRANSMIT (R345). -/
def gooseRetransmit (b : Block) : Block :=
  match b.grd.gsp with
  | none => b
  | some g =>
    if b.grd.gooseData.isEmpty ∨ b.now < b.grd.gooseNext ∨ !b.active then b
    else
      let off := b.grd.gooseOff + gooseInterval g.net.gooseT0 b.grd.gooseOff
      (b.modGrd fun x => { x with sqNum := wrap1 x.sqNum }).gooseSend g off

/-! ### The firmware watchdog (R318) -/

/-- FIRMWARE_KICK (R318). -/
def firmwareKick (b : Block) : Block :=
  if b.top.rstRun.isSome then b
  else b.modGrd fun g => { g with kickAt := some b.now, wdtStage := 0, wdtFrom := none, wdtWait := false }

/-- WATCHDOG_STAGE1 (R318): no kick for FW_WDT. -/
def watchdogStage1 (k : Key) (b : Block) : Key × Block :=
  let tmo := b.fld F.GRD_WDT_TMO
  match b.grd.kickAt with
  | none => (k, b)
  | some t =>
    if !b.since t (tmo * tickMs) then (k, b)
    else
      let b := (b.modGrd fun g => { g with kickAt := none, wdtStage := 1, wdtFired := true, wdtWait := true }).bump Reg.GRD_CNT_WDT1
      assertReset srcSwr false false k ((b.note 0x0A05 1 tmo).settleGuard)

/-- WATCHDOG_STAGE2 (R318): no kick within 5 s after that reset completed. -/
def watchdogStage2 (k : Key) (b : Block) : Key × Block :=
  match b.grd.wdtFrom with
  | none => (k, b)
  | some t =>
    if !b.since t (5 * tickS) then (k, b)
    else
      let b := (b.modGrd fun g => { g with wdtFrom := none, wdtStage := 2, wdtFired := true }).bump Reg.GRD_CNT_WDT2
      assertReset srcWdt false false k (b.note 0x0A05 2 (b.fld F.GRD_WDT_TMO))

/-! ### Settings: submission and checks (R320 to R322, R435) -/

/-- The fragments a session has submitted, and the TOTAL_LEN they gave; `total` where there is none. -/
def Session.gspBytes (x : Session) : List Byte := (x.gspStage.map (·.bytes)).getD []
def Session.gspTotal (x : Session) (total : Nat) : Nat := (x.gspStage.map (·.total)).getD total

/-- GSP_SUBMIT (R435): fragments in order; the last one hands the package to the guard. -/
def gspSubmit (h : Hdr) (offset total : Nat) (bytes : List Byte) (k : Key) (b : Block) : Block :=
  b.ycp k h 0x0701 ⟨some roleGsb, false⟩ fun b =>
    let s := h.session
    let n := bytes.length
    let drop := b.modSess s fun x => { x with gspStage := none }
    let all := (if offset = 0 then [] else (b.sess s).gspBytes) ++ bytes
    if n = 0 ∨ 4088 < n then yErr b yBadParam
    else if offset ≠ 0 ∧ offset ≠ (b.sess s).gspBytes.length then yErr drop yBadParam
    else if total < offset + n ∨ (offset ≠ 0 ∧ total ≠ (b.sess s).gspTotal total) then yErr drop yBadLength
    else if all.length = total then ⟨yPending, [], drop.modGrd fun g => { g with checking := g.checking ++ [(s, h.tag, all)] }⟩
    else yDone (b.modSess s fun x => { x with gspStage := some ⟨total, all⟩ })

/-- A big-endian field of a package. -/
def field (l : List Byte) (i n : Nat) : Nat := beNat (slice l i n)

/-- The TYPEs of the sections from their bytes: none where a length passes the end or padding is not 0. -/
def sectionTypes : Nat → List Byte → Option (List Nat)
  | 0, l => if l.isEmpty then some [] else none
  | n + 1, l =>
    if l.isEmpty then some []
    else
      let len := field l 2 2
      let pad := (4 - len % 4) % 4
      if l.length < 4 + len + pad then none
      else if (slice l (4 + len) pad).any (· != 0) then none
      else (sectionTypes n (l.drop (4 + len + pad))).map (field l 0 2 :: ·)

/-- The package: header fields and sections from its bytes, the contents of its bodies as given (R320). -/
def readPkg (body : GspPkg) (l : List Byte) : GspPkg :=
  { body with magic := field l 0 2, format := field l 2 1, bind := (field l 3 1).testBit 0, version := field l 4 4, topId := field l 8 4,
              device := BitVec.ofNat 256 (field l 12 32), totalLen := field l 44 4,
              sections := (sectionTypes 64 (slice l 64 (l.length - 160))).getD [],
              wellFormed := body.wellFormed && field l 3 1 < 2 && field l 50 14 == 0 && (field l 3 1 == 1 || field l 12 32 == 0)
                && field l 48 2 == 8 && (sectionTypes 64 (slice l 64 (l.length - 160))).isSome }

/-- Hardware ranges of the two bounds of a parameter, with whether they are signed; none of an unused bound (R326). -/
def envRange (param : Nat) : Option (Option (Int × Int) × Option (Int × Int) × Bool) :=
  match param with
  | 0x0101 => some (some (500, 250000), some (500, 250000), false)
  | 0x0102 => some (some (0, 19), some (0, 1), false)
  | 0x0201 => some (none, some (0, 255), false)
  | 0x0202 => some (none, some (0, 1), false)
  | 0x0301 => some (some (0, 3), none, false)
  | 0x0401 => some (some (0, 4095), some (0, 4095), false)
  | 0x0501 => some (some (0, 1), none, false)
  | 0x0502 | 0x0503 | 0x0504 | 0x0505 => some (some (-600, 600), some (-600, 600), true)
  | 0x0506 => some (some (0, 1023), some (0, 1023), false)
  | 0x0601 => some (some (2, 255), some (2, 255), false)
  | 0x0602 => some (some (1, 255), some (1, 255), false)
  | 0x0603 | 0x0604 => some (some (1, 15), some (1, 15), false)
  | 0x0605 => some (some (20, 4095), some (20, 4095), false)
  | 0x0606 => some (some (10, 100), some (10, 100), false)
  | 0x0607 => some (some (1, 180), some (1, 180), false)
  | 0x0701 => some (some (1, 65), none, false)
  | _ => none

/-- A bound within its hardware range; an unused one is 0. -/
def boundOk (r : Option (Int × Int)) (v : Int) : Bool :=
  match r with
  | none => v == 0
  | some (lo, hi) => decide (lo ≤ v ∧ v ≤ hi)

/-- Parameters whose two bounds are one range, of which MIN must not exceed MAX (R326). -/
def isRange (param : Nat) : Bool := param != 0x0102

/-- An ENVELOPES entry is allowed (R326). -/
def envOk (e : EnvEntry) : Bool :=
  match envRange e.param with
  | none => false
  | some (lo, hi, signed) =>
    let v := fun (n : Nat) => if signed && decide (2 ^ 31 ≤ n) then (n : Int) - 2 ^ 32 else (n : Int)
    boundOk lo (v e.min) && boundOk hi (v e.max)
    && !(isRange e.param && lo.isSome && hi.isSome && decide (v e.max < v e.min))

/-- A literal is allowed (R328). -/
def literalOk (l : Literal) : Bool :=
  if l.kind = 3 then l.engine == 9 && decide (l.index ≤ 5)
  else decide (l.kind ≤ 2 ∧ 1 ≤ l.engine ∧ l.engine ≤ 8) && decide (l.index ≤ if l.kind = 0 then 127 else if l.kind = 1 then 3 else 4)

/-- A bell's entry is allowed (R328, R330). -/
def bellEntryOk (e : BellEntry) : Bool :=
  decide (e.terms.length ≤ 8 ∧ e.pickup ≤ 60000 ∧ e.dropout ≤ 600000)
  && e.terms.all fun t => decide (1 ≤ t.length ∧ t.length ≤ 8) && t.all literalOk

/-- The NETWORK section is allowed (R321, R345). -/
def netOk (n : NetSection) : Bool :=
  decide (n.bellfPort < 65536 ∧ n.vlan1 < 4096 ∧ n.vlan2 < 4096 ∧ n.dscp1 < 64 ∧ n.dscp2 < 64 ∧ n.gooseApp < 65536 ∧ n.gooseVlan < 4096)
  && decide (100 ≤ n.gooseT0 ∧ n.gooseT0 ≤ 10000)

/-- Slots that may hold the BELL_SIGN key (R461). -/
def signSlotOk (n : Nat) : Bool := n == 4 || n == 5 || decide (35 ≤ n ∧ n ≤ 63)

/-- Only parameter 0x0401 may repeat (R326). -/
def noRepeat (l : List EnvEntry) : Bool :=
  let p := (l.map (·.param)).filter (· != 0x0401)
  p.eraseDups.length == p.length

/-- Step 6 of R322. -/
def pkgOk (p : GspPkg) : Bool :=
  p.wellFormed && decide (1 ≤ p.version ∧ p.version ≤ 0xFFFFFFFE)
  && ([1, 2, 3, 4, 5, 6, 7, 8].all fun t => p.sections.count t == 1) && p.sections.length == 8
  && decide (1 ≤ p.evTimeout ∧ p.evTimeout ≤ 255) && decide (20 ≤ p.fwWdt ∧ p.fwWdt ≤ 2000) && signSlotOk p.signSlot
  && p.envelopes.all envOk && noRepeat p.envelopes
  && p.logic.length == 8 && p.logic.all bellEntryOk && decide ((p.logic.map fun e => e.terms.length).sum ≤ 64)
  && p.bellMap.length == 8 && (p.bellMap.all fun n => decide (n < 4)) && p.failsafe.length == 8 && (p.failsafe.all fun n => decide (n ≤ 2))
  && p.pinRoles.length == 9 && (p.pinRoles.all fun n => decide (n ≤ 1)) && netOk p.net && p.roles.length == 8
  && p.roles.all fun n => decide (n < 32)

/-- What R322's checks answer. -/
inductive Verdict where
  | reject (step status : Nat)
  | same
  | accept
  deriving DecidableEq, Repr

/-- The checks in their order (R322). -/
def verdict (k : Key) (b : Block) (p : GspPkg) (bytes : List Byte) (sigOk : Bool) : Verdict :=
  let n := bytes.length
  let inForce := (b.grd.gsp.map fun g => g.version == p.version && b.grd.gspDig == Config.sha384 bytes).getD false
  if p.totalLen ≠ n ∨ n < 160 ∨ 65536 < n then .reject 1 yBadLength
  else if p.magic ≠ 0x4753 ∨ p.format ≠ 1 then .reject 2 yBadParam
  else if !sigOk || !k.usable 3 then .reject 3 yAuthFail
  else if (p.topId ≠ 0 ∧ p.topId ≠ topIdOf b.top.variant) ∨ (p.bind ∧ p.device ≠ k.devId) then .reject 4 yDenied
  else if inForce then .same
  else if p.version ≤ b.grd.mramFloor then .reject 5 yDenied
  else if !pkgOk p then .reject 6 yBadParam
  else .accept

/-- GSP_CHECK (R322): the oldest complete package, while none that passed awaits its commit. -/
def gspCheck (body : GspPkg) (sigOk : Bool) (k : Key) (b : Block) : Block :=
  match b.grd.checking, b.grd.accepted with
  | (s, tag, bytes) :: rest, none =>
    let p := readPkg body bytes
    let b := b.modGrd fun g => { g with checking := rest }
    match verdict k b p bytes sigOk with
    | .same => b.finish s tag 0x0701 yOk []
    | .accept => b.modGrd fun g => { g with accepted := some (s, tag, p, Config.sha384 bytes) }
    | .reject step status =>
      let b := ((b.put F.GRD_GSP_REJ_STEP step).put F.GRD_GSP_REJ_STATUS status).bump Reg.GRD_CNT_GSP_REJ
      (b.note 0x0A02 step status p.version).finish s tag 0x0701 status []
  | _, _ => b

/-! ### Settings: commit (R323, R327, R332) -/

/-- A value that an envelope replaced is recorded. -/
def Block.noteClamp (b : Block) (param old new : Nat) : Block := b.note 0x0A07 param old new

/-- A field brought inside its envelope: the block after it, whether it changed. -/
def Block.clampField (b : Block) (param : Nat) (f : Fld) : Block × Bool :=
  match b.envelope param with
  | none => (b, false)
  | some e =>
    let old := b.fld f
    let new := clampNat e.min e.max old
    if new = old then (b, false) else ((b.put f new).noteClamp param old new, true)

/-- w_slot pinned (0x0101), and SHED_MODE with PIN_LEVEL (0x0102): R37, R172. -/
def Block.clampAln (b : Block) : Block :=
  let b := if b.fld F.ALN_WAIT_CTRL_MODE = 1 then (b.clampField 0x0101 F.ALN_WAIT_PIN_PIN).1 else b
  match b.envelope 0x0102 with
  | none => b
  | some e =>
    let pin := b.fld F.ALN_LDG_CTRL_PIN_LEVEL
    if b.shedMode = 2 && !e.max.testBit 0 then
      ((b.put F.ALN_LDG_CTRL_SHED_MODE 0).put F.ALN_LDG_STAT_ENVELOPE_HOLD 1).noteClamp 0x0102 2 0
    else if b.shedMode = 1 && decide (pin < e.min) then
      ((b.put F.ALN_LDG_CTRL_PIN_LEVEL e.min).put F.ALN_LDG_STAT_ENVELOPE_HOLD 1).noteClamp 0x0102 pin e.min
    else b

/-- The pinned time source (0x0201, R60) and steps allowed (0x0202, R66). -/
def Block.clampTime (b : Block) : Block :=
  let pin := b.fld F.TIM_SRC_CTRL_PIN_SRC
  let b :=
    if b.flag F.TIM_SRC_CTRL_PIN_EN && !b.srcAllowed pin then
      match (match b.bestSrc fun k => b.srcValid k && b.srcAllowed k with
        | some k => some k
        | none => (List.range 8).find? b.srcAllowed) with
      | none => b
      | some new => ((b.put F.TIM_SRC_CTRL_PIN_SRC new).put F.TIM_STAT_ENVELOPE_HOLD 1).noteClamp 0x0201 pin new
    else b
  let b :=
    match b.envelope 0x0202 with
    | none => b
    | some e =>
      if b.flag F.TIM_CTRL_STEP_RUN && !e.max.testBit 0 then
        ((b.put F.TIM_CTRL_STEP_RUN 0).put F.TIM_STAT_ENVELOPE_HOLD 1).noteClamp 0x0202 1 0
      else b
  (b.dropSrc 3).rankSources

/-- The step-down floor of each NET port (0x0301, R99). -/
def Block.clampPorts (b : Block) : Block :=
  match b.envelope 0x0301 with
  | none => b
  | some e => (List.range 4).foldl (fun b p =>
      let f := atPort F.MAC_STEP_FLOOR p
      let old := b.fld f
      if e.min < old then (b.put f e.min).noteClamp 0x0301 old e.min else b) b

/-- Spokes pinned out of the critical set that the package fixes in it (0x0401, R138). -/
def Block.clampSpokes (b : Block) : Block :=
  (b.ing.spokes.filter fun x => b.envFixed x.num && bits (x.w 14) 1 0 == 0).foldl (fun b x =>
    (b.modSpoke x.num fun y => { y with words := y.words.set 14 (putBits (y.w 14) 1 0 1), envHold := true, critWhy := 3 }).noteClamp 0x0401 0 1) b

/-- AUTO_SPAWN (0x0501, R271). -/
def Block.clampSpawn (b : Block) : Block :=
  match b.envelope 0x0501 with
  | none => b
  | some e =>
    if e.min.testBit 0 && !b.flag F.MOD_CTRL_AUTO_SPAWN then
      ((b.put F.MOD_CTRL_AUTO_SPAWN 1).put F.MOD_STAT_ENVELOPE_HOLD 1).noteClamp 0x0501 0 1
    else b

/-- The island criteria (0x0601 to 0x0607, R310). -/
def Block.clampIsland (b : Block) : Block :=
  [(0x0601, F.ISL_CRIT_DF_THR), (0x0602, F.ISL_CRIT_DA_THR), (0x0603, F.ISL_CRIT_K), (0x0604, F.ISL_CRIT_K_TOPO),
   (0x0605, F.ISL_BLOCK_T_BLOCK), (0x0606, F.ISL_BLOCK_V_DIP), (0x0607, F.ISL_BLOCK_JUMP)].foldl (fun b p =>
    let r := b.clampField p.1 p.2
    if r.2 then r.1.put F.ISL_STAT_ENVELOPE_HOLD 1 else r.1) b

/-- The radio channel map (0x0701, R396). -/
def Block.clampRadio (b : Block) : Block :=
  match b.clampMap with
  | (b, none) => b
  | (b, some (old, new)) => b.noteClamp 0x0701 old new

/-- New session masks (R424); a saddle lost with the ENGINEER role (R427). -/
def Block.applyRoles (k : Key) (b : Block) : Block :=
  let b := (List.range 8).foldl (fun b s =>
    if (b.sess s).state = 0 then b
    else
      let r := b.gspRoles s &&& (b.sess s).proved
      b.modSess s fun x => { x with roles := if r = 0 then 0 else r ||| 1 }) b
  match b.hst.holder with
  | none => b
  | some s => if b.hasRole k s roleEng then b else b.releaseSaddle 5

/-- The bells under a new package (R332): runs of a bell whose entry changed restart, and a latched one is released. -/
def rebell (old : Option GspPkg) (new : GspPkg) (bells : List Bell) : List Bell :=
  bells.zipIdx.map fun p =>
    let was := match old with
      | none => noEntry
      | some g => g.logic.getD p.2 noEntry
    if was = new.logic.getD p.2 noEntry then p.1
    else { p.1 with trueFrom := none, falseFrom := none, release := if p.1.latched was then 3 else p.1.release }

/-- A package comes into force, with the settings registers that show it (R324, R346). -/
def Block.takePkg (b : Block) (p : GspPkg) (dig : Digest) : Block :=
  let b := b.modGrd fun g => { g with bells := rebell g.gsp p g.bells, gsp := some p, gspDig := dig }
  (b.put F.GRD_EVID_TIMEOUT p.evTimeout).put F.GRD_WDT_TMO p.fwWdt

/-- The package goes into the MRAM copy that does not hold the one in force, and the floor rises to its version (R323). -/
def Block.storePkg (b : Block) (p : GspPkg) (dig : Digest) : Block :=
  b.modGrd fun g =>
    { g with accepted := none, copyA := if g.inForceA then g.copyA else some (p, dig, true), copyB := if g.inForceA then some (p, dig, true) else g.copyB,
             inForceA := !g.inForceA, mramFloor := max g.mramFloor p.version }

/-- VERSION of the package in force, 0 of none. -/
def Grd.version (g : Grd) : Nat := (g.gsp.map (·.version)).getD 0

/-- Every setting brought inside the envelopes in force (R327). -/
def Block.clampAll (b : Block) : Block := b.clampAln.clampTime.clampPorts.clampSpokes.clampSpawn.clampIsland.clampRadio

/-- ENVELOPE_HOLD of the overload block ends with the envelope of 0x0102 it was set by. -/
def Block.shedHold (b : Block) (was : Option EnvEntry) : Block := if b.envelope 0x0102 = was then b else b.put F.ALN_LDG_STAT_ENVELOPE_HOLD 0

/-- GSP_COMMIT (R323): the other MRAM copy, the floor, then the package in force, its envelopes and roles. -/
def gspCommit (k : Key) (b : Block) : Block :=
  match b.grd.accepted with
  | none => b
  | some (s, tag, p, dig) =>
    let b1 := (((b.storePkg p dig).takePkg p dig).bump Reg.GRD_CNT_GSP_ACC).note 0x0A01 p.version (dig.toNat >>> 352) b.grd.version
    (((b1.shedHold (b.envelope 0x0102)).clampAll.applyRoles k).settleGuard 3).finish s tag 0x0701 yOk []

/-! ### The commands -/

def execGuardEvaluation (run : Nat) (s : State) : Host.Outcome State Fault Refusal := .next (s.onB fun _ => guardEvaluation run)
def execBellfSend (run : Nat) (s : State) : Host.Outcome State Fault Refusal := .next (s.onB (bellfSend run))
def execGspSubmit (h : Hdr) (offset total : Nat) (bytes : List Byte) (s : State) : Host.Outcome State Fault Refusal :=
  .next (s.onB (gspSubmit h offset total bytes))
def execGspCheck (body : GspPkg) (sigOk : Bool) (s : State) : Host.Outcome State Fault Refusal := .next (s.onB (gspCheck body sigOk))
def execGspCommit (s : State) : Host.Outcome State Fault Refusal := .next (s.onB gspCommit)
def execEvidenceMiss (e t : Nat) (s : State) : Host.Outcome State Fault Refusal := .next (s.onB fun _ => evidenceMiss e t)
def execFailsafeEntry (e : Nat) (s : State) : Host.Outcome State Fault Refusal := .next (s.onB fun _ => failsafeEntry e)
def execBellReset (h : Hdr) (mask : Nat) (s : State) : Host.Outcome State Fault Refusal := .next (s.onB (bellReset h mask))
def execGuardStatus (h : Hdr) (s : State) : Host.Outcome State Fault Refusal := .next (s.onB (guardStatus h))
def execFirmwareKick (s : State) : Host.Outcome State Fault Refusal := .next (s.onB fun _ => firmwareKick)
def execWatchdogStage1 (s : State) : Host.Outcome State Fault Refusal := .next (s.onKB watchdogStage1)
def execWatchdogStage2 (s : State) : Host.Outcome State Fault Refusal := .next (s.onKB watchdogStage2)
def execGooseRetransmit (s : State) : Host.Outcome State Fault Refusal := .next (s.onB fun _ => gooseRetransmit)

end Sys2Proof.Machine
end

