-- ==== Sys2Proof/Machine/Host.lean ====
section
/-!
DEFINITION. The host's commands: transports, sessions, the saddle, panniers and subscriptions (R419 to R453).
-/
namespace Sys2Proof.Machine

/-- Addresses of the RL groups (R10): their copies go back to the reset values when a session opens (R444). -/
def isRlAddr (a : Nat) : Bool :=
  [(0x20040, 0x20050), (0x50C20, 0x50C3C), (0x70040, 0x7004C), (0x70100, 0x701FC), (0x80204, 0x802BC), (0x80504, 0x8058C),
   (0x90404, 0x904BC), (0xB0040, 0xB0050), (0xF0104, 0xF0124)].any fun r => decide (r.1 ≤ a ∧ a ≤ r.2)
  || (decide (0xD8080 ≤ a ∧ a < 0xDA000) && (let o := a % 0x400; decide ((0x80 ≤ o ∧ o ≤ 0xBC) ∨ (0x100 ≤ o ∧ o ≤ 0x13C))))

/-- An accessor's RL copies dropped. -/
def Block.clearRl (b : Block) (acc : Nat) : Block := { b with acc := modAt b.acc acc fun r => r.filter fun e => !isRlAddr e.1 }

/-! ### Transports -/

/-- PCIE_LINK_DOWN (R419): the sessions of the four functions close. -/
def pcieLinkDown (k : Key) (b : Block) : Key × Block :=
  [0, 1, 2, 3].foldl (fun (kb : Key × Block) f => endSession f 2 kb.1 kb.2) (k, b)

/-- FUNCTION_LEVEL_RESET (R419). -/
def functionLevelReset (f : Nat) (k : Key) (b : Block) : Key × Block := if f < 4 then endSession f 2 k b else (k, b)

/-- UDP_SESSION_TIMEOUT (R422): no authenticated packet for UDP_TMO seconds. -/
def udpTimedOut (s : Nat) (b : Block) : Bool :=
  isUdp s && decide (s < 8) && (b.sess s).state == 1 && b.since (b.sess s).lastAuth (b.fld F.HST_CTRL_UDP_TMO * tickS)

def udpSessionTimeout (s : Nat) (k : Key) (b : Block) : Key × Block :=
  if udpTimedOut s b then endSession s 1 k b else (k, b)

/-! ### Command packets -/

/-- A number of bytes of a packet. -/
def pktNat (l : List Byte) (i n : Nat) : Nat := beNat (slice l i n)

/-- The opcodes of R433. -/
def opcodes : List Nat :=
  [0x0001, 0x0002, 0x0003, 0x0004, 0x0005, 0x0006, 0x0007, 0x0008, 0x0009, 0x0101, 0x0102, 0x0103, 0x0201, 0x0202, 0x0203, 0x0301,
   0x0302, 0x0303, 0x0304, 0x0305, 0x0401, 0x0402, 0x0403, 0x0404, 0x0405, 0x0501, 0x0502, 0x0503, 0x0504, 0x0505, 0x0601, 0x0602,
   0x0701, 0x0702, 0x0703, 0x0801, 0x0802, 0x0901, 0x0902, 0x0903, 0x0904, 0x0A01, 0x0A02, 0x0A03, 0x0A04, 0x0B01, 0x0B02, 0x0C01,
   0x0C02, 0x0C03, 0x0C04, 0x0C05, 0x0C06, 0x0D01, 0x0D02, 0x0D03]

/-- Checks 2 to 6 of R430 on a packet for session `s`, whose cells or datagram hold `room` as its size must agree. -/
def packetStatus (s : Nat) (pkt : List Byte) (agrees : Nat → Bool) : Nat :=
  let len := pktNat pkt 10 2
  if pktNat pkt 0 2 ≠ 0x5943 ∨ pktNat pkt 2 1 ≠ 1 then yBadParam
  else if 4096 < len ∨ !agrees len then yBadLength
  else if pktNat pkt (16 + len) 4 ≠ (crc32c (pkt.take (16 + len))).toNat then yBadCrc
  else if pktNat pkt 3 1 ≠ s then yDenied
  else if !opcodes.contains (pktNat pkt 6 2) then yBadOpcode
  else yOk

/-- A packet that passed checks 1 to 6 waits for its opcode's row. -/
def Block.takePacket (b : Block) (s cells : Nat) (pkt : List Byte) : Block :=
  b.modSess s fun x =>
    { x with cmdHeld := x.cmdHeld + cells,
             taken := x.taken ++ [⟨pktNat pkt 6 2, pktNat pkt 8 2, slice pkt 16 (pktNat pkt 10 2)⟩] }

/-- A command cell as 64 bytes: word k holds bytes 4k to 4k + 3, byte 4k in bits 7:0 (R437). -/
def cellBytes (ws : List W32) : List Byte :=
  ws.flatMap fun w => [w.extractLsb' 0 8, w.extractLsb' 8 8, w.extractLsb' 16 8, w.extractLsb' 24 8]

/-- PAN_CMD_CELL_APPEND (R437). -/
def panCmdCellAppend (f : Nat) (value : W32) (b : Block) : Block :=
  if 4 ≤ f then b
  else if (b.sess f).cmdFree = 0 then b.modSess f fun x => { x with cellBuf := x.cellBuf.set 15 value, overrun := true, cellLost := true }
  else b.modSess f fun x => { x with cellBuf := x.cellBuf.set 15 value, staged := x.staged ++ [cellBytes (x.cellBuf.set 15 value)] }

/-- PAN_CMD_PUSH (R437, R430): n cells as one packet. -/
def panCmdPush (f n : Nat) (b : Block) : Block :=
  if 4 ≤ f ∨ n = 0 then b
  else
    let x := b.sess f
    let pkt := x.staged.flatten
    let b := b.modSess f fun x => { x with staged := [], cellLost := false }
    let op := pktNat pkt 6 2
    let tag := pktNat pkt 8 2
    if x.staged.length ≠ n ∨ 65 < n then b.reply f op tag (if x.cellLost then yNoCredit else yBadLength) []
    else
      let st := packetStatus f pkt fun len => cellsFor len == n
      if st ≠ yOk then (b.reply f op tag st []).emit 10 Emit.pcie [f, 2]
      else b.takePacket f n pkt

/-- The session of an IPv4 address and UDP port. -/
def Block.udpSession (b : Block) (ip port : Nat) : Option Nat :=
  [4, 5, 6, 7].find? fun s => (b.sess s).state == 1 && (b.sess s).peerIp == ip && (b.sess s).peerPort == port

/-- A datagram discarded for its trailer (R421): 0 MAC, 1 counter; HOST_AUTH_FAIL at most once per second. -/
def Block.authFail (b : Block) (s ip cause : Nat) : Block :=
  let b := b.bump (Reg.HST_S_CNT_AUTH + 0x40 * s)
  if b.within (b.sess s).lastFail tickS then b
  else (b.modSess s fun x => { x with lastFail := some b.now }).note 0x0D03 s ip cause

/-- YCP_DATAGRAM_RECEIVE (R421, R429, R430). -/
def ycpDatagramReceive (d : Datagram) (b : Block) : Block :=
  let up := if d.mgt = 0 then b.flag F.HST_CTRL_UDP_MGT0 else b.flag F.HST_CTRL_UDP_MGT1
  if !up || d.dport != b.fld F.HST_CTRL_UDP_PORT then b
  else
    let hello := pktNat d.pkt 6 2 == 1 && d.counter == 0 && d.mac.all (· == 0)
    match b.udpSession d.ip d.port with
    | none => if hello then b else b.note 0x0D03 0xFF d.ip 0
    | some s =>
      let x := b.sess s
      if !hello && d.mac != ycpMac x.sessKey d.pkt d.counter then b.authFail s d.ip 0
      else if !hello && decide (d.counter ≤ x.rxCtr) then b.authFail s d.ip 1
      else
        let b := if hello then b else b.modSess s fun x => { x with rxCtr := d.counter, lastAuth := b.now }
        let op := pktNat d.pkt 6 2
        let tag := pktNat d.pkt 8 2
        let cells := cellsFor (d.pkt.length - 20)
        if x.cmdFree < cells then b.controlReply s op tag yNoCredit []
        else
          let st := packetStatus s d.pkt fun len => d.pkt.length == 20 + len
          if st ≠ yOk then b.reply s op tag st [] else b.takePacket s cells d.pkt

/-! ### HELLO and BYE -/

/-- The texts of R468 and R469. -/
def txtSession : List Byte := asciiBytes [0x59, 0x43, 0x50, 0x2D, 0x53, 0x45, 0x53, 0x53, 0x49, 0x4F, 0x4E]

/-- A session opens (R423): its panniers, its counters and its latched copies are fresh. -/
def Block.openSession (b : Block) (s roles cmdSz rplSz evtSz : Nat) (u : Option HelloUdp) (key : BitVec 384) : Block :=
  let x : Session := { Session.closed with
    state := 1, roles := roles, cmdSz := cmdSz, rplSz := rplSz, evtSz := evtSz,
    peerIp := (u.map (·.ip)).getD 0, peerPort := (u.map (·.port)).getD 0, mgt := (u.map (·.mgt)).getD 0,
    rpl := { Pannier.empty with size := 8 * rplSz }, evt := { Pannier.empty with size := 8 * evtSz }, sessKey := key, lastAuth := b.now,
    taken := (b.sess s).taken, cmdHeld := (b.sess s).cmdHeld }
  let b := b.modSess s fun _ => x
  let b := (List.range 8).foldl (fun b i => b.wr (Reg.HST_S_CNT_CMD + 0x40 * s + 4 * i) 0) b
  let b := if isUdp s then b else b.clearRl s
  (b.clearRl (accOf s)).note 0x0D01 s 1 0 x.peerIp

/-- The fields of a HELLO's reply that every transport has (R433). -/
def helloReply (b : Block) (s roles : Nat) : List Byte :=
  beBytes 1 s ++ beBytes 1 roles ++ beBytes 4 (topIdOf b.top.variant) ++ beBytes 2 (b.sess s).cmdFree

/-- A HELLO is taken from its session's command pannier and counted (R437, R452). -/
def Block.helloTake (b : Block) (s : Nat) (h : Hdr) : Block :=
  (b.takeCmd { h with session := s } 0x0001).bump (Reg.HST_S_CNT_CMD + 0x40 * s)

/-- A HELLO that fails: its reply into the session's RPL, unauthenticated on UDP when no session holds the peer (R422). -/
def Block.helloFail (b : Block) (s : Nat) (h : Hdr) (u : Option HelloUdp) (status : Nat) : Block :=
  match u with
  | none => (b.helloTake s h).reply s 0x0001 h.tag status []
  | some x => b.send (4 + x.mgt) Emit.ycp (udpLen false 20) ((ycpPacket s flReply 0x0001 h.tag status 0 0 []).map BitVec.toNat)

/-- Sizes of 9 to 128 blocks and VERSION 1 (R433, R436). -/
def helloParamsOk (version cmdSz rplSz evtSz : Nat) : Bool :=
  version == 1 && [cmdSz, rplSz, evtSz].all fun n => decide (9 ≤ n ∧ n ≤ 128)

/-- HELLO over PCIe (R424). -/
def helloPcie (h : Hdr) (version cmdSz rplSz evtSz : Nat) (b : Block) : Block :=
  let s := h.session
  let roles := b.gspRoles s
  if 4 ≤ s then b
  else if (b.sess s).state = 1 then b.helloFail s h none yBusy
  else if b.topState = stKick ∧ s ≠ 0 then b.helloFail s h none yDenied
  else if !helloParamsOk version cmdSz rplSz evtSz then b.helloFail s h none yBadParam
  else if roles = 0 then b.helloFail s h none yDenied
  else
    let b := (b.openSession s roles cmdSz rplSz evtSz none 0).helloTake s h
    b.reply s 0x0001 h.tag yOk (helloReply b s roles)

/-- The roles a UDP HELLO proves: the signature verifies and the credential slot is LOADED and not WITHHELD (R468). -/
def provedRoles (k : Key) (sigs : List (Nat × Bool)) : Nat :=
  maskOf ((sigs.filter fun e => decide (e.1 < 5) && e.2 && k.usable (14 + e.1)).map (·.1))

/-- A HELLO over UDP that opened session `s` (R468, R469): the device's ephemeral key and the session key, each in its slot, then the
session, then the reply with the quote and the alias certificate. -/
def helloUdpOpen (h : Hdr) (s roles proved cmdSz rplSz evtSz : Nat) (u : HelloUdp) (k : Key) (b : Block) : Key × Block :=
  let d := Config.randomKey k.draws
  let qd := Config.publicKey d
  let sk := Config.kdf (Config.ecdh d u.qh) (txtSession ++ [0x00#8] ++ pub384 u.qh ++ pub384 qd ++ beBytes 1 s)
  let base : KeySlot := { KeySlot.empty with engine := 0x20, ephemeral := true, created := b.tim.sec, mf := k.mf, owner := s }
  let k1 : Key := { k with draws := k.draws + 1 }
  let kb := keyLoaded k1 b (23 + s) { base with alg := 4, origin := 1, secret := d, pub := qd }
  let kb := keyLoaded kb.1 kb.2 (27 + s) { base with alg := 2, origin := 0, secret := sk }
  let k := kb.1
  let b := (((kb.2.bump Reg.KEY_CNT_OP).openSession s roles cmdSz rplSz evtSz (some u) sk).modSess s fun x => { x with proved := proved }).helloTake s h
  let nonce : BitVec 256 := BitVec.ofNat 256 ((Config.sha384 (pub384 u.qh)).toNat >>> 128)
  let bind := Config.sha256 (pub384 u.qh ++ pub384 qd ++ beBytes 1 s ++ beBytes 1 roles)
  (k, b.reply s 0x0001 h.tag yOk (helloReply b s roles ++ pub384 qd ++ k.quote b nonce bind ++ k.aliasDoc))

/-- HELLO over UDP (R422, R468, R469). -/
def helloUdp (h : Hdr) (version cmdSz rplSz evtSz : Nat) (u : HelloUdp) (tampered : Bool) (k : Key) (b : Block) : Key × Block :=
  match b.udpSession u.ip u.port with
  | some s => (k, b.helloFail s h none yBusy)
  | none =>
    match [4, 5, 6, 7].find? fun s => (b.sess s).state == 0 with
    | none => (k, b.helloFail 4 h (some u) yResource)
    | some s =>
      let proved := provedRoles k u.sigs
      let granted := b.gspRoles s &&& proved
      let bad := (u.sigs.filter fun e => !e.2).length
      if b.topState = stKick ∧ u.mgt ≠ 0 then (k, b.helloFail s h (some u) yDenied)
      else if !helloParamsOk version cmdSz rplSz evtSz ∨ u.sigs.isEmpty ∨ 5 < u.sigs.length then (k, b.helloFail s h (some u) yBadParam)
      else
        let b := b.bumpBy Reg.KEY_CNT_AUTH_FAIL bad
        if proved = 0 then (k, b.helloFail s h (some u) yAuthFail)
        else if granted = 0 then (k, b.helloFail s h (some u) yDenied)
        else if tampered then
          ((k.zeroise (23 + s)).zeroise (27 + s), (keyAbort k b 0x0001 (23 + s)).helloFail s h (some u) yTamperAbort)
        else
          helloUdpOpen h s (granted ||| 1) proved cmdSz rplSz evtSz u k b

/-- HELLO. -/
def hello (h : Hdr) (version cmdSz rplSz evtSz : Nat) (udp : Option HelloUdp) (tampered : Bool) (k : Key) (b : Block) : Key × Block :=
  match udp with
  | none => (k, helloPcie h version cmdSz rplSz evtSz b)
  | some u => helloUdp h version cmdSz rplSz evtSz u tampered k b

/-- BYE (R423): OK, then the session closes. -/
def bye (h : Hdr) (k : Key) (b : Block) : Key × Block :=
  let b := b.ycpTake k h 0x0002
  let st := b.precheck k h 0x0002 ⟨none, false⟩
  if st ≠ yOk then (k, b.ycpReply h 0x0002 st [])
  else
    let pkt := ycpPacket h.session flReply 0x0002 h.tag yOk (b.creditByte h.session) 0 []
    let b := if isUdp h.session then b.sendDatagram h.session pkt else b.emit 10 Emit.ycp (pkt.map BitVec.toNat)
    endSession h.session 0 k b

/-- CREDIT_QUERY (R433). -/
def creditQuery (h : Hdr) (k : Key) (b : Block) : Block :=
  b.ycp k h 0x0003 ⟨none, false⟩ fun b =>
    let x := b.sess h.session
    ⟨yOk, beBytes 2 x.cmdFree ++ beBytes 2 x.rpl.free ++ beBytes 2 x.evt.free, b⟩

/-! ### The saddle -/

/-- The saddle granted to a session for `leaseS` seconds. -/
def Block.grantSaddle (b : Block) (s leaseS reason : Nat) : Block :=
  ((b.modHst fun u => { u with holder := some s, leaseEnd := b.now + leaseS * tickS, leaseS := leaseS })).note 0x0D02 s reason leaseS

/-- SADDLE_TAKE's body (R426). -/
def saddleTakeBody (s leaseS : Nat) (force : Bool) (k : Key) (b : Block) : YRes :=
  if leaseS < 10 ∨ 3600 < leaseS then yErr b yBadParam
  else
    let expiry := beBytes 6 (lt48 (b.tai + leaseS * tickS)).toNat
    match b.hst.holder with
    | none => ⟨yOk, expiry, b.grantSaddle s leaseS 0⟩
    | some t =>
      if t = s then ⟨yOk, expiry, b.grantSaddle s leaseS 0⟩
      else if force && b.hasRole k s roleMnt then
        let b := b.modSess t fun x => { x with outStage := none, gspStage := none, fwStage := none }
        ⟨yOk, expiry, b.grantSaddle s leaseS 4⟩
      else yErr b yBusy

/-- SADDLE_TAKE. -/
def saddleTake (h : Hdr) (leaseS : Nat) (force : Bool) (k : Key) (b : Block) : Block :=
  b.ycp k h 0x0004 ⟨some roleEng, false⟩ (saddleTakeBody h.session leaseS force k)

/-- SADDLE_DROP (R427). -/
def saddleDrop (h : Hdr) (k : Key) (b : Block) : Block :=
  b.ycp k h 0x0005 ⟨some roleEng, true⟩ fun b => yDone (b.releaseSaddle 1)

/-- SADDLE_EXPIRY (R427). -/
def saddleExpiry (b : Block) : Block :=
  if b.hst.holder.isSome && decide (b.hst.leaseEnd ≤ b.now) then b.releaseSaddle 2 else b

/-! ### Pannier operations -/

/-- A session's reply (0) or event pannier changed. -/
def Block.modPan (b : Block) (s pannier : Nat) (f : Pannier → Pannier) : Block :=
  b.modSess s fun x => if pannier = 0 then { x with rpl := f x.rpl } else { x with evt := f x.evt }

/-- A session's reply (0) or event pannier. -/
def Block.pan (b : Block) (s pannier : Nat) : Pannier := if pannier = 0 then (b.sess s).rpl else (b.sess s).evt

/-- A pannier operation by register or opcode (R439); by opcode the control reply carries its status (R441). -/
def panOp (via : PanVia) (op pannier : Nat) (f : Pannier → Pannier) (k : Key) (b : Block) : Block :=
  match via with
  | .reg fn => if fn < 4 then b.modPan fn pannier f else b
  | .ycp h =>
    let s := h.session
    let b := b.ycpTake k h op
    let st := b.precheck k h op ⟨none, false⟩
    if st ≠ yOk then b.ycpReply h op st []
    else if !isUdp s then b.ycpReply h op yDenied []
    else if 1 < pannier then b.controlReply s op h.tag yBadParam []
    else
      let b := b.modPan s pannier f
      b.controlReply s op h.tag (b.pan s pannier).result []

/-- PAN_MARK (R439). -/
def panMark (via : PanVia) (pannier : Nat) (k : Key) (b : Block) : Block := panOp via 0x0006 pannier .setMark k b

/-- The packets from RP to WP sent again to a UDP peer, RP past them (R441). -/
def Block.resend (b : Block) (s pannier : Nat) : Block :=
  let p := b.pan s pannier
  let cells := p.cells.drop (p.rp - p.fp).toNat
  let b := if cells.isEmpty then b else b.sendDatagram s cells.flatten
  b.modPan s pannier fun p => { p with rp := p.wp }

/-- The session a pannier operation is of; whether it comes by opcode over UDP. -/
def viaSession : PanVia → Nat
  | .reg f => f
  | .ycp h => h.session
def viaUdp : PanVia → Bool
  | .reg _ => false
  | .ycp h => isUdp h.session

/-- PAN_REWIND (R439); on UDP every packet from MK to WP is sent again (R441). -/
def panRewind (via : PanVia) (pannier : Nat) (k : Key) (b : Block) : Block :=
  let again := viaUdp via && (b.pan (viaSession via) pannier).mark.isSome && decide (pannier < 2)
  let b := panOp via 0x0007 pannier .rewind k b
  if again then b.resend (viaSession via) pannier else b

/-- PAN_RELEASE (R439). -/
def panRelease (via : PanVia) (pannier n : Nat) (k : Key) (b : Block) : Block := panOp via 0x0008 pannier (·.release n) k b

/-- PAN_RPL_NEXT (R439). -/
def panRplNext (f pannier : Nat) (b : Block) : Block := if f < 4 then b.modPan f pannier .next else b

/-! ### Tags, fragments, events -/

/-- TAG_QUERY (R431): the reply's status is the tag's. -/
def tagQuery (h : Hdr) (tag : Nat) (k : Key) (b : Block) : Block :=
  b.ycp k h 0x0009 ⟨none, false⟩ fun b =>
    let x := b.sess h.session
    if x.pending.any (fun e => e.1 == tag) || x.taken.any (fun t => t.tag == tag) then yErr b yNotReady
    else
      yErr b (((x.done.find? fun e => e.1 == tag).map (·.2)).getD yBadParam)

/-- PENDING_COMMAND_COMPLETE (R431): the final reply of a command that runs in the background. -/
def pendingCommandComplete (s tag status : Nat) (payload : List Byte) (b : Block) : Block :=
  match (b.sess s).pending.find? (fun e => e.1 == tag) with
  | none => b
  | some e => if status = yPending ∨ status = yNotReady then b else b.finish s tag e.2 status payload

/-- REPLY_FRAGMENT (R442). -/
def replyFragment (s : Nat) (b : Block) : Block := b.replyStep s

/-- HOST_EVT_GAP (R448): once EVT has room again, the notice of what a subscription lost. -/
def hostEvtGap (s sub : Nat) (b : Block) : Block :=
  match (b.sess s).subs.find? (fun u => u.num == sub && u.dropped != 0) with
  | none => b
  | some u =>
    if (b.sess s).evt.free < 1 then b
    else
      let pkt := ycpPacket s flEvent 0x0D0F u.num yOk (b.creditByte s) u.seqNo (beBytes 4 u.dropped)
      let b := b.modSess s fun x => { x with subs := x.subs.map fun v =>
        if v.num = u.num then { v with dropped := 0, seqNo := (v.seqNo + 1) % 65536 } else v }
      (b.putEvt s pkt).note 0x0D04 s u.num u.dropped

/-- The lowest subscription number not in use. -/
def freeSub (subs : List Sub) : Nat := ((List.range 16).find? fun n => !subs.any (fun u => u.num == n)).getD 16

/-- SUB_ADD (R446). -/
def subAdd (h : Hdr) (kind filter : Nat) (k : Key) (b : Block) : Block :=
  b.ycp k h 0x0D01 ⟨some roleObs, false⟩ fun b =>
    let subs := (b.sess h.session).subs
    if 4 < kind then yErr b yBadParam
    else if 16 ≤ subs.length then yErr b yResource
    else
      let n := freeSub subs
      ⟨yOk, beBytes 1 n, b.modSess h.session fun x => { x with subs := x.subs ++ [⟨n, kind, filter, 0, 0⟩] }⟩

/-- SUB_REMOVE (R446). -/
def subRemove (h : Hdr) (sub : Nat) (k : Key) (b : Block) : Block :=
  b.ycp k h 0x0D02 ⟨some roleObs, false⟩ fun b =>
    if (b.sess h.session).subs.any (fun u => u.num == sub) then
      yDone (b.modSess h.session fun x => { x with subs := x.subs.filter (·.num != sub) })
    else yErr b yBadParam

/-- SUB_LIST (R446). -/
def subList (h : Hdr) (k : Key) (b : Block) : Block :=
  b.ycp k h 0x0D03 ⟨some roleObs, false⟩ fun b =>
    ⟨yOk, (b.sess h.session).subs.flatMap fun u => beBytes 1 u.num ++ beBytes 1 u.kind ++ beBytes 4 u.filter, b⟩

/-! ### HST_SHARE -/

/-- Sum of the four weights of a share register. -/
def shareSum (v : W32) : Nat := bits v 7 0 + bits v 15 8 + bits v 23 16 + bits v 31 24

/-- HOST_SHARE_WRITE as a write (R425). -/
def hostShareW (acc which : Nat) (value : W32) (k : Key) (b : Block) : WRes :=
  let st := b.mayWrite k acc roleEng true
  let addr := if which = 0 then Reg.HST_SHARE_A else Reg.HST_SHARE_B
  let other := b.rd (if which = 0 then Reg.HST_SHARE_B else Reg.HST_SHARE_A)
  if st ≠ yOk then wErr b acc st
  else if 100 < shareSum value + shareSum other then ⟨yBadParam, b.put F.HST_STAT_SHARE_ERR 1⟩
  else
    let b := (b.wr addr value).put F.HST_STAT_SHARE_ERR 0
    ⟨yOk, b.note 0x0D05 (b.rd Reg.HST_SHARE_A).toNat (b.rd Reg.HST_SHARE_B).toNat⟩

/-! ### The commands -/

def execPcieLinkDown (s : State) : Host.Outcome State Fault Refusal := .next (s.onKB pcieLinkDown)
def execFunctionLevelReset (f : Nat) (s : State) : Host.Outcome State Fault Refusal := .next (s.onKB (functionLevelReset f))
def execUdpSessionTimeout (session : Nat) (s : State) : Host.Outcome State Fault Refusal :=
  .next (s.onKB (udpSessionTimeout session))
def execPanCmdCellAppend (f : Nat) (value : W32) (s : State) : Host.Outcome State Fault Refusal :=
  .next (s.onB fun _ => panCmdCellAppend f value)
def execPanCmdPush (f n : Nat) (s : State) : Host.Outcome State Fault Refusal := .next (s.onB fun _ => panCmdPush f n)
def execYcpDatagramReceive (d : Datagram) (s : State) : Host.Outcome State Fault Refusal :=
  .next (s.onB fun _ => ycpDatagramReceive d)
def execSaddleExpiry (s : State) : Host.Outcome State Fault Refusal := .next (s.onB fun _ => saddleExpiry)
def execHello (h : Hdr) (version cmdSz rplSz evtSz : Nat) (udp : Option HelloUdp) (tampered : Bool) (s : State) :
    Host.Outcome State Fault Refusal := .next (s.onKB (hello h version cmdSz rplSz evtSz udp tampered))
def execBye (h : Hdr) (s : State) : Host.Outcome State Fault Refusal := .next (s.onKB (bye h))
def execCreditQuery (h : Hdr) (s : State) : Host.Outcome State Fault Refusal := .next (s.onB (creditQuery h))
def execSaddleTake (h : Hdr) (leaseS : Nat) (force : Bool) (s : State) : Host.Outcome State Fault Refusal :=
  .next (s.onB (saddleTake h leaseS force))
def execSaddleDrop (h : Hdr) (s : State) : Host.Outcome State Fault Refusal := .next (s.onB (saddleDrop h))
def execPanMark (via : PanVia) (pannier : Nat) (s : State) : Host.Outcome State Fault Refusal := .next (s.onB (panMark via pannier))
def execPanRewind (via : PanVia) (pannier : Nat) (s : State) : Host.Outcome State Fault Refusal :=
  .next (s.onB (panRewind via pannier))
def execPanRelease (via : PanVia) (pannier n : Nat) (s : State) : Host.Outcome State Fault Refusal :=
  .next (s.onB (panRelease via pannier n))
def execPanRplNext (f pannier : Nat) (s : State) : Host.Outcome State Fault Refusal := .next (s.onB fun _ => panRplNext f pannier)
def execTagQuery (h : Hdr) (tag : Nat) (s : State) : Host.Outcome State Fault Refusal := .next (s.onB (tagQuery h tag))
def execPendingCommandComplete (session tag status : Nat) (payload : List Byte) (s : State) : Host.Outcome State Fault Refusal :=
  .next (s.onB fun _ => pendingCommandComplete session tag status payload)
def execReplyFragment (session : Nat) (s : State) : Host.Outcome State Fault Refusal := .next (s.onB fun _ => replyFragment session)
def execHostEvtGap (session sub : Nat) (s : State) : Host.Outcome State Fault Refusal := .next (s.onB fun _ => hostEvtGap session sub)
def execSubAdd (h : Hdr) (kind filter : Nat) (s : State) : Host.Outcome State Fault Refusal := .next (s.onB (subAdd h kind filter))
def execSubRemove (h : Hdr) (sub : Nat) (s : State) : Host.Outcome State Fault Refusal := .next (s.onB (subRemove h sub))
def execSubList (h : Hdr) (s : State) : Host.Outcome State Fault Refusal := .next (s.onB (subList h))
def execHostShareWrite (acc which : Nat) (value : W32) (s : State) : Host.Outcome State Fault Refusal :=
  .next (s.onB fun k b => (hostShareW acc which value k b).b)

end Sys2Proof.Machine
end

