-- ==== Sys2Proof/Machine/Recorder.lean ====
section
/-!
DEFINITION. The event recorder (spec/15_event_recorder.md, R483 to R504).
-/
namespace Sys2Proof.Machine

/-! ### Records (R484 to R487) -/

/-- Bytes 0 to 27 of a record. -/
def LogRec.head (r : LogRec) : List Byte :=
  beBytes 2 r.code ++ beBytes 1 r.src ++ beBytes 1 r.flags ++ beBytes 8 r.time ++ wordBytes [r.p0, r.p1, r.p2, r.p3]

/-- The 32 bytes of a record. -/
def LogRec.bytes (r : LogRec) : List Byte := r.head ++ wordBytes [r.crc]

/-- The record's CRC passes. -/
def LogRec.crcOk (r : LogRec) : Bool := r.crc == crc32c r.head

/-- The record has operating-seconds form (FLAGS bit 7). -/
def LogRec.tform (r : LogRec) : Bool := r.flags.testBit 7

/-- OPSEC (R487). -/
def Block.opsec (b : Block) : Nat :=
  b.log.opsec + match b.log.opsecFrom with
    | none => 0
    | some t => (b.now - t) / tickS

/-- PFAIL is asserted. -/
def Block.pfail (b : Block) : Bool := b.flag F.PWR_STAT_PFAIL

/-- A record of this source takes operating-seconds form now (R486). -/
def Block.tformNow (b : Block) (src : Nat) : Bool :=
  b.topState == stStart || b.topState == stKick || (b.topState == stMaint && (b.inL1 || b.inL2)) || src == 3 || src == 5

/-! ### Positions (R489 to R492) -/

/-- The log is forensic (R491). -/
def Log.forensic (l : Log) : Bool := l.size == 65536

/-- LOG_FIXED as it counts: 0 in a forensic log (R491). -/
def Log.fix (l : Log) : Nat := if l.forensic then 0 else l.fixed

/-- The RNUM after `r` (R490). -/
def Log.succ (l : Log) (r : Nat) : Nat := if r = 0xFFFFFFFF then l.fix else r + 1

/-- The circulating RNUM `n` before `r`, modulo the range LOG_FIXED to 0xFFFF_FFFF. -/
def Log.back (l : Log) (r n : Nat) : Nat :=
  if l.fix + n ≤ r then r - n else r + (0x100000000 - l.fix) - n

/-- Numbering has passed 0xFFFF_FFFF: the record of that number is committed or queued. -/
def Log.wrapped (l : Log) : Bool := (tabGet l.area 0xFFFFFFFF).isSome || l.queue.any (·.rnum == 0xFFFFFFFF)

/-- LOG_RNUM_OLDEST (R492). -/
def Log.oldest (l : Log) : Nat :=
  if l.forensic then 0
  else if l.fix + (l.size - l.fix) ≤ l.rnumNext || l.wrapped then l.back l.rnumNext (l.size - l.fix)
  else l.fix

/-- An RNUM is held (R492). -/
def Log.held (l : Log) (r : Nat) : Bool :=
  if r < l.fix then decide (r < l.rnumNext) || l.wrapped
  else if l.oldest ≤ l.rnumNext then decide (l.oldest ≤ r ∧ r < l.rnumNext)
  else decide (l.oldest ≤ r ∧ r ≤ 0xFFFFFFFF) || decide (r < l.rnumNext)

/-- The record of a held RNUM, committed or still queued. -/
def Log.recOf (l : Log) (r : Nat) : Option LogRec :=
  if l.held r then
    match l.queue.find? (·.rnum == r) with
    | some x => some x
    | none => tabGet l.area r
  else none

/-! ### Acceptance (R485, R491, R493, R498) -/

/-- A record as it is numbered now: its form, its flags and its CRC. -/
def Block.mkRec (b : Block) (code src : Nat) (aon start : Bool) (p0 p1 p2 p3 : W32) : LogRec :=
  let l := b.log
  let op := code != 0x0F03 && b.tformNow src
  let r : LogRec :=
    { rnum := l.rnumNext, code := code, src := src,
      flags := 128 * op.toNat + 64 * aon.toNat + 32 * (decide (l.rnumNext < l.fix)).toNat + 16 * start.toNat,
      time := if op then (b.opsec % 2 ^ 40) * 2 ^ 24 + l.pcc else l.seq, p0 := p0, p1 := p1, p2 := p2, p3 := p3, crc := 0 }
  { r with crc := crc32c r.head }

/-- A record delivered to the LOG subscriptions whose filter lets its family pass (R446, R498). -/
def Block.deliver (b : Block) (r : LogRec) : Block := b.event 1 (fun f => f.testBit (r.code / 256)) r.bytes

/-- The header copies take a SEQ at least this high (R485, R493). -/
def Log.hdrSeq (l : Log) (n : Nat) : Log :=
  { l with hdrA := { l.hdrA with seq := max l.hdrA.seq n }, hdrB := { l.hdrB with seq := max l.hdrB.seq n } }

/-- A record accepted and not stored: it takes its SEQ, counts in LOG_LOST and is delivered (R491). -/
def Block.lose (b : Block) (r : LogRec) : Block :=
  (b.modLog fun l =>
    let seq := if r.tform then l.seq else (l.seq + 1) % 2 ^ 64
    { l with lost := min 0xFFFFFFFF (l.lost + 1), seq := seq }.hdrSeq seq).deliver r

/-- A record into the queue (R493): RNUM, SEQ, the bytes of the seal chain, delivery. -/
def Block.enqueue (b : Block) (r : LogRec) : Block :=
  let sealing := r.code == 0x0F04
  let secs := b.opsec
  (b.modLog fun l =>
    { l with queue := l.queue ++ [r], rnumNext := l.succ l.rnumNext, seq := if r.tform then l.seq else (l.seq + 1) % 2 ^ 64,
             lastSeq := if r.tform then l.lastSeq else r.time, lastOpsec := secs,
             sealCount := if sealing then 0 else l.sealCount + 1,
             sealBytes := if sealing then [] else l.sealBytes ++ r.bytes }).deliver r

/-- A record accepted while the queue has room, or stored nowhere: the forensic log's end is LOG_FULL at RNUM 65,535 (R491). -/
def Block.accept (b : Block) (code src : Nat) (aon start : Bool) (p0 p1 p2 p3 : W32) : Block :=
  let l := b.log
  let r := b.mkRec code src aon start p0 p1 p2 p3
  if l.full then b.lose r
  else if l.forensic && decide (65535 ≤ l.rnumNext) then
    let b := (b.lose r).modLog fun l => { l with full := true }
    b.enqueue (b.mkRec 0x0F02 1 false false (BitVec.ofNat 32 l.lastOpsec) (BitVec.ofNat 32 l.lastSeq) 0 0)
  else b.enqueue r

/-- The queue has room, or the log takes no record in. -/
def Log.room (l : Log) : Bool := l.full || decide (l.queue.length < 64)

/-! ### The recorder's own records (R488, R495 to R497) -/

/-- LOG_DROPPED is due (R495, R496). -/
def Block.dropDue (b : Block) : Bool := b.log.dropped != 0 && !b.pfail && b.log.room

/-- LOG_DROPPED. -/
def logDropped (b : Block) : Block :=
  if b.dropDue then
    let n := b.log.dropped
    (b.modLog fun l => { l with dropped := 0 }).accept 0x0F05 1 false false (BitVec.ofNat 32 n) 0 0 0
  else b

/-- A LOG_SEAL is due (R497): a chain opens, or SEAL_N records stand since the last one. -/
def Block.sealDue (k : Key) (b : Block) : Bool :=
  k.usable 2 && b.log.room && !b.log.full && (b.log.chainDue || decide (max 1 (b.fld F.LOG_CTRL_SEAL_N) ≤ b.log.sealCount))

/-- The first 16 bytes of the seal over a previous seal and the records since (R497). -/
def sealOf (k : Key) (prev : BitVec 128) (body : List Byte) : BitVec 128 :=
  (Config.hmac256 (k.slot 2).secret (beBytes 16 prev.toNat ++ body)).extractLsb' 128 128

/-- The seal a LOG_SEAL written now carries (R497). -/
def Block.sealNow (k : Key) (b : Block) : BitVec 128 :=
  if b.log.chainDue then sealOf k 0 [] else sealOf k b.log.prevSeal b.log.sealBytes

/-- LOG_SEAL with the seal `v`: the record, which opens a chain where one is due, and the next seal's previous value. -/
def Block.sealWith (k : Key) (b : Block) (v : BitVec 128) : Block :=
  let l := b.log
  let b := b.accept 0x0F04 1 false l.chainDue (v.extractLsb' 96 32) (v.extractLsb' 64 32) (v.extractLsb' 32 32) (v.extractLsb' 0 32)
  (b.modLog fun m => { m with prevSeal := v, chainDue := false,
                              chains := if l.chainDue then m.chains ++ [(l.rnumNext, k.lcs)] else m.chains }).bump Reg.LOG_CNT_SEAL

/-- LOG_SEAL. -/
def logSeal (k : Key) (b : Block) : Block := if b.sealDue k then b.sealWith k (b.sealNow k) else b

/-- A record discarded and counted (R495, R496). -/
def Block.dropRec (b : Block) : Block := (b.modLog fun l => { l with dropped := l.dropped + 1 }).bump Reg.LOG_CNT_DROP

/-- A record taken in (R493): what the recorder itself owes goes first; it is discarded where the queue is full. -/
def Block.takeIn (k : Key) (b : Block) (code src : Nat) (aon : Bool) (p0 p1 p2 p3 : W32) : Block :=
  let b := logSeal k (logDropped b)
  if b.log.room then b.accept code src aon false p0 p1 p2 p3 else b.dropRec

/-- A record arrives (R493, R495, R496): a record of the firmware's source under PFAIL is discarded. -/
def Block.arrive (k : Key) (b : Block) (code src : Nat) (aon : Bool) (p0 p1 p2 p3 : W32) : Block :=
  if b.pfail && src == 1 then b.dropRec else b.takeIn k code src aon p0 p1 p2 p3

/-- RECORD_ACCEPT: the record offered first. -/
def recordAccept (k : Key) (b : Block) : Block :=
  match b.log.offered with
  | [] => b
  | r :: rest => (b.modLog fun l => { l with offered := rest }).arrive k r.code r.src r.aon r.p0 r.p1 r.p2 r.p3

/-- A TIME_MARK is due (R488). -/
def Block.markDue (b : Block) : Bool :=
  let l := b.log
  b.fld F.TIM_STAT_STATE != 0 &&
    (!l.marked || (b.tim.stepAt.isSome && b.tim.stepAt != l.markStep) || (b.tim.leapAt.isSome && b.tim.leapAt != l.markLeap)
      || b.since l.markTick (b.fld F.LOG_CTRL_MARK_MIN * 60 * tickS))

/-- The mark's own condition, met anew: the instant, the step and the leap it answers. -/
def Block.marked (b : Block) : Block :=
  b.modLog fun l => { l with marked := true, markTick := b.now, markStep := b.tim.stepAt, markLeap := b.tim.leapAt }

/-- P2 of TIME_MARK: the seconds above 32 bits and the device class. -/
def Block.markP2 (b : Block) : W32 := BitVec.ofNat 32 (((b.tim.sec / 2 ^ 32) % 65536) * 65536 + b.devClass % 8)

/-- TIME_MARK: the TAI and the OPSEC of its acceptance. -/
def timeMark (k : Key) (b : Block) : Block :=
  if b.markDue then
    b.marked.arrive k 0x0F03 1 false (BitVec.ofNat 32 b.tim.sec) (BitVec.ofNat 32 b.tim.ns) b.markP2 (BitVec.ofNat 32 b.opsec)
  else b

/-! ### Commit and save (R487, R490, R493) -/

/-- A record, then both header copies, into MRAM; in the circulating area it overwrites the oldest one there. -/
def Block.commitRec (b : Block) (r : LogRec) : Block :=
  let l := b.log
  let victim := l.back r.rnum (l.size - l.fix)
  let oldest := !l.forensic && decide (l.fix ≤ r.rnum) && (tabGet l.area victim).isSome
  let h (x : LogHdr) : LogHdr := ⟨l.succ r.rnum, if r.tform then x.seq else max x.seq (r.time + 1), true⟩
  let b := b.modLog fun l =>
    { l with area := tabSet (if oldest then tabDel l.area victim else l.area) r.rnum r, hdrA := h l.hdrA, hdrB := h l.hdrB }
  let b := b.bump Reg.LOG_CNT_WRITTEN
  if oldest then b.bump Reg.LOG_CNT_OVERWRITE else b

/-- RECORD_COMMIT: the oldest record queued. -/
def recordCommit (b : Block) : Block :=
  match b.log.queue with
  | [] => b
  | r :: rest => (b.commitRec r).modLog fun l => { l with queue := rest }

/-- The whole queue committed (R496, R500). -/
def Block.commitAll (b : Block) : Block := (b.log.queue.foldl Block.commitRec b).modLog fun l => { l with queue := [] }

/-- OPSEC and LOG_LOST saved (R487, R491). -/
def Block.saveOpsec (b : Block) (atPfail : Bool) : Block :=
  let n := b.opsec
  b.modLog fun l => { l with opsecSaved := n, savedAtPfail := atPfail, lostSaved := l.lost }

/-- OPSEC_SAVE: every 60 s. -/
def opsecSave (b : Block) : Block := if b.log.opsecSaved + 60 ≤ b.opsec then b.saveOpsec false else b

/-! ### Verification (R497) -/

/-- What a chain's verification finds. -/
inductive ChainFind where
  | passes
  | skipped
  | fails (rnum : Nat)
  deriving DecidableEq, Repr

/-- The chain read on from RNUM `r`: `prev` is its last seal, `body` the records since; `first` at its start. -/
def chainFrom (k : Key) (l : Log) : Nat → Nat → Bool → BitVec 128 → List Byte → ChainFind
  | 0, _, _, _, _ => .passes
  | fuel + 1, r, first, prev, body =>
    match tabGet l.area r with
    | none => if r = l.hdrA.rnumNext then .passes else .skipped
    | some x =>
      if x.code = 0x0F04 then
        let v : BitVec 128 := x.p0 ++ x.p1 ++ x.p2 ++ x.p3
        if x.flags.testBit 4 then
          if !first then .passes
          else if v = sealOf k 0 [] then chainFrom k l fuel (l.succ r) false v [] else .fails r
        else if first then .skipped
        else if v = sealOf k prev body then chainFrom k l fuel (l.succ r) false v [] else .fails r
      else if first then .skipped
      else chainFrom k l fuel (l.succ r) false prev (body ++ x.bytes)

/-- Every chain held under the life-cycle state in force is recomputed; a failing one sets SEAL_FAIL and writes LOG_SEAL_FAIL. -/
def Block.verifyChains (k : Key) (b : Block) : Block :=
  if !k.usable 2 then b
  else (b.log.chains.filter (·.2 == k.lcs)).foldl (fun b c =>
    match chainFrom k b.log (b.log.area.length + 1) c.1 true 0 [] with
    | .fails r => (b.put F.LOG_STAT_SEAL_FAIL 1).note 0x0F06 r
    | _ => b) b

/-- SEAL_VERIFY: a write of LOG_CTRL.VERIFY, or the start's own. -/
def sealVerifyW (acc : Nat) (k : Key) (b : Block) : WRes :=
  let st := b.mayWrite k acc roleEng true
  if st ≠ yOk then wErr b acc st else ⟨yOk, b.verifyChains k⟩

/-! ### Reading (R498, R503) -/

/-- The records from `first` on; none when one is not held. -/
def Log.range (l : Log) : Nat → Nat → Option (List LogRec)
  | 0, _ => some []
  | n + 1, r =>
    match l.recOf r, l.range n (l.succ r) with
    | some x, some xs => some (x :: xs)
    | _, _ => none

/-- LOG_READ's body. -/
def logReadBody (first count : Nat) (b : Block) : YRes :=
  if count < 1 ∨ 128 < count then yErr b yBadParam
  else
    match b.log.range count first with
    | none => yErr b yBadParam
    | some l => ⟨yOk, l.flatMap LogRec.bytes, b.bumpBy Reg.LOG_CNT_CRC (l.filter fun r => !r.crcOk).length⟩

/-- LOG_READ. -/
def logRead (h : Hdr) (first count : Nat) (k : Key) (b : Block) : Block :=
  b.ycp k h 0x0B01 ⟨some roleObs, false⟩ (logReadBody first count)

/-- The words LOG_RD_STAT to LOG_RD_W7 latch for an RNUM (R503), and the block with a failing CRC counted. -/
def Block.logLatch (b : Block) (rnum : Nat) : List W32 × Block :=
  match b.log.recOf rnum with
  | none => (List.replicate 9 0, b)
  | some r =>
    let w (i : Nat) : W32 :=
      let x := slice r.bytes (4 * i) 4
      BitVec.ofNat 32 (x.reverse.foldl (fun a y => a * 256 + y.toNat) 0)
    (BitVec.ofNat 32 (1 + 2 * r.crcOk.toNat) :: (List.range 8).map w, if r.crcOk then b else b.bump Reg.LOG_CNT_CRC)

/-- The registers the recorder computes (R502); what MRAM holds reads 0 until it is loaded (R546). -/
def Block.logReg (b : Block) (a : Nat) : Option W32 :=
  let l := b.log
  let mram (n : Nat) : Option W32 := some (if b.top.loaded then BitVec.ofNat 32 n else 0)
  if a = Reg.LOG_STAT then
    some (putBits (putBits (putBits (putBits (b.rd Reg.LOG_STAT) 15 8 l.queue.length) 4 4 (b.tformNow 1).toNat) 1 1 l.full.toNat) 0 0
      (b.top.loaded && l.forensic).toNat)
  else if a = Reg.LOG_SIZE then mram l.size
  else if a = Reg.LOG_FIXED then mram l.fixed
  else if a = Reg.LOG_RNUM_NEXT then mram l.rnumNext
  else if a = Reg.LOG_RNUM_OLDEST then mram l.oldest
  else if a = Reg.LOG_SEQ_LO then mram l.seq
  else if a = Reg.LOG_SEQ_HI then mram (l.seq / 2 ^ 32)
  else if a = Reg.LOG_OPSEC_LO then mram b.opsec
  else if a = Reg.LOG_OPSEC_HI then mram ((b.opsec / 2 ^ 32) % 256)
  else if a = Reg.LOG_PCC then mram l.pcc
  else if a = Reg.LOG_CLR_CNT then mram l.clrCnt
  else if a = Reg.LOG_LOST then mram l.lost
  else none

/-! ### Clearing (R499, R500) -/

/-- Sizes R489 allows. -/
def logSizesOk (size fixed : Nat) : Bool :=
  size % 1024 == 0 && decide (1024 ≤ size ∧ size ≤ 65536) && fixed % 1024 == 0 && decide (fixed + 1024 ≤ size)

/-- The log begun anew with these sizes (R500 steps 1 to 3); SEQ goes on (R485). -/
def Block.newLog (b : Block) (size fixed : Nat) : Block :=
  b.commitAll.modLog fun l =>
    { l with area := [], size := size, fixed := fixed, rnumNext := 0, clrCnt := (l.clrCnt + 1) % 2 ^ 32, lost := 0, lostSaved := 0,
             hdrA := ⟨0, l.seq, true⟩, hdrB := ⟨0, l.seq, true⟩, full := false, chains := [], chainDue := true, sealCount := 0,
             sealBytes := [], prevSeal := 0 }

/-- LOG_CLEAR's body. -/
def logClearBody (session clrNo newSize newFixed : Nat) (sigOk : Bool) (k : Key) (b : Block) : YRes :=
  let l := b.log
  if !logSizesOk newSize newFixed then yErr b yBadParam
  else if (k.slot 3).state = 0 then yErr b yDenied
  else if !sigOk then yErr b yAuthFail
  else if clrNo ≠ l.clrCnt then yErr b yDenied
  else
    yDone ((b.newLog newSize newFixed).accept 0x0F01 1 false false (BitVec.ofNat 32 l.rnumNext) (BitVec.ofNat 32 l.lost)
      (BitVec.ofNat 32 session) (BitVec.ofNat 32 clrNo))

/-- LOG_CLEAR. -/
def logClear (h : Hdr) (clrNo newSize newFixed : Nat) (sigOk : Bool) (k : Key) (b : Block) : Block :=
  b.ycp k h 0x0B02 ⟨some roleMnt, false⟩ (logClearBody h.session clrNo newSize newFixed sigOk k)

/-! ### Meanings -/

def execRecordAccept (s : State) : Host.Outcome State Fault Refusal := .next (s.onB recordAccept)
def execRecordCommit (s : State) : Host.Outcome State Fault Refusal := .next (s.onB fun _ => recordCommit)
def execLogDropped (s : State) : Host.Outcome State Fault Refusal := .next (s.onB fun _ => logDropped)
def execTimeMark (s : State) : Host.Outcome State Fault Refusal := .next (s.onB timeMark)
def execLogSeal (s : State) : Host.Outcome State Fault Refusal := .next (s.onB logSeal)
def execSealVerify (acc : Nat) (s : State) : Host.Outcome State Fault Refusal := .next (s.onB fun k b => (sealVerifyW acc k b).b)
def execLogRead (h : Hdr) (first count : Nat) (s : State) : Host.Outcome State Fault Refusal := .next (s.onB (logRead h first count))
def execLogClear (h : Hdr) (clrNo newSize newFixed : Nat) (sigOk : Bool) (s : State) : Host.Outcome State Fault Refusal :=
  .next (s.onB (logClear h clrNo newSize newFixed sigOk))
def execOpsecSave (s : State) : Host.Outcome State Fault Refusal := .next (s.onB fun _ => opsecSave)

end Sys2Proof.Machine
end

