-- ==== Sys2Proof/Machine/Tandem.lean ====
section
/-!
DEFINITION. Tandem operation (spec/11_tandem.md, R349 to R383), and the pins stage of the ledger (R336, R366, R372).
-/
namespace Sys2Proof.Machine

/-! ### The configuration digest (R352) -/

/-- A spoke's definition: its number and the words a host writes, TYPE 5 as TYPE 4. -/
def Spoke.defBytes (x : Spoke) : List Byte :=
  let w0 := if x.type = 5 then putBits (x.w 0) 2 0 4 else x.w 0
  beBytes 2 x.num ++ wordBytes (w0 :: (x.words.drop 1).take 17) ++ beBytes 4 x.svidHash.toNat

def stationBytes (e : Nat × Station) : List Byte :=
  beBytes 2 e.1 ++ beBytes 1 e.2.en.toNat ++ beBytes 2 e.2.area ++ wordBytes [e.2.vnom, e.2.angOfs] ++ e.2.reps.flatMap (beBytes 4)

def tieBytes (e : Nat × Tie) : List Byte :=
  beBytes 2 e.1 ++ beBytes 1 e.2.en.toNat ++ beBytes 2 e.2.fromSt ++ beBytes 2 e.2.toSt ++ wordBytes [e.2.srcA, e.2.srcB]

def subBytes (e : Nat × GooseSub) : List Byte :=
  beBytes 2 e.1 ++ beBytes 1 (2 * e.2.en.toNat + e.2.testOk.toNat) ++ beBytes 4 e.2.appid ++ wordBytes [e.2.hash, e.2.confRev]

/-- The items of R352 in one list of bytes (notes/assumptions/42.md). -/
def Block.cfgBytes (b : Block) : List Byte :=
  (b.ing.spokes.filter (·.state != 5)).flatMap Spoke.defBytes ++ b.isl.stations.flatMap stationBytes ++ b.isl.ties.flatMap tieBytes
  ++ b.isl.gooses.flatMap subBytes ++ beBytes 1 (b.fld F.ALN_CADENCE_ACTIVE) ++ beBytes 4 (b.fld F.ALN_LATE_HZN_HZN)
  ++ wordBytes [b.rd Reg.ALN_FILL, b.rd Reg.ISL_CRIT, b.rd Reg.ISL_BLOCK, b.rd Reg.ISL_CLEAR, b.rd Reg.ISL_CTRL]
  ++ beBytes 1 b.f0 ++ wordBytes [b.rd Reg.TDM_SPOKES] ++ beBytes 2 (b.fld F.TDM_XCHG_LEAD)
  ++ beBytes 48 (if b.grd.gsp.isSome then b.grd.gspDig.toNat else 0)

/-- Own configuration digest: the first 64 bits of SHA-256. -/
def Block.cfgDigest (b : Block) : Nat := (Config.sha256 b.cfgBytes).toNat >>> 192

/-! ### Small operations -/

def Block.prefers (b : Block) : Bool := b.flag F.TDM_STAT_PREFER
def Block.strapConflict (b : Block) : Bool := b.flag F.TDM_STAT_STRAP_CONFLICT
def Block.cfgMatch (b : Block) : Bool := b.flag F.TDM_STAT_CFG_MATCH
def Block.leadShort (b : Block) : Bool := b.flag F.TDM_STAT_LEAD_SHORT

/-- Claim delay in ticks (R354): by strap, by MAC address while the straps conflict. -/
def Block.claimDelay (b : Block) : Nat :=
  if (if b.strapConflict then decide (Config.tdmMac < b.tdm.pMac) else b.prefers) then 0 else 100 * tickUs

/-- INCOMPLETE slots of the last second (R383). -/
def Block.incLast (b : Block) : Nat := if b.within b.tdm.incAt tickS then b.tdm.incSecN else 0

/-- A change of STATE with a reason that TDM_STATE lists (R383). -/
def Block.setTdm (b : Block) (new reason : Nat) : Block := (b.put F.TDM_STAT_STATE new).note 0x0B01 b.tdmState new reason

/-- A new run of compared slots begins (R366). -/
def Block.freshMatch (b : Block) : Block :=
  (b.modTdm fun t => { t with matchFrom := b.now, compared := false, incRun := 0, pIncRun := 0 }).put F.TDM_HOLD_MISMATCH 0

/-- The unit goes to ALONE from CATCHUP, MATCHING or IN_STEP (R364, R367): 0 heartbeat, 1 slow lane, 2 configuration, 3 catch-up
timeout. Network bells follow (R368). -/
def Block.goAlone (b : Block) (reason : Nat) : Block :=
  if !b.inExchange then b
  else
    let b := (b.setTdm tdAlone reason).freshMatch
    b.modTdm fun t => { t with bothKatFail := false, handDue := false, takeSent := false, katOwn := 0, katPart := 0,
                               slowLeft := reason == 1 || t.slowLeft }

/-- ALONE to CATCHUP may happen (R369). -/
def Block.mayCatchup (b : Block) : Bool :=
  b.tdm.enNow && b.tdmState == tdAlone && b.tdm.hbSeen && b.cfgMatch && !b.leadShort && b.laneUp

/-- The unit enters CATCHUP. -/
def Block.enterCatchup (b : Block) : Block :=
  (b.put F.TDM_STAT_STATE tdCatchup).modTdm fun t => { t with catchAt := b.now, stage1 := false, stage2 := false, retryAt := none }

/-- A unit without the claim asks its partner, who holds it, for catch-up, unless it waits for a retry. -/
def Block.askCatchup (b : Block) : Block :=
  if b.mayCatchup && !b.claims && b.partnerClaims && b.tdm.retryAt.isNone then b.enterCatchup.tdmSend [9, 0] else b

/-- TAKE (R372): the PREFER unit as stoker IN_STEP. -/
def Block.maybeTake (b : Block) : Block :=
  if b.tdmState == tdInStep && b.prefers && !b.strapConflict && !b.claims && b.flag F.TDM_CTRL_TAKEBACK_EN && !b.tdm.takeSent && b.laneUp then
    (b.tdmSend [11]).modTdm fun t => { t with takeSent := true }
  else b

/-- EN takes effect at the end of START and on leaving MAINT (R349). -/
def Block.applyTdmEn (b : Block) : Block :=
  let en := b.flag F.TDM_CTRL_EN
  if en == b.tdm.enNow then b
  else if en then
    let b := b.modTdm fun t => { t with enNow := true, absentAt := b.now + 30 * tickUs, hbSeen := false, hbSent := 0, closedSince := 0 }
    let b := (b.modGrd fun g => { g with gateOpen := false }).modRad fun r => { r with lead := false, missed := 0, heard := true }
    (b.setTdm tdAlone 5).settleGuard
  else
    let b := b.releaseClaim 4
    let b := b.setTdm tdSolo 5
    let b := b.modTdm fun t => { t with enNow := false, hbSeen := false, partnerLost := false, partnerFailed := false, bothKatFail := false,
                                        stage1 := false, stage2 := false, retryAt := none }
    (b.put F.TDM_STAT_PCLAIM 0).settleGuard

/-! ### Heartbeats (R350, R352, R366, R367) -/

/-- Known-answer result as heartbeats carry it. -/
def Block.islFresh (b : Block) : Bool := b.fresh 2

/-- Relays that wait are sent once the lane is up. -/
def Block.flushRelays (b : Block) : Block :=
  if !b.laneUp then b
  else (b.tdm.relays.foldl (fun b m => b.tdmSend m.2.2) b).modTdm fun t => { t with relays := [] }

/-- HEARTBEAT_SEND (R367): every 250 µs. -/
def heartbeatSend (b : Block) : Block :=
  if !b.tdm.enNow || !(b.tdm.hbSent == 0 || b.since b.tdm.hbSent (250 * tickUs)) then b
  else
    let b := b.tdmSend [1, b.cfgDigest, b.tdmState, b.prefers.toNat, Config.tdmMac, b.islFresh.toNat, b.tdm.katOwn]
    (b.modTdm fun t => { t with hbSent := b.now }).flushRelays.maybeTake

/-- The known-answer check is decided (R366): a unit that alone fails becomes FAILED and requests SWR. -/
def Block.katDecide (k : Key) (b : Block) : Key × Block :=
  let own := b.tdm.katOwn
  let part := b.tdm.katPart
  if own = 0 ∨ part = 0 then (k, b)
  else
    let b := (b.note 0x0B04 (own - 1) (part - 1)).modTdm fun t => { t with katOwn := 0, katPart := 0 }
    if own = 1 ∧ part = 1 then (k, b.put F.TDM_HOLD_MISMATCH 0)
    else if own = 1 then (k, b.modTdm fun t => { t with partnerFailed := true })
    else if part = 2 then (k, b.modTdm fun t => { t with bothKatFail := true })
    else
      let b := ((b.put F.TDM_STAT_STATE tdFailed).freshMatch).releaseClaim 2
      assertReset srcSwr false false k b.settleGuard

/-- What a heartbeat shows of the partner. -/
def Block.takeHeartbeat (b : Block) (hb : Heartbeat) : Block :=
  let own := b.cfgDigest
  let same := own == hb.digest.toNat
  let was := b.cfgMatch
  let heard := b.tdm.hbSeen
  let conflict := hb.prefer == b.prefers
  let b := b.modTdm fun t =>
    { t with hbSeen := true, hbLast := b.now, pPrefer := hb.prefer, pMac := hb.mac, pIslFresh := hb.islFresh, pKat := hb.kat, partnerLost := false,
             partnerFailed := if hb.state = tdFailed then true else if hb.state ≤ tdAlone then false else t.partnerFailed,
             katPart := if b.fld F.TDM_STAT_KAT ≠ 0 ∧ (t.katOwn ≠ 0 ∨ b.fld F.TDM_STAT_KAT = 1) ∧ hb.kat ≠ 0 then hb.kat else t.katPart }
  let b := ((b.put F.TDM_STAT_PSTATE hb.state).wr64 Reg.TDM_PCFG_DIG_LO hb.digest.toNat).putFlag F.TDM_STAT_CFG_MATCH same
  let b := if conflict && !b.strapConflict then b.note 0x0B07 b.prefers.toNat hb.prefer.toNat else b
  let b := b.putFlag F.TDM_STAT_STRAP_CONFLICT conflict
  if !same && (was || !heard) then b.note 0x0B06 own hb.digest.toNat else b

/-- HEARTBEAT_RECEIVE (R352, R366, R369). -/
def heartbeatReceive (hb : Heartbeat) (k : Key) (b : Block) : Key × Block :=
  if !b.tdm.enNow || !b.laneUp then (k, b)
  else
    let b := b.takeHeartbeat hb
    let b := if b.cfgMatch then b else b.goAlone 2
    b.askCatchup.katDecide k

/-- HEARTBEAT_LOSS (R367): TDM_TIMERS.HB_TMO without one. -/
def heartbeatLoss (b : Block) : Block :=
  if !b.tdm.enNow || !b.tdm.hbSeen || !b.since b.tdm.hbLast (b.fld F.TDM_TIMERS_HB_TMO * tickUs) then b
  else
    let b := (b.bump Reg.TDM_CNT_HB_LOSS).modTdm fun t => { t with hbSeen := false, partnerLost := t.partnerLost || !b.partnerClaims }
    let b := b.modRad fun r => { r with handFrom := none }
    (b.goAlone 0).settleGuard

/-- TDM_DELAY_MEASURE (R350). -/
def tdmDelayMeasure (delta : Nat) (offset : Int) (b : Block) : Block :=
  if !b.tdm.enNow || !b.laneUp then b
  else
    let short := decide (b.leadUs * 1000 < 2 * delta + offset.natAbs + 50000)
    let b := (b.wr Reg.TDM_DELAY (BitVec.ofNat 32 (min 0xFFFFFFFF delta))).wr Reg.TDM_OFFSET (BitVec.ofInt 32 (clampInt (-2147483648) 2147483647 offset))
    (b.putFlag F.TDM_STAT_LEAD_SHORT short).modTdm fun t => { t with shortFrom := if short then some (t.shortFrom.getD b.now) else none }

/-! ### The claim (R354 to R358) -/

/-- CLAIM_PRESENT (R354, R355): four edges 4 µs to 6 µs apart on CPT_IN. The gate closes; a unit with a claim delay withdraws its
claim, for a reason that TDM_CLAIM does not list: a free value. -/
def claimPresent (gaps : List Nat) (b : Block) : Block :=
  if !b.tdm.enNow || gaps.length != 3 || !(gaps.all fun g => decide (4000 ≤ g ∧ g ≤ 6000)) then b
  else
    let b := (b.put F.TDM_STAT_PCLAIM 1).modTdm fun t => { t with edgeAt := b.now }
    if !b.claims then b.askCatchup
    else
      let b := b.modGrd fun g => { g with gateOpen := false }
      if b.claimDelay = 0 then b
      else
        let u := b.free
        (u.2.releaseClaim (u.1.toNat % 2 ^ 32)).settleGuard

/-- CLAIM_ABSENT (R354): 30 µs without an edge. -/
def claimAbsent (b : Block) : Block :=
  if !b.tdm.enNow || !b.partnerClaims || !b.since b.tdm.edgeAt (30 * tickUs) then b
  else (b.put F.TDM_STAT_PCLAIM 0).modTdm fun t => { t with absentAt := b.now }

/-- The partner has handed over: this unit is IN_STEP and its heartbeats go on (R372, R377; notes/assumptions/35.md). -/
def Block.handedOver (b : Block) : Bool := b.tdmState == tdInStep && b.tdm.hbSeen

/-- Degraded captaincy (R370) and the counter of ISLAND_ID (R371) of a unit that takes the claim. -/
def Block.degradedStart (b : Block) : Block :=
  let deg := b.tdmState != tdInStep && (!b.tdm.stage2 || b.unfilled)
  let b := b.putFlag F.TDM_STAT_DEG_CAPTAIN deg
  if deg && !b.tdm.stage2 && !b.tdm.stage1 then (b.modIsl fun u => { u with nextId := b.isl.nextId % 2 ^ 31 + 2 ^ 31 }) else b

/-- TDM_CLAIM (R354): the unit asserts its claim. -/
def tdmClaim (b : Block) : Block :=
  if !b.eligible || b.claims || b.partnerClaims || b.tdm.lockTo.isSome || !b.since b.tdm.absentAt b.claimDelay then b
  else
    let hand := b.handedOver
    let b := (b.put F.TDM_STAT_CLAIM 1).bump Reg.TDM_CNT_CLAIM
    let b := b.modTdm fun t => { t with claimAt := b.now, closedSince := 0, takeSent := false }
    let b := if hand then b.modRad fun r => { r with handFrom := some (sfnAt (b.tai + 2 * sfTicks)) } else b
    (b.degradedStart.note 0x0B02 1 hand.toNat (lt32 b.tai)).settleGuard

/-- GATE_OPEN (R355): own claim asserted for 50 µs, CPT_IN absent. -/
def gateOpen (b : Block) : Block :=
  if !b.tdm.enNow || !b.claims || b.partnerClaims || !b.since b.tdm.claimAt (50 * tickUs) then b
  else b.modGrd fun g => { g with gateOpen := true }

/-- LOCKOUT_END (R358). -/
def lockoutEnd (b : Block) : Block :=
  match b.tdm.lockTo with
  | none => b
  | some t => if b.now < t then b else b.modTdm fun t => { t with lockTo := none }

/-! ### One slot in step (R359 to R363) -/

/-- This unit works as stoker in the exchange. -/
def Block.stoker (b : Block) : Bool := b.inExchange && !b.claims

/-- The captain's D of slot `s` is this unit's. -/
def Block.takeSched (b : Block) (s d : Nat) : Block :=
  let b := b.modSlot s fun x => { x with schedGot := true, dl := some d }
  let b := if b.aln.lastS = some s then b.modAln fun a => { a with lastD := d } else b
  b.modGrd fun g => { g with sched := g.sched.map fun p => if p.1 = s then (s, d) else p }

/-- SCHED_RECEIVE (R359): the captain's D, by S + 200 µs. -/
def schedReceive (s d : Nat) (b : Block) : Block :=
  if !b.stoker || !b.laneUp || decide (s + 200 * tickUs < b.tai) || b.tooEarly s then b
  else
    let b := b.openSlot s
    match b.slot s with
    | none => b
    | some x =>
      if x.phase ≠ 0 then b else b.takeSched s d

/-- SCHED_TIMEOUT (R359): none by S + 200 µs. -/
def schedTimeout (s : Nat) (b : Block) : Block :=
  match b.slot s with
  | none => b
  | some x => if !b.stoker || x.schedGot || x.phase != 0 || decide (b.tai < s + 200 * tickUs) then b else b.markIncomplete s

/-- Flags, class and latency of a relayed report. -/
def relayed (b : Block) (t : Nat) (vals : List W64) : Incoming :=
  let e := (vals.find? entPresent).getD 0
  ⟨t, b.tai, ((b.tai : Int) - (t : Int)) * 8, entFlags e % 16, entTq e, 0, vals, true⟩

/-- TDM_RELAY_RECEIVE (R360): as any other report, but not relayed again. -/
def tdmRelayReceive (spoke t : Nat) (vals : List W64) (b : Block) : Block :=
  if !b.inExchange || !b.laneUp then b
  else (b.bumpBy Reg.TDM_CNT_RELAY_RX (vals.countP entPresent)).takeReport spoke false (relayed b t vals)

/-- TDM_RELAY_DROP (R360): a relay that has waited longer than LEAD. -/
def tdmRelayDrop (b : Block) : Block :=
  match b.tdm.relays with
  | [] => b
  | m :: rest =>
    if b.now ≤ m.2.1 + b.leadUs * tickUs then b
    else (b.bumpBy Reg.TDM_CNT_RELAY_DROP m.1).modTdm fun t => { t with relays := rest }

/-- NEED for each spoke of the union that has no value here (R361), once both bitmaps are fixed. -/
def Block.sendNeeds (b : Block) (s : Nat) : Block :=
  match b.slot s with
  | none => b
  | some x =>
    match x.partnerCut with
    | none => b
    | some l =>
      if !x.cutSent then b
      else
        let need := l.filter fun n => !x.bitmap.contains n && !x.needOpen.contains n
        let b := need.foldl (fun b n => b.tdmSend [4, s, n]) (b.bumpBy Reg.TDM_CNT_NEED need.length)
        b.modSlot s fun x => { x with needOpen := x.needOpen ++ need }

/-- TDM_CUT (R361, R363): at P the local bitmap is fixed and sent; before it the captain may name an earlier P′. -/
def tdmCut (s : Nat) (b : Block) : Block :=
  match b.slot s with
  | none => b
  | some x =>
    let d := x.dl.getD 0
    if !b.inExchange || x.cutSent || x.phase != 0 || x.dl.isNone then b
    else if d ≤ b.tai + b.leadUs * tickUs then
      let own := x.bitmap.filter fun n => !x.relayed.contains n
      let b := b.modSlot s fun x => { x with cutSent := true }
      (b.tdmSend ([3, s, 0, 0] ++ own)).sendNeeds s
    else b.earlyCut s

/-- CUT_RECEIVE (R361, R363): an EARLY message brings P′, another the partner's bitmap. -/
def cutReceive (s : Nat) (bitmap : List Nat) (early : Bool) (p : Nat) (b : Block) : Block :=
  match b.slot s with
  | none => b
  | some x =>
    if !b.inExchange || !b.laneUp || x.phase != 0 then b
    else if early then
      if b.claims || x.cutSent || decide (x.dl.getD 0 < p + b.leadUs * tickUs) then b else b.setEarly s p
    else (b.modSlot s fun x => { x with partnerCut := some (bitmap.foldl (fun m n => insNat n m) []) }).sendNeeds s

/-- The values a slot holds of the channels of a version of a spoke. -/
def Slot.valuesOf (x : Slot) (v : SpVer) : List W64 := (List.range v.kinds.length).map fun c => (tabGet x.row (v.rowBase + c)).getD 0

/-- NEED_RECEIVE (R361): answered with the spoke's values of the slot. -/
def needReceive (s spoke : Nat) (b : Block) : Block :=
  match b.slot s, b.spoke spoke with
  | some x, some p =>
    match p.cur with
    | none => b
    | some v =>
      if !b.inExchange || !b.laneUp then b
      else b.tdmSend ([6, s, spoke] ++ (x.valuesOf v).map BitVec.toNat)
  | _, _ => b

/-- FILL_RECEIVE (R361, R362): values of a spoke of the union. -/
def fillReceive (s spoke : Nat) (vals : List W64) (b : Block) : Block :=
  match b.slot s, b.spoke spoke with
  | some x, some p =>
    match p.cur with
    | none => b
    | some v =>
      if !b.inExchange || !b.laneUp || !x.needOpen.contains spoke then b
      else (b.modSlot s fun x => { x with needOpen := x.needOpen.erase spoke }).writeSlot spoke v false p.lastSt b.tai s vals
  | _, _ => b

/-! ### Digests and failure (R366) -/

/-- Bytes 0 to 27 of the slot's ISL record, with DEGRADED and ITEMS bits 8 to 10, 12 and 15 as 0. -/
def Block.islDigestBytes (b : Block) (s : Nat) : List Byte :=
  match (b.engine 2).recs.find? (·.sTick == s) with
  | none => List.replicate 28 0
  | some r => Evid.bytes { r with degraded := false, items := r.items &&& ~~~(0x9700#128) }

/-- The digest of a slot (notes/assumptions/42.md). -/
def Block.slotDigest (b : Block) (x : Slot) : Nat :=
  let bitmap := maskOf x.bitmap
  let frame := (x.frame.getD []).flatMap fun e => beBytes 8 e.2.toNat
  let bseq := max (seqOf x.s) (b.grd.bseq + 1)
  let l := beBytes 6 (x.s % 2 ^ 48) ++ beBytes 6 (x.c % 2 ^ 48) ++ beBytes 512 bitmap ++ frame ++ b.islDigestBytes x.s
    ++ beBytes 1 (b.grd.mask (·.on)) ++ beBytes 1 (b.grd.mask (·.fs)) ++ beBytes 8 bseq
  (Config.sha256 l).toNat >>> 192

/-- Two digests are compared (R366): mismatches counted; in IN_STEP, TDM_CTRL.M in a row start the known-answer check. -/
def Block.compareDigests (b : Block) (x : Slot) (own part : Nat) : Block :=
  let b := ((b.wr Reg.TDM_DIG_SEQ (BitVec.ofNat 32 x.rseq)).wr64 Reg.TDM_DIG_OWN_LO own).wr64 Reg.TDM_DIG_PART_LO part
  let b := b.modTdm fun t => { t with compared := true, lastCmp := x.s }
  if own = part then b.put F.TDM_HOLD_MISMATCH 0
  else
    let n := min 65535 (b.fld F.TDM_HOLD_MISMATCH + 1)
    let b := ((b.put F.TDM_HOLD_MISMATCH n).bump Reg.TDM_CNT_MISMATCH).note 0x0B03 (lt32 x.s) n own part
    let b := b.modTdm fun t => { t with matchFrom := b.now }
    if b.tdmState = tdInStep ∧ max 1 (b.fld F.TDM_CTRL_M) ≤ n ∧ b.fld F.TDM_STAT_KAT ≠ 1 then
      (b.put F.TDM_STAT_KAT 1).modTdm fun t => { t with katAt := b.now, katOwn := 0, katPart := 0 }
    else b

/-- Both digests of a slot are here: compared by C + 1.0 ms, where neither unit marked it INCOMPLETE, in MATCHING and IN_STEP. -/
def Block.tryCompare (b : Block) (s : Nat) : Block :=
  match b.slot s with
  | none => b
  | some x =>
    match x.digOwn, x.digPart with
    | some own, some part =>
      let b := b.modSlot s fun x => { x with digOwn := none }
      let on := b.tdmState == tdMatching || b.tdmState == tdInStep
      if on && !x.incomplete && !part.2 && decide (b.tai ≤ x.c + tickMs) then b.compareDigests x own.toNat part.1.toNat else b
    | _, _ => b

/-- A slot's digest goes to the partner (R366). -/
def Block.sendDigest (b : Block) (s : Nat) : Block :=
  match b.slot s with
  | none => b
  | some x =>
    if !b.inExchange then b
    else
      let d := b.slotDigest x
      let b := b.modSlot s fun x => { x with digOwn := some (BitVec.ofNat 64 d) }
      (b.tdmSend [7, s, d, x.incomplete.toNat]).tryCompare s

/-- A handover that is due releases the claim (R372). -/
def Block.handNow (b : Block) : Block :=
  if b.tdm.handDue && b.claims then ((b.bump Reg.TDM_CNT_HANDOVER).releaseClaim 1).settleGuard else b.modTdm fun t => { t with handDue := false }

/-- BELL_PINS (R15, R336, R366, R372): the pins stage of the oldest slot that waits for it, of `run` ticks. -/
def bellPins (run : Nat) (b : Block) : Block :=
  match b.atStage 3 with
  | none => b
  | some x =>
    let b := b.modGrd fun g => { g with bells := g.bells.map fun y => { y with drive := y.on } }
    ((b.finishStage x.s 3 run).sendDigest x.s).handNow

/-- DIGEST_RECEIVE (R364, R366). -/
def digestReceive (s : Nat) (digest : W64) (incomplete : Bool) (b : Block) : Block :=
  if !b.inExchange || !b.laneUp || (b.slot s).isNone then b
  else
    let b := b.modTdm fun t => { t with pIncRun := if incomplete then t.pIncRun + 1 else 0 }
    (b.modSlot s fun x => { x with digPart := some (digest, incomplete) }).tryCompare s

/-- DIGEST_TIMEOUT (R366): not compared. -/
def digestTimeout (s : Nat) (b : Block) : Block :=
  match b.slot s with
  | none => b
  | some x => if x.phase = 0 ∨ x.digPart.isSome ∨ b.tai < x.c + tickMs then b else b.modSlot s fun x => { x with digOwn := none }

/-- TDM_KAT (R366): this unit's check ends. -/
def tdmKat (pass : Bool) (k : Key) (b : Block) : Key × Block :=
  if b.fld F.TDM_STAT_KAT ≠ 1 then (k, b)
  else
    let b := (b.put F.TDM_STAT_KAT (if pass then 2 else 3)).bump Reg.TDM_CNT_KAT
    let b := if pass then b else b.bump Reg.TDM_CNT_KAT_FAIL
    (b.modTdm fun t => { t with katOwn := if pass then 1 else 2 }).katDecide k

/-- KAT_PARTNER_TIMEOUT (R366): no result of the partner's within 200 ms; R367 handles the partner. -/
def katPartnerTimeout (b : Block) : Block :=
  if b.tdm.katOwn = 0 ∨ b.tdm.katPart ≠ 0 ∨ !b.since b.tdm.katAt (200 * tickMs) then b
  else (b.note 0x0B04 (b.tdm.katOwn - 1) 2).modTdm fun t => { t with katOwn := 0 }

/-! ### Shared evidence (R365, R379) -/

/-- EVIDENCE_FORWARD_RECEIVE (R365): a record of the captain's, kept for the evaluation. -/
def evidenceForwardReceive (engine : Nat) (valid degraded blocked shed : Bool) (rseq slot tq : Nat) (items : BitVec 128) (b : Block) : Block :=
  if !b.borrows || !b.laneUp || engine < 3 || 8 < engine then b
  else
    let e := mkEvid engine valid degraded blocked shed rseq slot tq items.toNat
    b.modGrd fun g => { g with engines := modAt g.engines engine fun x =>
      { x with fwd := (e :: x.fwd).take 256, misses := 0, okAt := b.tai } }

/-- ITEMS of the TDM record (R379). -/
def Block.tdmItems (b : Block) : Nat :=
  let st := b.tdmState
  maskOf (([st == tdInStep, st == tdAlone, b.tdm.partnerLost, b.tdm.partnerFailed, b.degCaptain, b.tdm.lastInc, b.fld F.TDM_HOLD_MISMATCH != 0,
    b.leadShort || b.within b.tdm.incAt tickS, b.tdm.hbSeen && !b.cfgMatch, b.tdm.bothKatFail, b.strapConflict, b.claims].zipIdx.filter
    (·.1)).map (·.2))

/-- TDM_EVIDENCE_POST (R379). -/
def tdmEvidencePost (slot : Nat) (b : Block) : Block :=
  if !b.tdm.enNow then b
  else
    let deg := b.degCaptain || b.tdmState == tdAlone
    let b := b.postEvid (mkEvid 7 true deg false false b.tdm.rseq slot b.devClass b.tdmItems)
    b.modTdm fun t => { t with rseq := (t.rseq + 1) % 65536 }

/-! ### Catch-up, holdoff, takeback (R369 to R372) -/

/-- CATCHUP_REQUEST (R369): the holder of the claim serves it. -/
def catchupRequest (b : Block) : Block := if b.mayCatchup && b.claims then b.enterCatchup.tdmSend [9, 1, b.grd.bseq, b.isl.nextId] else b

/-- Stage 1 (R369). -/
def Block.takeStage1 (b : Block) (d : CatchupData) : Block :=
  let b := b.modGrd fun g => { g with bseq := d.bseq, bells := d.bells, stNum := d.stNum, sqNum := d.sqNum }
  let b := b.modGrd fun g => { g with gooseData := b.gooseSet.getD [] }
  (b.modIsl fun x => { x with nextId := d.nextId }).modTdm fun t => { t with stage1 := true }

/-- Stage 2 (R369). -/
def Block.takeStage2 (b : Block) (d : CatchupData) : Block :=
  let sta := fun (e : Nat × Station) =>
    (e.1, { e.2 with hist := ((d.hists.find? (·.1 == e.1)).map (·.2)).getD e.2.hist, dead := d.dead.contains e.1 })
  let b := (b.modIsl fun x => { x with entries := d.entries, stations := x.stations.map sta }).modTdm fun t => { t with stage2 := true }
  if b.top.variant = .n0 then b else b.takeEntries b.rad.capSfn d.radio

/-- CATCHUP_COMPLETE (R369): at the stoker a stage arrives; at the holder, `whole` says that stage 2 has been served. -/
def catchupComplete (d : CatchupData) (whole : Bool) (b : Block) : Block :=
  if b.tdmState ≠ tdCatchup ∨ !b.laneUp then b
  else
    let b := if b.claims || b.tdm.stage1 then b else b.takeStage1 d
    if !whole then b
    else ((if b.claims then b else b.takeStage2 d).put F.TDM_STAT_STATE tdMatching).freshMatch

/-- CATCHUP_TIMEOUT (R369): 5 s. -/
def catchupTimeout (b : Block) : Block :=
  if b.tdmState ≠ tdCatchup ∨ !b.since b.tdm.catchAt (5 * tickS) then b
  else (b.goAlone 3).modTdm fun t => { t with retryAt := some (b.now + 10 * tickS) }

/-- CATCHUP_RETRY (R369): 10 s later. -/
def catchupRetry (b : Block) : Block :=
  match b.tdm.retryAt with
  | none => b
  | some t => if b.now < t then b else (b.modTdm fun t => { t with retryAt := none }).askCatchup

/-- HOLDOFF_MET (R372): digests matched in every compared slot for HOLDOFF. -/
def holdoffMet (b : Block) : Block :=
  if b.tdmState ≠ tdMatching ∨ !b.tdm.compared ∨ !b.since b.tdm.matchFrom (max 1 (b.fld F.TDM_TIMERS_HOLDOFF) * tickS) then b
  else
    let b := b.setTdm tdInStep 4
    let b := if b.tdm.slowLeft then (b.note 0x0B05 0 (b.rd Reg.TDM_DELAY).toNat b.incLast).modTdm fun t => { t with slowLeft := false } else b
    b.maybeTake.settleGuard

/-- TDM_SLOW (R364). -/
def tdmSlow (b : Block) : Block :=
  let n := max 1 (b.fld F.TDM_XCHG_SLOW_N)
  let short := (b.tdm.shortFrom.map fun t => b.leadShort && b.since t tickS).getD false
  if !b.inExchange || !(decide (n ≤ b.tdm.incRun ∨ n ≤ b.tdm.pIncRun) || short) then b
  else ((b.note 0x0B05 1 (b.rd Reg.TDM_DELAY).toNat b.incLast).goAlone 1).settleGuard

/-- The captain acts on a request for a handover only while its partner is IN_STEP (R372). -/
def Block.mayHand (b : Block) : Bool := b.claims && b.tdmState == tdInStep && b.tdm.hbSeen && b.fld F.TDM_STAT_PSTATE == tdInStep

/-- TAKE_RECEIVE (R372). -/
def takeReceive (b : Block) : Block := if b.mayHand && b.laneUp then b.modTdm fun t => { t with handDue := true } else b

/-- HANDOVER (R372, R380): a write of TDM_CTRL.HANDOVER; without effect where the captain may not act on it. -/
def handoverW (acc : Nat) (k : Key) (b : Block) : WRes :=
  let st := b.mayWrite k acc roleEng true
  if st ≠ yOk then wErr b acc st
  else ⟨yOk, if b.mayHand then b.modTdm fun t => { t with handDue := true } else b⟩

/-- TDM_HANDOVER (R372, R433). -/
def tdmHandover (h : Hdr) (k : Key) (b : Block) : Block :=
  b.ycp k h 0x0802 ⟨some roleEng, true⟩ fun b =>
    if b.mayHand then yDone (b.modTdm fun t => { t with handDue := true }) else yErr b yDenied

/-! ### Registers (R380, R381) -/

/-- A TDM register as it reads. -/
def Block.tdmReg (b : Block) (a : Nat) : W32 :=
  if a = Reg.TDM_STAT then b.rd a ||| (if b.eligible then 0x100000 else 0)
  else if a = Reg.TDM_CFG_DIG_LO then BitVec.ofNat 32 b.cfgDigest
  else if a = Reg.TDM_CFG_DIG_HI then BitVec.ofNat 32 (b.cfgDigest >>> 32)
  else if a = Reg.TDM_HOLD then
    let m := if b.tdmState = tdMatching ∨ b.tdmState = tdInStep then min 65535 ((b.now - b.tdm.matchFrom) / tickS) else 0
    putBits (b.rd a) 15 0 m
  else b.rd a

/-- TDM_STATUS (R433, R445): TDM_CTRL to TDM_DIG_PART_HI. -/
def tdmStatus (h : Hdr) (k : Key) (b : Block) : Block :=
  b.ycp k h 0x0801 ⟨some roleObs, false⟩ fun b => ⟨yOk, wordBytes ((List.range 21).map fun i => b.tdmReg (Reg.TDM_CTRL + 4 * i)), b⟩

/-- TDM_HLTH toggles while the unit is IN_STEP. -/
def Block.tdmHealth (b : Block) : LandState := if b.inDeepReset then .highZ else if b.tdmState = tdInStep then .toggling else .low

/-- CPT_OUT toggles while the claim is asserted (R338, R354). -/
def Block.cptOut (b : Block) : LandState := if b.inDeepReset then .highZ else if b.claims then .toggling else .low

/-! ### The commands -/

def execBellPins (run : Nat) (s : State) : Host.Outcome State Fault Refusal := .next (s.onB fun _ => bellPins run)
def execHeartbeatSend (s : State) : Host.Outcome State Fault Refusal := .next (s.onB fun _ => heartbeatSend)
def execHeartbeatReceive (hb : Heartbeat) (s : State) : Host.Outcome State Fault Refusal := .next (s.onKB (heartbeatReceive hb))
def execHeartbeatLoss (s : State) : Host.Outcome State Fault Refusal := .next (s.onB fun _ => heartbeatLoss)
def execTdmDelayMeasure (delta : Nat) (offset : Int) (s : State) : Host.Outcome State Fault Refusal :=
  .next (s.onB fun _ => tdmDelayMeasure delta offset)
def execClaimPresent (gaps : List Nat) (s : State) : Host.Outcome State Fault Refusal := .next (s.onB fun _ => claimPresent gaps)
def execClaimAbsent (s : State) : Host.Outcome State Fault Refusal := .next (s.onB fun _ => claimAbsent)
def execTdmClaim (s : State) : Host.Outcome State Fault Refusal := .next (s.onB fun _ => tdmClaim)
def execGateOpen (s : State) : Host.Outcome State Fault Refusal := .next (s.onB fun _ => gateOpen)
def execLockoutEnd (s : State) : Host.Outcome State Fault Refusal := .next (s.onB fun _ => lockoutEnd)
def execSchedReceive (t d : Nat) (s : State) : Host.Outcome State Fault Refusal := .next (s.onB fun _ => schedReceive t d)
def execSchedTimeout (t : Nat) (s : State) : Host.Outcome State Fault Refusal := .next (s.onB fun _ => schedTimeout t)
def execTdmRelayReceive (spoke t : Nat) (vals : List W64) (s : State) : Host.Outcome State Fault Refusal :=
  .next (s.onB fun _ => tdmRelayReceive spoke t vals)
def execTdmRelayDrop (s : State) : Host.Outcome State Fault Refusal := .next (s.onB fun _ => tdmRelayDrop)
def execTdmCut (t : Nat) (s : State) : Host.Outcome State Fault Refusal := .next (s.onB fun _ => tdmCut t)
def execCutReceive (t : Nat) (bitmap : List Nat) (early : Bool) (p : Nat) (s : State) : Host.Outcome State Fault Refusal :=
  .next (s.onB fun _ => cutReceive t bitmap early p)
def execNeedReceive (t spoke : Nat) (s : State) : Host.Outcome State Fault Refusal := .next (s.onB fun _ => needReceive t spoke)
def execFillReceive (t spoke : Nat) (vals : List W64) (s : State) : Host.Outcome State Fault Refusal :=
  .next (s.onB fun _ => fillReceive t spoke vals)
def execDigestReceive (t : Nat) (digest : W64) (incomplete : Bool) (s : State) : Host.Outcome State Fault Refusal :=
  .next (s.onB fun _ => digestReceive t digest incomplete)
def execDigestTimeout (t : Nat) (s : State) : Host.Outcome State Fault Refusal := .next (s.onB fun _ => digestTimeout t)
def execTdmKat (pass : Bool) (s : State) : Host.Outcome State Fault Refusal := .next (s.onKB (tdmKat pass))
def execKatPartnerTimeout (s : State) : Host.Outcome State Fault Refusal := .next (s.onB fun _ => katPartnerTimeout)
def execEvidenceForwardReceive (engine : Nat) (valid degraded blocked shed : Bool) (rseq slot tq : Nat) (items : BitVec 128) (s : State) :
    Host.Outcome State Fault Refusal := .next (s.onB fun _ => evidenceForwardReceive engine valid degraded blocked shed rseq slot tq items)
def execTdmEvidencePost (slot : Nat) (s : State) : Host.Outcome State Fault Refusal := .next (s.onB fun _ => tdmEvidencePost slot)
def execCatchupRequest (s : State) : Host.Outcome State Fault Refusal := .next (s.onB fun _ => catchupRequest)
def execCatchupComplete (d : CatchupData) (whole : Bool) (s : State) : Host.Outcome State Fault Refusal :=
  .next (s.onB fun _ => catchupComplete d whole)
def execCatchupTimeout (s : State) : Host.Outcome State Fault Refusal := .next (s.onB fun _ => catchupTimeout)
def execCatchupRetry (s : State) : Host.Outcome State Fault Refusal := .next (s.onB fun _ => catchupRetry)
def execHoldoffMet (s : State) : Host.Outcome State Fault Refusal := .next (s.onB fun _ => holdoffMet)
def execTdmSlow (s : State) : Host.Outcome State Fault Refusal := .next (s.onB fun _ => tdmSlow)
def execTakeReceive (s : State) : Host.Outcome State Fault Refusal := .next (s.onB fun _ => takeReceive)
def execHandover (acc : Nat) (s : State) : Host.Outcome State Fault Refusal := .next (s.onB fun k b => (handoverW acc k b).b)
def execTdmHandover (h : Hdr) (s : State) : Host.Outcome State Fault Refusal := .next (s.onB (tdmHandover h))
def execTdmStatus (h : Hdr) (s : State) : Host.Outcome State Fault Refusal := .next (s.onB (tdmStatus h))

end Sys2Proof.Machine
end

