-- ==== Sys2Proof/Machine/Power.lean ====
section
/-!
DEFINITION. Reset, power, clocks and start-up (spec/16_reset_power_startup.md, R505 to R543; R554): the commands.
-/
namespace Sys2Proof.Machine

/-! ### Supply (R487, R531, R534) -/

/-- VIN and the store as now measured, in 10 mV: the registers that show them; OPSEC runs while VIN is above UVLO, 5.6 V falling and
5.9 V rising. -/
def Block.supply (b : Block) (vin vstore : Nat) : Block :=
  let b := (b.put F.PWR_VIN_VIN vin).put F.PWR_VIN_VSTORE vstore
  let b := b.putFlag F.PWR_STAT_HOLDUP_OK (decide (3800 ≤ vstore))
  let secs := b.opsec
  let l := b.log
  if l.opsecFrom.isSome && decide (vin < 560) then b.modLog fun l => { l with opsec := secs, opsecFrom := none }
  else if l.opsecFrom.isNone && decide (590 ≤ vin) then b.modLog fun l => { l with opsecFrom := some b.now }
  else b

/-- PFAIL_THR, WATCH_THR and HYS in 10 mV. -/
def Block.pfailThr (b : Block) : Nat := 10 * clampNat 58 500 (b.fld F.PWR_THR_PFAIL_THR)
def Block.watchThr (b : Block) : Nat := 10 * b.fld F.PWR_THR_WATCH_THR
def Block.watchHys (b : Block) : Nat := 10 * clampNat 5 50 (b.fld F.PWR_WATCH_HYS)

/-- The always-on monitor's PWR_FAIL (R535, R543). -/
def Block.pwrFail (b : Block) (on : Bool) (vin us vstore : Nat) : Block := b.recBy 3 true 0x0102 on.toNat vin us vstore

/-- VIN is where PFAIL asserts (R532). -/
def Block.failsAt (b : Block) (vin : Nat) : Bool := decide (vin < b.pfailThr ∨ vin < 560 ∨ 6400 < vin)

/-- The inputs of a failing VIN: the input stage disconnects it above 64 V (R531). -/
def Block.failInputs (b : Block) (vin vstore : Nat) : Block :=
  (b.supply vin vstore).modTop fun t => { t with disconnected := t.disconnected || decide (6400 < vin) }

/-- The input stage runs from the store (R532). -/
def Block.storeFeeds (b : Block) (vin vstore : Nat) : Bool := decide (vin < 560 ∨ vin < vstore) || b.top.disconnected

/-- Under a PFAIL that stands already, the store may begin to feed. -/
def Block.addFeed (b : Block) (vin vstore : Nat) : Block :=
  b.putFlag F.PWR_STAT_ON_STORE (b.flag F.PWR_STAT_ON_STORE || b.storeFeeds vin vstore)

/-- PFAIL asserts: its record, the energy save with the part `part` of the cycle in progress, the recorder's commit and its save
of OPSEC (R248, R496, R535). -/
def Block.assertPfail (b : Block) (vin vstore : Nat) (part : LineCycle) : Block :=
  let b := ((b.put F.PWR_STAT_PFAIL 1).putFlag F.PWR_STAT_ON_STORE (b.storeFeeds vin vstore)).modTop fun t => { t with pfailAt := some b.now }
  let b := (b.bump Reg.PWR_CNT_PFAIL).pwrFail true vin 0 vstore
  let b := if b.nrgOn then b.saveEnergy 2 (b.accsAfter part) else b
  b.commitAll.saveOpsec true

/-- PFAIL_ASSERT (R496, R532, R535): VIN below PFAIL_THR or 5.6 V, or above 64 V, where VIN is disconnected. -/
def pfailAssert (vin vstore : Nat) (part : LineCycle) (b : Block) : Block :=
  if !b.failsAt vin then b
  else if b.pfail then (b.failInputs vin vstore).addFeed vin vstore
  else (b.failInputs vin vstore).assertPfail vin vstore part

/-- The duration of the present PFAIL, in µs. -/
def Block.pfailUs (b : Block) : Nat :=
  match b.top.pfailAt with
  | none => 0
  | some t => (b.now - t) / tickUs

/-- PFAIL may clear (R532): VIN between PFAIL_THR + 0.3 V and 62 V for 1 ms. -/
def Block.recovers (b : Block) (vin goodUs : Nat) : Bool :=
  b.pfail && !b.top.disconnected && decide (b.pfailThr + 30 ≤ vin ∧ vin ≤ 6200 ∧ 1000 ≤ goodUs)

/-- PFAIL_CLEAR (R532, R535). -/
def pfailClear (vin vstore goodUs : Nat) (b : Block) : Block :=
  if !b.recovers vin goodUs then b
  else
    let us := b.pfailUs
    let b := (((b.supply vin vstore).put F.PWR_STAT_PFAIL 0).put F.PWR_STAT_ON_STORE 0).modTop fun t => { t with pfailAt := none }
    (b.bump Reg.PWR_CNT_RIDE).pwrFail false vin us vstore

/-- OVERVOLTAGE_RECONNECT (R531): VIN has fallen to 62 V. -/
def overvoltageReconnect (vin vstore : Nat) (b : Block) : Block :=
  if !b.top.disconnected || decide (6200 < vin) then b
  else ((b.supply vin vstore).modTop fun t => { t with disconnected := false }).putFlag F.PWR_STAT_ON_STORE (decide (vin < 560 ∨ vin < vstore))

/-- STORE_REACHES_VIN (R532). -/
def storeReachesVin (vin vstore : Nat) (b : Block) : Block :=
  if !b.pfail || b.top.disconnected || decide (vin < 560 ∨ vin < vstore) then b
  else (b.supply vin vstore).put F.PWR_STAT_ON_STORE 0

/-- POWER_THRESHOLD_WRITE (R533): ENGINEER, no saddle; WATCH_THR above 550 is taken as 550, PFAIL_THR as the nearer end. -/
def powerThresholdW (acc : Nat) (value : W32) (k : Key) (b : Block) : WRes :=
  let st := b.mayWrite k acc roleEng false
  if st ≠ yOk then wErr b acc st
  else
    let w := min 550 (bits value 25 16)
    let p := clampNat 58 500 (bits value 9 0)
    if w < p + 10 then ⟨yBadParam, b.put F.PWR_STAT_CFG_ERR 1⟩
    else ⟨yOk, (b.put F.PWR_THR_WATCH_THR w).put F.PWR_THR_PFAIL_THR p⟩

/-- A temperature measured, in 0.1 degrees. -/
def Block.measured (b : Block) (t : Int) : Block := (b.put F.PWR_TEMP_TEMP (s32 t % 65536)).modTop fun x => { x with tempTick := some b.now }

/-- TEMP_MEASURE (R541, R554): from the commit of the trims on; above +125 °C PWR_OVERTEMP at most once per minute. -/
def tempMeasure (t : Int) (b : Block) : Block :=
  if !b.top.loaded then b
  else if t ≤ 1250 ∨ b.within b.top.overTick (60 * tickS) then b.measured t
  else ((b.measured t).modTop fun x => { x with overTick := some b.now }).note 0x010A (s32 t % 65536)

/-! ### Reset sources (R505, R506) -/

/-- POR: VIN rises through 5.9 V, or the internal rails first reach regulation. -/
def por (vin vstore : Nat) (k : Key) (b : Block) : Key × Block :=
  let r := assertReset srcPor false false k b
  (r.1, r.2.supply vin vstore)

/-- BOR: a core rail, or the store below 8 V while VIN is absent. -/
def bor (rail : Bool) (vin vstore : Nat) (k : Key) (b : Block) : Key × Block :=
  if !(rail || (decide (vstore < 800) && (decide (vin < 560) || b.top.disconnected))) then (k, b)
  else
    let r := assertReset srcBor false false k b
    (r.1, r.2.supply vin vstore)

/-- RESET_PIN: 3 consecutive CK_AON samples low, while the device does not drive the land (R508). -/
def resetPin (samples : Nat) (k : Key) (b : Block) : Key × Block :=
  if samples < 3 ∨ b.top.resetNLow then (k, b) else assertReset srcPin false false k b

/-- DBG_RESET. -/
def dbgReset (k : Key) (b : Block) : Key × Block := assertReset srcDbg false false k b

/-- LOCKUP (R317): the compare point is kept. -/
def lockup (point : Nat) (k : Key) (b : Block) : Key × Block :=
  assertReset srcLockup false false k (b.modGrd fun g => { g with lockup := some point })

/-- What a write that acts on the key block too answers and does. -/
structure KWRes where
  status : Nat
  k      : Key
  b      : Block

/-- A write that requests a reset: MAINTENANCE, no saddle (R539, R540). -/
def resetReqW (src : Nat) (self : Bool) (acc : Nat) (k : Key) (b : Block) : KWRes :=
  let st := b.mayWrite k acc roleMnt false
  if st ≠ yOk then ⟨st, k, b.writeDenied acc⟩
  else
    let r := assertReset src self false k b
    ⟨yOk, r.1, r.2⟩

/-- SYS_REQ (R506) and FW_REQ (R505). -/
def sysReqW (acc : Nat) (k : Key) (b : Block) : KWRes := resetReqW srcPin true acc k b
def fwReqW (acc : Nat) (k : Key) (b : Block) : KWRes := resetReqW srcSwr false acc k b

/-- An OK reply that leaves before a reset takes its session (R471, R506). -/
def Block.lastReply (b : Block) (h : Hdr) (op : Nat) : Block :=
  let pkt := ycpPacket h.session flReply op h.tag yOk (b.creditByte h.session) 0 []
  if isUdp h.session then b.sendDatagram h.session pkt else b.emit 10 Emit.ycp (pkt.map BitVec.toNat)

/-- RESET (R433, R505, R506): OK, then the reset of reach C (0) or B (1). -/
def reset (h : Hdr) (reach : Nat) (k : Key) (b : Block) : Key × Block :=
  let b := b.ycpTake k h 0x0C04
  let st := b.precheck k h 0x0C04 ⟨some roleMnt, false⟩
  if st ≠ yOk then (k, b.ycpReply h 0x0C04 st [])
  else if 2 ≤ reach then (k, b.ycpReply h 0x0C04 yBadParam [])
  else
    let b := b.lastReply h 0x0C04
    if reach = 0 then assertReset srcSwr false false k b else assertReset srcPin true false k b

/-! ### Clocks (R536 to R538) -/

/-- The clock-failure monitor's CLKF. -/
def clkf (k : Key) (b : Block) : Key × Block := assertReset srcClkf false false k b

/-- The PLL holds and turns to another reference: 0 TCXO, 1 REFCLK_IN; cause 0 failure, 1 request (R538). -/
def Block.switchRef (b : Block) (ref cause : Nat) : Block :=
  let b := ((b.put F.CLK_STAT_HOLDOVER 1).put F.CLK_STAT_REF_ACTIVE ref).modTop fun t => { t with refTo := some (ref, cause) }
  (b.bump Reg.CLK_CNT_REF_SW).note 0x0106 ref cause

/-- PLL_LOCK_LOSS: more than 10 µs without lock, or ROOTCLK beyond ±2 %. -/
def pllLockLoss (lostUs off : Nat) (k : Key) (b : Block) : Key × Block :=
  if lostUs ≤ 10 ∧ off ≤ 200 then (k, b) else clkf k (b.put F.CLK_STAT_PLL_LOCK 0)

/-- REFCLK_INVALID. -/
def refclkInvalid (k : Key) (b : Block) : Key × Block :=
  let b := b.put F.CLK_STAT_REFIN_OK 0
  if b.fld F.CLK_STAT_REF_ACTIVE ≠ 1 then (k, b)
  else if b.flag F.CLK_CTRL_REF_AUTO then (k, b.switchRef 0 0)
  else clkf k b

/-- TCXO_FAIL: nothing while REFCLK_IN is selected. -/
def tcxoFail (refin : Bool) (k : Key) (b : Block) : Key × Block :=
  if b.fld F.CLK_STAT_REF_ACTIVE ≠ 0 then (k, b)
  else if b.flag F.CLK_CTRL_REF_AUTO && refin then (k, (b.put F.CLK_STAT_REFIN_OK 1).switchRef 1 0)
  else clkf k b

/-- CK_AON_BAD: CK_AON as measured against CK_TIME, outside 20 kHz to 45 kHz. -/
def ckAonBad (hz : Nat) (b : Block) : Block :=
  let b := b.put F.CLK_AON_HZ_HZ (min 65535 hz)
  if decide (20000 ≤ hz ∧ hz ≤ 45000) || b.flag F.CLK_STAT_AON_BAD then b
  else (b.put F.CLK_STAT_AON_BAD 1).note 0x0107 0 (min 65535 hz)

/-- REF_SWITCH_REQUEST (R537): ENGINEER, no saddle. A switch to an invalid REFCLK_IN does not begin (notes/assumptions/44.md). -/
def refSwitchRequestW (acc : Nat) (value : W32) (refin : Bool) (k : Key) (b : Block) : WRes :=
  let st := b.mayWrite k acc roleEng false
  if st ≠ yOk then wErr b acc st
  else
    let sel := bits value 1 1
    let b := ((b.put F.CLK_CTRL_REF_SEL sel).put F.CLK_CTRL_REF_AUTO (bits value 0 0)).putFlag F.CLK_STAT_REFIN_OK refin
    if sel = b.fld F.CLK_STAT_REF_ACTIVE ∨ b.top.refTo.isSome ∨ (sel = 1 ∧ !refin) then ⟨yOk, b⟩ else ⟨yOk, b.switchRef sel 1⟩

/-- PLL_RELOCK (R538). -/
def pllRelock (b : Block) : Block :=
  if b.top.refTo.isNone then b
  else ((b.put F.CLK_STAT_HOLDOVER 0).put F.CLK_STAT_PLL_LOCK 1).modTop fun t => { t with refTo := none }

/-! ### RUN_S and the failed-start counter (R516 to R518) -/

/-- Ticks in RUN since the last reset ended. -/
def Block.runTicks (b : Block) : Nat :=
  b.top.runAcc + match b.top.runFrom with
    | none => 0
    | some t => b.now - t

/-- The running firmware has proved itself (R518): its VERSION raises the floor and its bank is kept. -/
def Block.raiseFloor (b : Block) : Block :=
  let v := max b.top.mramFloor (b.rd Reg.TOP_FW_VER).toNat
  let bank := b.fld F.TOP_FW_RUNNING
  ((b.modTop fun t => { t with mramFloor := v, mramBank := bank }).wr Reg.TOP_FW_FLOOR (BitVec.ofNat 32 v)).put F.TOP_FW_BANK bank

/-- RUN_S_LIMIT: RUN_S reaches 60 (R517, R518). -/
def runSLimit (b : Block) : Block :=
  if b.top.runDone || decide (b.runTicks < 60 * tickS) then b
  else
    let b := b.modTop fun t => { t with runDone := true, mramFsc := 0 }
    if b.flag F.TOP_FW_RECOVERY then b else b.raiseFloor

/-- FSC_CLEAR (R517): MAINTENANCE, no saddle. -/
def fscClearW (acc : Nat) (k : Key) (b : Block) : WRes :=
  let st := b.mayWrite k acc roleMnt false
  if st ≠ yOk then wErr b acc st else ⟨yOk, b.modTop fun t => { t with mramFsc := 0 }⟩

/-! ### States (R527 to R530) -/

/-- TOP_STATE changes, with PWR_STATE (R529): causes 0 voltage, 1 command, 2 start, 3 KICKSTAND. RUN_S runs in RUN alone (R516). -/
def Block.setState (b : Block) (new cause : Nat) : Block :=
  let old := b.topState
  let run := b.runTicks
  let b := b.modTop fun t => { t with runAcc := run, runFrom := if new = stRun then some b.now else none }
  (b.put F.TOP_STATE_STATE new).note 0x0103 old new cause

/-- Leaving MAINT: F0 (R6), the scale of energy (R240), tandem operation (R349). -/
def Block.leaveMaint (b : Block) : Block :=
  ((b.put F.TOP_NOMF_ACTIVE (b.fld F.TOP_NOMF_SEL)).copyScale).applyTdmEn

/-- The cadence WATCH asks for: the smaller of the configured one and F0 (R154). -/
def Block.watchCode (b : Block) : Nat :=
  let code := b.fld F.ALN_CADENCE_CODE
  if cadenceOf code ≤ b.f0 then code else if b.f0 = 50 then 6 else 7

/-- A link lost with its port's domain (R527, R547). -/
def Block.unlink (b : Block) (p : Nat) : Block := if b.flag (atPort F.MAC_STAT_LINK p) then b.dropLink p else b

/-- The WATCH entry of R530: by voltage (0) or by command (1). -/
def Block.enterWatch (b : Block) (cause : Nat) : Block :=
  let maint := b.topState == stMaint
  let b := if maint then b.endTest false 0 else b
  let b := ((b.setState stWatch cause).put F.TOP_STATE_WATCH_CAUSE (if cause = 0 then 1 else 2)).bump Reg.PWR_CNT_WATCH
  let b := if maint then b.leaveMaint else b
  let b := [4, 5, 6, 7].foldl (fun b s => b.closeSession s 2) b
  let b := if b.flag F.MOD_CTRL_EN then b.postMod 1 else b
  let b := [0, 1, 4, 5].foldl Block.unlink b
  ((b.scheduleCadence b.watchCode).2.fltWatch).islWatch.settleGuard

/-- WATCH is left for RUN (R529): cadence, MOD and the spare lane resume (R154, R280, R212). -/
def Block.exitWatch (b : Block) (cause : Nat) : Block :=
  let b := (b.setState stRun cause).put F.TOP_STATE_WATCH_CAUSE 0
  let b := (b.scheduleCadence (b.fld F.ALN_CADENCE_CODE)).2
  let b := if b.modOn then b.modRestart 2 else b
  b.fltResume.settleGuard

/-- WATCH_ENTRY (R529): VIN below WATCH_THR for 100 ms with WATCH_AUTO at 1. -/
def watchEntry (vin lowMs : Nat) (k : Key) (b : Block) : Key × Block :=
  if !(b.topState == stRun || b.topState == stMaint) || !b.flag F.PWR_CTRL_WATCH_AUTO || decide (b.watchThr ≤ vin ∨ lowMs < 100) then (k, b)
  else endMgtKeys k ((b.put F.PWR_VIN_VIN vin).enterWatch 0)

/-- WATCH_EXIT (R529): entered by voltage, and VIN at or above WATCH_THR + HYS for DWELL. -/
def watchExit (vin highMs : Nat) (b : Block) : Block :=
  if b.topState ≠ stWatch ∨ b.fld F.TOP_STATE_WATCH_CAUSE ≠ 1 ∨ vin < b.watchThr + b.watchHys ∨
      highMs < 1000 * max 1 (b.fld F.PWR_WATCH_DWELL) then b
  else (b.put F.PWR_VIN_VIN vin).exitWatch 0

/-- A command that answers PENDING and then, in the background, its final reply (R431): checks, PENDING, effect, result. -/
def Block.ycpBack (k : Key) (h : Hdr) (op : Nat) (q : YReq) (check : Block → Nat) (act : Block → YRes) (b : Block) : Block :=
  let b := b.ycpTake k h op
  let st := b.precheck k h op q
  let st := if st = yOk then check b else st
  if st ≠ yOk then b.ycpReply h op st []
  else
    let r := act (b.ycpReply h op yPending [])
    r.b.finish h.session h.tag op r.status r.payload

/-- STATE_SET allows (R529). -/
def Block.stateAllowed (b : Block) (target vin : Nat) : Bool :=
  let st := b.topState
  (st == stRun && (target == 3 || target == 4)) || (st == stWatch && target == 2 && decide (b.watchThr ≤ vin)) || (st == stMaint && target == 2)

/-- The transition of an allowed STATE_SET. -/
def Block.stateTo (b : Block) (target : Nat) : Block :=
  if target = 3 then b.enterWatch 1
  else if target = 4 then (b.setState stMaint 1).settleGuard
  else if b.topState = stWatch then b.exitWatch 1
  else ((b.setState stRun 1).leaveMaint).settleGuard

/-- STATE_SET's effect outside the key block. -/
def Block.stateSetB (h : Hdr) (target vin : Nat) (k : Key) (b : Block) : Block :=
  b.ycpBack k h 0x0C06 ⟨some roleMnt, false⟩
    (fun b => if target < 2 ∨ 4 < target then yBadParam else if b.stateAllowed target vin then yOk else yDenied)
    (fun b =>
      let b := b.stateTo target
      ⟨yOk, beBytes 1 b.topState, b⟩)

/-- STATE_SET; one that enters WATCH ends the keys of the sessions it closes (R461, R530). -/
def stateSet (h : Hdr) (target vin : Nat) (k : Key) (b : Block) : Key × Block :=
  let u := b.stateSetB h target vin k
  let t := b.ycpTake k h 0x0C06
  if target = 3 ∧ t.precheck k h 0x0C06 ⟨some roleMnt, false⟩ = yOk ∧ t.stateAllowed 3 vin = true then endMgtKeys k u else (k, u)

/-! ### The end of a reset (R509, R516, R520, R523) -/

/-- The straps as sampled at the end of the stretch (R523). -/
def Block.sampleStraps (b : Block) : Block :=
  let t := b.top
  let b := ((b.putFlag F.TOP_STRAP_PREFER t.strapPrefer).putFlag F.TOP_STRAP_REF_SRC t.strapRef).putFlag F.TOP_STRAP_BOOT_MODE t.strapBoot
  (b.putFlag F.CLK_CTRL_REF_SEL t.strapRef).putFlag F.TDM_STAT_PREFER t.strapPrefer

/-- The log opened at the start that follows leaving MANUFACTURE (R489; notes/assumptions/45.md). -/
def Block.openLog (b : Block) : Block :=
  if b.log.reopen then
    let no := b.log.clrCnt
    (b.newLog 16384 1024).modLog fun l => { l with reopen := false, clrCnt := no }
  else b

/-- The end of a reset's stretch: counted by its reach, the failed-start count up, the run timer restarted (R507, R520, R540). -/
def Block.countReset (b : Block) (r : ResetRun) : Block :=
  let b := b.put F.RST_CAUSE_LAST_REACH r.reach
  let b := if r.reach = 1 then b.bump Reg.RST_CNT_B else if r.reach = 2 then b.bump Reg.RST_CNT_C else b
  b.modTop fun t =>
    { t with rstRun := none, resetNLow := false, mramFsc := if r.noCount then t.mramFsc else min 15 (t.mramFsc + 1), runAcc := 0,
             runFrom := if b.topState = stRun then some b.now else none, runDone := false }

/-- What a completed reset of reach C leaves: a failed tandem unit is ALONE again; the guard awaits the first kick after a watchdog's
reset (R318, R366). -/
def Block.afterSoft (b : Block) : Block :=
  let b := if b.tdmState = tdFailed then b.put F.TDM_STAT_STATE tdAlone else b
  if b.grd.wdtWait then b.modGrd fun g => { g with wdtFrom := some b.now, wdtWait := false } else b

/-- What the end of a reset of an effective reach does. -/
def endReset (r : ResetRun) (k : Key) (b : Block) : Key × Block :=
  let b := b.countReset r
  if r.reach < 2 then (k, b.sampleStraps.openLog)
  else if 2 ≤ b.top.mramFsc then beginReset 1 0 true true k b.afterSoft
  else (k, b.afterSoft)

/-- The sources still asserted beside the land. -/
def heldOthers (held : Nat) : Nat := held - (if held.testBit srcPin then 1 <<< srcPin else 0)

/-- Only the land still holds a reset (R508): the device stops driving it, and PIN counts as asserted. -/
def Block.landHolds (b : Block) (reach : Nat) : Block :=
  if reach < 2 then (b.modTop fun t => { t with resetNLow := false }).cause (1 <<< srcPin) false else b

/-- RESET_END (R508, R509): `held` are the sources still asserted. -/
def resetEnd (held : Nat) (k : Key) (b : Block) : Key × Block :=
  match b.top.rstRun with
  | none => (k, b)
  | some r =>
    if !b.since r.lastAssert (stretch r.reach) || heldOthers held != 0 then (k, b)
    else if held.testBit srcPin then (k, b.landHolds r.reach)
    else endReset r k b

/-! ### Options, trims, firmware (R511 to R514, R519, R521) -/

/-- The first valid of two copies, else the boot ROM's value, and which it is: 0 A, 1 B, 2 boot ROM (R511, R513). -/
def chosenCopy {α : Type} (a b : Option α) (rom : α) : Nat × α :=
  match a, b with
  | some x, _ => (0, x)
  | none, some x => (1, x)
  | none, none => (2, rom)

/-- The option word and the trims a start takes. -/
def Top.optChosen (t : Top) : Nat × OptWord := chosenCopy t.optA t.optB ⟨true, Config.bootRomKeyHash⟩
def Top.trimChosen (t : Top) : Nat × TrimImage := chosenCopy t.trimA t.trimB ⟨(List.range 9).map Config.bootRomTrim, 0x1FF⟩

/-- The copies that failed: RST_LOAD.BAD. -/
def Top.badCopies (t : Top) : Nat := t.trimA.isNone.toNat + 2 * t.trimB.isNone.toNat + 4 * t.optA.isNone.toNat + 8 * t.optB.isNone.toNat

/-- The chosen items committed; a failing copy A takes the contents of B (R512). -/
def Top.committed (t : Top) : Top :=
  { t with dbgLock := t.optChosen.2.dbgLock, fwKeyHash := t.optChosen.2.fwKeyHash, trims := t.trimChosen.2, loaded := true,
           optA := if t.optChosen.1 = 1 then some t.optChosen.2 else t.optA,
           trimA := if t.trimChosen.1 = 1 then some t.trimChosen.2 else t.trimA }

/-- The options and trims committed, the registers MRAM fills, and the PLL locked on its reference (R511 to R513, R537, R546). -/
def Block.loadItems (refin : Bool) (b : Block) : Block :=
  let t := b.top
  let trim := t.trimChosen
  let b := b.modTop Top.committed
  let b := ((b.put F.RST_LOAD_OPT_SRC t.optChosen.1).put F.RST_LOAD_TRIM_SRC trim.1).put F.RST_LOAD_BAD t.badCopies
  let b := b.put F.AFE_STAT_UNCAL trim.2.deflt
  let nomf := t.mramNomf.getD 0
  let b := (b.put F.TOP_NOMF_SEL nomf).put F.TOP_NOMF_ACTIVE nomf
  let b := (b.put F.TOP_FW_BANK t.mramBank).wr Reg.TOP_FW_FLOOR (BitVec.ofNat 32 t.mramFloor)
  let b := ((b.putFlag F.CLK_STAT_REF_ACTIVE (b.flag F.TOP_STRAP_REF_SRC && refin)).putFlag F.CLK_STAT_REFIN_OK refin).put F.CLK_STAT_PLL_LOCK 1
  let b := if t.badCopies = 0 then b else b.recBy 3 true 0x0105 t.badCopies trim.1 t.optChosen.1 0
  if trim.1 = 2 then b.recBy 3 true 0x0608 0x1FF 0 0 0 else b

/-- OPTION_TRIM_LOAD (R511 to R513, R537): once per start, after the reset's end. -/
def optionTrimLoad (refin : Bool) (b : Block) : Block :=
  if b.top.rstRun.isSome || b.top.loaded || b.top.started then b else b.loadItems refin

/-- The texts of R461. -/
def txtIdentity : List Byte := asciiBytes [0x49, 0x44, 0x4E, 0x2D, 0x49, 0x44, 0x45, 0x4E, 0x54, 0x49, 0x54, 0x59]
def txtQuote : List Byte := asciiBytes [0x49, 0x44, 0x4E, 0x2D, 0x51, 0x55, 0x4F, 0x54, 0x45]
def txtLogSeal : List Byte := asciiBytes [0x49, 0x44, 0x4E, 0x2D, 0x4C, 0x4F, 0x47, 0x53, 0x45, 0x41, 0x4C]

/-- A derived slot loaded at start: label, measurement, engine bit, algorithm (R461). -/
def loadDerived (slot : Nat) (label : List Byte) (meas : Digest) (bit alg : Nat) (k : Key) (b : Block) : Key × Block :=
  let s := k.derive label meas bit slot (k.slot slot).gen
  keyLoaded k b slot
    { KeySlot.empty with engine := 2 ^ bit, alg := alg, origin := 0, secret := s, pub := if algAsym alg then Config.publicKey s else 0,
                         created := b.tim.sec, mf := k.mf }

/-- A stored key unwrapped into its slot (R459). -/
def loadStored (bad : List Nat) (e : Nat × KeySlot) (kb : Key × Block) : Key × Block :=
  if bad.contains e.1 then ({ kb.1 with storeOk := false }, kb.2.note 0x0E07 e.1) else keyLoaded kb.1 kb.2 e.1 e.2

/-- The three keys derived at a start: identity, quote, log seal (R461). -/
def startKeys (m1 mf : Digest) (k : Key) (b : Block) : Key × Block :=
  let kb := loadDerived 0 txtIdentity m1 4 4 k b
  let kb := loadDerived 1 txtQuote mf 4 4 kb.1 kb.2
  loadDerived 2 txtLogSeal m1 6 2 kb.1 kb.2

/-- The keys loaded at a start (R459, R461, R465): none in SCRAP (R471) and none without a DUK (R456). -/
def loadKeys (m1 mf : Digest) (bad : List Nat) (k : Key) (b : Block) : Key × Block :=
  let k := { k with m1 := m1, mf := mf, storeOk := true }
  if k.lcs = 4 ∨ k.duk.isNone then (k, b)
  else
    let kb := startKeys m1 mf k b
    let kb := k.store.foldl (fun kb e => loadStored bad e kb) kb
    let k := { kb.1 with devId := Config.sha256 (pub384 (kb.1.slot 0).pub) }
    ({ k with aliasDoc := k.aliasCert }, kb.2)

/-- The guard's package at a start (R324): the copy with the higher VERSION whose CRC and signature pass, not below the floor. -/
def Block.loadGsp (k : Key) (b : Block) : Block :=
  let g := b.grd
  let ok (c : Option (GspPkg × Digest × Bool)) : Option (GspPkg × Digest × Bool) :=
    c.filter fun x => x.2.2 && k.usable 3 && decide (g.mramFloor ≤ x.1.version)
  let take (isA : Bool) (x : GspPkg × Digest × Bool) : Block := (b.modGrd fun g => { g with inForceA := isA }).takePkg x.1 x.2.1
  match ok g.copyA, ok g.copyB with
  | some x, some y => if y.1.version ≤ x.1.version then take true x else take false y
  | some x, none => take true x
  | none, some y => take false y
  | none, none => b

/-- GRD_LOCKUP once, from the compare point kept (R317). -/
def Block.tellLockup (b : Block) : Block :=
  match b.grd.lockup with
  | none => b
  | some p => (b.modGrd fun g => { g with lockup := none }).note 0x0A06 p

/-- The reasons for KICKSTAND that hold, one bit each: 0 failed starts, 1 trims, 2 no valid bank, 3 strap (R521). -/
def Block.kickMask (b : Block) (noBank : Bool) : Nat :=
  (decide (4 ≤ b.top.mramFsc)).toNat + 2 * (b.fld F.RST_LOAD_TRIM_SRC == 2).toNat + 4 * noBank.toNat + 8 * (b.flag F.TOP_STRAP_BOOT_MODE).toNat

/-- The reason KICK_REASON names, by the priority 1, 2, 0, 3. -/
def kickReason (mask : Nat) : Nat := ([1, 2, 0, 3].find? mask.testBit).getD 0

/-- The bank a start takes (R514, R519): the named one, or the other one once the counter has reached 2; the remaining one where it fails
its checks; none where neither passes. -/
def Block.bankChoice (b : Block) (f : BootFind) : Option (Nat × BankImage) :=
  let t := b.top
  let first := if 2 ≤ t.mramFsc then 1 - t.mramBank else t.mramBank
  let img (i : Nat) : BankImage := if i = 0 then f.bank0 else f.bank1
  ([first, 1 - first].find? fun i => (img i).valid && decide (t.mramFloor ≤ (img i).version)).map fun i => (i, img i)

/-- RST_START (R543). -/
def Block.rstStart (b : Block) (src p3 : Nat) : Block :=
  b.recBy src false 0x0101 (b.rd Reg.RST_CAUSE).toNat (b.fld F.RST_CAUSE_LAST_REACH) b.top.mramFsc p3

/-- P3 of RST_START for what TOP_FW shows. -/
def Block.startedP3 (b : Block) : Nat :=
  if b.flag F.TOP_FW_RECOVERY then 0xFFFFFFFF else b.fld F.TOP_FW_RUNNING * 2 ^ 31 + (b.rd Reg.TOP_FW_VER).toNat % 2 ^ 31

/-- The boot loader's choice at a start of reach A or B (R514, R519, R521): what runs, and KICKSTAND where a reason holds. -/
def Block.boot (b : Block) (f : BootFind) : Block :=
  let pick := b.bankChoice f
  let mask := b.kickMask pick.isNone
  let fsc := b.top.mramFsc
  let run : Option (Nat × BankImage) := if mask = 0 then pick else none
  let b := match run with
    | some (i, x) =>
      let b := ((b.put F.TOP_FW_RECOVERY 0).put F.TOP_FW_RUNNING i).wr Reg.TOP_FW_VER (BitVec.ofNat 32 x.version)
      b.modTop fun t => { t with lastBank := i }
    | none => ((b.put F.TOP_FW_RECOVERY 1).put F.TOP_FW_RUNNING 0).wr Reg.TOP_FW_VER (BitVec.ofNat 32 f.recovery.version)
  let b := b.rstStart 5 b.startedP3
  match run with
  | some (i, x) => if 2 ≤ fsc ∧ i ≠ b.top.mramBank then b.recBy 5 false 0x0109 i x.version fsc 0 else b
  | none =>
    let b := b.put F.TOP_STATE_KICK_REASON (kickReason mask)
    (b.setState stKick 3).note 0x0104 (kickReason mask) fsc mask

/-- MF of the image that starts. -/
def Block.mfOf (b : Block) (f : BootFind) : Digest :=
  match (if b.kickMask (b.bankChoice f).isNone = 0 then b.bankChoice f else none) with
  | some (_, x) => x.mf
  | none => f.recovery.mf

/-- The firmware in DRAM resumes after a reset of reach C (R507). -/
def Block.resumeFw (b : Block) : Block :=
  let b := b.modTop fun t => { t with started := true }
  (b.rstStart 1 b.startedP3).fcResume b.rad.savedFc 4096

/-- A start of reach A or B: the image chosen, the keys and the package loaded, the chains verified (R514, R519, R524). -/
def bootFw (f : BootFind) (k : Key) (b : Block) : Key × Block :=
  let kb := loadKeys f.m1 (b.mfOf f) f.badKeys k (b.boot f)
  let b := (kb.2.loadGsp kb.1).tellLockup
  let b := b.modTop fun t => { t with started := true, dramFw := true, bellsConfigured := true }
  (kb.1, b.verifyChains kb.1)

/-- FIRMWARE_START (R514): after a reset of reach C the firmware in DRAM resumes; otherwise the boot loader chooses, and the key slots,
the package and the lands follow (R524). -/
def firmwareStart (f : BootFind) (k : Key) (b : Block) : Key × Block :=
  if b.top.rstRun.isSome || b.top.started || !b.top.loaded then (k, b)
  else if b.fld F.RST_CAUSE_LAST_REACH = 2 ∧ b.top.dramFw then (k, b.resumeFw)
  else if k.duk.isNone && !k.pufFail then (k, b)
  else bootFw f k b

/-- The HOST watches, the branches and the learned state restored (R266, R280). -/
def Block.restoreMod (b : Block) : Block :=
  b.modMod fun m => { m with watches := m.cfgWatches, branches := m.cfgBranches, chans := m.saved, resumeAt := some m.screened }

/-- The 600 ms row of R524: energy restored, then the front end, the engines and the ports enabled; TOP_STATE becomes RUN. -/
def Block.comeUp (b : Block) : Block :=
  let b := (b.restoreEnergy.put F.NRG_CTRL_EN 1).put F.AFE_CTRL_EN 1
  let b := (b.restoreMod.put F.MOD_CTRL_EN 1).put F.ISL_CTRL_EN 1
  let b := (List.range 7).foldl (fun b p => b.put (atPort F.MAC_CTRL_EN p) 1) b
  let b := if b.top.variant = .n0 then b else b.restoreRadio
  let b := (b.setState stRun 2).copyScale
  b.applyTdmEn.settleGuard

/-- START_COMPLETE (R524, R529). -/
def startComplete (b : Block) : Block :=
  if b.topState ≠ stStart ∨ !b.top.started ∨ b.top.rstRun.isSome then b else b.comeUp

/-! ### FW_UPDATE (R515) -/

/-- The bank a FW_UPDATE writes. -/
def Block.updateBank (b : Block) (c : FwContent) : Nat :=
  if b.topState ≠ stKick then 1 - b.fld F.TOP_FW_RUNNING
  else if c.ok0 ∧ c.ok1 then 1 - b.top.lastBank
  else if c.ok0 then 1
  else if c.ok1 then 0
  else 1 - b.top.mramBank

/-- The first check of R515 that a complete content fails, and its status; 0 where it passes. -/
def fwVerdict (total floor : Nat) (c : FwContent) : Nat × Nat :=
  if total < c.headLen ∨ 28 * 2 ^ 20 < total then (1, yBadLength)
  else if !c.magicOk then (2, yBadParam)
  else if !c.sigOk then (3, yAuthFail)
  else if !c.serves then (4, yDenied)
  else if c.version < floor then (5, yDenied)
  else if !c.readOk then (6, yAuthFail)
  else (0, yOk)

/-- The complete content judged, and written where it passes. -/
def Block.fwFinish (b : Block) (total : Nat) (c : FwContent) : YRes :=
  let bank := b.updateBank c
  let v := fwVerdict total b.top.mramFloor c
  let b := if v.1 = 0 then (b.modTop fun t => { t with mramBank := bank, mramFsc := 0 }).put F.TOP_FW_BANK bank else b
  ⟨v.2, [], b.note 0x0108 bank c.version v.2 v.1⟩

/-- The bytes received before a fragment: none before the first. -/
def fwBefore (stage : Option ByteStage) (offset : Nat) : List Byte :=
  if offset = 0 then [] else match stage with
    | none => []
    | some g => g.bytes

/-- A fragment's length, its place after the bytes received, and its image's length, in this order (R435). -/
def fwFragOk (stage : Option ByteStage) (offset total n : Nat) : Nat :=
  let old := match stage with
    | none => total
    | some g => g.total
  if n = 0 ∨ 4088 < n then yBadParam
  else if offset ≠ (fwBefore stage offset).length then yBadParam
  else if total < offset + n ∨ (offset ≠ 0 ∧ total ≠ old) then yBadLength
  else yOk

/-- The fragment completes the image. -/
def fwLast (stage : Option ByteStage) (offset total : Nat) (bytes : List Byte) : Bool :=
  fwFragOk stage offset total bytes.length == yOk && offset + bytes.length == total

/-- A fragment that is not the last: kept, or refused; out of order it drops what was received. -/
def fwKeep (s offset total : Nat) (bytes : List Byte) (b : Block) : YRes :=
  let stage := (b.sess s).fwStage
  let st := fwFragOk stage offset total bytes.length
  if b.topState = stWatch then yErr b yDenied
  else if bytes.length = 0 ∨ 4088 < bytes.length then yErr b yBadParam
  else if st ≠ yOk then yErr (b.modSess s fun x => { x with fwStage := none }) st
  else yDone (b.modSess s fun x => { x with fwStage := some ⟨total, fwBefore stage offset ++ bytes⟩ })

/-- FW_UPDATE (R435, R515): fragments in order; with the last one PENDING, then the verdict on the whole. -/
def fwUpdate (h : Hdr) (offset total : Nat) (bytes : List Byte) (c : FwContent) (k : Key) (b : Block) : Block :=
  if b.topState ≠ stWatch ∧ fwLast (b.sess h.session).fwStage offset total bytes then
    b.ycpBack k h 0x0C05 ⟨some roleMnt, false⟩ (fun _ => yOk) fun b =>
      (b.modSess h.session fun x => { x with fwStage := none }).fwFinish total c
  else b.ycp k h 0x0C05 ⟨some roleMnt, false⟩ (fwKeep h.session offset total bytes)

/-! ### LIFECYCLE (R470, R471) and TOP_NOMF (R6) -/

/-- The key block's steps 1 to 5 of an accepted change. -/
def Key.advance (k : Key) (target : Nat) : Key :=
  { k with lcsA := some target, lcsB := some target, store := [], duk := none, helperA := k.helperA && target != 4, helperB := k.helperB && target != 4 }

/-- Every slot zeroised. -/
def zeroiseAll (k : Key) (b : Block) : Key × Block := (List.range 64).foldl (fun (kb : Key × Block) i => keyZeroised kb.1 kb.2 i) (k, b)

/-- Leaving MANUFACTURE: the energy accumulators start at 0, in both saves too, and the log opens anew. -/
def Block.leaveManufacture (b : Block) : Block :=
  (b.zeroEnergy.modNrg fun x =>
    { x with slot0 := x.slot0.map fun r => { r with accs := List.replicate 32 0 },
             slot1 := x.slot1.map fun r => { r with accs := List.replicate 32 0 } }).modLog fun l => { l with reopen := true }

/-- An accepted change of LIFECYCLE: the OK reply leaves first, then the change, then a reset of reach B. -/
def lifecycleAct (h : Hdr) (target : Nat) (k : Key) (b : Block) : Key × Block :=
  let kb := zeroiseAll k ((b.lastReply h 0x0C03).bump Reg.KEY_CNT_OP)
  let b := kb.2.note 0x0E02 k.lcs target
  assertReset srcPin true false (kb.1.advance target) (if k.lcs = 0 then b.leaveManufacture else b)

/-- LIFECYCLE's own checks (R470, R471), in order. -/
def lifecycleCheck (target : Nat) (sigOk tampered : Bool) (k : Key) (b : Block) : Nat :=
  if b.topState ≠ stMaint then yDenied
  else if target ≠ k.lcs + 1 ∨ 4 < target then yBadParam
  else if (k.slot 3).state = 0 then yDenied
  else if !sigOk then yAuthFail
  else if tampered then yTamperAbort
  else yOk

/-- LIFECYCLE. -/
def lifecycle (h : Hdr) (target : Nat) (sigOk tampered : Bool) (k : Key) (b : Block) : Key × Block :=
  let b := b.ycpTake k h 0x0C03
  let st := b.precheck k h 0x0C03 ⟨some roleMnt, false⟩
  let st := if st ≠ yOk then st else lifecycleCheck target sigOk tampered k b
  if st = yOk then lifecycleAct h target k b
  else
    let b := if st = yAuthFail then b.bump Reg.KEY_CNT_AUTH_FAIL else if st = yTamperAbort then keyAbort k b 0x0C03 0xFF else b
    (k, b.ycpReply h 0x0C03 st [])

/-- TOP_NOMF_WRITE (R6, R539): ENGINEER and the saddle, in MAINT only. -/
def topNomfW (acc : Nat) (value : W32) (k : Key) (b : Block) : WRes :=
  let st := b.mayWrite k acc roleEng true
  if st ≠ yOk then wErr b acc st
  else if b.topState ≠ stMaint then ⟨yDenied, b⟩
  else ⟨yOk, (b.put F.TOP_NOMF_SEL (bits value 0 0)).modTop fun t => { t with mramNomf := some (bits value 0 0) }⟩

/-! ### Registers this chapter computes -/

/-- PWR_DOM.ON (R527): during a reset that clears the switched domains, 0. -/
def Block.domains (b : Block) : Nat :=
  let tdm := 2 ^ 14 * (b.fld F.TDM_CTRL_EN)
  let rad := if b.top.variant = .n0 then 0 else 2 ^ 11
  let cal := if b.flt.cal.isSome then 2 ^ 5 + 2 ^ 6 else 0
  let st := b.topState
  if b.inDeepReset then 0
  else if st = stRun ∨ st = stMaint then 0x17FF + rad + tdm
  else if st = stWatch then 0x1577 + rad + tdm
  else if st = stKick then 0x1607 + cal
  else Config.startDomains % 2 ^ 15

/-- The registers of TOP, RST and PWR that are computed (R539 to R541). -/
def Block.rstReg (b : Block) (a : Nat) : Option W32 :=
  if a = Reg.TOP_ID then some (BitVec.ofNat 32 (topIdOf b.top.variant))
  else if a = Reg.RST_FSC then
    some (putBits (putBits 0 23 8 (min 65535 (b.runTicks / tickS))) 3 0 (if b.top.loaded then b.top.mramFsc else 0))
  else if a = Reg.PWR_DOM then some (BitVec.ofNat 32 b.domains)
  else none

/-! ### Meanings -/

def execPor (vin vstore : Nat) (s : State) : Host.Outcome State Fault Refusal := .next (s.onKB (por vin vstore))
def execBor (rail : Bool) (vin vstore : Nat) (s : State) : Host.Outcome State Fault Refusal := .next (s.onKB (bor rail vin vstore))
def execResetPin (samples : Nat) (s : State) : Host.Outcome State Fault Refusal := .next (s.onKB (resetPin samples))
def execDbgReset (s : State) : Host.Outcome State Fault Refusal := .next (s.onKB dbgReset)
def execPllLockLoss (lostUs off : Nat) (s : State) : Host.Outcome State Fault Refusal := .next (s.onKB (pllLockLoss lostUs off))
def execLockup (point : Nat) (s : State) : Host.Outcome State Fault Refusal := .next (s.onKB (lockup point))
def execSysReq (acc : Nat) (s : State) : Host.Outcome State Fault Refusal :=
  .next (s.onKB fun k b => ((sysReqW acc k b).k, (sysReqW acc k b).b))
def execFwReq (acc : Nat) (s : State) : Host.Outcome State Fault Refusal := .next (s.onKB fun k b => ((fwReqW acc k b).k, (fwReqW acc k b).b))
def execReset (h : Hdr) (reach : Nat) (s : State) : Host.Outcome State Fault Refusal := .next (s.onKB (reset h reach))
def execResetEnd (held : Nat) (s : State) : Host.Outcome State Fault Refusal := .next (s.onKB (resetEnd held))
def execOptionTrimLoad (refin : Bool) (s : State) : Host.Outcome State Fault Refusal := .next (s.onB fun _ => optionTrimLoad refin)
def execFirmwareStart (f : BootFind) (s : State) : Host.Outcome State Fault Refusal := .next (s.onKB (firmwareStart f))
def execStartComplete (s : State) : Host.Outcome State Fault Refusal := .next (s.onB fun _ => startComplete)
def execRunSLimit (s : State) : Host.Outcome State Fault Refusal := .next (s.onB fun _ => runSLimit)
def execFscClear (acc : Nat) (s : State) : Host.Outcome State Fault Refusal := .next (s.onB fun k b => (fscClearW acc k b).b)
def execStateSet (h : Hdr) (target vin : Nat) (s : State) : Host.Outcome State Fault Refusal := .next (s.onKB (stateSet h target vin))
def execWatchEntry (vin lowMs : Nat) (s : State) : Host.Outcome State Fault Refusal := .next (s.onKB (watchEntry vin lowMs))
def execWatchExit (vin highMs : Nat) (s : State) : Host.Outcome State Fault Refusal := .next (s.onB fun _ => watchExit vin highMs)
def execPfailAssert (vin vstore : Nat) (part : LineCycle) (s : State) : Host.Outcome State Fault Refusal :=
  .next (s.onB fun _ => pfailAssert vin vstore part)
def execPfailClear (vin vstore goodUs : Nat) (s : State) : Host.Outcome State Fault Refusal :=
  .next (s.onB fun _ => pfailClear vin vstore goodUs)
def execRefclkInvalid (s : State) : Host.Outcome State Fault Refusal := .next (s.onKB refclkInvalid)
def execTcxoFail (refin : Bool) (s : State) : Host.Outcome State Fault Refusal := .next (s.onKB (tcxoFail refin))
def execCkAonBad (hz : Nat) (s : State) : Host.Outcome State Fault Refusal := .next (s.onB fun _ => ckAonBad hz)
def execRefSwitchRequest (acc : Nat) (value : W32) (refin : Bool) (s : State) : Host.Outcome State Fault Refusal :=
  .next (s.onB fun k b => (refSwitchRequestW acc value refin k b).b)
def execPllRelock (s : State) : Host.Outcome State Fault Refusal := .next (s.onB fun _ => pllRelock)
def execTempMeasure (t : Int) (s : State) : Host.Outcome State Fault Refusal := .next (s.onB fun _ => tempMeasure t)
def execPowerThresholdWrite (acc : Nat) (value : W32) (s : State) : Host.Outcome State Fault Refusal :=
  .next (s.onB fun k b => (powerThresholdW acc value k b).b)
def execFwUpdate (h : Hdr) (offset total : Nat) (bytes : List Byte) (c : FwContent) (s : State) : Host.Outcome State Fault Refusal :=
  .next (s.onB (fwUpdate h offset total bytes c))
def execOvervoltageReconnect (vin vstore : Nat) (s : State) : Host.Outcome State Fault Refusal :=
  .next (s.onB fun _ => overvoltageReconnect vin vstore)
def execStoreReachesVin (vin vstore : Nat) (s : State) : Host.Outcome State Fault Refusal := .next (s.onB fun _ => storeReachesVin vin vstore)
def execLifecycle (h : Hdr) (target : Nat) (sigOk tampered : Bool) (s : State) : Host.Outcome State Fault Refusal :=
  .next (s.onKB (lifecycle h target sigOk tampered))
def execTopNomfWrite (acc : Nat) (value : W32) (s : State) : Host.Outcome State Fault Refusal :=
  .next (s.onB fun k b => (topNomfW acc value k b).b)

end Sys2Proof.Machine
end

