-- ==== Sys2Proof/Machine/Store.lean ====
section
/-!
DEFINITION. What is built from rows (spec/05_peloton_alignment.md): output sets, amendment frames, capture bays and host row
reads (R180 to R189, R194, R195, R435, R443).
-/
namespace Sys2Proof.Machine

/-! ### UDP datagrams that may need fragments (R93, R183) -/

/-- A UDP datagram of `n` bytes on one port, in IPv4 fragments where one frame is longer than MAC_MAXLEN; `extra` is what the
port's network adds. The first frame carries the body. -/
def Block.sendUdpPort (b : Block) (p kind : Nat) (tagged : Bool) (n extra : Nat) (body : List Nat) : Block :=
  let maxLen := (b.rd (Reg.MAC_MAXLEN + 0x1000 * p)).toNat
  let head := 38 + (if tagged then 4 else 0) + extra
  let part := (maxLen - head) / 8 * 8
  if udpLen tagged n + extra ≤ maxLen ∨ part = 0 then b.send p kind (max 64 (udpLen tagged n + extra)) body
  else
    let total := n + 8
    let k := (total + part - 1) / part
    (List.range k).foldl (fun b i =>
      b.send p kind (max 64 (head + min part (total - i * part))) (if i = 0 then body else [0xFFFFFFFF, i])) b

/-- The same on a network: both members of NET1 or NET2 (R90), or a management port. -/
def Block.sendUdp (b : Block) (net kind : Nat) (tagged : Bool) (n : Nat) (body : List Nat) : Block :=
  if net < 2 then (b.sendUdpPort (2 * net) kind tagged n 6 body).sendUdpPort (2 * net + 1) kind tagged n 6 body
  else b.sendUdpPort (net + 2) kind tagged n 0 body

/-! ### Output sets (R180 to R184) -/

/-- An output set. -/
def Block.out (b : Block) (i : Nat) : OutSet := b.aln.outs.getD i .free

/-- The block with an output set changed. -/
def Block.modOut (b : Block) (i : Nat) (f : OutSet → OutSet) : Block := b.modAln fun a => { a with outs := modAt a.outs i f }

/-- Blocks a list of entries names. -/
def OutSet.blocks (o : OutSet) : List Nat := o.entries.foldl (fun l e => insNat e.block l) []

/-- Bytes of a value in a data frame: phasors 4 or 8, digital words 2, the rest 2 or 4. -/
def outBytes (kind fmt : Nat) : Nat := if kind = 5 then 2 else (if kind ≤ 1 then 2 else 1) * (if fmt = 1 then 4 else 2)

/-- Size of a data frame: 16 bytes of head and check, a STAT word per block, the values. -/
def Block.outSize (b : Block) (o : OutSet) : Nat :=
  16 + 2 * o.blocks.length + o.entries.foldl (fun n e => n + outBytes (b.kindOf e.rowCh) e.fmt) 0

/-- Size of a CFG-2 frame, by the layout of IEEE C37.118.2 (notes/assumptions/29.md). -/
def Block.cfg2Size (b : Block) (o : OutSet) : Nat :=
  24 + 30 * o.blocks.length + o.entries.foldl (fun n e =>
    let k := b.kindOf e.rowCh
    n + (if k ≤ 1 ∨ k = 4 then 20 else if k = 5 then 260 else 0)) 0

/-- STAT of one PMU block of a frame (R72, R128). -/
def Block.outStat (b : Block) (o : OutSet) (x : Slot) (blk : Nat) : Nat :=
  let chans := (o.entries.filter (·.block == blk)).map (·.rowCh)
  let ents := chans.map fun ch => (tabGet x.row ch).getD 0
  let stats := chans.filterMap fun ch => match b.chanOf ch with
    | none => none
    | some (s, _) => tabGet x.stats s.num
  let worst := fun (lo w : Nat) => stats.foldl (fun m st => max m (st >>> lo % 2 ^ w)) 0
  let any := fun (lo w : Nat) => stats.foldl (fun m st => m ||| (st >>> lo % 2 ^ w)) 0
  let bad := ents.any fun e => !entPresent e || entInvalid e
  let conv := ents.any fun e => entPresent e && entConv e != convDirect
  let cls := ents.foldl (fun m e => if entPresent e then max m (entTq e) else m) x.tq
  let own13 := (!(x.timC == tmLocked || (x.timC == tmFree && decide (x.tq ≤ 1)))).toNat
  (if bad then 3 else worst 14 2) * 2 ^ 14 + (any 13 1 ||| own13) * 2 ^ 13 + any 11 1 * 2 ^ 11
    + (decide (b.now < o.changedUntil)).toNat * 2 ^ 10 + conv.toNat * 2 ^ 9 + (qualCode x.timC cls x.errC x.srcTq0).1 * 2 ^ 6
    + max (worst 4 2) x.unlockC * 2 ^ 4 + any 0 4

/-- A value of a frame: an absent channel is 0x8000 in integer and NaN in float format (R181). -/
def outValue (x : Slot) (e : OutEntry) : Nat :=
  match tabGet x.row e.rowCh with
  | some w => if entPresent w then entVal w else if e.fmt = 1 then nanW.toNat else 0x8000
  | none => if e.fmt = 1 then nanW.toNat else 0x8000

/-- UTC_OFS as it stands for slot time `s`: the offset before the last leap for a slot before it (R74). -/
def Block.utcOfs (b : Block) (s : Nat) : Nat :=
  let ofs := b.fld F.TIM_UTC_UTC_OFS
  match b.tim.leapAt with
  | none => ofs
  | some t => if t ≤ s then ofs else if b.flag F.TIM_UTC_LEAP_DIR then ofs + 1 else ofs - 1

/-- Slot time `s` lies in the 59 s before a leap that is pending or was applied since (R75). -/
def Block.leapComing (b : Block) (s : Nat) : Bool :=
  let day := (s / tickS + (b.flag F.TIM_UTC_LEAP_DIR).toNat + 86400 - b.fld F.TIM_UTC_UTC_OFS % 86400) % 86400
  (b.flag F.TIM_UTC_LEAP_PEND && decide (86341 ≤ day)) || match b.tim.leapAt with
    | none => false
    | some t => decide (s < t ∧ t ≤ s + 59 * tickS)

/-- Bits 6:4 of the FRACSEC quality byte for slot time `s` (R75): direction, occurred, pending. -/
def Block.leapBits (b : Block) (s : Nat) : Nat :=
  4 * (b.flag F.TIM_UTC_LEAP_DIR).toNat + 2 * (b.afterLeap s (86400 * tickS)).toNat + (b.leapComing s).toNat

/-- A data frame of a slot, by its fields: IDCODE, S, UTC offset, leap bits, time-quality code, then STAT and values of each
block in order. -/
def Block.outFrame (b : Block) (o : OutSet) (x : Slot) : List Nat :=
  [1, o.idcode, x.s, b.utcOfs x.s, b.leapBits x.s, (qualCode x.timC x.tq x.errC x.srcTq0).2]
    ++ o.blocks.flatMap fun blk => b.outStat o x blk :: (o.entries.filter (·.block == blk)).map (outValue x)

/-- The frame sent to a UDP port of its destination (R181, R183). -/
def Block.sendFrame (b : Block) (o : OutSet) (x : Slot) (port : Nat) : Block :=
  b.sendUdp o.port Emit.c37 true (b.outSize o) ([port, o.ip, o.pcp, o.vlan] ++ b.outFrame o x)

/-- OUTSET_DATA_FRAME (R181, R182). -/
def outsetDataFrame (set s : Nat) (b : Block) : Block :=
  match b.slot s with
  | none => b
  | some x =>
    if !x.due.contains set || x.stage < 5 then b
    else
      let b := b.fillRow s
      let b := b.modSlot s fun x => { x with due := x.due.filter (· != set) }
      let o := b.out set
      match b.slot s with
      | none => b
      | some x => if o.state = 2 then b.sendFrame o x o.dataPort else b

/-- The set may send an amendment frame of slot `x` now: 100 ms after the last one, or the row has settled (R185). -/
def Block.amendFree (b : Block) (set s : Nat) (x : Slot) : Bool := x.phase == 2 || match tabGet (b.out set).amendAt s with
  | none => true
  | some t => b.since t (100 * tickMs)

/-- OUTSET_AMEND_FRAME (R185): at most one frame per slot in 100 ms, and a final one when the row settles. -/
def outsetAmendFrame (set s : Nat) (b : Block) : Block :=
  let o := b.out set
  match b.slot s with
  | none => b
  | some x =>
    if !o.amendDue.contains s || o.amendPort = 0 || o.state ≠ 2 || b.isShed set || !b.amendFree set s x then b
    else
      let b := (b.fillRow s).modOut set fun o =>
        { o with amendDue := o.amendDue.filter (· != s), amendAt := if x.phase = 2 then tabDel o.amendAt s else tabSet o.amendAt s b.now }
      match b.slot s with
      | none => b
      | some x => b.sendFrame o x o.amendPort

/-- When a row settles, every output set that re-sent its frame owes a final one (R185). -/
def Block.finalAmends (b : Block) (s : Nat) : Block :=
  b.modAln fun a => { a with outs := a.outs.map fun o =>
    if (tabGet o.amendAt s).isSome then { o with amendDue := insNat s o.amendDue } else o }

/-- ROW_SETTLE (R179), with the final amendment frames due (R185). -/
def rowSettles (s : Nat) (b : Block) : Block :=
  let was := (b.slot s).map Slot.phase
  let b := rowSettle s b
  if was = some 1 ∧ (b.slot s).map Slot.phase = some 2 then b.finalAmends s else b

/-- A configuration frame sent for a command (R183): fields kind 2 or 3, IDCODE and CFGCNT. -/
def Block.sendCfg (b : Block) (o : OutSet) (kind size : Nat) : Block :=
  b.sendUdp o.port Emit.c37 true size ([o.cmdPort, o.ip, o.pcp, o.vlan, kind, o.idcode, o.cfgcnt]
    ++ o.entries.flatMap fun e => [e.rowCh, e.block, e.pos, e.fmt])

/-- OUTSET_COMMAND_FRAME (R183, R184): 1 stop, 2 start, 5 CFG-2, 6 CFG-3; a C37.118 command the rules name no answer to has none. -/
def outsetCommandFrame (src : NetSrc) (idcode cmd : Nat) (b : Block) : Block :=
  match b.aln.outs.zipIdx.find? fun e => e.1.state != 0 && e.1.cmdPort == src.dport && e.1.idcode == idcode && e.1.port == src.port with
  | none => b
  | some (o, i) =>
    if cmd = 1 then b.modOut i fun o => if o.state = 2 then { o with state := 1 } else o
    else if cmd = 2 then b.modOut i fun o => if outRateOk b.cadence o.div then { o with state := 2 } else o
    else if cmd = 5 then
      if 65535 < b.cfg2Size o then b.modOut i fun o => { o with cfg2Ref := min 65535 (o.cfg2Ref + 1) } else b.sendCfg o 2 (b.cfg2Size o)
    else if cmd = 6 then b.sendCfg o 3 (b.cfg2Size o)
    else b

/-- An output set as its window words and its channel list describe it (R180, R194). -/
def OutSet.ofWords (w : List W32) (entries : List OutEntry) (ext : Bool) : OutSet :=
  let at_ := fun i => w.getD i 0
  { OutSet.free with
    state := 1, autostart := (at_ 0).getLsbD 29, prio := bits (at_ 0) 10 8, idcode := bits (at_ 1) 15 0, ext := ext,
    div := bits (at_ 2) 23 16, format := bits (at_ 2) 15 0, ip := (at_ 3).toNat, dataPort := bits (at_ 4) 31 16,
    cmdPort := bits (at_ 4) 15 0, amendPort := bits (at_ 5) 31 16, pcp := bits (at_ 5) 14 12, vlan := bits (at_ 5) 11 0,
    port := bits (at_ 8) 2 0, entries := entries }

/-- The list keeps within R180: 8,000 channels, 256 blocks, 64 channels in a block. -/
def outListOk (o : OutSet) : Bool :=
  decide (o.entries.length ≤ 8000 ∧ o.blocks.length ≤ 256)
  && o.blocks.all fun blk => decide ((o.entries.filter (·.block == blk)).length ≤ 64)

/-- A definition complete (R180, R184): status, STATE. A redefinition waits for the next top of a TAI second. -/
def Block.defineOut (b : Block) (i : Nat) (words : List W32) (entries : List OutEntry) : Nat × Block :=
  let div := bits (words.getD 2 0) 23 16
  let ext := rateExt b.f0 (b.cadence / max 1 div)
  let o := OutSet.ofWords words entries ext
  if !outListOk o || !outRateOk b.cadence div || 3 < o.port then (yBadParam, b)
  else
    let old := b.out i
    if old.state = 0 then (yOk, b.modOut i fun _ => { o with state := if o.autostart then 2 else 1 })
    else
      let t := (b.tai / tickS + 1) * tickS
      (yOk, b.modAln fun a => { a with outPend := a.outPend.set i (some (t, o)) })

/-- OUTSET_DEFINE (R180, R435). -/
def outsetDefine (h : Hdr) (set part : Nat) (final : Bool) (words : List W32) (entries : List OutEntry) (k : Key) (b : Block) : Block :=
  b.ycp k h 0x0302 ⟨some roleEng, true⟩ fun b =>
    if 16 ≤ set then yErr b yResource
    else
      let st : Option OutStage := if part = 0 then some ⟨set, 1, words, entries⟩
        else match (b.sess h.session).outStage with
          | some g => if g.set = set ∧ g.next = part then some { g with next := part + 1, entries := g.entries ++ entries } else none
          | none => none
      match st with
      | none => ⟨yBadParam, [], b.modSess h.session fun x => { x with outStage := none }⟩
      | some g =>
        if !final then yDone (b.modSess h.session fun x => { x with outStage := some g })
        else
          let b := b.modSess h.session fun x => { x with outStage := none }
          let r := b.defineOut set g.words g.entries
          ⟨r.1, if r.1 = yOk then beBytes 1 (r.2.out set).state else [], r.2⟩

/-- OUTSET_REDEFINE_APPLY (R184). -/
def outsetRedefineApply (i : Nat) (b : Block) : Block :=
  match b.aln.outPend.getD i none with
  | none => b
  | some (t, o) =>
    if b.tai < t then b
    else
      let b := b.modAln fun a => { a with outPend := a.outPend.set i none }
      let ok := outRateOk b.cadence o.div
      let b := b.modOut i fun old =>
        { o with state := if !ok then 3 else if o.autostart || old.state == 2 then 2 else 1, cfgcnt := (old.cfgcnt + 1) % 65536,
                 cfg2Ref := old.cfg2Ref, changedUntil := b.now + 60 * tickS }
      if ok then b else b.note 0x050A i 1

/-- W00 to W08 of an output set (R194). -/
def Block.outWords (b : Block) (i : Nat) : List W32 :=
  let o := b.out i
  [o.state * 2 ^ 30 + o.autostart.toNat * 2 ^ 29 + (b.isShed i).toNat * 2 ^ 28 + o.prio * 2 ^ 8, o.idcode,
    o.ext.toNat * 2 ^ 31 + o.div * 2 ^ 16 + o.format, o.ip, o.dataPort * 2 ^ 16 + o.cmdPort,
    o.amendPort * 2 ^ 16 + o.pcp * 2 ^ 12 + o.vlan, o.blocks.length % 512 * 2 ^ 16 + o.entries.length % 8192, o.cfgcnt,
    o.cfg2Ref * 2 ^ 16 + o.port].map (BitVec.ofNat 32)

/-- OUTSET_WINDOW_LOAD (R194, R570). -/
def outsetWindowLoadW (acc set : Nat) (k : Key) (b : Block) : WRes :=
  let st := b.mayWrite k acc roleObs false
  if st ≠ yOk then wErr b acc st
  else ⟨yOk, (b.aput acc F.ALN_OUT_SEL_SET set).awrs acc Reg.ALN_OUT_W (b.outWords (set % 16))⟩

/-! ### Capture bays (R187 to R189) -/

/-- A capture bay. -/
def Block.bay (b : Block) (i : Nat) : Bay := b.aln.bays.getD i .free

/-- The block with a bay changed. -/
def Block.modBay (b : Block) (i : Nat) (f : Bay → Bay) : Block := b.modAln fun a => { a with bays := modAt a.bays i f }

/-- Free space of the pool in MiB (ALN_CAP_POOL). -/
def Block.poolFree (b : Block) : Nat := 3072 - b.aln.bays.foldl (fun n y => if y.state = 0 then n else n + y.sizeMib) 0

/-- MiB a bay reserves (R187). -/
def Block.bayMib (b : Block) (pre post : Nat) : Nat :=
  ((pre + post) * b.cadence * granCount b.activeRuns * 256 + (1000 * 2 ^ 20 - 1)) / (1000 * 2 ^ 20)

/-- A bay is released (R188, R442): a read of it under way ends with BUSY. -/
def Block.releaseBay (b : Block) (i : Nat) : Block :=
  let b := b.modBay i fun _ => .free
  (List.range 8).foldl (fun b s =>
    let hit := (b.sess s).jobs.filter fun j => j.src == i + 1
    let b := b.modSess s fun x =>
      { x with jobs := x.jobs.map fun j => if j.src = i + 1 then { j with status := yBusy, payload := [], src := 0 } else j }
    let b := hit.foldl (fun b j => b.modSess s fun x => x.finishTag j.tag yBusy) b
    if hit.isEmpty then b else b.replyStep s) b

/-- The bay an arm takes: the named one where it is FREE, or the lowest FREE one for 0xFF. -/
def Block.bayFor (b : Block) (bay : Nat) : Option Nat :=
  if bay = 0xFF then (List.range 8).find? fun i => (b.bay i).state == 0
  else if (b.bay bay).state = 0 then some bay else none

/-- CAPTURE_ARM (R187, R188). -/
def captureArm (h : Hdr) (bay pre post trigger mask sec ns : Nat) (release : Bool) (k : Key) (b : Block) : Block :=
  b.ycp k h 0x0303 ⟨some roleEng, true⟩ fun b =>
    let at_ := sec * tickS + ns / 8
    if 8 ≤ bay ∧ (bay ≠ 0xFF ∨ release) then yErr b yBadParam
    else if release then ⟨yOk, beBytes 1 bay ++ beBytes 2 0, b.releaseBay bay⟩
    else if 600000 < pre ∨ 600000 < post ∨ 2 < trigger ∨ (trigger = 2 ∧ (1000000000 ≤ ns ∨ b.tai + 86400 * tickS < at_)) then yErr b yBadParam
    else
      match b.bayFor bay with
      | none => yErr b yResource
      | some i =>
        let mib := b.bayMib pre post
        if b.poolFree < mib then yErr b yResource
        else
          let y : Bay := { Bay.free with state := 1, trigger := trigger, mask := mask % 256, pre := pre, post := post, timeAt := at_, sizeMib := mib }
          ⟨yOk, beBytes 1 i ++ beBytes 2 mib, b.modBay i fun _ => y⟩

/-- The latest closed slot. -/
def Block.lastClosed (b : Block) : Option Slot := b.aln.slots.foldl (fun (m : Option Slot) y => if y.phase ≠ 0 then some y else m) none

/-- Slot `x` is a trigger slot of a bay (R188). -/
def Block.triggers (b : Block) (y : Bay) (x : Slot) : Bool :=
  if y.trigger = 0 then match b.lastClosed with
    | none => false
    | some l => l.s == x.s
  else if y.trigger = 1 then decide (3 ≤ x.stage) && x.s == b.grd.lastS && b.grd.asserted.any y.mask.testBit
  else x.s == y.timeAt && decide (x.s ≤ b.tai)

/-- CAPTURE_TRIGGER (R188). -/
def captureTrigger (i s : Nat) (b : Block) : Block :=
  let y := b.bay i
  match b.slot s with
  | none => b
  | some x =>
    if !b.triggers y x then b
    else if y.state = 1 then (b.modBay i fun y => { y with state := 2, trigS := s }).note 0x0508 i (lt32 s) y.trigger
    else if y.state = 2 ∧ y.trigS ≠ s then b.bump Reg.ALN_CNT_CAP_RETRIG
    else b

/-- The window of a bay: its first and last instants (R188). -/
def Bay.window (y : Bay) : Nat × Nat := (y.trigS - y.pre * tickMs, y.trigS + y.post * tickMs - 1)

/-- S after the newest row handled. -/
def Bay.from_ (y : Bay) : Nat := y.rows.foldl (fun m r => max m (r.1 + 1)) y.window.1

/-- Window rows that have left the ring and were not copied (R189). -/
def Block.lostRows (b : Block) (y : Bay) : List Nat :=
  (gridSlots b.cadence y.from_ (min y.window.2 b.aln.lostS)).filter fun s => (b.slot s).isNone

/-- Rows recorded as missing in a bay (R189): ALN_CAP_GAP once. -/
def Block.missRows (b : Block) (i : Nat) (l : List Nat) : Block :=
  if l.isEmpty then b
  else
    let y := b.bay i
    let b := b.modBay i fun y => { y with rows := l.foldl (fun r s => tabSet r s none) y.rows, missing := y.missing + l.length, gap := true }
    if y.gap then b else b.note 0x0509 i l.length

/-- Space a bay's rows take, in bytes. -/
def Bay.used (y : Bay) : Nat := y.rows.foldl (fun n r => n + (match r.2 with
  | none => 0
  | some l => l.length - 64)) 0

/-- A row as it is delivered (R443): the descriptor and the entries of the granules given. -/
def Block.rowBytes (b : Block) (x : Slot) (grans : List Nat) : List Byte := b.descriptor x ++ grans.flatMap (granBytes x.row)

/-- The lowest LOADED capture signing slot, its secret (R462). -/
def Key.captureKey (k : Key) : Option (BitVec 384) := ([19, 20, 21, 22].find? k.usable).map fun i => (k.slot i).secret

/-- The bay's last row is copied: it is signed and FROZEN (R188; notes/assumptions/30.md). -/
def Block.freezeBay (b : Block) (k : Key) (i : Nat) : Block :=
  let y := b.bay i
  let msg := y.rows.flatMap fun r => (match r.2 with
    | none => []
    | some l => l)
  let sg := k.captureKey.map fun d => Config.ecdsaSign d msg
  (b.modBay i fun y => { y with state := 3, signed := sg.isSome, signature := sg.getD 0 }).modAln fun a => { a with frozenAt := some b.now }

/-- Whether a bay's window holds no further row. -/
def Block.bayDone (b : Block) (y : Bay) : Bool := (b.slotsIn y.from_ y.window.2).isEmpty

/-- CAPTURE_ROW_COPY (R188 to R190): the rows lost, then the next settled row of the window; the last one signs the bay. -/
def captureRowCopy (i : Nat) (r : DramReads) (k : Key) (b : Block) : Block :=
  if (b.bay i).state ≠ 2 then b
  else
    let b := b.missRows i (b.lostRows (b.bay i))
    let y := b.bay i
    let b := match b.aln.slots.find? fun x => decide (y.from_ ≤ x.s ∧ x.s ≤ y.window.2) with
      | none => b
      | some x =>
        if x.phase ≠ 2 then b
        else
          let b := b.dramReads x.s r
          let x := (b.slot x.s).getD x
          let l := b.rowBytes x (granules x.active)
          if y.sizeMib * 2 ^ 20 < y.used + (l.length - 64) then b.missRows i [x.s]
          else b.modBay i fun y => { y with rows := tabSet y.rows x.s (some l) }
    if b.bayDone (b.bay i) then b.freezeBay k i else b

/-- CAPTURE_RELEASE (R188, R195). -/
def captureReleaseW (acc bay : Nat) (k : Key) (b : Block) : WRes :=
  let st := b.mayWrite k acc roleEng true
  if st ≠ yOk then wErr b acc st else ⟨yOk, b.releaseBay (bay % 8)⟩

/-- W00 to W05 of a bay (R195). -/
def Block.bayWords (b : Block) (i : Nat) : List W32 :=
  let y := b.bay i
  let t := (lt48 y.trigS).toNat
  [y.state + y.trigger * 2 ^ 4 + y.mask * 2 ^ 8, y.pre, y.post, y.gap.toNat * 2 ^ 31 + y.sizeMib % 4096, t, t >>> 32].map (BitVec.ofNat 32)

/-- CAPTURE_WINDOW_LOAD (R195, R570). -/
def captureWindowLoadW (acc bay : Nat) (k : Key) (b : Block) : WRes :=
  let st := b.mayWrite k acc roleObs false
  if st ≠ yOk then wErr b acc st
  else ⟨yOk, (b.aput acc F.ALN_CAP_SEL_BAY bay).awrs acc Reg.ALN_CAP_W (b.bayWords (bay % 8))⟩

/-- A bay's row as it is read: a missing one is 64 bytes, 0 except SLOT (R443). -/
def bayRow (r : Nat × Option (List Byte)) : List Byte :=
  match r.2 with
  | some l => l
  | none => beBytes 6 r.1 ++ List.replicate 58 0

/-- CAPTURE_READ's body (R443): the rows asked for, as far as they are copied. -/
def captureReadBody (bay first rows : Nat) (b : Block) : YRes :=
  if 8 ≤ bay then yErr b yBadParam
  else
    let p := (slice (b.bay bay).rows first rows).flatMap bayRow
    if 2 ^ 24 < p.length then yErr b yBadParam else ⟨yOk, p, b⟩

/-- The reply of a CAPTURE_READ knows its bay: releasing the bay ends it. -/
def Block.markRead (b : Block) (h : Hdr) (bay : Nat) : Block :=
  b.modSess h.session fun x => { x with jobs := x.jobs.map fun j =>
    if j.opcode = 0x0304 ∧ j.tag = h.tag ∧ j.status = yOk ∧ j.src = 0 then { j with src := bay + 1 } else j }

/-- CAPTURE_READ (R443). -/
def captureRead (h : Hdr) (bay first rows : Nat) (k : Key) (b : Block) : Block :=
  let q : YReq := ⟨some roleObs, false⟩
  let r := b.ycp k h 0x0304 q (captureReadBody bay first rows)
  if (b.ycpTake k h 0x0304).precheck k h 0x0304 q = yOk then r.markRead h bay else r

/-- ROW_READ (R443): the slot held with this LT48. -/
def rowRead (h : Hdr) (slot first grans : Nat) (r : DramReads) (k : Key) (b : Block) : Block :=
  b.ycp k h 0x0305 ⟨some roleObs, false⟩ fun b =>
    match b.aln.slots.find? fun x => x.s % 2 ^ 48 == slot with
    | none => yErr b yBadParam
    | some x =>
      let b := (b.dramReads x.s r).fillRow x.s
      let x := (b.slot x.s).getD x
      let l := granules (b.rowRuns x)
      if l.length < first + grans then yErr b yBadParam else ⟨yOk, b.rowBytes x (slice l first grans), b⟩

/-! ### The commands -/

def execRowSettle (slot : Nat) (s : State) : Host.Outcome State Fault Refusal := .next (s.onB fun _ => rowSettles slot)
def execOutsetDataFrame (set slot : Nat) (s : State) : Host.Outcome State Fault Refusal := .next (s.onB fun _ => outsetDataFrame set slot)
def execOutsetDefine (h : Hdr) (set part : Nat) (final : Bool) (words : List W32) (entries : List OutEntry) (s : State) :
    Host.Outcome State Fault Refusal := .next (s.onB (outsetDefine h set part final words entries))
def execOutsetCommandFrame (src : NetSrc) (idcode cmd : Nat) (s : State) : Host.Outcome State Fault Refusal :=
  .next (s.onB fun _ => outsetCommandFrame src idcode cmd)
def execOutsetRedefineApply (set : Nat) (s : State) : Host.Outcome State Fault Refusal := .next (s.onB fun _ => outsetRedefineApply set)
def execOutsetAmendFrame (set slot : Nat) (s : State) : Host.Outcome State Fault Refusal := .next (s.onB fun _ => outsetAmendFrame set slot)
def execOutsetWindowLoad (acc set : Nat) (s : State) : Host.Outcome State Fault Refusal :=
  .next (s.onB fun k b => (outsetWindowLoadW acc set k b).b)
def execCaptureArm (h : Hdr) (bay pre post trigger mask sec ns : Nat) (release : Bool) (s : State) : Host.Outcome State Fault Refusal :=
  .next (s.onB (captureArm h bay pre post trigger mask sec ns release))
def execCaptureTrigger (bay slot : Nat) (s : State) : Host.Outcome State Fault Refusal := .next (s.onB fun _ => captureTrigger bay slot)
def execCaptureRowCopy (bay : Nat) (reads : DramReads) (s : State) : Host.Outcome State Fault Refusal :=
  .next (s.onB (captureRowCopy bay reads))
def execCaptureRelease (acc bay : Nat) (s : State) : Host.Outcome State Fault Refusal :=
  .next (s.onB fun k b => (captureReleaseW acc bay k b).b)
def execCaptureWindowLoad (acc bay : Nat) (s : State) : Host.Outcome State Fault Refusal :=
  .next (s.onB fun k b => (captureWindowLoadW acc bay k b).b)
def execCaptureRead (h : Hdr) (bay first rows : Nat) (s : State) : Host.Outcome State Fault Refusal :=
  .next (s.onB (captureRead h bay first rows))
def execRowRead (h : Hdr) (slot first grans : Nat) (reads : DramReads) (s : State) : Host.Outcome State Fault Refusal :=
  .next (s.onB (rowRead h slot first grans reads))

end Sys2Proof.Machine
end

