-- ==== Sys2Proof/Machine/Registers.lean ====
section
/-!
DEFINITION. Register access (R9 to R11, R419, R420, R433, R444, R445, R544 to R547, R564, R565, R570): what a read returns, what a
write does, over PCIe and through YCP.
-/
namespace Sys2Proof.Machine

/-! ### Reads: registers that show state held elsewhere -/

/-- A value marked MRAM reads 0 until loading ends (R546). -/
def Block.mram (b : Block) (n : Nat) : Nat := if b.top.loaded then n else 0

/-- TIM (R79 to R85): WO registers read 0. -/
def Block.timReg (b : Block) (a : Nat) : W32 :=
  if a = Reg.TIM_STAT then b.timStat
  else if a = Reg.TIM_HO_TIME then b.hoTime
  else if a = Reg.TIM_TOD_SEC_LO ∨ a = Reg.TIM_TOD_SEC_HI then 0
  else if a = Reg.TIM_CTRL ∧ b.tim.todArmed = true then b.rd a ||| 0x20000
  else b.rd a

/-- MAC: the stranger entry selected (R106, R113). -/
def Block.macReg (b : Block) (a : Nat) : W32 :=
  let p := (a - 0x30000) / 0x1000
  let o := a % 0x1000
  if p < 7 ∧ 0x84 ≤ o ∧ o ≤ 0x9C then (b.strangerWords p).getD ((o - 0x84) / 4) 0 else b.rd a

/-- ING (R145): whole units of the loads of R116. -/
def Block.ingReg (b : Block) (a : Nat) : W32 :=
  let l := b.ing.spokes
  if a = Reg.ING_STAT then BitVec.ofNat 32 (l.length + 2 ^ 16 * l.countP (·.state == 2))
  else if a = Reg.ING_STAT2 then
    BitVec.ofNat 32 (l.countP (·.type == 3) + 2 ^ 9 * l.countP (·.type == 2) + 2 ^ 16 * l.countP (·.member))
  else if a = Reg.ING_LOAD_CV then BitVec.ofNat 32 ((b.loads 4096 b.cadence).1 / 8)
  else if a = Reg.ING_LOAD_FR then BitVec.ofNat 32 ((b.loads 4096 b.cadence).2 / 8)
  else b.rd a

/-- ALN_STAT.STATE (R193). -/
def Block.alnState (b : Block) : Nat :=
  if b.tim.stepDue.isSome then 2 else if !b.aln.cadPend.isEmpty then 3 else b.slotsRun.toNat

/-- ALN (R39, R193, R195). -/
def Block.alnReg (b : Block) (a : Nat) : W32 :=
  if a = Reg.ALN_STAT then putBits (putBits (b.rd a) 24 16 (b.aln.slots.countP (·.phase == 0))) 1 0 b.alnState
  else if a = Reg.ALN_ROW_STAT then BitVec.ofNat 32 (2 ^ 16 * b.freeRun + granCount b.activeRuns)
  else if a = Reg.ALN_STORE_HZN then BitVec.ofNat 32 b.storeHorizon
  else if a = Reg.ALN_FL_STAT then BitVec.ofNat 32 b.aln.flChans.length
  else if a = Reg.ALN_CAP_POOL then BitVec.ofNat 32 b.poolFree
  else if a = Reg.ALN_LDG_STAT then putBits (b.rd a) 8 8 b.slotsRun.toNat
  else b.rd a

/-- NRG (R251, R252). -/
def Block.nrgReg (b : Block) (a : Nat) : W32 :=
  if a = Reg.NRG_PFS_NEXT then b.pfsNext
  else if a = Reg.NRG_STAT then
    putBits (b.rd a) 29 29 (b.pfsNext != b.rd Reg.NRG_PFS || b.fld F.NRG_CTRL_LSB_SH != b.nrg.lsbSh).toNat
  else b.rd a

/-- HST (R449, R450). -/
def Block.hstReg (k : Key) (b : Block) (a : Nat) : W32 :=
  if a = Reg.HST_STAT then
    let opened := maskOf ((List.range 8).filter fun s => (b.sess s).state == 1)
    b.rd a ||| BitVec.ofNat 32 (2 ^ 24 * opened + 2 ^ 18 * (b.topState == stKick).toNat + 2 ^ 16 * b.hst.holder.isSome.toNat
      + 2 ^ 8 * b.hst.holder.getD 0xF)
  else if a = Reg.HST_SADDLE then
    BitVec.ofNat 32 (2 ^ 20 * (if b.hst.holder.isSome then (b.hst.leaseEnd - b.now) / tickS else 0) + b.hst.leaseS)
  else if Reg.HST_S_STAT ≤ a ∧ a < Reg.HST_S_STAT + 0x80 then
    let n := (a - Reg.HST_S_STAT) / 16
    let x := b.sess n
    match (a - Reg.HST_S_STAT) % 16 / 4 with
    | 0 => BitVec.ofNat 32 (2 ^ 16 * b.rolesOf k n + 2 ^ 4 * x.pending.length + 2 ^ 3 * (isUdp n).toNat + x.state)
    | 1 => BitVec.ofNat 32 (2 ^ 16 * x.evtSz + 2 ^ 8 * x.rplSz + x.cmdSz)
    | 2 => BitVec.ofNat 32 x.peerIp
    | _ => BitVec.ofNat 32 (2 ^ 16 * x.mgt + x.peerPort)
  else b.rd a

/-- STAT and UNREAD of a reply or event pannier (R451). -/
def Pannier.stat (p : Pannier) : W32 :=
  BitVec.ofNat 32 (2 ^ 24 * p.result + 2 ^ 23 * p.mark.isSome.toNat + 2 ^ 22 * p.isEmpty.toNat + 2 ^ 10 * (p.wp - p.fp).toNat)
def Pannier.unread (p : Pannier) : W32 := p.wp - p.rp

/-- The pannier window of session `n` as function `n` reads it, but for the latched cells (R451). -/
def Session.panReg (x : Session) (o : Nat) : W32 :=
  if o = 0x44 then BitVec.ofNat 32 x.cmdFree
  else if o = 0x48 then BitVec.ofNat 32 (2 ^ 15 * x.overrun.toNat + x.staged.length)
  else if o = 0xD0 then x.rpl.stat
  else if o = 0xD4 then x.rpl.unread
  else if o = 0x150 then x.evt.stat
  else if o = 0x154 then x.evt.unread
  else 0

/-- KEY (R478, R479): no key operation stays under way between two commands. -/
def Block.keyReg (k : Key) (b : Block) (a : Nat) : W32 :=
  if a = Reg.KEY_STAT then
    BitVec.ofNat 32 (2 ^ 29 * b.mram k.lcs + 2 ^ 28 * k.pufOk.toNat + 2 ^ 27 * k.pufFail.toNat + 2 ^ 24 * k.pufTries + 2 ^ 23 * k.storeOk.toNat
      + 2 ^ 22 * b.mram k.pend.toNat + 2 ^ 21 * k.withheld.toNat + 2 ^ 19 * (k.live != 0).toNat + k.loaded)
  else if Reg.KEY_DEV_ID ≤ a ∧ a < Reg.KEY_DEV_ID + 32 then BitVec.ofNat 32 (k.devId.toNat >>> (32 * (7 - (a - Reg.KEY_DEV_ID) / 4)))
  else if Reg.KEY_M1 ≤ a ∧ a < Reg.KEY_M1 + 48 then BitVec.ofNat 32 (k.m1.toNat >>> (32 * (11 - (a - Reg.KEY_M1) / 4)))
  else if Reg.KEY_MF ≤ a ∧ a < Reg.KEY_MF + 48 then BitVec.ofNat 32 (k.mf.toNat >>> (32 * (11 - (a - Reg.KEY_MF) / 4)))
  else if a = Reg.KEY_TMP_STAT then BitVec.ofNat 32 (2 ^ 8 * k.latch + k.live)
  else if a = Reg.KEY_TMP_SEQ then BitVec.ofNat 32 (b.mram k.tseq)
  else if a = Reg.KEY_TMP_ACKED then BitVec.ofNat 32 (b.mram k.acked)
  else b.rd a

/-- FLT_ST_CTRL.REQ reads 1 until the test it asked for completes (R229). -/
def Block.fltReg (b : Block) (a : Nat) : W32 :=
  if a ≠ Reg.FLT_ST_CTRL then b.rd a
  else match b.flt.test with
    | some (_, _, none) => b.rd a ||| 0x80000000
    | _ => b.rd a

/-- What a register that is no window word and no RL register reads, for an accessor. -/
def Block.live (k : Key) (b : Block) (acc a : Nat) : W32 :=
  match a / 0x10000 with
  | 0 | 1 => (b.rstReg a).getD (b.rd a)
  | 2 => b.timReg a
  | 3 => b.macReg a
  | 4 => b.ingReg a
  | 5 => b.alnReg a
  | 6 => b.fltReg a
  | 7 => b.nrgReg a
  | 8 => if a = Reg.MOD_STAT then b.modStat else if a = Reg.MOD_CTRL then putBits (b.rd a) 3 3 (b.fld F.MOD_DEF_CTRL_AUTO) else b.rd a
  | 9 => if a = Reg.ISL_STAT then b.islStat else b.rd a
  | 10 => b.guardReg a
  | 11 => b.tdmReg a
  | 12 => if b.top.variant = .n0 then 0 else b.rd a
  | 13 =>
    if a < 0xD8000 then b.hstReg k a
    else if acc < 4 ∧ (a - 0xD8000) / 0x400 = acc then (b.sess acc).panReg (a % 0x400) else 0
  | 14 => b.keyReg k a
  | 15 => (b.logReg a).getD (b.rd a)
  | _ => b.rd a

/-! ### Reads: windows and RL groups -/

/-- Select registers and words of the windows: each accessor has its own copy (R570). -/
def isWindow (a : Nat) : Bool :=
  [(0x40020, 0x40024), (0x40100, 0x40208), (0x50400, 0x50424), (0x50600, 0x50600), (0x50610, 0x50624), (0x60300, 0x6030C),
   (0x80100, 0x801A0), (0x80200, 0x80200), (0x80300, 0x80330), (0x80400, 0x80414), (0x80500, 0x80500), (0x90100, 0x90138),
   (0x90200, 0x90210), (0x90300, 0x90310), (0x90400, 0x90400), (0xC0100, 0xC0130), (0xE0200, 0xE020C), (0xF0100, 0xF0100)].any
    fun r => decide (r.1 ≤ a ∧ a ≤ r.2)

/-- A cell as the 16 words of its window: bytes 4k to 4k + 3 in word k, byte 4k in bits 7:0 (R437, R451). -/
def cellWords (c : List Byte) : List W32 :=
  (List.range 16).map fun i => BitVec.ofNat 32 ((slice c (4 * i) 4).reverse.foldl (fun a x => a * 256 + x.toNat) 0)

/-- A read of the first register of an RL group latches the group for its accessor; any other read latches nothing (R10, R444). -/
def Block.latch (b : Block) (acc a : Nat) : Block :=
  if a = Reg.TIM_NOW_NS then b.awrs acc a b.timNow
  else if a = Reg.ALN_LDG_LAST_SEQ then b.awrs acc a ((List.range 8).map fun i => b.rd (a + 4 * i))
  else if a = Reg.NRG_LAT_SEQ then b.nrgCopy acc
  else if a = Reg.MOD_M_ then b.awrs acc a (b.modeGroup (b.afld acc F.MOD_M_SEL_CTX) (b.afld acc F.MOD_M_SEL_MODE))
  else if a = Reg.MOD_LOC_ then b.awrs acc a b.locGroup
  else if a = Reg.ISL_IS_ then b.awrs acc a (b.islandGroup (b.afld acc F.ISL_IS_SEL_ISL))
  else if a = Reg.TDM_DIG_SEQ then b.awrs acc a ((List.range 5).map fun i => b.rd (a + 4 * i))
  else if a = Reg.LOG_RD_STAT then
    let r := b.logLatch (b.ard acc Reg.LOG_RD_IDX).toNat
    r.2.awrs acc a r.1
  else if acc < 4 ∧ a = Reg.PAN_RPL_CELL00 + 0x400 * acc then b.awrs acc a (cellWords (b.sess acc).rpl.cellAtRp)
  else if acc < 4 ∧ a = Reg.PAN_EVT_CELL00 + 0x400 * acc then b.awrs acc a (cellWords (b.sess acc).evt.cellAtRp)
  else b

/-- RAD of an N0 reads 0 (R3). -/
def Block.radOff (b : Block) (a : Nat) : Bool := a / 0x10000 == 12 && b.top.variant == .n0

/-- A register as an accessor reads it, and the block after the read. -/
def Block.readReg (k : Key) (b : Block) (acc a : Nat) : W32 × Block :=
  let b := b.latch acc a
  (if b.radOff a then 0 else if isRlAddr a || isWindow a then b.ard acc a else b.live k acc a, b)

/-- Registers read one after another. -/
def Block.readRegs (k : Key) (acc : Nat) : Nat → Nat → Block → List W32 × Block
  | _, 0, b => ([], b)
  | a, n + 1, b =>
    let r := b.readReg k acc a
    let rest := Block.readRegs k acc (a + 4) n r.2
    (r.1 :: rest.1, rest.2)

/-! ### Writes: access codes (R10, R565) -/

/-- What a field holds after a write: `cur` before, `cand` as it would be written whole, `ones` the bits written as 1. -/
def FKind.take (kind : FKind) (cur cand ones : Nat) : Nat :=
  match kind with
  | .rw | .wo => cand
  | .clamp lo hi => clampNat lo hi cand
  | .only lo hi => if lo ≤ cand ∧ cand ≤ hi then cand else cur
  | .w1c => cur ^^^ (cur &&& ones)
  | .sc => cur

/-- A register after a write of `value` under `mask`: fields that no mask bit selects keep their value. -/
def RegDesc.merge (d : RegDesc) (old value mask : W32) : W32 :=
  d.fields.foldl (fun w f =>
    if mask &&& fieldMask f.hi f.lo = 0 then w
    else putBits w f.hi f.lo (f.kind.take (bits old f.hi f.lo) (bits ((old &&& ~~~mask) ||| (value &&& mask)) f.hi f.lo)
      (bits (value &&& mask) f.hi f.lo))) old

/-- The bits that writable fields occupy. -/
def RegDesc.writable (d : RegDesc) : W32 := d.fields.foldl (fun m f => m ||| fieldMask f.hi f.lo) 0

/-- One write as the meanings below take it: accessor, address, the register before and after by its access codes, the bits that
MASK selects and the bits written as 1. -/
structure RegW where
  acc  : Nat
  addr : Nat
  old  : W32
  new  : W32
  mask : W32
  ones : W32

/-- The merged value with its SC bits as written. -/
def RegW.full (w : RegW) : W32 := w.new ||| (w.ones &&& 0xC0000000)

/-- A write with no effect but the register's new value. -/
def RegW.plain (w : RegW) (b : Block) : WRes := ⟨yOk, b.wr w.addr w.new⟩

/-- A write that is ignored. -/
def RegW.ignored (_w : RegW) (b : Block) : WRes := ⟨yOk, b⟩

/-- A field's bits are selected by MASK. -/
def RegW.selects (w : RegW) (hi lo : Nat) : Bool := w.mask &&& fieldMask hi lo != 0

/-- A request outside its envelope (R45): recorded, flagged where the block has a flag, refused. -/
def RegW.deny (w : RegW) (b : Block) (hold : Option Fld) (param value kept : Nat) : WRes :=
  let b := b.denyEnvelope param value ((sessionOf w.acc).getD 0xFF) kept
  wErr (match hold with
    | none => b
    | some f => b.put f 1) w.acc yDenied

/-! ### Writes: the registers whose writes act -/

/-- TIM: steps within the envelope (R45, R66), the host's UTC offset (R73), the ranking of sources (R58). -/
def writeTim (w : RegW) (k : Key) (b : Block) : WRes :=
  if w.addr = Reg.TIM_CTRL then
    let forbids := match b.envelope 0x0202 with
      | none => false
      | some e => !e.max.testBit 0
    if w.selects 16 16 && w.new.getLsbD 16 && forbids then w.deny b (some F.TIM_STAT_ENVELOPE_HOLD) 0x0202 1 (bits w.old 16 16)
    else
      let b := b.wr w.addr w.new
      let b := if w.selects 16 16 then b.put F.TIM_STAT_ENVELOPE_HOLD 0 else b
      if w.ones.getLsbD 17 then todLoadW w.acc k b else ⟨yOk, b⟩
  else if w.addr = Reg.TIM_SRC_CTRL then sourcePinWriteW w.acc w.new k b
  else if w.addr = Reg.TIM_SRC_PRIO ∨ w.addr = Reg.TIM_SRC_ACC then ⟨yOk, (b.wr w.addr w.new).rankSources⟩
  else if w.addr = Reg.TIM_UTC then
    let b := b.wr w.addr w.new
    ⟨yOk, if w.selects 7 0 then b.put F.TIM_UTC_OFS_SRC 2 else b⟩
  else w.plain b

/-- MAC: what each kind of port ignores (R110 to R113), the rate floor (R45, R99), watermarks (R98), strangers, snapshots. -/
def writeMac (w : RegW) (k : Key) (b : Block) : WRes :=
  let p := (w.addr - 0x30000) / 0x1000
  let o := w.addr % 0x1000
  if w.addr = Reg.MAC_SNAP_CTRL then
    if w.ones.getLsbD 31 then snapshotW w.acc (bits w.new 6 0) (w.new.getLsbD 30) k b else w.plain b
  else if o = 0 ∧ p = 6 then ⟨yOk, b.wr w.addr (w.new &&& 0xFFFFFFFD)⟩
  else if o = 0x10 then if p = 6 then w.ignored b else ⟨yOk, b.wr w.addr (w.new &&& 0xFF7FFFFF)⟩
  else if 0x20 ≤ o ∧ o ≤ 0x3C then
    if p = 6 then w.ignored b else watermarkWriteW w.acc p ((o - 0x20) / 4) (bits w.new 31 16) (bits w.new 15 0) k b
  else if o = 0x40 then
    if 4 ≤ p then w.ignored b
    else
      match b.envelope 0x0301 with
      | none => w.plain b
      | some e => if e.min < bits w.new 30 29 then w.deny b none 0x0301 (bits w.new 30 29) (bits w.old 30 29) else w.plain b
  else if o = 0x44 then if 4 ≤ p then w.ignored b else w.plain b
  else if o = 0x80 then
    if w.ones.getLsbD 31 then
      let r := strangerClearW w.acc p k b
      if r.status ≠ yOk then r else w.plain r.b
    else w.plain b
  else if o = 0xA0 then
    if p < 4 then w.ignored b else ⟨yOk, b.wr w.addr (if p = 6 then w.new &&& 0x80000000 else w.new)⟩
  else w.plain b

/-- A pinned wait budget against its envelope (R45, R172). -/
def Block.pinOut (b : Block) (pin : Nat) : Bool := !b.inEnvelope 0x0101 pin

/-- ALN: cadence, wait budget, ledger, capture release (R37, R41, R45, R153, R172, R173, R195). -/
def writeAln (w : RegW) (k : Key) (b : Block) : WRes :=
  let a := w.addr
  if a = Reg.ALN_CADENCE then if w.selects 3 0 then cadenceCodeW w.acc (bits w.new 3 0) k b else w.ignored b
  else if a = Reg.ALN_WAIT_MIN then waitLimitW w.acc 0 w.new k b
  else if a = Reg.ALN_WAIT_MAX then waitLimitW w.acc 1 w.new k b
  else if a = Reg.ALN_WAIT_CTRL then
    let pin := b.fld F.ALN_WAIT_PIN_PIN
    if bits w.new 31 30 = 1 && bits w.old 31 30 != 1 && b.pinOut pin then w.deny b none 0x0101 pin (b.fld F.ALN_WAIT_NOW_W) else w.plain b
  else if a = Reg.ALN_WAIT_PIN then
    let pin := bits w.new 17 0
    if b.fld F.ALN_WAIT_CTRL_MODE = 1 && b.pinOut pin then w.deny b none 0x0101 pin (bits w.old 17 0) else w.plain b
  else if a = Reg.ALN_LDG_CTRL then shedModeSetW w.acc w.full k b
  else if a = Reg.ALN_LDG_SHARE_A then ledgerShareW w.acc 0 w.new k b
  else if a = Reg.ALN_LDG_SHARE_B then ledgerShareW w.acc 1 w.new k b
  else if a = Reg.ALN_CAP_CTRL then
    if w.ones.getLsbD 0 then captureReleaseW w.acc (b.afld w.acc F.ALN_CAP_SEL_BAY) k b else w.ignored b
  else w.plain b

/-- The registers of a channel (R200, R226): RANGE is taken only while AUTO is 0, and a new range settles (R207). -/
def Block.writeChannel (b : Block) (ch : Nat) (old new : W32) : Block :=
  let b' := b.wr (Reg.AFE_CH_CFG + 4 * ch) (putBits new 1 0 (bits old 1 0))
  if old.getLsbD 4 || bits new 1 0 == bits old 1 0 then b' else (b'.setRange ch (bits new 1 0)).rangeSettle ch

/-- FLT and AFE: ranges, the calibration queue, the estimator class, self-tests (R211, R218, R222, R226). -/
def writeFlt (w : RegW) (k : Key) (b : Block) : WRes :=
  let a := w.addr
  if Reg.AFE_CH_CFG ≤ a ∧ a < Reg.AFE_CH_CFG + 32 then ⟨yOk, b.writeChannel ((a - Reg.AFE_CH_CFG) / 4) w.old w.new⟩
  else if a = Reg.FLT_CAL_CTRL then
    if w.ones.getLsbD 31 then calQueueW w.acc (bits w.new 27 24) k (b.wr a w.new) else w.plain b
  else if a = Reg.FLT_PMU then
    let b := b.wr a w.new
    ⟨yOk, if w.selects 0 0 then b.modFlt fun x => { x with classAt := some ((b.tai / tickS + 1) * tickS) } else b⟩
  else if a = Reg.FLT_ST_CTRL then
    if w.ones.getLsbD 31 then selftestRequestW w.acc (bits w.new 27 26) k (b.wr a w.new) else w.plain b
  else w.plain b

/-- NRG and PUL: a pulse output set anew (R247, R254). -/
def writeNrg (w : RegW) (_k : Key) (b : Block) : WRes :=
  if Reg.PUL_CFG ≤ w.addr ∧ w.addr < Reg.PUL_STAT then
    let n := (w.addr - Reg.PUL_CFG) / 8
    let isK := (w.addr - Reg.PUL_CFG) % 8 == 4
    let cfg := if isK then b.rd (Reg.PUL_CFG + 8 * n) else w.new
    let kk := if isK then w.new else b.rd (Reg.PUL_K + 8 * n)
    ⟨yOk, (b.pulseFlush n).setPulse n cfg kk⟩
  else w.plain b

/-- MOD: spawning within the envelope (R45, R271); MOD_CTRL.DEF_AUTO mirrors MOD_DEF_CTRL.AUTO (R282). -/
def writeMod (w : RegW) (_k : Key) (b : Block) : WRes :=
  if w.addr = Reg.MOD_CTRL then
    let required := match b.envelope 0x0501 with
      | none => false
      | some e => e.min.testBit 0
    if w.selects 1 1 && !w.new.getLsbD 1 && required then w.deny b (some F.MOD_STAT_ENVELOPE_HOLD) 0x0501 0 (bits w.old 1 1)
    else
      let b := (b.wr w.addr w.new).put F.MOD_DEF_CTRL_AUTO (bits w.new 3 3)
      ⟨yOk, if w.selects 1 1 then b.put F.MOD_STAT_ENVELOPE_HOLD 0 else b⟩
  else if w.addr = Reg.MOD_DEF_CTRL then ⟨yOk, (b.wr w.addr w.new).put F.MOD_CTRL_DEF_AUTO (bits w.new 31 31)⟩
  else w.plain b

/-- The criteria of an ISL register that the envelope bounds (R310, R326). -/
def islBounds (a : Nat) : List (Nat × Fld) :=
  if a = Reg.ISL_CRIT then
    [(0x0601, F.ISL_CRIT_DF_THR), (0x0602, F.ISL_CRIT_DA_THR), (0x0603, F.ISL_CRIT_K), (0x0604, F.ISL_CRIT_K_TOPO)]
  else if a = Reg.ISL_BLOCK then [(0x0605, F.ISL_BLOCK_T_BLOCK), (0x0606, F.ISL_BLOCK_V_DIP), (0x0607, F.ISL_BLOCK_JUMP)]
  else []

/-- ISL: a write outside the envelope is refused whole; its record names the first criterion excluded (R45, R310). -/
def writeIsl (w : RegW) (_k : Key) (b : Block) : WRes :=
  let l := islBounds w.addr
  match l.find? fun p => !b.inEnvelope p.1 (bits w.new p.2.hi p.2.lo) with
  | some p => w.deny b (some F.ISL_STAT_ENVELOPE_HOLD) p.1 (bits w.new p.2.hi p.2.lo) (bits w.old p.2.hi p.2.lo)
  | none => ⟨yOk, if l.isEmpty then b.wr w.addr w.new else (b.wr w.addr w.new).put F.ISL_STAT_ENVELOPE_HOLD 0⟩

/-- TDM: EN is written only in MAINT (R349); HANDOVER (R372). -/
def writeTdm (w : RegW) (k : Key) (b : Block) : WRes :=
  if w.addr = Reg.TDM_CTRL then
    if w.new.getLsbD 0 != w.old.getLsbD 0 && b.topState != stMaint then ⟨yDenied, b⟩
    else
      let b := b.wr w.addr w.new
      if w.ones.getLsbD 31 then handoverW w.acc k b else ⟨yOk, b⟩
  else w.plain b

/-- Highest RAD_PHY.PWR of the profile, in 0.5 dB (R384). -/
def Block.maxPwr (b : Block) : Nat := if b.etsi then 28 else 54

/-- RAD: what may change while the radio runs, the profile's limits, the transmit key, the duty table (R384, R395, R397, R408, R415). -/
def writeRad (w : RegW) (k : Key) (b : Block) : WRes :=
  let a := w.addr
  if a = Reg.RAD_CTRL then radioEnableW w.acc w.new k b
  else if a = Reg.RAD_PHY then
    let v := putBits w.new 15 8 (min b.maxPwr (bits w.new 15 8))
    ⟨yOk, b.wr a (if b.flag F.RAD_CTRL_EN then putBits v 7 0 (bits w.old 7 0) else v)⟩
  else if a = Reg.RAD_EXC then ⟨yOk, b.wr a (putBits w.new 31 24 (max b.profileFloor (bits w.new 31 24)))⟩
  else if a = Reg.RAD_SEC then
    let b := b.wr a w.new
    ⟨yOk, if bits w.new 2 0 = bits w.old 2 0 then b else b.fcResume 0 0⟩
  else if Reg.RAD_DUTY ≤ a ∧ a < Reg.RAD_DUTY + 32 then
    if !b.etsi then ⟨yOk, b.wr a (w.new &&& 0x7FFFFFFF)⟩
    else
      let b := b.wr a w.new
      ⟨yOk, b.putFlag F.RAD_STAT_NO_PROFILE (!(List.range 8).any fun i => b.flag (F.RAD_DUTY_EN.at (4 * i)))⟩
  else w.plain b

/-- HST: the weights (R425). -/
def writeHst (w : RegW) (k : Key) (b : Block) : WRes :=
  if w.addr = Reg.HST_SHARE_A then hostShareW w.acc 0 w.new k b
  else if w.addr = Reg.HST_SHARE_B then hostShareW w.acc 1 w.new k b
  else w.plain b

/-- KEY_TMP_CTRL: outside MANUFACTURE MESH_EN and GLITCH_EN keep their value and EN bits stay set (R479). -/
def writeKey (w : RegW) (k : Key) (b : Block) : WRes :=
  if k.lcs = 0 then w.plain b
  else ⟨yOk, b.wr w.addr (putBits (putBits w.new 23 22 (bits w.old 23 22)) 3 0 (bits w.new 3 0 ||| bits w.old 3 0))⟩

/-- LOG_CTRL: VERIFY (R497). -/
def writeLog (w : RegW) (k : Key) (b : Block) : WRes :=
  let r := w.plain b
  if w.addr = Reg.LOG_CTRL && w.ones.getLsbD 31 then sealVerifyW w.acc k r.b else r

/-! ### Writes: windows -/

/-- A select register whose only fields are selectors: LOAD fills the window (R146, R194, R195, R286, R480); the opcodes of the
location group (R288). -/
def selectWrite (w : RegW) (k : Key) (b : Block) : WRes :=
  let a := w.addr
  let b := b.awr w.acc a w.new
  if !w.ones.getLsbD 31 then ⟨yOk, b⟩
  else if a = Reg.ING_CH_SEL then channelDescLoadW w.acc (bits w.new 11 0) (bits w.new 17 12) k b
  else if a = Reg.ALN_OUT_SEL then outsetWindowLoadW w.acc (bits w.new 3 0) k b
  else if a = Reg.ALN_CAP_SEL then captureWindowLoadW w.acc (bits w.new 2 0) k b
  else if a = Reg.MOD_CH_SEL then ⟨yOk, channelWindowLoad w.acc (bits w.new 17 0) b⟩
  else if a = Reg.KEY_SLOT_SEL then ⟨yOk, keySlotLoad w.acc (bits w.new 5 0) k b⟩
  else if a = Reg.MOD_LOC_SEL then locateRequestW w.acc (bits w.new 6 0) (bits w.new 10 8) k b
  else ⟨yOk, b⟩

/-- LOAD of a definition window. -/
def windowLoad (a acc : Nat) (sel : W32) (k : Key) (b : Block) : Block :=
  if a = Reg.ING_CTX_SEL then (spokeContextLoadW acc (bits sel 11 0) k b).b
  else if a = Reg.FLT_TE_SEL then (teLoadW acc (bits sel 4 0) k b).b
  else if a = Reg.MOD_W_SEL then watchWindowLoad acc (bits sel 6 0) b
  else if a = Reg.MOD_BR_SEL then branchWindowLoad acc (bits sel 9 0) b
  else if a = Reg.ISL_ST_SEL then stationWindowLoad acc (bits sel 9 0) b
  else if a = Reg.ISL_TIE_SEL then tieWindowLoad acc (bits sel 11 0) b
  else if a = Reg.ISL_GS_SEL then gooseWindowLoad acc (bits sel 7 0) b
  else if a = Reg.RAD_AS_SEL then assocWindowLoad acc (bits sel 7 0) b
  else b

/-- COMMIT of a definition window. -/
def windowCommit (a acc : Nat) (sel : W32) (k : Key) (b : Block) : WRes :=
  if a = Reg.ING_CTX_SEL then spokeContextCommitW acc (bits sel 11 0) k b
  else if a = Reg.FLT_TE_SEL then teCommitW acc (bits sel 4 0) k b
  else if a = Reg.MOD_W_SEL then watchWindowCommitW acc (bits sel 6 0) k b
  else if a = Reg.MOD_BR_SEL then branchWindowCommitW acc (bits sel 9 0) k b
  else if a = Reg.ISL_ST_SEL then stationWindowCommitW acc (bits sel 9 0) k b
  else if a = Reg.ISL_TIE_SEL then tieWindowCommitW acc (bits sel 11 0) k b
  else if a = Reg.ISL_GS_SEL then gooseWindowCommitW acc (bits sel 7 0) k b
  else if a = Reg.RAD_AS_SEL then assocWindowCommitW acc (bits sel 7 0) k b
  else ⟨yOk, b⟩

/-- REMOVE and DROP. -/
def windowRemove (a acc : Nat) (sel : W32) (k : Key) (b : Block) : WRes :=
  if a = Reg.MOD_W_SEL then watchWindowRemoveW acc (bits sel 6 0) k b
  else if a = Reg.RAD_AS_SEL then assocWindowDropW acc (bits sel 7 0) k b
  else ⟨yOk, b⟩

/-- The select register of a definition window (R570): the index and LOAD, then COMMIT, then REMOVE or DROP. -/
def windowWrite (w : RegW) (k : Key) (b : Block) : WRes :=
  let b := b.awr w.acc w.addr w.new
  let b := if w.ones.getLsbD 31 then windowLoad w.addr w.acc w.new k b else b
  let r : WRes := if w.ones.getLsbD 30 then windowCommit w.addr w.acc w.new k b else ⟨yOk, b⟩
  if w.ones.getLsbD 29 then windowRemove w.addr w.acc w.new k r.b else r

/-! ### Writes: the whole -/

/-- A write, its role and saddle being present, to a register that no reset follows. -/
def blockWrite (w : RegW) (k : Key) (b : Block) : WRes :=
  match w.addr / 0x10000 with
  | 0 => if w.addr = Reg.TOP_NOMF then topNomfW w.acc w.new k b else w.plain b
  | 1 =>
    if w.addr = Reg.RST_FSC then (if w.ones.getLsbD 31 then fscClearW w.acc k b else w.ignored b)
    else if w.addr = Reg.CLK_CTRL then refSwitchRequestW w.acc w.new (b.flag F.CLK_STAT_REFIN_OK) k b
    else if w.addr = Reg.PWR_THR then powerThresholdW w.acc w.new k b
    else w.plain b
  | 2 => writeTim w k b
  | 3 => writeMac w k b
  | 5 => writeAln w k b
  | 6 => writeFlt w k b
  | 7 => writeNrg w k b
  | 8 => writeMod w k b
  | 9 => writeIsl w k b
  | 11 => writeTdm w k b
  | 12 => writeRad w k b
  | 13 => writeHst w k b
  | 14 => writeKey w k b
  | 15 => writeLog w k b
  | _ => w.plain b

/-- The role and saddle a write needs, by the register addressed (R564, R570). -/
def WRole.need : WRole → Nat × Bool
  | .opr => (roleOpr, false)
  | .eng => (roleEng, false)
  | .engS | .word => (roleEng, true)
  | .mnt => (roleMnt, false)
  | .mntS => (roleMnt, true)
  | .none | .gw | .obs | .strIdx | .win | .pan => (roleObs, false)

/-- A write of function `f` into a pannier window (R437, R439, R451): only its own session's. -/
def panWrite (acc addr : Nat) (v : W32) (k : Key) (b : Block) : Block :=
  let n := (addr - 0xD8000) / 0x400
  let o := addr % 0x400
  if 4 ≤ acc ∨ n ≠ acc then b
  else if o < 0x3C then b.modSess n fun x => { x with cellBuf := x.cellBuf.set (o / 4) v }
  else if o = 0x3C then panCmdCellAppend n v b
  else if o = 0x40 then panCmdPush n (bits v 6 0) b
  else if o = 0x48 then if v.getLsbD 15 then b.modSess n fun x => { x with overrun := false } else b
  else
    let q := if o < 0x100 then 0 else 1
    let o := o % 0x80 + 0x80
    if o = 0xC0 then if v.getLsbD 0 then panRplNext n q b else b
    else if o = 0xC4 then if v.getLsbD 0 then panMark (.reg n) q k b else b
    else if o = 0xC8 then if v.getLsbD 0 then panRewind (.reg n) q k b else b
    else if o = 0xCC then panRelease (.reg n) q (bits v 10 0) k b
    else b

/-- A write result with the key block it was made beside. -/
def WRes.withKey (r : WRes) (k : Key) : KWRes := ⟨r.status, k, r.b⟩

/-- A register whose offset in GRD no register occupies: a write has no effect (R9). -/
abbrev grdGap : Nat := 0xA000C

/-- A register write by an accessor: status, and the key block and the block after it (R9 to R11, R420, R564, R570). -/
def hostWrite (acc addr : Nat) (value mask : W32) (k : Key) (b : Block) : KWRes :=
  match regAt addr with
  | none => ⟨yBadParam, k, b⟩
  | some d =>
    if b.radOff addr then ⟨yOk, k, b⟩
    else
      match d.role with
      | .none => ⟨yOk, k, b⟩
      | .gw => ⟨if addr = grdGap then yOk else yGuardOnly, k, b⟩
      | .pan => ⟨yOk, k, panWrite acc addr (value &&& mask) k b⟩
      | role =>
        let st := b.mayWrite k acc role.need.1 role.need.2
        if st ≠ yOk then (wErr b acc st).withKey k
        else if mask &&& d.writable = 0 then ⟨yOk, k, b⟩
        else
          let own := isWindow addr
          let old := if own then b.ard acc addr else b.rd addr
          let w : RegW := ⟨acc, addr, old, d.merge old value mask, mask, value &&& mask⟩
          if addr = Reg.RST_CTRL then
            if w.ones.getLsbD 1 then sysReqW acc k b else if w.ones.getLsbD 0 then fwReqW acc k b else ⟨yOk, k, b⟩
          else if !own then (blockWrite w k b).withKey k
          else
            match role with
            | .win => (windowWrite w k b).withKey k
            | .word => ⟨yOk, k, b.awr acc addr w.new⟩
            | _ => (selectWrite w k b).withKey k

/-! ### The commands -/

/-- PCIe functions that answer: in KICKSTAND function 0 alone (R527). -/
def Block.fnAnswers (b : Block) (acc : Nat) : Bool := acc == accFw || (decide (acc < 4) && !(b.topState == stKick && acc != 0))

/-- REGISTER_WRITE (R10, R420, R545, R564): an access of another width or alignment has no effect. -/
def registerWrite (acc addr size : Nat) (value : W32) (k : Key) (b : Block) : Key × Block :=
  if size ≠ 4 ∨ addr % 4 ≠ 0 ∨ !b.fnAnswers acc then (k, b)
  else
    let r := hostWrite acc addr value 0xFFFFFFFF k b
    (r.k, r.b)

/-- RL_GROUP_LATCH (R444): a PCIe function's or firmware's read, or a YCP session's. -/
def rlGroupLatch (acc addr : Nat) (b : Block) : Block :=
  if 13 ≤ acc ∨ (acc < 4 && !b.fnAnswers acc) then b else b.latch acc addr

/-- A YCP register address: aligned (R545) and listed (R9). -/
def addrOk (addr : Nat) : Bool := addr % 4 == 0 && (regAt addr).isSome

/-- REG_READ (R433, R444). -/
def regRead (h : Hdr) (addr : Nat) (k : Key) (b : Block) : Block :=
  b.ycp k h 0x0101 ⟨some roleObs, false⟩ fun b =>
    if !addrOk addr then yErr b yBadParam
    else
      let r := b.readReg k (accOf h.session) addr
      ⟨yOk, wordBytes [r.1], r.2⟩

/-- REG_READ_BLOCK (R433, R445): 1 to 1,024 registers, every one of them listed. -/
def regReadBlock (h : Hdr) (addr count : Nat) (k : Key) (b : Block) : Block :=
  b.ycp k h 0x0103 ⟨some roleObs, false⟩ fun b =>
    if count = 0 ∨ 1024 < count ∨ !(List.range count).all fun i => addrOk (addr + 4 * i) then yErr b yBadParam
    else
      let r := Block.readRegs k (accOf h.session) addr count b
      ⟨yOk, wordBytes r.1, r.2⟩

/-- A REG_WRITE that requests a reset: its OK leaves before the reset begins (R506). -/
def regWriteReset (h : Hdr) (addr : Nat) (value mask : W32) (k : Key) (b : Block) : Key × Block :=
  let b := b.ycpTake k h 0x0102
  let st := b.precheck k h 0x0102 ⟨none, false⟩
  let st := if st ≠ yOk then st else b.mayWrite k (accOf h.session) roleMnt false
  if st = yOk then
    let r := hostWrite (accOf h.session) addr value mask k (b.lastReply h 0x0102)
    (r.k, r.b)
  else (k, b.ycpReply h 0x0102 st [])

/-- REG_WRITE's body (R433, R564, R570). -/
def regWriteBody (acc addr : Nat) (value mask : W32) (k : Key) (b : Block) : KRes :=
  if addr % 4 ≠ 0 then ⟨yBadParam, [], k, b⟩
  else
    let r := hostWrite acc addr value mask k b
    ⟨r.status, [], r.k, r.b⟩

/-- REG_WRITE. -/
def regWrite (h : Hdr) (addr : Nat) (value mask : W32) (k : Key) (b : Block) : Key × Block :=
  if addr = Reg.RST_CTRL ∧ bits (value &&& mask) 1 0 ≠ 0 then regWriteReset h addr value mask k b
  else b.ycpK k h 0x0102 ⟨none, false⟩ (regWriteBody (accOf h.session) addr value mask)

def execRegisterWrite (acc addr size : Nat) (value : W32) (s : State) : Host.Outcome State Fault Refusal :=
  .next (s.onKB (registerWrite acc addr size value))
def execRlGroupLatch (acc addr : Nat) (s : State) : Host.Outcome State Fault Refusal := .next (s.onB fun _ => rlGroupLatch acc addr)
def execRegRead (h : Hdr) (addr : Nat) (s : State) : Host.Outcome State Fault Refusal := .next (s.onB (regRead h addr))
def execRegWrite (h : Hdr) (addr : Nat) (value mask : W32) (s : State) : Host.Outcome State Fault Refusal :=
  .next (s.onKB (regWrite h addr value mask))
def execRegReadBlock (h : Hdr) (addr count : Nat) (s : State) : Host.Outcome State Fault Refusal := .next (s.onB (regReadBlock h addr count))

end Sys2Proof.Machine
end

