-- ==== Sys2Proof/Machine/Dispatch.lean ====
section
/-!
DEFINITION. What each command does: one arm a command, each one call of its meaning.
-/
namespace Sys2Proof.Machine

/-- The effect of a command on everything but the queue. -/
def exec (i : Instr) (s : State) : Host.Outcome State Fault Refusal :=
  match i with
  | .topNomfWrite acc value => Sys2Proof.Machine.execTopNomfWrite acc value s
  | .registerWrite acc addr size value => Sys2Proof.Machine.execRegisterWrite acc addr size value s
  | .rlGroupLatch acc addr => Sys2Proof.Machine.execRlGroupLatch acc addr s
  | .slotStart slot => Sys2Proof.Machine.execSlotStart slot s
  | .slotClose slot run reads => Sys2Proof.Machine.execSlotClose slot run reads s
  | .islandEvaluation run => Sys2Proof.Machine.execIslandEvaluation run s
  | .guardEvaluation run => Sys2Proof.Machine.execGuardEvaluation run s
  | .bellPins run => Sys2Proof.Machine.execBellPins run s
  | .bellfSend run => Sys2Proof.Machine.execBellfSend run s
  | .ledgerOverrun cls => Sys2Proof.Machine.execLedgerOverrun cls s
  | .ledgerRestore => Sys2Proof.Machine.execLedgerRestore s
  | .worstClr acc => Sys2Proof.Machine.execWorstClr acc s
  | .shedModeSet acc value => Sys2Proof.Machine.execShedModeSet acc value s
  | .ledgerShareWrite acc which value => Sys2Proof.Machine.execLedgerShareWrite acc which value s
  | .dramRowFill slot reads => Sys2Proof.Machine.execDramRowFill slot reads s
  | .outsetDataFrame set slot => Sys2Proof.Machine.execOutsetDataFrame set slot s
  | .rowSettle slot => Sys2Proof.Machine.execRowSettle slot s
  | .screeningUpdate slot vals => Sys2Proof.Machine.execScreeningUpdate slot vals s
  | .ptpSyncReceive src domain origin arrival => Sys2Proof.Machine.execPtpSyncReceive src domain origin arrival s
  | .ptpAnnounceReceive src domain bound utcOfs leap61 leap59 => Sys2Proof.Machine.execPtpAnnounceReceive src domain bound utcOfs leap61 leap59 s
  | .pdelayReqReceive port seq turn => Sys2Proof.Machine.execPdelayReqReceive port seq turn s
  | .pdelayRespReceive port arrival turn => Sys2Proof.Machine.execPdelayRespReceive port arrival turn s
  | .e2eDelayDiscard => Sys2Proof.Machine.execE2eDelayDiscard s
  | .ppsInEdge stamp => Sys2Proof.Machine.execPpsInEdge stamp s
  | .irigbFrameReceive ok utc stamp bound leapPend leapDel => Sys2Proof.Machine.execIrigbFrameReceive ok utc stamp bound leapPend leapDel s
  | .sourceLoss => Sys2Proof.Machine.execSourceLoss s
  | .swHoldExpiry => Sys2Proof.Machine.execSwHoldExpiry s
  | .timeLock => Sys2Proof.Machine.execTimeLock s
  | .timeStep => Sys2Proof.Machine.execTimeStep s
  | .errEstUpdate => Sys2Proof.Machine.execErrEstUpdate s
  | .todLoad acc => Sys2Proof.Machine.execTodLoad acc s
  | .sourcePinWrite acc value => Sys2Proof.Machine.execSourcePinWrite acc value s
  | .leapApply => Sys2Proof.Machine.execLeapApply s
  | .ppsOutPulse => Sys2Proof.Machine.execPpsOutPulse s
  | .ptpSyncSend port phase => Sys2Proof.Machine.execPtpSyncSend port phase s
  | .frameReceive p f => Sys2Proof.Machine.execFrameReceive p f s
  | .prpSupervisionSend net => Sys2Proof.Machine.execPrpSupervisionSend net s
  | .pauseRepeat p prio => Sys2Proof.Machine.execPauseRepeat p prio s
  | .pauseEnd p prio fill => Sys2Proof.Machine.execPauseEnd p prio fill s
  | .pauseReceive p link prios quanta => Sys2Proof.Machine.execPauseReceive p link prios quanta s
  | .pauseExpiry p prio => Sys2Proof.Machine.execPauseExpiry p prio s
  | .utilisationMeasure p rx tx => Sys2Proof.Machine.execUtilisationMeasure p rx tx s
  | .linkUp p rate allowed => Sys2Proof.Machine.execLinkUp p rate allowed s
  | .linkDown p => Sys2Proof.Machine.execLinkDown p s
  | .netStepFail p => Sys2Proof.Machine.execNetStepFail p s
  | .snapshot acc ports clr => Sys2Proof.Machine.execSnapshot acc ports clr s
  | .strangerClear acc p => Sys2Proof.Machine.execStrangerClear acc p s
  | .watermarkWrite acc p pool hi lo => Sys2Proof.Machine.execWatermarkWrite acc p pool hi lo s
  | .reassemblyTimeout p id => Sys2Proof.Machine.execReassemblyTimeout p id s
  | .c37DataFrame d => Sys2Proof.Machine.execC37DataFrame d s
  | .c37ConfigFrame src idcode kind cfg => Sys2Proof.Machine.execC37ConfigFrame src idcode kind cfg s
  | .c37HeaderFrame src idcode text => Sys2Proof.Machine.execC37HeaderFrame src idcode text s
  | .cfgRequestTimeout spoke => Sys2Proof.Machine.execCfgRequestTimeout spoke s
  | .cfgRetry spoke => Sys2Proof.Machine.execCfgRetry spoke s
  | .spokeSilent spoke => Sys2Proof.Machine.execSpokeSilent spoke s
  | .svFrame f => Sys2Proof.Machine.execSvFrame f s
  | .spokeDefine h spoke words svid => Sys2Proof.Machine.execSpokeDefine h spoke words svid s
  | .spokeRemove h spoke => Sys2Proof.Machine.execSpokeRemove h spoke s
  | .spokeStatus h spoke opt => Sys2Proof.Machine.execSpokeStatus h spoke opt s
  | .spokeContextLoad acc spoke => Sys2Proof.Machine.execSpokeContextLoad acc spoke s
  | .spokeContextCommit acc spoke => Sys2Proof.Machine.execSpokeContextCommit acc spoke s
  | .channelDescLoad acc spoke ch => Sys2Proof.Machine.execChannelDescLoad acc spoke ch s
  | .histDecay => Sys2Proof.Machine.execHistDecay s
  | .percentileUpdate => Sys2Proof.Machine.execPercentileUpdate s
  | .waitBudgetUpdate => Sys2Proof.Machine.execWaitBudgetUpdate s
  | .waitLimitWrite acc which value => Sys2Proof.Machine.execWaitLimitWrite acc which value s
  | .cadenceSet h code => Sys2Proof.Machine.execCadenceSet h code s
  | .cadenceCodeWrite acc code => Sys2Proof.Machine.execCadenceCodeWrite acc code s
  | .cadenceApply => Sys2Proof.Machine.execCadenceApply s
  | .outsetDefine h set part final words entries => Sys2Proof.Machine.execOutsetDefine h set part final words entries s
  | .outsetCommandFrame src idcode cmd => Sys2Proof.Machine.execOutsetCommandFrame src idcode cmd s
  | .outsetRedefineApply set => Sys2Proof.Machine.execOutsetRedefineApply set s
  | .outsetAmendFrame set slot => Sys2Proof.Machine.execOutsetAmendFrame set slot s
  | .outsetWindowLoad acc set => Sys2Proof.Machine.execOutsetWindowLoad acc set s
  | .captureArm h bay pre post trigger mask sec ns release => Sys2Proof.Machine.execCaptureArm h bay pre post trigger mask sec ns release s
  | .captureTrigger bay slot => Sys2Proof.Machine.execCaptureTrigger bay slot s
  | .captureRowCopy bay reads => Sys2Proof.Machine.execCaptureRowCopy bay reads s
  | .captureRelease acc bay => Sys2Proof.Machine.execCaptureRelease acc bay s
  | .captureWindowLoad acc bay => Sys2Proof.Machine.execCaptureWindowLoad acc bay s
  | .captureRead h bay first rows => Sys2Proof.Machine.execCaptureRead h bay first rows s
  | .rowRead h slot first grans reads => Sys2Proof.Machine.execRowRead h slot first grans reads s
  | .overloadDetect ch fits clips => Sys2Proof.Machine.execOverloadDetect ch fits clips s
  | .rangeUp ch cycles => Sys2Proof.Machine.execRangeUp ch cycles s
  | .settleEnd lane => Sys2Proof.Machine.execSettleEnd lane s
  | .modulatorFault m cause => Sys2Proof.Machine.execModulatorFault m cause s
  | .rotationStart => Sys2Proof.Machine.execRotationStart s
  | .rotationPhaseAdvance readingsOk gainPpm offsetUv => Sys2Proof.Machine.execRotationPhaseAdvance readingsOk gainPpm offsetUv s
  | .trimStep m => Sys2Proof.Machine.execTrimStep m s
  | .thresholdTransition u on at_ value => Sys2Proof.Machine.execThresholdTransition u on at_ value s
  | .fltEvidencePost slot => Sys2Proof.Machine.execFltEvidencePost slot s
  | .qcPhasorDelivery at_ v1 freq dig0 dig1 invalid srcErr => Sys2Proof.Machine.execQcPhasorDelivery at_ v1 freq dig0 dig1 invalid srcErr s
  | .lomHoldExpiry which value => Sys2Proof.Machine.execLomHoldExpiry which value s
  | .estimatorReport slot vals invalid srcErr => Sys2Proof.Machine.execEstimatorReport slot vals invalid srcErr s
  | .pmuClassApply => Sys2Proof.Machine.execPmuClassApply s
  | .calQueue acc qch => Sys2Proof.Machine.execCalQueue acc qch s
  | .teLoad acc unit => Sys2Proof.Machine.execTeLoad acc unit s
  | .teCommit acc unit => Sys2Proof.Machine.execTeCommit acc unit s
  | .selftestRequest acc level => Sys2Proof.Machine.execSelftestRequest acc level s
  | .selftest h block level => Sys2Proof.Machine.execSelftest h block level s
  | .l0Periodic slack pass => Sys2Proof.Machine.execL0Periodic slack pass s
  | .selftestComplete pass failCode => Sys2Proof.Machine.execSelftestComplete pass failCode s
  | .calibrate h channel => Sys2Proof.Machine.execCalibrate h channel s
  | .calibrationComplete bad trims => Sys2Proof.Machine.execCalibrationComplete bad trims s
  | .lineCycleEnd c => Sys2Proof.Machine.execLineCycleEnd c s
  | .energyLatch => Sys2Proof.Machine.execEnergyLatch s
  | .nrgTimeLatch => Sys2Proof.Machine.execNrgTimeLatch s
  | .timeLatchReturn c => Sys2Proof.Machine.execTimeLatchReturn c s
  | .pulseOutput n => Sys2Proof.Machine.execPulseOutput n s
  | .nrgEvidencePost slot => Sys2Proof.Machine.execNrgEvidencePost slot s
  | .energySave => Sys2Proof.Machine.execEnergySave s
  | .energyRead h clear => Sys2Proof.Machine.execEnergyRead h clear s
  | .pulseAssign h out cfg k => Sys2Proof.Machine.execPulseAssign h out cfg k s
  | .screeningHit ch band ratio ms => Sys2Proof.Machine.execScreeningHit ch band ratio ms s
  | .hitClear ch band ratio ms => Sys2Proof.Machine.execHitClear ch band ratio ms s
  | .learningSample ch band mu sigma => Sys2Proof.Machine.execLearningSample ch band mu sigma s
  | .thresholdUpdate defDb => Sys2Proof.Machine.execThresholdUpdate defDb s
  | .modWatchRetire ctx => Sys2Proof.Machine.execModWatchRetire ctx s
  | .watchWindowFilled ctx modes dropped => Sys2Proof.Machine.execWatchWindowFilled ctx modes dropped s
  | .identificationUpdate ctx modes dropped => Sys2Proof.Machine.execIdentificationUpdate ctx modes dropped s
  | .sourceLocation rates => Sys2Proof.Machine.execSourceLocation rates s
  | .modEvidencePost slot => Sys2Proof.Machine.execModEvidencePost slot s
  | .locate h ctx mode => Sys2Proof.Machine.execLocate h ctx mode s
  | .locateRequest acc ctx mode => Sys2Proof.Machine.execLocateRequest acc ctx mode s
  | .watchDefine h ctx band nch nmMax winS upd zetaAlarm zetaDrop chans => Sys2Proof.Machine.execWatchDefine h ctx band nch nmMax winS upd zetaAlarm zetaDrop chans s
  | .watchRemove h ctx => Sys2Proof.Machine.execWatchRemove h ctx s
  | .modeReport h ctx mode => Sys2Proof.Machine.execModeReport h ctx mode s
  | .branchDefine h br w0 w1 w2 w3 w4 => Sys2Proof.Machine.execBranchDefine h br w0 w1 w2 w3 w4 s
  | .watchWindowLoad acc ctx => Sys2Proof.Machine.execWatchWindowLoad acc ctx s
  | .watchWindowCommit acc ctx => Sys2Proof.Machine.execWatchWindowCommit acc ctx s
  | .watchWindowRemove acc ctx => Sys2Proof.Machine.execWatchWindowRemove acc ctx s
  | .branchWindowLoad acc br => Sys2Proof.Machine.execBranchWindowLoad acc br s
  | .branchWindowCommit acc br => Sys2Proof.Machine.execBranchWindowCommit acc br s
  | .channelWindowLoad acc ch => Sys2Proof.Machine.execChannelWindowLoad acc ch s
  | .gooseMessageReceive m => Sys2Proof.Machine.execGooseMessageReceive m s
  | .islGooseTal sub => Sys2Proof.Machine.execIslGooseTal sub s
  | .stationDefine h st w => Sys2Proof.Machine.execStationDefine h st w s
  | .areaDefine h area stations => Sys2Proof.Machine.execAreaDefine h area stations s
  | .tieDefine h tie w => Sys2Proof.Machine.execTieDefine h tie w s
  | .gooseSub h sub w => Sys2Proof.Machine.execGooseSub h sub w s
  | .islandReport h isl => Sys2Proof.Machine.execIslandReport h isl s
  | .stationWindowLoad acc st => Sys2Proof.Machine.execStationWindowLoad acc st s
  | .stationWindowCommit acc st => Sys2Proof.Machine.execStationWindowCommit acc st s
  | .tieWindowLoad acc tie => Sys2Proof.Machine.execTieWindowLoad acc tie s
  | .tieWindowCommit acc tie => Sys2Proof.Machine.execTieWindowCommit acc tie s
  | .gooseWindowLoad acc sub => Sys2Proof.Machine.execGooseWindowLoad acc sub s
  | .gooseWindowCommit acc sub => Sys2Proof.Machine.execGooseWindowCommit acc sub s
  | .gspSubmit h offset total bytes => Sys2Proof.Machine.execGspSubmit h offset total bytes s
  | .gspCheck body sigOk => Sys2Proof.Machine.execGspCheck body sigOk s
  | .gspCommit => Sys2Proof.Machine.execGspCommit s
  | .evidenceMiss engine slot => Sys2Proof.Machine.execEvidenceMiss engine slot s
  | .failsafeEntry engine => Sys2Proof.Machine.execFailsafeEntry engine s
  | .bellReset h mask => Sys2Proof.Machine.execBellReset h mask s
  | .guardStatus h => Sys2Proof.Machine.execGuardStatus h s
  | .firmwareKick => Sys2Proof.Machine.execFirmwareKick s
  | .watchdogStage1 => Sys2Proof.Machine.execWatchdogStage1 s
  | .watchdogStage2 => Sys2Proof.Machine.execWatchdogStage2 s
  | .gooseRetransmit => Sys2Proof.Machine.execGooseRetransmit s
  | .heartbeatSend => Sys2Proof.Machine.execHeartbeatSend s
  | .heartbeatReceive hb => Sys2Proof.Machine.execHeartbeatReceive hb s
  | .heartbeatLoss => Sys2Proof.Machine.execHeartbeatLoss s
  | .tdmDelayMeasure delta offset => Sys2Proof.Machine.execTdmDelayMeasure delta offset s
  | .claimPresent gaps => Sys2Proof.Machine.execClaimPresent gaps s
  | .claimAbsent => Sys2Proof.Machine.execClaimAbsent s
  | .tdmClaim => Sys2Proof.Machine.execTdmClaim s
  | .gateOpen => Sys2Proof.Machine.execGateOpen s
  | .lockoutEnd => Sys2Proof.Machine.execLockoutEnd s
  | .schedReceive slot d => Sys2Proof.Machine.execSchedReceive slot d s
  | .schedTimeout slot => Sys2Proof.Machine.execSchedTimeout slot s
  | .tdmRelayReceive spoke t vals => Sys2Proof.Machine.execTdmRelayReceive spoke t vals s
  | .tdmRelayDrop => Sys2Proof.Machine.execTdmRelayDrop s
  | .tdmCut slot => Sys2Proof.Machine.execTdmCut slot s
  | .cutReceive slot bitmap early p => Sys2Proof.Machine.execCutReceive slot bitmap early p s
  | .needReceive slot spoke => Sys2Proof.Machine.execNeedReceive slot spoke s
  | .fillReceive slot spoke vals => Sys2Proof.Machine.execFillReceive slot spoke vals s
  | .digestReceive slot digest incomplete => Sys2Proof.Machine.execDigestReceive slot digest incomplete s
  | .digestTimeout slot => Sys2Proof.Machine.execDigestTimeout slot s
  | .tdmKat pass => Sys2Proof.Machine.execTdmKat pass s
  | .katPartnerTimeout => Sys2Proof.Machine.execKatPartnerTimeout s
  | .evidenceForwardReceive engine valid degraded blocked shed rseq slot tq items => Sys2Proof.Machine.execEvidenceForwardReceive engine valid degraded blocked shed rseq slot tq items s
  | .tdmEvidencePost slot => Sys2Proof.Machine.execTdmEvidencePost slot s
  | .catchupRequest => Sys2Proof.Machine.execCatchupRequest s
  | .catchupComplete d whole => Sys2Proof.Machine.execCatchupComplete d whole s
  | .catchupTimeout => Sys2Proof.Machine.execCatchupTimeout s
  | .catchupRetry => Sys2Proof.Machine.execCatchupRetry s
  | .holdoffMet => Sys2Proof.Machine.execHoldoffMet s
  | .tdmSlow => Sys2Proof.Machine.execTdmSlow s
  | .takeReceive => Sys2Proof.Machine.execTakeReceive s
  | .handover acc => Sys2Proof.Machine.execHandover acc s
  | .tdmHandover h => Sys2Proof.Machine.execTdmHandover h s
  | .tdmStatus h => Sys2Proof.Machine.execTdmStatus h s
  | .radioMessageReceive m => Sys2Proof.Machine.execRadioMessageReceive m s
  | .superframeStart busy => Sys2Proof.Machine.execSuperframeStart busy s
  | .slotWindowOpen slot busy => Sys2Proof.Machine.execSlotWindowOpen slot busy s
  | .bundleReceive slot f b => Sys2Proof.Machine.execBundleReceive slot f b s
  | .assocReq slot f clkPpm gear nch cap => Sys2Proof.Machine.execAssocReq slot f clkPpm gear nch cap s
  | .poll slot f => Sys2Proof.Machine.execPoll slot f s
  | .disassoc slot f reason => Sys2Proof.Machine.execDisassoc slot f reason s
  | .relay slot f inner => Sys2Proof.Machine.execRelay slot f inner s
  | .enhAckReceive seqNo => Sys2Proof.Machine.execEnhAckReceive seqNo s
  | .beaconReceive b => Sys2Proof.Machine.execBeaconReceive b s
  | .radioForwardReceive slot f body => Sys2Proof.Machine.execRadioForwardReceive slot f body s
  | .downlinkSlot c busy => Sys2Proof.Machine.execDownlinkSlot c busy s
  | .supervisionTimeout idx => Sys2Proof.Machine.execSupervisionTimeout idx s
  | .channelReinstate ch => Sys2Proof.Machine.execChannelReinstate ch s
  | .frameCounterSave => Sys2Proof.Machine.execFrameCounterSave s
  | .coordFcSave => Sys2Proof.Machine.execCoordFcSave s
  | .beaconingStart => Sys2Proof.Machine.execBeaconingStart s
  | .radEvidencePost slot => Sys2Proof.Machine.execRadEvidencePost slot s
  | .assocList h first count => Sys2Proof.Machine.execAssocList h first count s
  | .assocSet h idx en eui gear => Sys2Proof.Machine.execAssocSet h idx en eui gear s
  | .assocDrop h idx => Sys2Proof.Machine.execAssocDrop h idx s
  | .chanmapSet h map => Sys2Proof.Machine.execChanmapSet h map s
  | .assocWindowLoad acc idx => Sys2Proof.Machine.execAssocWindowLoad acc idx s
  | .assocWindowCommit acc idx => Sys2Proof.Machine.execAssocWindowCommit acc idx s
  | .assocWindowDrop acc idx => Sys2Proof.Machine.execAssocWindowDrop acc idx s
  | .radioEnable acc value => Sys2Proof.Machine.execRadioEnable acc value s
  | .pcieLinkDown => Sys2Proof.Machine.execPcieLinkDown s
  | .functionLevelReset f => Sys2Proof.Machine.execFunctionLevelReset f s
  | .panCmdCellAppend f value => Sys2Proof.Machine.execPanCmdCellAppend f value s
  | .panCmdPush f n => Sys2Proof.Machine.execPanCmdPush f n s
  | .ycpDatagramReceive d => Sys2Proof.Machine.execYcpDatagramReceive d s
  | .udpSessionTimeout session => Sys2Proof.Machine.execUdpSessionTimeout session s
  | .saddleExpiry => Sys2Proof.Machine.execSaddleExpiry s
  | .hello h version cmdSz rplSz evtSz udp tampered => Sys2Proof.Machine.execHello h version cmdSz rplSz evtSz udp tampered s
  | .bye h => Sys2Proof.Machine.execBye h s
  | .creditQuery h => Sys2Proof.Machine.execCreditQuery h s
  | .saddleTake h leaseS force => Sys2Proof.Machine.execSaddleTake h leaseS force s
  | .saddleDrop h => Sys2Proof.Machine.execSaddleDrop h s
  | .panMark via pannier => Sys2Proof.Machine.execPanMark via pannier s
  | .panRewind via pannier => Sys2Proof.Machine.execPanRewind via pannier s
  | .panRelease via pannier n => Sys2Proof.Machine.execPanRelease via pannier n s
  | .panRplNext f pannier => Sys2Proof.Machine.execPanRplNext f pannier s
  | .tagQuery h tag => Sys2Proof.Machine.execTagQuery h tag s
  | .regRead h addr => Sys2Proof.Machine.execRegRead h addr s
  | .regWrite h addr value mask => Sys2Proof.Machine.execRegWrite h addr value mask s
  | .regReadBlock h addr count => Sys2Proof.Machine.execRegReadBlock h addr count s
  | .pendingCommandComplete session tag status payload => Sys2Proof.Machine.execPendingCommandComplete session tag status payload s
  | .replyFragment session => Sys2Proof.Machine.execReplyFragment session s
  | .hostEvtGap session sub => Sys2Proof.Machine.execHostEvtGap session sub s
  | .subAdd h kind filter => Sys2Proof.Machine.execSubAdd h kind filter s
  | .subRemove h sub => Sys2Proof.Machine.execSubRemove h sub s
  | .subList h => Sys2Proof.Machine.execSubList h s
  | .hostShareWrite acc which value => Sys2Proof.Machine.execHostShareWrite acc which value s
  | .dukRegenerate tries bits => Sys2Proof.Machine.execDukRegenerate tries bits s
  | .keyGen h slot mode engine alg c tampered => Sys2Proof.Machine.execKeyGen h slot mode engine alg c tampered s
  | .keyCertify h slot nonce tampered => Sys2Proof.Machine.execKeyCertify h slot nonce tampered s
  | .attestQuote h nonce tampered => Sys2Proof.Machine.execAttestQuote h nonce tampered s
  | .tamperAck h tseq sigOk => Sys2Proof.Machine.execTamperAck h tseq sigOk s
  | .lifecycle h target sigOk tampered => Sys2Proof.Machine.execLifecycle h target sigOk tampered s
  | .keySlotLoad acc slot => Sys2Proof.Machine.execKeySlotLoad acc slot s
  | .tamperEvent src => Sys2Proof.Machine.execTamperEvent src s
  | .meshCheck ok => Sys2Proof.Machine.execMeshCheck ok s
  | .recordAccept => Sys2Proof.Machine.execRecordAccept s
  | .recordCommit => Sys2Proof.Machine.execRecordCommit s
  | .logDropped => Sys2Proof.Machine.execLogDropped s
  | .timeMark => Sys2Proof.Machine.execTimeMark s
  | .logSeal => Sys2Proof.Machine.execLogSeal s
  | .sealVerify acc => Sys2Proof.Machine.execSealVerify acc s
  | .logRead h first count => Sys2Proof.Machine.execLogRead h first count s
  | .logClear h clrNo newSize newFixed sigOk => Sys2Proof.Machine.execLogClear h clrNo newSize newFixed sigOk s
  | .opsecSave => Sys2Proof.Machine.execOpsecSave s
  | .por vin vstore => Sys2Proof.Machine.execPor vin vstore s
  | .bor rail vin vstore => Sys2Proof.Machine.execBor rail vin vstore s
  | .resetPin samples => Sys2Proof.Machine.execResetPin samples s
  | .dbgReset => Sys2Proof.Machine.execDbgReset s
  | .pllLockLoss lostUs off => Sys2Proof.Machine.execPllLockLoss lostUs off s
  | .lockup point => Sys2Proof.Machine.execLockup point s
  | .sysReq acc => Sys2Proof.Machine.execSysReq acc s
  | .fwReq acc => Sys2Proof.Machine.execFwReq acc s
  | .reset h reach => Sys2Proof.Machine.execReset h reach s
  | .resetEnd held => Sys2Proof.Machine.execResetEnd held s
  | .optionTrimLoad refin => Sys2Proof.Machine.execOptionTrimLoad refin s
  | .firmwareStart f => Sys2Proof.Machine.execFirmwareStart f s
  | .startComplete => Sys2Proof.Machine.execStartComplete s
  | .runSLimit => Sys2Proof.Machine.execRunSLimit s
  | .fscClear acc => Sys2Proof.Machine.execFscClear acc s
  | .stateSet h target vin => Sys2Proof.Machine.execStateSet h target vin s
  | .watchEntry vin lowMs => Sys2Proof.Machine.execWatchEntry vin lowMs s
  | .watchExit vin highMs => Sys2Proof.Machine.execWatchExit vin highMs s
  | .pfailAssert vin vstore part => Sys2Proof.Machine.execPfailAssert vin vstore part s
  | .pfailClear vin vstore goodUs => Sys2Proof.Machine.execPfailClear vin vstore goodUs s
  | .refclkInvalid => Sys2Proof.Machine.execRefclkInvalid s
  | .tcxoFail refin => Sys2Proof.Machine.execTcxoFail refin s
  | .ckAonBad hz => Sys2Proof.Machine.execCkAonBad hz s
  | .refSwitchRequest acc value refin => Sys2Proof.Machine.execRefSwitchRequest acc value refin s
  | .pllRelock => Sys2Proof.Machine.execPllRelock s
  | .tempMeasure t => Sys2Proof.Machine.execTempMeasure t s
  | .powerThresholdWrite acc value => Sys2Proof.Machine.execPowerThresholdWrite acc value s
  | .fwUpdate h offset total bytes c => Sys2Proof.Machine.execFwUpdate h offset total bytes c s
  | .timEvidencePost slot => Sys2Proof.Machine.execTimEvidencePost slot s
  | .pdelayReqSend port phase => Sys2Proof.Machine.execPdelayReqSend port phase s
  | .announceSend port => Sys2Proof.Machine.execAnnounceSend port s
  | .ppsInEdgeMissing => Sys2Proof.Machine.execPpsInEdgeMissing s
  | .timeFallbackCycleEnd c => Sys2Proof.Machine.execTimeFallbackCycleEnd c s
  | .tamperSourceClear src out => Sys2Proof.Machine.execTamperSourceClear src out s
  | .overvoltageReconnect vin vstore => Sys2Proof.Machine.execOvervoltageReconnect vin vstore s
  | .storeReachesVin vin vstore => Sys2Proof.Machine.execStoreReachesVin vin vstore s

end Sys2Proof.Machine
end

