-- ==== Sys2Proof/Safety.lean ====
section
/-!
DEFINITION. What statements speak of: which parts of a state a command may change, when a session's command reaches its body, and what
holds of the key block in every state a command leaves.
-/
namespace Sys2Proof.Machine

/-! ### Frames -/

/-- The state with another block: the queue and the key block stay. -/
abbrev State.putB (s : State) (b : Block) : State := { s with b := b }

/-- A part of the state beside the register file and the queue. -/
inductive Part where
  | acc | ldg | tim | ports | ing | aln | flt | nrg | mod | isl | grd | tdm | rad | hst | top | log | tx | free | key
  deriving DecidableEq, Repr

/-- A part is the same in two states. -/
def Part.same (s t : State) : Part → Prop
  | .acc => t.b.acc = s.b.acc
  | .ldg => t.b.ldg = s.b.ldg
  | .tim => t.b.tim = s.b.tim
  | .ports => t.b.ports = s.b.ports
  | .ing => t.b.ing = s.b.ing
  | .aln => t.b.aln = s.b.aln
  | .flt => t.b.flt = s.b.flt
  | .nrg => t.b.nrg = s.b.nrg
  | .mod => t.b.mod = s.b.mod
  | .isl => t.b.isl = s.b.isl
  | .grd => t.b.grd = s.b.grd
  | .tdm => t.b.tdm = s.b.tdm
  | .rad => t.b.rad = s.b.rad
  | .hst => t.b.hst = s.b.hst
  | .top => t.b.top = s.b.top
  | .log => t.b.log = s.b.log
  | .tx => t.b.tx = s.b.tx
  | .free => t.b.freeCtr = s.b.freeCtr
  | .key => t.key = s.key

/-- The queue, every part but the listed ones and every register but the listed ones are the same in both states. -/
def Kept (parts : List Part) (regs : List Nat) (s t : State) : Prop :=
  t.pending = s.pending ∧ (∀ p, p ∉ parts → p.same s t) ∧ ∀ a, a ∉ regs → t.b.rd a = s.b.rd a

/-! ### Commands of a session (R430) -/

/-- Checks 7 to 9 of R430 pass for a header of an open session: TOP_STATE allows the opcode, the session holds the role and, where
the opcode asks for it, the saddle, which it does not lose at this command, and its tag is free and fewer than four commands wait. -/
abbrev Ready (s : State) (h : Hdr) (op : Nat) (q : YReq) : Prop :=
  h.session < 8 ∧ s.b.allowed op = true ∧ s.b.hasRole s.key h.session (q.role.getD roleObs) = true ∧
  (q.saddle = true → s.b.hasSaddle h.session = true ∧ (isUdp h.session && s.key.withheld) = false) ∧
  (s.b.sess h.session).pending.any (fun e => e.1 == h.tag) = false ∧ (s.b.sess h.session).pending.length < 4

/-- The block once a command of a session has been taken from its pannier and counted. -/
abbrev State.taken (s : State) (h : Hdr) (op : Nat) : Block := s.b.ycpTake s.key h op

/-- The state after a command of a session: taken and counted, then what its body does, then the reply. -/
def State.answer (s : State) (h : Hdr) (op status : Nat) (payload : List Byte) (f : Block → Block) : State :=
  { s with b := (f (s.b.ycpTake s.key h op)).ycpReply h op status payload }

/-- The state after a command of a session whose body, run on the state once the command was taken, left key block `k` and block `b`. -/
def State.answerK (s : State) (h : Hdr) (op status : Nat) (payload : List Byte) (k : Key) (b : Block) : State :=
  { s with key := k, b := b.ycpReply h op status payload }

/-- The state after a command of a session that answers PENDING: the PENDING reply, then what its work does, then the final reply. -/
def State.late (s : State) (h : Hdr) (op : Nat) (act : Block → YRes) : State :=
  let r := act ((s.taken h op).ycpReply h op yPending [])
  { s with b := r.b.finish h.session h.tag op r.status r.payload }

/-- The header, opcode and need of a command that a session sends, but for HELLO, which opens one, and for the pannier operations of a
register window. -/
def needOf : Instr → Option (Hdr × Nat × YReq)
  | .bye h => some (h, 0x0002, ⟨none, false⟩)
  | .creditQuery h => some (h, 0x0003, ⟨none, false⟩)
  | .saddleTake h _ _ => some (h, 0x0004, ⟨some roleEng, false⟩)
  | .saddleDrop h => some (h, 0x0005, ⟨some roleEng, true⟩)
  | .tagQuery h _ => some (h, 0x0009, ⟨none, false⟩)
  | .regRead h _ => some (h, 0x0101, ⟨some roleObs, false⟩)
  | .regWrite h _ _ _ => some (h, 0x0102, ⟨none, false⟩)
  | .regReadBlock h _ _ => some (h, 0x0103, ⟨some roleObs, false⟩)
  | .spokeDefine h _ _ _ => some (h, 0x0201, ⟨some roleEng, true⟩)
  | .spokeRemove h _ => some (h, 0x0202, ⟨some roleEng, true⟩)
  | .spokeStatus h _ _ => some (h, 0x0203, ⟨some roleObs, false⟩)
  | .cadenceSet h _ => some (h, 0x0301, ⟨some roleEng, true⟩)
  | .outsetDefine h _ _ _ _ _ => some (h, 0x0302, ⟨some roleEng, true⟩)
  | .captureArm h _ _ _ _ _ _ _ _ => some (h, 0x0303, ⟨some roleEng, true⟩)
  | .captureRead h _ _ _ => some (h, 0x0304, ⟨some roleObs, false⟩)
  | .rowRead h _ _ _ _ => some (h, 0x0305, ⟨some roleObs, false⟩)
  | .watchDefine h _ _ _ _ _ _ _ _ _ => some (h, 0x0401, ⟨some roleEng, true⟩)
  | .watchRemove h _ => some (h, 0x0402, ⟨some roleEng, true⟩)
  | .modeReport h _ _ => some (h, 0x0403, ⟨some roleObs, false⟩)
  | .branchDefine h _ _ _ _ _ _ => some (h, 0x0404, ⟨some roleEng, true⟩)
  | .locate h _ _ => some (h, 0x0405, ⟨some roleOpr, false⟩)
  | .stationDefine h _ _ => some (h, 0x0501, ⟨some roleEng, true⟩)
  | .areaDefine h _ _ => some (h, 0x0502, ⟨some roleEng, true⟩)
  | .tieDefine h _ _ => some (h, 0x0503, ⟨some roleEng, true⟩)
  | .gooseSub h _ _ => some (h, 0x0504, ⟨some roleEng, true⟩)
  | .islandReport h _ => some (h, 0x0505, ⟨some roleObs, false⟩)
  | .energyRead h c => some (h, 0x0601, ⟨some (if c then roleMnt else roleObs), false⟩)
  | .pulseAssign h _ _ _ => some (h, 0x0602, ⟨some roleEng, true⟩)
  | .gspSubmit h _ _ _ => some (h, 0x0701, ⟨some roleGsb, false⟩)
  | .guardStatus h => some (h, 0x0702, ⟨some roleObs, false⟩)
  | .bellReset h _ => some (h, 0x0703, ⟨some roleOpr, false⟩)
  | .tdmStatus h => some (h, 0x0801, ⟨some roleObs, false⟩)
  | .tdmHandover h => some (h, 0x0802, ⟨some roleEng, true⟩)
  | .assocList h _ _ => some (h, 0x0901, ⟨some roleObs, false⟩)
  | .assocSet h _ _ _ _ => some (h, 0x0902, ⟨some roleEng, true⟩)
  | .assocDrop h _ => some (h, 0x0903, ⟨some roleEng, true⟩)
  | .chanmapSet h _ => some (h, 0x0904, ⟨some roleEng, true⟩)
  | .attestQuote h _ _ => some (h, 0x0A01, ⟨some roleObs, false⟩)
  | .keyGen h slot mode _ _ _ _ => some (h, 0x0A02, keyGenReq slot mode)
  | .keyCertify h _ _ _ => some (h, 0x0A03, ⟨some roleObs, false⟩)
  | .tamperAck h _ _ => some (h, 0x0A04, ⟨some roleOpr, false⟩)
  | .logRead h _ _ => some (h, 0x0B01, ⟨some roleObs, false⟩)
  | .logClear h _ _ _ _ => some (h, 0x0B02, ⟨some roleMnt, false⟩)
  | .selftest h _ _ => some (h, 0x0C01, ⟨some roleMnt, false⟩)
  | .calibrate h _ => some (h, 0x0C02, ⟨some roleMnt, false⟩)
  | .lifecycle h _ _ _ => some (h, 0x0C03, ⟨some roleMnt, false⟩)
  | .reset h _ => some (h, 0x0C04, ⟨some roleMnt, false⟩)
  | .fwUpdate h _ _ _ _ => some (h, 0x0C05, ⟨some roleMnt, false⟩)
  | .stateSet h _ _ => some (h, 0x0C06, ⟨some roleMnt, false⟩)
  | .subAdd h _ _ => some (h, 0x0D01, ⟨some roleObs, false⟩)
  | .subRemove h _ => some (h, 0x0D02, ⟨some roleObs, false⟩)
  | .subList h => some (h, 0x0D03, ⟨some roleObs, false⟩)
  | _ => none

/-! ### The key block -/

/-- What holds of one slot: a known state; a loaded slot is bound to one engine (R460); the withheld slots are not usable while keys
are withheld, and no other slot reads WITHHELD (R474). -/
def KeySlot.sound (withheld : Bool) (i : Nat) (x : KeySlot) : Prop :=
  (x.state ≠ 0 → engineBit x.engine < 8) ∧ x.state ≤ 2 ∧
  (if withheld && isWithheldSlot i then x.state ≠ 1 else x.state ≠ 2)

/-- What holds of the key block after every command: 64 slots (R461), each sound; a stored key is bound to one engine; keys are
withheld exactly while a tamper event is pending (R474); the life-cycle code is one of R470 and never above what MRAM holds (R471). -/
structure Key.Sound (k : Key) : Prop where
  count : k.slots.length = 64
  each  : ∀ (i : Nat) (x : KeySlot), k.slots[i]? = some x → x.sound k.withheld i
  kept  : ∀ e ∈ k.store, engineBit e.2.engine < 8
  pend  : k.withheld = k.pend
  lcs   : k.lcs ≤ max (k.lcsA.getD 0) (k.lcsB.getD 0)
  top   : max (k.lcsA.getD 0) (k.lcsB.getD 0) ≤ 4

end Sys2Proof.Machine
end

