-- ==== Sys2Proof/Certificates/Slice0/Obligations.lean ====
section
/-!
DEFINITION. The statements for the provers, from the numbered rules of the spec.
-/
open Sys2Proof Sys2Proof.Machine

/-- A step runs the command at the front of the queue -/
def Obligations.StepRunsTheFrontCommand : Prop :=
  (-- front
    ∀ (c : Instr) (rest : List Instr) (s : State),
      s.pending = c :: rest →
      step s = exec c { s with pending := rest })

/-- On an empty queue one CK_TIME tick of 8 ns passes -/
def Obligations.EmptyQueueIsOneTick : Prop :=
  (-- tick
    ∀ (s : State),
      s.pending = [] →
      ∃ t, step s = .next t ∧ t.b.now = s.b.now + 1 ∧ Kept [.tim] [] s t)

/-- A session's command that fails check 7, 8 or 9 is answered with that status and its body does nothing -/
def Obligations.CommandFailingAChecksIsAnsweredAndDoesNothing : Prop :=
  (-- denied
    ∀ (c : Instr) (s : State) (h : Hdr) (op : Nat) (q : YReq),
      needOf c = some (h, op, q) →
      (s.b.ycpTake s.key h op).allowed op = false ∨ (s.b.ycpTake s.key h op).hasRole s.key h.session (q.role.getD roleObs) = false →
      exec c s = .next (s.answer h op yDenied [] id)) ∧
  (-- no saddle
    ∀ (c : Instr) (s : State) (h : Hdr) (op : Nat) (q : YReq),
      needOf c = some (h, op, q) →
      (s.b.ycpTake s.key h op).allowed op = true →
      (s.b.ycpTake s.key h op).hasRole s.key h.session (q.role.getD roleObs) = true →
      q.saddle = true →
      (s.b.ycpTake s.key h op).hasSaddle h.session = false →
      exec c s = .next (s.answer h op yNoSaddle [] id)) ∧
  (-- busy
    ∀ (c : Instr) (s : State) (h : Hdr) (op : Nat) (q : YReq),
      needOf c = some (h, op, q) →
      (s.b.ycpTake s.key h op).allowed op = true →
      (s.b.ycpTake s.key h op).hasRole s.key h.session (q.role.getD roleObs) = true →
      (q.saddle && !(s.b.ycpTake s.key h op).hasSaddle h.session) = false →
      (((s.b.ycpTake s.key h op).sess h.session).pending.any (fun e => e.1 == h.tag) = true ∨ 4 ≤ ((s.b.ycpTake s.key h op).sess h.session).pending.length) →
      exec c s = .next (s.answer h op yBusy [] id))

/-- The key block after reset is sound -/
def Obligations.SoundKeyBlockAtReset : Prop :=
  State.reset.key.Sound

/-- Every step keeps the key block sound: one engine a key, withheld keys never usable -/
def Obligations.EveryStepKeepsTheKeyBlockSound : Prop :=
  (-- kept
    ∀ (s t : State),
      s.key.Sound →
      step s = .next t →
      t.key.Sound)

/-- No step lowers the life-cycle code -/
def Obligations.LifeCycleNeverFalls : Prop :=
  (-- rises
    ∀ (s t : State),
      s.key.Sound →
      step s = .next t →
      s.key.lcs ≤ t.key.lcs)

/-- The cycle ledger's commands: overrun, restore step, WORST_CLR, SHED_MODE, shares -/
def Obligations.LedgerCommandsTakeEffect : Prop :=
  (-- LEDGER_OVERRUN
    ∀ (s : State) (cls : Nat) (x : Slot),
      cls < 5 →
      ((s.b.aln.slots.find? fun x => x.ovrDue.contains cls) = some x) →
      s.b.level ≠ 19 →
      s.b.ldg.raiseSlot ≠ some x.s →
      ∃ t, exec (.ledgerOverrun cls) s = .next t ∧ t.b.rd Reg.ALN_LDG_OVR = s.b.rd Reg.ALN_LDG_OVR ||| BitVec.ofNat 32 (1 <<< cls) ∧
        (t.b.rd (Reg.ALN_LDG_CNT_STAGE + 4 * cls)).toNat = min 0xFFFFFFFF ((s.b.rd (Reg.ALN_LDG_CNT_STAGE + 4 * cls)).toNat + 1) ∧
        t.b.fld F.ALN_LDG_STAT_CLEAN_SLOTS = 0 ∧ t.b.ldg = { s.b.ldg with raise := true, raiseSlot := some x.s } ∧
        t.b.log.offered = s.b.log.offered ++ [⟨0x0501, 1, false, BitVec.ofNat 32 (x.ovr ||| (1 <<< cls)), BitVec.ofNat 32 (lt32 x.c), BitVec.ofNat 32 (x.ends.foldl max 0), 0⟩] ∧
        Kept [.ldg, .aln, .log] [Reg.ALN_LDG_OVR, Reg.ALN_LDG_CNT_STAGE + 4 * cls, Reg.ALN_LDG_STAT] s t) ∧
  (-- LEDGER_RESTORE
    ∀ (s : State),
      s.b.fld F.ALN_LDG_CTRL_RESTORE_SLOTS ≤ s.b.fld F.ALN_LDG_STAT_CLEAN_SLOTS →
      s.b.shedMode ≠ 1 →
      s.b.levelDown s.b.level < s.b.level →
      ∃ t, exec .ledgerRestore s = .next t ∧ t.b.level = s.b.levelDown s.b.level ∧ t.b.fld F.ALN_LDG_STAT_CLEAN_SLOTS = 0 ∧
        t.b.log.offered = s.b.log.offered ++ [⟨0x0503, 1, false, BitVec.ofNat 32 (s.b.levelDown s.b.level), BitVec.ofNat 32 (lt32 s.b.aln.lastC), 0, 0⟩] ∧
        Kept [.log] [Reg.ALN_LDG_STAT] s t) ∧
  (-- WORST_CLR
    ∀ (s : State) (acc : Nat),
      s.b.mayWrite s.key acc roleEng true = yOk →
      ∃ t, exec (.worstClr acc) s = .next t ∧ (∀ i, i < 5 → t.b.rd (Reg.ALN_LDG_WORST_ + 4 * i) = 0) ∧
        Kept [] [0x50C40, 0x50C44, 0x50C48, 0x50C4C, 0x50C50] s t) ∧
  (-- SHED_MODE_SET
    ∀ (s : State) (acc : Nat) (value : W32),
      s.b.mayWrite s.key acc roleEng true = yOk →
      bits value 1 0 < 3 →
      s.b.shedForbidden (bits value 1 0) (min 19 (bits value 8 4)) = false →
      value.getLsbD 31 = false →
      ∃ t, exec (.shedModeSet acc value) s = .next t ∧ t.b.shedMode = bits value 1 0 ∧ t.b.fld F.ALN_LDG_CTRL_PIN_LEVEL = min 19 (bits value 8 4) ∧
        t.b.fld F.ALN_LDG_CTRL_RESTORE_SLOTS = max 16 (bits value 27 16) ∧ t.b.fld F.ALN_LDG_STAT_ENVELOPE_HOLD = 0 ∧
        Kept [] [Reg.ALN_LDG_CTRL, Reg.ALN_LDG_STAT] s t) ∧
  (-- LEDGER_SHARE_WRITE
    ∀ (s : State) (acc : Nat) (value : W32),
      s.b.mayWrite s.key acc roleEng true = yOk →
      sharesOk value (s.b.rd Reg.ALN_LDG_SHARE_B) = true →
      ∃ t, exec (.ledgerShareWrite acc 0 value) s = .next t ∧ t.b.rd Reg.ALN_LDG_SHARE_A = value ∧ t.b.rd Reg.ALN_LDG_SHARE_B = s.b.rd Reg.ALN_LDG_SHARE_B ∧
        t.b.fld F.ALN_LDG_STAT_SHARE_ERR = 0 ∧ t.b.ldg = { s.b.ldg with pendA := some value, pendB := some (s.b.rd Reg.ALN_LDG_SHARE_B) } ∧
        Kept [.ldg] [Reg.ALN_LDG_SHARE_A, Reg.ALN_LDG_SHARE_B, Reg.ALN_LDG_STAT] s t)

/-- The servo's integral term, output and clamps on an accepted sample -/
def Obligations.ServoFollowsItsEquations : Prop :=
  (-- servo
    ∀ (b : Block) (e : Int),
      (b.servo e).tim.integ = Q.clamp (Q.ofNat (1000 * b.fld F.TIM_LIMITS_SLEW_MAX)).neg (Q.ofNat (1000 * b.fld F.TIM_LIMITS_SLEW_MAX))
        (b.tim.integ.add (((Q.pow2 (-(b.fld F.TIM_SERVO_KI_SH : Int))).mul (Q.ofInt e)).mul (Q.norm (b.now - b.tim.sampleAt) tickS))) ∧
        (b.servo e).tim.y = Q.clamp (Q.ofNat (1000 * b.fld F.TIM_LIMITS_SLEW_MAX)).neg (Q.ofNat (1000 * b.fld F.TIM_LIMITS_SLEW_MAX))
        (((Q.pow2 (-(b.fld F.TIM_SERVO_KP_SH : Int))).mul (Q.ofInt e)).add (b.servo e).tim.integ) ∧
        (b.servo e).tim.last8 = (e :: b.tim.last8).take 8 ∧ (b.servo e).tim.sampleAt = b.now)

/-- Sync, Announce, Pdelay, 1PPS and IRIG-B events -/
def Obligations.TimeSourceEventsTakeEffect : Prop :=
  (-- PTP_SYNC_RECEIVE
    ∀ (s : State) (src origin arrival n : Nat),
      src < 6 →
      (s.b.src src).announced = some n →
      s.b.timSrc ≠ src →
      exec (.ptpSyncReceive src (s.b.fld F.TIM_CTRL_DOMAIN) origin arrival) s = .next (s.putB (s.b.sample src ((((origin + s.b.tim.pdelay.getD src 0 : Nat) : Int) - ((arrival : Int) - s.b.rxLat src)) / 2)))) ∧
  (-- PTP_ANNOUNCE_RECEIVE
    ∀ (s : State) (src bound : Nat),
      src < 6 →
      s.b.timSrc ≠ src →
      exec (.ptpAnnounceReceive src (s.b.fld F.TIM_CTRL_DOMAIN) bound none false false) s = .next (s.putB ((s.b.modSrc src fun x => { x with announced := some bound, eSrc := bound }).rankSources))) ∧
  (-- PDELAY_REQ_RECEIVE
    ∀ (s : State) (port seq turn : Nat),
      port < 6 →
      s.b.portUp port = true →
      72 ≤ (s.b.rd (Reg.MAC_MAXLEN + 0x1000 * port)).toNat →
      ∃ t, exec (.pdelayReqReceive port seq turn) s = .next t ∧
        t.b.tx = ⟨port, Emit.ptp, [3, seq, turn + (s.b.txLat port + s.b.rxLat port) * 0x8000]⟩ :: s.b.tx ∧ Kept [.ports, .tx] [] s t) ∧
  (-- PDELAY_RESP_RECEIVE
    ∀ (s : State) (port arrival turn t1 : Nat),
      s.b.tim.pdelayReq[port]? = some (some t1) →
      ∃ t, exec (.pdelayRespReceive port arrival turn) s = .next t ∧
        t.b.tim = { s.b.tim with pdelay := s.b.tim.pdelay.set port ((arrival - s.b.rxLat port - t1 - turn) / 2), pdelayReq := s.b.tim.pdelayReq.set port none } ∧
        t.b.rd Reg.TIM_CNT_PDELAY = BitVec.ofNat 32 (min 0xFFFFFFFF ((s.b.rd Reg.TIM_CNT_PDELAY).toNat + 1)) ∧ Kept [.tim] [Reg.TIM_CNT_PDELAY] s t) ∧
  (-- E2E_DELAY_DISCARD
    ∀ (s : State),
      ∃ t, exec .e2eDelayDiscard s = .next t ∧ t.b.rd Reg.TIM_CNT_E2E_DROP = BitVec.ofNat 32 (min 0xFFFFFFFF ((s.b.rd Reg.TIM_CNT_E2E_DROP).toNat + 1)) ∧
        Kept [] [Reg.TIM_CNT_E2E_DROP] s t) ∧
  (-- PPS_IN_EDGE
    ∀ (s : State) (stamp : Nat),
      s.b.tim.todArmed = true →
      exec (.ppsInEdge stamp) s = .next (s.putB ((((s.b.modSrc 6 fun x => { x with eSrc := s.b.fld F.TIM_SRC_ACC_PPS_ACC }).modTim fun t =>
        { (t.jump ((((s.b.rd Reg.TIM_TOD_SEC_LO).toNat + 4294967296 * s.b.fld F.TIM_TOD_SEC_HI_SEC_HI : Nat) -
        ((((stamp : Int) - s.b.fld F.TIM_PPS_DLY_IN_DLY) / 2 + toSecond ((stamp : Int) - s.b.fld F.TIM_PPS_DLY_IN_DLY)) / 1000000000 : Int)) * 1000000000))
        with todArmed := false }).sample 6 (toSecond ((stamp : Int) - s.b.fld F.TIM_PPS_DLY_IN_DLY)))))) ∧
  (-- IRIGB_FRAME_RECEIVE
    ∀ (s : State) (utc stamp bound : Nat),
      exec (.irigbFrameReceive true utc stamp bound false false) s = .next (s.putB ((s.b.modSrc 7 fun x => { x with eSrc := max (s.b.fld F.TIM_SRC_ACC_IRIG_ACC) bound }).sample 7
        (((utc + s.b.fld F.TIM_UTC_UTC_OFS * 1000000000 : Nat) : Int) - stamp))) ∧
        exec (.irigbFrameReceive false utc stamp bound false false) s = .next (s.putB (s.b.bump Reg.TIM_CNT_IRIG_ERR))) ∧
  (-- PPS_IN_EDGE_MISSING
    ∀ (s : State),
      (s.b.src 6).valid = true →
      exec .ppsInEdgeMissing s = .next (s.putB (s.b.bump Reg.TIM_CNT_PPS_MISS)))

/-- Source loss, switch, lock, step, freewheel error, leap second, TOD_LOAD and source pin -/
def Obligations.TimeBaseTransitionsTakeEffect : Prop :=
  (-- SOURCE_LOSS
    ∀ (s : State),
      s.b.timState = tmAcquire →
      s.b.srcUsable s.b.timSrc = false →
      s.b.bestSrc s.b.srcUsable = none →
      s.b.tim.lockedOnce = false →
      exec .sourceLoss s = .next (s.putB ((((s.b.setTimState tmInit).put F.TIM_STAT_SRC 0xF).setErr 0xFFFFFFFF).rankSources))) ∧
  (-- SW_HOLD_EXPIRY
    ∀ (s : State) (k : Nat),
      s.b.timState = tmLocked →
      s.b.bestSrc s.b.srcHeld = some k →
      exec .swHoldExpiry s = .next (s.putB (s.b.switchSrc k 1))) ∧
  (-- TIME_LOCK
    ∀ (s : State),
      s.b.timState = tmAcquire →
      s.b.fld F.TIM_SERVO_LOCK_CNT ≤ s.b.tim.nGood →
      ∃ b : Block, b = Block.trackErr ((s.b.setTimState tmLocked).modTim fun t =>
        { t with lockedOnce := true, lockTai := some (t.lockTai.getD (t.sec + (if t.ns = 0 then 1 else 2))), exitBound := 0 }) ∧
        exec .timeLock s = .next (s.putB (b.note 0x0201 b.timSrc b.devClass))) ∧
  (-- TIME_STEP
    ∀ (s : State) (m : Int),
      s.b.tim.stepDue = some m →
      ((s.b.aln.slots.any fun x => x.phase == 0 || (x.stepClose && decide (x.stage < 3))) = false) →
      s.b.aln.stepLast.isNone = true →
      exec .timeStep s = .next (s.putB (Block.trackErr (((Block.islRestart ((((s.b.stepRecord.modTim fun t => t.jump m).modTim fun t =>
        { t with stepDue := none, stepRun := [], last8 := [], stepAt := some t.mono, lockTai := t.lockTai.map fun x => if x ≤ t.sec then 0 else x }).modAln fun u =>
        { u with lastS := none, lastD := 0, lastC := 0, stepLast := none }).modGrd fun u => { u with restart := true })).bump
        Reg.TIM_CNT_STEP).note 0x0203 (satS32 m) (lt32 s.b.tai))))) ∧
  (-- ERR_EST_UPDATE
    ∀ (s : State),
      s.b.timState = tmFree →
      exec .errEstUpdate s = .next (s.putB (s.b.setErr s.b.freeBound))) ∧
  (-- TOD_LOAD
    ∀ (s : State) (acc : Nat),
      s.b.mayWrite s.key acc roleEng true = yOk →
      exec (.todLoad acc) s = .next (s.putB (s.b.modTim fun t => { t with todArmed := true }))) ∧
  (-- SOURCE_PIN_WRITE
    ∀ (s : State) (acc : Nat) (value : W32),
      s.b.mayWrite s.key acc roleEng true = yOk →
      (value.getLsbD 4 && !s.b.srcAllowed (min 7 (bits value 3 0))) = false →
      exec (.sourcePinWrite acc value) s = .next (s.putB (Block.rankSources (Block.dropSrc ((((s.b.wr Reg.TIM_SRC_CTRL
        ((value &&& 0xFF000010) ||| BitVec.ofNat 32 (2 ^ 18 * clampNat 1 60 (bits value 23 18) + 2 ^ 8 * max 1 (bits value 15 8) + min 7 (bits value 3 0)))).putFlag
        F.TIM_STAT_PINNED (value.getLsbD 4)).put F.TIM_STAT_ENVELOPE_HOLD 0)) (if value.getLsbD 4 then 2 else 0))))) ∧
  (-- LEAP_APPLY
    ∀ (s : State),
      s.b.leapDue = true →
      ∃ t, exec .leapApply s = .next t ∧ t.b.fld F.TIM_UTC_LEAP_PEND = 0 ∧
        t.b.fld F.TIM_UTC_UTC_OFS = (if s.b.flag F.TIM_UTC_LEAP_DIR then s.b.fld F.TIM_UTC_UTC_OFS - 1 else min 255 (s.b.fld F.TIM_UTC_UTC_OFS + 1)) ∧
        t.b.tim = { s.b.tim with leapAt := some (s.b.tim.sec * tickS) } ∧ t.b.rd Reg.TIM_CNT_LEAP = BitVec.ofNat 32 (min 0xFFFFFFFF ((s.b.rd Reg.TIM_CNT_LEAP).toNat + 1)) ∧
        Kept [.tim, .log] [Reg.TIM_UTC, Reg.TIM_CNT_LEAP] s t)

/-- 1PPS output, Sync, Pdelay_Req and Announce sent, and the TIM evidence record -/
def Obligations.TimeOutputsTakeEffect : Prop :=
  (-- PPS_OUT_PULSE
    ∀ (s : State),
      s.b.flag F.TIM_PPS_OUT_EN = true →
      s.b.timState ≠ tmInit →
      s.b.devClass ≤ s.b.fld F.TIM_PPS_OUT_SQUELCH_TQ →
      ∃ t, exec .ppsOutPulse s = .next t ∧ t.b.tim = { s.b.tim with ppsOut := some (s.b.now + s.b.fld F.TIM_PPS_OUT_WIDTH * tickUs) } ∧
        t.b.tx = ⟨9, Emit.land, [0, 1]⟩ :: s.b.tx ∧ Kept [.tim, .tx] [] s t) ∧
  (-- PTP_SYNC_SEND
    ∀ (s : State) (port phase : Nat),
      port < 4 →
      s.b.timSrc ≠ port →
      s.b.portUp port = true →
      64 ≤ (s.b.rd (Reg.MAC_MAXLEN + 0x1000 * port)).toNat →
      ∃ t, exec (.ptpSyncSend port phase) s = .next t ∧
        t.b.tx = ⟨port, Emit.ptp, [0, (s.b.stamp phase + s.b.txLat port) / 2000000000, (s.b.stamp phase + s.b.txLat port) / 2 % 1000000000,
        (s.b.stamp phase + s.b.txLat port) % 2 * 0x8000 + s.b.tim.frac >>> 16]⟩ :: s.b.tx ∧ Kept [.ports, .tx] [] s t) ∧
  (-- PDELAY_REQ_SEND
    ∀ (s : State) (port phase : Nat),
      port < 6 →
      s.b.portUp port = true →
      72 ≤ (s.b.rd (Reg.MAC_MAXLEN + 0x1000 * port)).toNat →
      ∃ t, exec (.pdelayReqSend port phase) s = .next t ∧ t.b.tim = { s.b.tim with pdelayReq := s.b.tim.pdelayReq.set port (some (s.b.stamp phase + s.b.txLat port)) } ∧
        t.b.tx = ⟨port, Emit.ptp, [2]⟩ :: s.b.tx ∧ Kept [.tim, .ports, .tx] [] s t) ∧
  (-- ANNOUNCE_SEND
    ∀ (s : State) (port : Nat),
      port < 4 →
      s.b.timSrc ≠ port →
      s.b.portUp port = true →
      82 ≤ (s.b.rd (Reg.MAC_MAXLEN + 0x1000 * port)).toNat →
      ∃ t, exec (.announceSend port) s = .next t ∧
        t.b.tx = ⟨port, Emit.ptp, if s.b.isGm then [11, s.b.clockClass] else [11]⟩ :: s.b.tx ∧ Kept [.ports, .tx] [] s t) ∧
  (-- TIM_EVIDENCE_POST
    ∀ (s : State) (slot : Nat),
      exec (.timEvidencePost slot) s = .next (s.putB ((s.b.modTim fun t => { t with rseq := s.b.tim.rseq + 1 }).postEvid
        (mkEvid 6 true (s.b.timState != tmLocked || decide (3 ≤ s.b.devClass)) false false (s.b.tim.rseq + 1) slot s.b.devClass
        (Block.timItems (s.b.modTim fun t => { t with rseq := s.b.tim.rseq + 1 }))))))

/-- SLOT_START, SLOT_CLOSE, DRAM_ROW_FILL and ROW_SETTLE take effect -/
def Obligations.SlotsOpenCloseFillAndSettle : Prop :=
  (-- SLOT_START
    ∀ (s : State) (sl code : Nat) (b1 b2 b3 b4 b5 b6 : Block) (q : SlotBudget) (d : Nat),
      s.b.slotsRun = true →
      s.b.tim.stepDue = none →
      sl ≤ s.b.tai →
      code = s.b.codeAt sl →
      onGrid (cadenceOf code) sl = true →
      s.b.follows sl = true →
      (b1 = (Block.dropStore (s.b.modAln fun a => { a with slots := a.slots.filter fun x => !(x.phase == 0 && x.dl.isNone && decide (x.s < sl)) })).openSlot sl) →
      q = b1.slotBudget code →
      (b2 = ((b1.waitNow q).modAln fun a => { a with slots := a.slots.map fun x => if x.s ≤ slotBefore (cadenceOf code) sl 16 then { x with frame := none } else x })) →
      (b3 = b2.modSlot sl fun x => x.start b2 q code (max (sl + q.w * tickUs) (b2.aln.lastD + tickMs))) →
      d = ((b3.slot sl).bind Slot.dl).getD 0 →
      (b4 = (b3.modAln fun a => { a with lastS := some sl, lastD := d })) →
      (b5 = b4.ing.spokes.foldl (fun b x => b.holdInto sl x) b4) →
      (b6 = b5.modGrd fun u => { u with sched := ((sl, d) :: b5.grd.sched).take 256 }) →
      exec (.slotStart sl) s = .next (s.putB (if b6.leadsSlots then b6.tdmSend [2, sl, d] else b6))) ∧
  (-- SLOT_CLOSE
    ∀ (s : State) (sl run : Nat) (reads : DramReads) (x : Slot) (b1 b2 b3 b4 : Block) (early step inc prevOvr : Bool) (miss : Nat),
      s.b.slot sl = some x →
      s.b.slotsRun = true →
      s.b.closable x = true →
      step = s.b.tim.stepDue.isSome →
      early = (x.early || (!step && decide (s.b.tai < x.dl.getD 0))) →
      (miss = s.b.members.countP fun n => !x.bitmap.contains n) →
      (prevOvr = ((s.b.closedBefore sl).map fun p => p.ovr != 0).getD false) →
      (b1 = ((s.b.dramReads sl reads).modSlot sl fun x => x.close (s.b.dramReads sl reads) miss early step).freezeUnion sl) →
      (b2 = if early then b1.bump Reg.ALN_CNT_EARLY_CLOSE else b1) →
      b3 = ((if miss = 0 then b2 else b2.missBump).closeEffects sl step).fastFill sl →
      (b4 = b3.modSlot sl fun x => { x with due := b3.framesDue sl x.code }) →
      inc = ((b4.slot sl).map Slot.incomplete).getD false →
      exec (.slotClose sl run reads) s = .next (s.putB (((b4.modTdm fun u => { u with lastInc := inc, incRun := if inc then b4.tdm.incRun + 1 else 0 }).postAln
        sl (!s.b.members.isEmpty) prevOvr).finishStage sl 0 run))) ∧
  (-- DRAM_ROW_FILL
    ∀ (s : State) (sl : Nat) (reads : DramReads) (x : Slot),
      s.b.slot sl = some x →
      x.phase ≠ 0 →
      exec (.dramRowFill sl reads) s = .next (s.putB ((s.b.dramReads sl reads).fillRow sl))) ∧
  (-- ROW_SETTLE
    ∀ (s : State) (sl : Nat) (x : Slot) (b1 b2 : Block),
      s.b.slot sl = some x →
      x.phase = 1 →
      x.fillDone = true →
      (x.stepClose || decide (x.dl.getD 0 + x.hzn ≤ s.b.tai)) = true →
      (b1 = s.b.modSlot sl fun x => { x with phase := 2 }) →
      (b2 = Block.dropOld (if x.amends = 0 then b1 else ((b1.modAln fun a => { a with aseq := (a.aseq + 1) % 2 ^ 32 }).event 0 noticeAdmits (settleNotice s.b.aln.aseq sl x.amends)))) →
      exec (.rowSettle sl) s = .next (s.putB (if (b2.slot sl).map Slot.phase = some 2 then b2.finalAmends sl else b2)))

/-- WAIT_BUDGET_UPDATE, WAIT_LIMIT_WRITE, CADENCE_SET, CADENCE_CODE_WRITE and CADENCE_APPLY take effect -/
def Obligations.WaitBudgetAndCadenceCommandsTakeEffect : Prop :=
  (-- WAIT_BUDGET_UPDATE
    ∀ (s : State) (target w w' : Nat),
      s.b.ing.spokes.any (·.member) = true →
      target = s.b.largestP99 * (100 + s.b.fld F.ALN_WAIT_CTRL_MARGIN_PCT) / 100 + 100 * s.b.fld F.ALN_WAIT_CTRL_MARGIN_ABS →
      (w = if s.b.aln.wSet then s.b.aln.w else s.b.waitMax) →
      (w' = if w ≤ target then target else w - (w - target) >>> clampNat 1 8 (s.b.fld F.ALN_WAIT_CTRL_DECAY_SH)) →
      exec .waitBudgetUpdate s = .next (s.putB (s.b.modAln fun a => { a with w := clampNat s.b.waitMin s.b.waitMax w', wSet := true }))) ∧
  (-- WAIT_BUDGET_UPDATE without a critical set
    ∀ (s : State),
      s.b.ing.spokes.any (·.member) = false →
      s.b.aln.wSet = false →
      exec .waitBudgetUpdate s = .next (s.putB (s.b.modAln fun a => { a with w := clampNat s.b.waitMin s.b.waitMax s.b.waitMax, wSet := true }))) ∧
  (-- WAIT_LIMIT_WRITE minimum
    ∀ (s : State) (acc : Nat) (value : W32),
      s.b.mayWrite s.key acc roleEng true = yOk →
      clampNat 500 250000 (bits value 17 0) ≤ s.b.waitMax →
      exec (.waitLimitWrite acc 0 value) s = .next (s.putB ((s.b.put F.ALN_WAIT_MIN_MIN (clampNat 500 250000 (bits value 17 0))).put F.ALN_WAIT_MAX_MAX s.b.waitMax))) ∧
  (-- WAIT_LIMIT_WRITE maximum
    ∀ (s : State) (acc : Nat) (value : W32),
      s.b.mayWrite s.key acc roleEng true = yOk →
      s.b.waitMin ≤ clampNat 500 250000 (bits value 17 0) →
      exec (.waitLimitWrite acc 1 value) s = .next (s.putB ((s.b.put F.ALN_WAIT_MIN_MIN s.b.waitMin).put F.ALN_WAIT_MAX_MAX (clampNat 500 250000 (bits value 17 0))))) ∧
  (-- WAIT_LIMIT_WRITE crossed limits
    ∀ (s : State) (acc : Nat) (value : W32),
      s.b.mayWrite s.key acc roleEng true = yOk →
      s.b.waitMax < clampNat 500 250000 (bits value 17 0) →
      exec (.waitLimitWrite acc 0 value) s = .next (s.putB (s.b.put F.ALN_STAT_CFG_ERR 1))) ∧
  (-- CADENCE_SET
    ∀ (s : State) (h : Hdr) (code : Nat),
      Ready s h 0x0301 ⟨some roleEng, true⟩ →
      s.b.topState = stRun ∨ s.b.topState = stMaint →
      code < 14 →
      (s.b.ycpTake s.key h 0x0301).cadenceFits (cadenceOf code) = true →
      exec (.cadenceSet h code) s = .next (s.answer h 0x0301 yOk (beBytes 6 ((s.b.tai + 2 * tickS + tickS - 1) / tickS)) fun b =>
        ((b.put F.ALN_CADENCE_CODE code).modAln fun a => { a with cadPend := a.cadPend ++ [(code, (s.b.tai + 2 * tickS + tickS - 1) / tickS)] }).put F.ALN_CADENCE_PEND 1)) ∧
  (-- CADENCE_CODE_WRITE
    ∀ (s : State) (acc code : Nat),
      s.b.mayWrite s.key acc roleEng true = yOk →
      s.b.topState = stRun ∨ s.b.topState = stMaint →
      code < 14 →
      s.b.cadenceFits (cadenceOf code) = true →
      exec (.cadenceCodeWrite acc code) s = .next (s.putB
        (((s.b.put F.ALN_CADENCE_CODE code).modAln fun a => { a with cadPend := a.cadPend ++ [(code, (s.b.tai + 2 * tickS + tickS - 1) / tickS)] }).put F.ALN_CADENCE_PEND 1))) ∧
  (-- CADENCE_APPLY
    ∀ (s : State) (code t : Nat) (rest : List (Nat × Nat)) (b1 b2 : Block),
      s.b.aln.cadPend = (code, t) :: rest →
      t * tickS ≤ s.b.tai →
      (b1 = (((s.b.modAln fun a => { a with cadPend := rest }).put F.ALN_CADENCE_ACTIVE code).putFlag F.ALN_CADENCE_PEND (!rest.isEmpty))) →
      (b2 = b1.setSpokes (b1.ing.spokes.map fun x => if x.type = 2 ∨ x.type = 4 ∨ x.type = 5 then { x with cur := x.cur.map fun v => { v with fs8 := 8 * cadenceOf code } } else x)) →
      exec .cadenceApply s = .next (s.putB (b2.islRestart.note 0x0506 (s.b.fld F.ALN_CADENCE_ACTIVE) code (t % 2 ^ 32)).suspendOuts))

/-- Output sets: data and amendment frames, definition, commands, redefinition, window -/
def Obligations.OutputSetCommandsTakeEffect : Prop :=
  (-- OUTSET_DATA_FRAME
    ∀ (s : State) (set sl : Nat) (x y : Slot) (b1 : Block),
      s.b.slot sl = some x →
      x.due.contains set = true →
      5 ≤ x.stage →
      (b1 = (s.b.fillRow sl).modSlot sl fun x => { x with due := x.due.filter (· != set) }) →
      b1.slot sl = some y →
      (b1.out set).state = 2 →
      exec (.outsetDataFrame set sl) s = .next (s.putB (b1.sendFrame (b1.out set) y (b1.out set).dataPort))) ∧
  (-- OUTSET_AMEND_FRAME
    ∀ (s : State) (set sl : Nat) (x y : Slot) (b1 : Block),
      s.b.slot sl = some x →
      (s.b.out set).amendDue.contains sl = true →
      (s.b.out set).amendPort ≠ 0 →
      (s.b.out set).state = 2 →
      s.b.isShed set = false →
      s.b.amendFree set sl x = true →
      (b1 = (s.b.fillRow sl).modOut set fun o => { o with amendDue := o.amendDue.filter (· != sl), amendAt := if x.phase = 2 then tabDel o.amendAt sl else tabSet o.amendAt sl s.b.now }) →
      b1.slot sl = some y →
      exec (.outsetAmendFrame set sl) s = .next (s.putB (b1.sendFrame (s.b.out set) y (s.b.out set).amendPort))) ∧
  (-- OUTSET_DEFINE final part into a FREE set
    ∀ (s : State) (h : Hdr) (set : Nat) (words : List W32) (entries : List OutEntry) (o : OutSet),
      Ready s h 0x0302 ⟨some roleEng, true⟩ →
      set < 16 →
      (s.b.out set).state = 0 →
      o = OutSet.ofWords words entries (rateExt s.b.f0 (s.b.cadence / max 1 (bits (words.getD 2 0) 23 16))) →
      outListOk o = true →
      outRateOk s.b.cadence (bits (words.getD 2 0) 23 16) = true →
      o.port ≤ 3 →
      s.b.aln.outs.length = 16 →
      exec (.outsetDefine h set 0 true words entries) s = .next (s.answer h 0x0302 yOk (beBytes 1 (if o.autostart then 2 else 1)) fun b =>
        (b.modSess h.session fun x => { x with outStage := none }).modOut set fun _ => { o with state := if o.autostart then 2 else 1 })) ∧
  (-- OUTSET_DEFINE a part that is not the last
    ∀ (s : State) (h : Hdr) (set : Nat) (words : List W32) (entries : List OutEntry),
      Ready s h 0x0302 ⟨some roleEng, true⟩ →
      set < 16 →
      exec (.outsetDefine h set 0 false words entries) s = .next (s.answer h 0x0302 yOk [] fun b =>
        b.modSess h.session fun x => { x with outStage := some ⟨set, 1, words, entries⟩ })) ∧
  (-- OUTSET_COMMAND_FRAME stop and start
    ∀ (s : State) (src : NetSrc) (idcode i : Nat) (o : OutSet),
      ((s.b.aln.outs.zipIdx.find? fun e => e.1.state != 0 && e.1.cmdPort == src.dport && e.1.idcode == idcode && e.1.port == src.port) = some (o, i)) →
      exec (.outsetCommandFrame src idcode 1) s = .next (s.putB (s.b.modOut i fun o => if o.state = 2 then { o with state := 1 } else o)) ∧
        exec (.outsetCommandFrame src idcode 2) s = .next (s.putB (s.b.modOut i fun o => if outRateOk s.b.cadence o.div then { o with state := 2 } else o)) ∧
        exec (.outsetCommandFrame src idcode 6) s = .next (s.putB (s.b.sendCfg o 3 (s.b.cfg2Size o)))) ∧
  (-- OUTSET_REDEFINE_APPLY
    ∀ (s : State) (i t : Nat) (o : OutSet),
      s.b.aln.outPend.getD i none = some (t, o) →
      t ≤ s.b.tai →
      outRateOk s.b.cadence o.div = true →
      exec (.outsetRedefineApply i) s = .next (s.putB ((s.b.modAln fun a => { a with outPend := a.outPend.set i none }).modOut i fun old =>
        { o with state := if o.autostart || old.state == 2 then 2 else 1, cfgcnt := (old.cfgcnt + 1) % 65536, cfg2Ref := old.cfg2Ref, changedUntil := s.b.now + 60 * tickS }))) ∧
  (-- OUTSET_WINDOW_LOAD
    ∀ (s : State) (acc set : Nat),
      s.b.mayWrite s.key acc roleObs false = yOk →
      exec (.outsetWindowLoad acc set) s = .next (s.putB ((s.b.aput acc F.ALN_OUT_SEL_SET set).awrs acc Reg.ALN_OUT_W (s.b.outWords (set % 16)))))

/-- Capture bays: arm, trigger, copy, release, window, read; and the read of a row -/
def Obligations.CaptureAndRowReadCommandsTakeEffect : Prop :=
  (-- CAPTURE_ARM
    ∀ (s : State) (h : Hdr) (bay pre post mask i : Nat),
      Ready s h 0x0303 ⟨some roleEng, true⟩ →
      bay < 8 ∨ bay = 0xFF →
      pre ≤ 600000 →
      post ≤ 600000 →
      s.b.bayFor bay = some i →
      (s.taken h 0x0303).bayMib pre post ≤ (s.taken h 0x0303).poolFree →
      exec (.captureArm h bay pre post 1 mask 0 0 false) s = .next (s.answer h 0x0303 yOk (beBytes 1 i ++ beBytes 2 ((s.taken h 0x0303).bayMib pre post)) fun b =>
        b.modBay i fun _ => { Bay.free with state := 1, trigger := 1, mask := mask % 256, pre := pre, post := post, timeAt := 0, sizeMib := b.bayMib pre post })) ∧
  (-- CAPTURE_ARM release
    ∀ (s : State) (h : Hdr) (bay pre post trigger mask sec ns : Nat),
      Ready s h 0x0303 ⟨some roleEng, true⟩ →
      bay < 8 →
      exec (.captureArm h bay pre post trigger mask sec ns true) s = .next (s.answer h 0x0303 yOk (beBytes 1 bay ++ beBytes 2 0) fun b => b.releaseBay bay)) ∧
  (-- CAPTURE_TRIGGER
    ∀ (s : State) (i sl : Nat) (x : Slot),
      s.b.slot sl = some x →
      s.b.triggers (s.b.bay i) x = true →
      (s.b.bay i).state = 1 →
      exec (.captureTrigger i sl) s = .next (s.putB ((s.b.modBay i fun y => { y with state := 2, trigS := sl }).note 0x0508 i (lt32 sl) (s.b.bay i).trigger))) ∧
  (-- CAPTURE_TRIGGER while TRIGGERED
    ∀ (s : State) (i sl : Nat) (x : Slot),
      s.b.slot sl = some x →
      s.b.triggers (s.b.bay i) x = true →
      (s.b.bay i).state = 2 →
      (s.b.bay i).trigS ≠ sl →
      exec (.captureTrigger i sl) s = .next (s.putB (s.b.bump Reg.ALN_CNT_CAP_RETRIG))) ∧
  (-- CAPTURE_ROW_COPY
    ∀ (s : State) (i : Nat) (reads : DramReads) (x z : Slot) (b1 b2 b3 : Block) (row : List Byte),
      (s.b.bay i).state = 2 →
      b1 = s.b.missRows i (s.b.lostRows (s.b.bay i)) →
      ((b1.aln.slots.find? fun x => decide ((b1.bay i).from_ ≤ x.s ∧ x.s ≤ (b1.bay i).window.2)) = some x) →
      x.phase = 2 →
      b2 = b1.dramReads x.s reads →
      z = (b2.slot x.s).getD x →
      row = b2.rowBytes z (granules z.active) →
      (b1.bay i).used + (row.length - 64) ≤ (b1.bay i).sizeMib * 2 ^ 20 →
      (b3 = b2.modBay i fun y => { y with rows := tabSet y.rows z.s (some row) }) →
      exec (.captureRowCopy i reads) s = .next (s.putB (if b3.bayDone (b3.bay i) then b3.freezeBay s.key i else b3))) ∧
  (-- CAPTURE_RELEASE
    ∀ (s : State) (acc bay : Nat),
      s.b.mayWrite s.key acc roleEng true = yOk →
      exec (.captureRelease acc bay) s = .next (s.putB (s.b.releaseBay (bay % 8)))) ∧
  (-- CAPTURE_WINDOW_LOAD
    ∀ (s : State) (acc bay : Nat),
      s.b.mayWrite s.key acc roleObs false = yOk →
      exec (.captureWindowLoad acc bay) s = .next (s.putB ((s.b.aput acc F.ALN_CAP_SEL_BAY bay).awrs acc Reg.ALN_CAP_W (s.b.bayWords (bay % 8))))) ∧
  (-- CAPTURE_READ
    ∀ (s : State) (h : Hdr) (bay first rows : Nat),
      Ready s h 0x0304 ⟨some roleObs, false⟩ →
      bay < 8 →
      ((slice (s.b.bay bay).rows first rows).flatMap bayRow).length ≤ 2 ^ 24 →
      exec (.captureRead h bay first rows) s = .next (s.putB ((s.answer h 0x0304 yOk ((slice (s.b.bay bay).rows first rows).flatMap bayRow) id).b.markRead h bay))) ∧
  (-- ROW_READ
    ∀ (s : State) (h : Hdr) (slot first grans : Nat) (reads : DramReads) (x y : Slot) (b1 : Block),
      Ready s h 0x0305 ⟨some roleObs, false⟩ →
      ((s.b.aln.slots.find? fun x => x.s % 2 ^ 48 == slot) = some x) →
      b1 = ((s.taken h 0x0305).dramReads x.s reads).fillRow x.s →
      y = (b1.slot x.s).getD x →
      first + grans ≤ (granules (b1.rowRuns y)).length →
      exec (.rowRead h slot first grans reads) s = .next (s.answer h 0x0305 yOk (b1.rowBytes y (slice (granules (b1.rowRuns y)) first grans)) fun b =>
        (b.dramReads x.s reads).fillRow x.s))

/-- FRAME_RECEIVE: length, FCS, MACsec, PRP, sender filter and pool; fragments; PRP supervision -/
def Obligations.ReceivedFramesMeetTheirChecksInOrder : Prop :=
  (-- FRAME_RECEIVE runt
    ∀ (s : State) (p : Nat) (f : RxFrame),
      p < 7 →
      s.b.portUp p = true →
      f.length < 64 →
      exec (.frameReceive p f) s = .next (s.putB (s.b.cntPort p cntRunt 1))) ∧
  (-- FRAME_RECEIVE oversize
    ∀ (s : State) (p : Nat) (f : RxFrame),
      p < 7 →
      s.b.portUp p = true →
      64 ≤ f.length →
      s.b.fld (atPort F.MAC_MAXLEN_LEN p) < f.length →
      exec (.frameReceive p f) s = .next (s.putB (s.b.cntPort p cntOversize 1))) ∧
  (-- FRAME_RECEIVE wrong FCS
    ∀ (s : State) (p : Nat) (f : RxFrame),
      p < 7 →
      s.b.portUp p = true →
      64 ≤ f.length →
      f.length ≤ s.b.fld (atPort F.MAC_MAXLEN_LEN p) →
      f.fcsOk = false →
      exec (.frameReceive p f) s = .next (s.putB (s.b.cntPort p cntFcs 1))) ∧
  (-- FRAME_RECEIVE
    ∀ (s : State) (p : Nat) (f : RxFrame) (b1 : Block),
      p < 7 →
      s.b.portUp p = true →
      64 ≤ f.length →
      f.length ≤ s.b.fld (atPort F.MAC_MAXLEN_LEN p) →
      f.fcsOk = true →
      Block.macsec s.key ((s.b.cntPort p cntRxFrames 1).cntPort p cntRxOctets f.length) p f = (b1, true) →
      exec (.frameReceive p f) s = .next (s.putB (if b1.isDuplicate p f then b1.cntPort p cntPrpDup 1 else (b1.rememberCopy p f).admitFrame p f))) ∧
  (-- a whole datagram of a known sender
    ∀ (b : Block) (p id : Nat) (f : RxFrame),
      (∀ id first adm, f.cls ≠ .fragment id first adm) →
      b.admitFrame p f = if b.knows p f then (b.toPool p (framePrio b p f) f.length f.drained).1 else b.stranger p f) ∧
  (-- REASSEMBLY_TIMEOUT
    ∀ (s : State) (p id : Nat),
      (((s.b.port p).frags.filter fun e => e.1 == id && s.b.since e.2 tickS) ≠ []) →
      exec (.reassemblyTimeout p id) s = .next (s.putB ((s.b.cntPort p cntStranger ((s.b.port p).frags.filter fun e => e.1 == id && s.b.since e.2 tickS).length).modPort p fun x =>
        { x with frags := x.frags.filter fun e => !(e.1 == id && s.b.since e.2 tickS) }))) ∧
  (-- PRP_SUPERVISION_SEND
    ∀ (s : State) (net : Nat),
      net < 2 →
      exec (.prpSupervisionSend net) s = .next (s.putB ((s.b.send (2 * net) Emit.prpSup 64 [net]).send (2 * net + 1) Emit.prpSup 64 [net])))

/-- Pause: repeat, end, receive, expiry, and the watermarks -/
def Obligations.PauseCommandsTakeEffect : Prop :=
  (-- PAUSE_REPEAT
    ∀ (s : State) (p prio : Nat),
      (s.b.port p).pausing.getD prio false = true →
      s.b.loWm p prio < (s.b.port p).pools.getD prio 0 →
      s.b.since ((s.b.port p).pauseAt.getD prio 0) (quantaTicks p (s.b.fld (atPort F.MAC_STAT_RATE p)) 0x8000) = true →
      exec (.pauseRepeat p prio) s = .next (s.putB ((s.b.modPort p fun x => { x with pauseAt := x.pauseAt.set prio s.b.now }).sendPause p (if s.b.linkMode p then 8 else prio) 0xFFFF))) ∧
  (-- PAUSE_END
    ∀ (s : State) (p prio fill : Nat) (b1 : Block),
      (s.b.port p).pausing.getD prio false = true →
      fill ≤ s.b.loWm p prio →
      s.b.linkMode p = false →
      (b1 = (s.b.modPort p fun x => { x with pools := x.pools.set prio fill }).modPort p fun x => { x with pausing := x.pausing.set prio false }) →
      (((s.b.modPort p fun x => { x with pools := x.pools.set prio fill }).port p).pausing = (s.b.port p).pausing) →
      exec (.pauseEnd p prio fill) s = .next (s.putB ((b1.sendPause p prio 0).showPausing p))) ∧
  (-- PAUSE_RECEIVE of one priority
    ∀ (s : State) (p i quanta : Nat),
      p < 6 →
      s.b.portUp p = true →
      i < 7 →
      exec (.pauseReceive p false (2 ^ i) quanta) s = .next (s.putB (if (s.b.fld (atPort F.MAC_PFC_OBEY_EN p)).testBit i then
        (s.b.cntPort p cntPauseRx 1).holdPrio p i (quantaTicks p (s.b.fld (atPort F.MAC_STAT_RATE p)) ((quanta >>> (16 * i)) % 65536)) else s.b.cntPort p cntPauseRx 1))) ∧
  (-- PAUSE_EXPIRY
    ∀ (s : State) (p prio : Nat),
      0 < (s.b.port p).heldTo.getD prio 0 →
      (s.b.port p).heldTo.getD prio 0 ≤ s.b.now →
      exec (.pauseExpiry p prio) s = .next (s.putB (s.b.holdPrio p prio 0))) ∧
  (-- WATERMARK_WRITE
    ∀ (s : State) (acc p pool hi lo : Nat),
      s.b.mayWrite s.key acc roleEng true = yOk →
      p < 6 →
      pool < 8 →
      lo < hi →
      hi ≤ poolKib p →
      exec (.watermarkWrite acc p pool hi lo) s = .next (s.putB (s.b.wr (Reg.MAC_POOL0_WM + 0x1000 * p + 4 * pool) (BitVec.ofNat 32 (hi * 65536 + lo))))) ∧
  (-- WATERMARK_WRITE out of range
    ∀ (s : State) (acc p pool hi lo : Nat),
      s.b.mayWrite s.key acc roleEng true = yOk →
      p < 6 →
      pool < 8 →
      hi ≤ lo ∨ poolKib p < hi →
      exec (.watermarkWrite acc p pool hi lo) s = .next (s.putB (s.b.put (atPort F.MAC_STAT_CFG_ERR p) 1)))

/-- Links, rate step-down, the stranger table's clear and the statistics snapshot -/
def Obligations.LinkAndRateCommandsTakeEffect : Prop :=
  (-- UTILISATION_MEASURE
    ∀ (s : State) (p rx tx : Nat) (b1 : Block),
      s.b.stepPort p = true →
      s.b.portUp p = true →
      (s.b.port p).reneg = none →
      0 < s.b.fld (atPort F.MAC_STAT_RATE p) →
      s.b.fld (atPort F.MAC_STEP_HIGH_UTIL p) * rateOctets (s.b.fld (atPort F.MAC_STAT_RATE p)) < max rx tx * 10 →
      s.b.stepFree p = true →
      (b1 = s.b.modPort p fun x => { x with dwell := (if s.b.fld (atPort F.MAC_STAT_RATE p) < 3 ∧ max rx tx * 10 < s.b.fld (atPort F.MAC_STEP_LOW_UTIL p) * rateOctets (s.b.fld (atPort F.MAC_STAT_RATE p) + 1) then (s.b.port p).dwell + 1 else 0), hiCross := false }) →
      b1.stepFree p = s.b.stepFree p →
      exec (.utilisationMeasure p rx tx) s = .next (s.putB (b1.renegotiate p (s.b.fld (atPort F.MAC_STAT_RATE p) - 1)
        ((max rx tx * 1000 + rateOctets (s.b.fld (atPort F.MAC_STAT_RATE p)) / 2) / rateOctets (s.b.fld (atPort F.MAC_STAT_RATE p)))))) ∧
  (-- LINK_UP
    ∀ (s : State) (p rate : Nat),
      p < 4 →
      s.b.portOn p = true →
      s.b.flag (atPort F.MAC_CTRL_EN p) = true →
      s.b.flag (atPort F.MAC_STAT_LINK p) = false →
      s.b.rateSupported p rate = true →
      (s.b.port p).reneg = none →
      exec (.linkUp p rate true) s = .next (s.putB ((((( s.b.put (atPort F.MAC_STAT_LINK p) 1).put (atPort F.MAC_STAT_RATE p) rate).putFlag (atPort F.MAC_STAT_SEC_UP p) false).modPort p fun x =>
        { x with dwell := 0, steadyAt := s.b.now, reneg := none }).note 0x0301 p 1 rate))) ∧
  (-- LINK_DOWN
    ∀ (s : State) (p : Nat),
      p < 7 →
      s.b.flag (atPort F.MAC_STAT_LINK p) = true →
      (if p < 4 then (s.b.port (mate p)).reneg else none) = none →
      ((s.b.dropLink p).port (mate p)).reneg = (s.b.port (mate p)).reneg →
      exec (.linkDown p) s = .next (s.putB (s.b.dropLink p))) ∧
  (-- NET_STEP_FAIL
    ∀ (s : State) (p : Nat) (r : Reneg),
      (s.b.port p).reneg = some r →
      r.deadline ≤ s.b.now →
      exec (.netStepFail p) s = .next (s.putB (((((s.b.advertise p ((List.range 4).filter (· ≤ s.b.stepFloor p))).put (atPort F.MAC_STEP_STAT_BUSY p) 0).put
        (atPort F.MAC_STEP_STAT_FAIL p) 1).modPort p fun x => { x with reneg := none }).note 0x0303 p r.toRate))) ∧
  (-- STRANGER_CLEAR
    ∀ (s : State) (acc p : Nat),
      s.b.mayWrite s.key acc roleOpr false = yOk →
      exec (.strangerClear acc p) s = .next (s.putB (s.b.modPort p fun x => { x with strangers := [] }))) ∧
  (-- SNAPSHOT
    ∀ (s : State) (acc ports : Nat) (clr : Bool) (b1 : Block),
      s.b.mayWrite s.key acc roleOpr false = yOk →
      (b1 = ((List.range 7).filter ports.testBit).foldl (fun b p => b.snapPort clr p) ((s.b.put F.MAC_SNAP_CTRL_PORTS ports).putFlag F.MAC_SNAP_CTRL_CLR_ON_SNAP clr)) →
      exec (.snapshot acc ports clr) s = .next (s.putB ((((b1.wr Reg.MAC_SNAP_LT_LO (BitVec.ofNat 32 (b1.tai % 2 ^ 48))).wr Reg.MAC_SNAP_LT_HI
        (BitVec.ofNat 32 (b1.tai % 2 ^ 48 / 2 ^ 32)))).wr Reg.MAC_SNAP_SEQ ((((b1.wr Reg.MAC_SNAP_LT_LO (BitVec.ofNat 32 (b1.tai % 2 ^ 48))).wr Reg.MAC_SNAP_LT_HI
        (BitVec.ofNat 32 (b1.tai % 2 ^ 48 / 2 ^ 32)))).rd Reg.MAC_SNAP_SEQ + 1))))

/-- C37.118 data, configuration and header frames, SV frames, configuration requests, SILENT -/
def Obligations.C37FramesAndRequestsTakeEffect : Prop :=
  (-- C37_DATA_FRAME over TCP, unknown source, wrong sync
    ∀ (s : State) (d : C37Data),
      (d.tcp = true → exec (.c37DataFrame d) s = .next (s.putB (s.b.bump Reg.ING_CNT_TCP_DATA))) ∧
        (d.tcp = false → (s.b.ing.spokes.filter fun x => x.type == 1 && x.fromSrc d.src && x.dataPort == d.src.dport) = [] →
        exec (.c37DataFrame d) s = .next (s.putB (s.b.bump Reg.ING_CNT_NO_SPOKE)))) ∧
  (-- C37_DATA_FRAME
    ∀ (s : State) (d : C37Data) (cands : List Spoke),
      d.tcp = false →
      (cands = s.b.ing.spokes.filter fun x => x.type == 1 && x.fromSrc d.src && x.dataPort == d.src.dport) →
      d.sync = 0xAA →
      d.ftype = 0 →
      d.version = 1 ∨ d.version = 2 →
      d.frameSize = d.len →
      d.crcOk = true →
      ((cands.filter fun x => x.idcode == d.idcode) ≠ []) →
      exec (.c37DataFrame d) s = .next (s.putB ((cands.filter fun x => x.idcode == d.idcode).foldl (fun b x => b.c37Block x d) s.b))) ∧
  (-- C37_CONFIG_FRAME
    ∀ (s : State) (src : NetSrc) (idcode kind : Nat) (cfg : Option CfgFrame) (cands : List Spoke),
      kind = 2 ∨ kind = 3 →
      (cands = s.b.ing.spokes.filter fun x => x.type == 1 && x.fromSrc src && (x.dataPort == src.dport || x.cmdPort == src.dport)) →
      cands ≠ [] →
      exec (.c37ConfigFrame src idcode kind cfg) s = .next (s.putB ((cands.filter fun x => x.idcode == idcode && x.state != 5).foldl (fun b x => b.cfgFor x.num cfg) s.b))) ∧
  (-- C37_HEADER_FRAME
    ∀ (s : State) (src : NetSrc) (idcode : Nat) (text : List Byte),
      ((s.b.ing.spokes.any fun x => x.type == 1 && x.fromSrc src && (x.dataPort == src.dport || x.cmdPort == src.dport)) = true) →
      exec (.c37HeaderFrame src idcode text) s = .next (s.putB (s.b.setSpokes (s.b.ing.spokes.map fun x =>
        if (x.type == 1 && x.fromSrc src && (x.dataPort == src.dport || x.cmdPort == src.dport)) && x.idcode == idcode then { x with header := text.take 1024 } else x)))) ∧
  (-- CFG_REQUEST_TIMEOUT of a CFG-3 request
    ∀ (s : State) (n : Nat) (x : Spoke),
      s.b.spoke n = some x →
      x.reqKind = 3 →
      s.b.since x.reqAt (2 * tickS) = true →
      exec (.cfgRequestTimeout n) s = .next (s.putB (s.b.requestCfg n 2))) ∧
  (-- CFG_REQUEST_TIMEOUT of a CFG-2 request
    ∀ (s : State) (n : Nat) (x : Spoke),
      s.b.spoke n = some x →
      x.reqKind = 2 →
      s.b.since x.reqAt (2 * tickS) = true →
      x.tries + 1 < max 1 (s.b.fld F.ING_CTRL_CFG_TRIES) →
      exec (.cfgRequestTimeout n) s = .next (s.putB ((s.b.modSpoke n fun x => { x with tries := x.tries + 1 }).requestCfg n 3))) ∧
  (-- CFG_RETRY
    ∀ (s : State) (n : Nat) (x : Spoke),
      s.b.spoke n = some x →
      x.type = 1 →
      x.state = 1 ∨ x.state = 4 →
      x.reqKind = 0 →
      s.b.since x.retryAt (10 * tickS) = true →
      exec (.cfgRetry n) s = .next (s.putB ((s.b.modSpoke n fun x => { x with retryAt := s.b.now }).fetchCfg n))) ∧
  (-- SPOKE_SILENT
    ∀ (s : State) (n : Nat) (x : Spoke),
      s.b.spoke n = some x →
      x.state = 2 →
      s.b.since x.heardAt (x.silentTmo * tickMs) = true →
      exec (.spokeSilent n) s = .next (s.putB ((s.b.modSpoke n fun x => { x with state := 3, silentAt := s.b.now, critWhy := 4 }).note 0x0405 n (lt32 x.lastArr)))) ∧
  (-- SV_FRAME without a spoke
    ∀ (s : State) (f : SvFrame),
      ((s.b.ing.spokes.find? fun x => x.type == 2 && x.idcode == f.appid && x.svidHash == crc32c f.svid) = none) →
      exec (.svFrame f) s = .next (s.putB (s.b.bump Reg.ING_CNT_SV_REJ))) ∧
  (-- SV_FRAME
    ∀ (s : State) (f : SvFrame) (x : Spoke) (v : SpVer) (b1 b2 : Block) (g : Spoke × Nat),
      ((s.b.ing.spokes.find? fun x => x.type == 2 && x.idcode == f.appid && x.svidHash == crc32c f.svid) = some x) →
      x.cur = some v →
      f.inScope = true →
      f.src.port = 1 →
      f.sim = false →
      x.state = 2 →
      v.conf = 0 ∨ v.conf = f.confRev →
      (b1 = if v.conf = 0 then s.b.modSpoke x.num fun x => { x with cur := some { v with conf := f.confRev } } else s.b) →
      g = x.svGap f (tickS / b1.f0) →
      (b2 = (b1.modSpoke x.num fun x => { x with svMiss := g.1.svMiss, svGapTo := g.1.svGapTo }).cntSpoke x.num spSampleGap g.2) →
      exec (.svFrame f) s = .next (s.putB ((f.out.filter fun o => decide (g.1.svGapTo < o.1)).foldl (fun b o =>
        b.takeReport x.num true ⟨o.1, f.arrival / 8, (f.arrival : Int) - ((o.1 * 8 : Nat) : Int), 0, if f.synch = 2 then min 4 (f.declared.getD 1) else 4, 0, o.2, true⟩) b2)))

/-- Spoke definition, removal, status, windows and the work of each second -/
def Obligations.SpokeCommandsTakeEffect : Prop :=
  (-- SPOKE_DEFINE
    ∀ (s : State) (h : Hdr) (n : Nat) (words : List W32) (svid : List Byte) (b1 : Block),
      Ready s h 0x0201 ⟨some roleEng, true⟩ →
      svid.length ≤ 64 →
      n < 4096 →
      bits (words.getD 14 0) 1 0 ≠ 0 →
      s.b.spoke n = none →
      ctxOk (mergeCtx ctxDefaults words) = true →
      (Spoke.fresh n (mergeCtx ctxDefaults words) svid).type = 1 →
      (b1 = ((((s.taken h 0x0201).setSpokes (((s.taken h 0x0201).ing.spokes.filter fun y => decide (y.num < n)) ++ [Spoke.fresh n (mergeCtx ctxDefaults words) svid] ++
  (s.taken h 0x0201).ing.spokes.filter fun y => decide (n < y.num))).modSpoke n fun x => { x with state := 1 }).note 0x0401 n 1 0).fetchCfg n) →
      exec (.spokeDefine h n words svid) s = .next (s.answer h 0x0201 yOk (beBytes 1 (((b1.spoke n).map Spoke.ver).getD 0)) fun _ => b1)) ∧
  (-- SPOKE_REMOVE
    ∀ (s : State) (h : Hdr) (n : Nat) (x : Spoke),
      Ready s h 0x0202 ⟨some roleEng, true⟩ →
      s.b.spoke n = some x →
      x.state ≠ 5 →
      exec (.spokeRemove h n) s = .next (s.answer h 0x0202 yOk [] fun b =>
        (((b.commandPmu x 1).takeBack x).modSpoke n fun x => { x with state := 5, removeAt := b.tai, critWhy := 4, reqKind := 0 }).note 0x0402 n x.ver)) ∧
  (-- SPOKE_STATUS
    ∀ (s : State) (h : Hdr) (n opt : Nat),
      Ready s h 0x0203 ⟨some roleObs, false⟩ →
      n < 4096 →
      exec (.spokeStatus h n opt) s = .next (s.answer h 0x0203 yOk (wordBytes ((s.taken h 0x0203).ctxWords n) ++ (if opt % 2 = 1 then wordBytes ((s.taken h 0x0203).histWords n) else [])
        ++ (if opt / 2 % 2 = 1 then (((s.taken h 0x0203).spoke n).map Spoke.header).getD [] else [])) id)) ∧
  (-- SPOKE_CONTEXT_LOAD
    ∀ (s : State) (acc n : Nat),
      s.b.mayWrite s.key acc roleObs false = yOk →
      exec (.spokeContextLoad acc n) s = .next (s.putB (((s.b.aput acc F.ING_CTX_SEL_SPOKE (n % 4096)).awrs acc Reg.ING_CTX_W (s.b.ctxWords (n % 4096))).awrs acc Reg.ING_HIST_B (s.b.histWords (n % 4096))))) ∧
  (-- SPOKE_CONTEXT_COMMIT
    ∀ (s : State) (acc n st : Nat) (b1 b2 : Block),
      b1 = s.b.aput acc F.ING_CTX_SEL_SPOKE (n % 4096) →
      b1.mayWrite s.key acc roleEng true = yOk →
      b1.setSpoke (n % 4096) ((sessionOf acc).getD 0xFF) (b1.ards acc Reg.ING_CTX_W 18) [] = (st, b2) →
      exec (.spokeContextCommit acc n) s = .next (s.putB (if st = yBusy then (b2.aput acc F.ING_CTX_SEL_ERR (errCode st)).aput acc F.ING_CTX_SEL_ERR 4 else b2.aput acc F.ING_CTX_SEL_ERR (errCode st)))) ∧
  (-- CHANNEL_DESC_LOAD
    ∀ (s : State) (acc n ch : Nat) (b1 : Block),
      s.b.mayWrite s.key acc roleObs false = yOk →
      b1 = (s.b.aput acc F.ING_CH_SEL_SPOKE (n % 4096)).aput acc F.ING_CH_SEL_CH (ch % 64) →
      exec (.channelDescLoad acc n ch) s = .next (s.putB (b1.awrs acc Reg.ING_CH_DESC (b1.descWords (n % 4096) (ch % 64))))) ∧
  (-- HIST_DECAY
    ∀ (s : State),
      s.b.since s.b.ing.decayAt (clampNat 1 3600 (s.b.fld F.ING_CTRL_HIST_DECAY) * tickS) = true →
      exec .histDecay s = .next (s.putB (s.b.modIng fun _ => { spokes := s.b.ing.spokes.map fun x => { x with hist := x.hist.map (· / 2), latMax := none }, decayAt := s.b.now }))) ∧
  (-- PERCENTILE_UPDATE
    ∀ (s : State) (b1 b2 : Block),
      b1 = s.b.setSpokes (s.b.ing.spokes.map s.b.secondOf) →
      (b2 = Block.dropOld (b1.ing.spokes.foldl (fun b x => b.missing x) b1)) →
      exec .percentileUpdate s = .next (s.putB (b2.ing.spokes.foldl Block.takePending b2)))

/-- OVERLOAD_DETECT, RANGE_UP, SETTLE_END and MODULATOR_FAULT take effect -/
def Obligations.RangesSettlingAndFaultsTakeEffect : Prop :=
  (-- OVERLOAD_DETECT lower
    ∀ (s : State) (ch fits : Nat),
      s.b.afeOn = true →
      ch < 8 →
      s.b.autoRange ch = true →
      fits < s.b.range ch →
      exec (.overloadDetect ch fits false) s = .next (s.putB ((s.b.lowerTo ch fits (s.b.range ch)).rangeSettle ch))) ∧
  (-- OVERLOAD_DETECT clip
    ∀ (s : State) (ch fits : Nat),
      s.b.afeOn = true →
      ch < 8 →
      s.b.autoRange ch = false →
      exec (.overloadDetect ch fits true) s = .next (s.putB ((s.b.modFlt fun x => { x with clipSeen := true }).bump Reg.AFE_CNT_CLIP))) ∧
  (-- RANGE_UP
    ∀ (s : State) (ch cycles : Nat),
      s.b.afeOn = true →
      ch < 8 →
      s.b.autoRange ch = true →
      s.b.range ch < 2 →
      max 10 (s.b.fld (F.AFE_CH_CFG_DOWN_CYC.at (4 * ch))) ≤ cycles →
      exec (.rangeUp ch cycles) s = .next (s.putB ((s.b.setRange ch (s.b.range ch + 1)).rangeSettle ch))) ∧
  (-- SETTLE_END
    ∀ (s : State) (lane t : Nat),
      s.b.flt.settle.getD lane none = some t →
      s.b.since t settleTicks = true →
      s.b.flt.rot = none →
      exec (.settleEnd lane) s = .next (s.putB (s.b.modFlt fun x => { x with settle := x.settle.set lane none, settleSeen := true }))) ∧
  (-- MODULATOR_FAULT
    ∀ (s : State) (m cause : Nat),
      s.b.afeOn = true →
      m < 8 →
      s.b.faulty m = false →
      s.b.flt.swapCh = none →
      s.b.flt.rot = none →
      (((s.b.setFault m).note 0x0603 m cause).faulty 8 || ((s.b.setFault m).note 0x0603 m cause).fld F.AFE_STAT_SPARE_PHASE == 8) = false →
      exec (.modulatorFault m cause) s = .next (s.putB (((s.b.setFault m).note 0x0603 m cause).swapIn m))) ∧
  (-- MODULATOR_FAULT with the spare used
    ∀ (s : State) (m cause : Nat),
      s.b.afeOn = true →
      m < 8 →
      s.b.faulty m = false →
      s.b.flt.swapCh.isSome = true →
      exec (.modulatorFault m cause) s = .next (s.putB ((s.b.setFault m).note 0x0603 m cause)))

/-- ROTATION_START, ROTATION_PHASE_ADVANCE, TRIM_STEP and CAL_QUEUE take effect -/
def Obligations.RotatingCalibrationTakesEffect : Prop :=
  (-- ROTATION_START
    ∀ (s : State) (ch : Nat),
      s.b.mayRotate = true →
      s.b.since s.b.flt.rotAt (s.b.fld F.FLT_CAL_CTRL_INTERVAL * tickS) = true →
      s.b.flt.queued = none →
      s.b.flt.inTurn = some ch →
      exec .rotationStart s = .next (s.putB ((s.b.modFlt fun x => { x with rot := some ⟨ch, 1, s.b.now + 450 * tickMs, true, 0, 0, none⟩, rotAt := s.b.now, queued := none, nextCh := (ch + 1) % 8 }).spareStat 1 0xF))) ∧
  (-- ROTATION_START with a request
    ∀ (s : State) (ch : Nat),
      s.b.mayRotate = true →
      s.b.since s.b.flt.rotAt (s.b.fld F.FLT_CAL_CTRL_INTERVAL * tickS) = true →
      s.b.flt.queued = some ch →
      s.b.flt.barred.contains ch = false →
      exec .rotationStart s = .next (s.putB ((s.b.modFlt fun x => { x with rot := some ⟨ch, 1, s.b.now + 450 * tickMs, true, 0, 0, none⟩, rotAt := s.b.now, queued := none }).spareStat 1 0xF))) ∧
  (-- ROTATION_PHASE_ADVANCE
    ∀ (s : State) (r : Rotation) (g o : Int),
      s.b.flt.rot = some r →
      r.next ≤ s.b.now →
      r.swap = none →
      (r.phase = 1 → exec (.rotationPhaseAdvance true g o) s = .next (s.putB ((s.b.modTrims fun t => t.adjust 8 g o).rotTo 2 0xF 2 r)) ∧
        exec (.rotationPhaseAdvance false g o) s = .next (s.putB (((s.b.modFlt fun x => { x with rot := none }).spareStat 0 0xF).calFail 8 1))) ∧
        (r.phase = 2 → exec (.rotationPhaseAdvance true g o) s = .next (s.putB (s.b.rotTo 3 0xF 200 r))) ∧
        (r.phase = 3 → exec (.rotationPhaseAdvance true g o) s = .next (s.putB (s.b.rotTo 4 r.ch 452 r))) ∧
        (r.phase = 4 → exec (.rotationPhaseAdvance true g o) s = .next (s.putB (s.b.rotTo 5 r.ch 2 { r with gainPpm := g, offsetUv := o })) ∧
        exec (.rotationPhaseAdvance false g o) s = .next (s.putB ((s.b.calFail r.ch 4).rotTo 5 r.ch 2 { r with ok := false }))) ∧
        (r.phase = 5 → exec (.rotationPhaseAdvance true g o) s = .next (s.putB (s.b.rotTo 6 r.ch 200 r))) ∧
        (r.phase = 6 → exec (.rotationPhaseAdvance true g o) s = .next (s.putB (s.b.endRot r)))) ∧
  (-- TRIM_STEP
    ∀ (s : State) (m : Nat) (r rest : TrimRamp),
      ((s.b.flt.ramps.find? fun y => y.modl == m) = some r) →
      r.nextAt ≤ s.b.now →
      rest = { r with gainPpm := r.gainPpm - stepOf (s.b.fld F.FLT_CAL_CTRL_MAX_STEP) r.gainPpm, offsetUv := r.offsetUv - stepOf 20 r.offsetUv, nextAt := s.b.now + tickS } →
      exec (.trimStep m) s = .next (s.putB (((s.b.modFlt fun x => { x with ramps := x.ramps.filter (fun y => y.modl != m) ++ (if rest.gainPpm = 0 ∧ rest.offsetUv = 0 then [] else [rest]) }).modTrims
        fun t => t.adjust m (stepOf (s.b.fld F.FLT_CAL_CTRL_MAX_STEP) r.gainPpm) (stepOf 20 r.offsetUv)).saveTrims))) ∧
  (-- CAL_QUEUE
    ∀ (s : State) (acc qch : Nat),
      s.b.mayWrite s.key acc roleEng true = yOk →
      qch < 8 →
      exec (.calQueue acc qch) s = .next (s.putB ((s.b.put F.FLT_CAL_CTRL_QCH qch).modFlt fun x => { x with queued := some qch })))

/-- Threshold units, their window, the FLT evidence record, part F and part Q, and the PMU class -/
def Obligations.ThresholdUnitsAndLocalPmuTakeEffect : Prop :=
  (-- THRESHOLD_TRANSITION
    ∀ (s : State) (u at_ : Nat) (on : Bool) (value : W32),
      s.b.afeOn = true →
      u < 32 →
      (s.b.flt.unit u).cfg0.getLsbD 31 = true →
      (s.b.flt.unit u).on = !on →
      s.b.inL1 = false →
      exec (.thresholdTransition u on at_ value) s = .next (s.putB
        (((s.b.modFlt fun x => { x with units := modAt x.units u fun t => { t with on := on, seen := true } }).teState u on).teRecord u on at_ value))) ∧
  (-- TE_LOAD
    ∀ (s : State) (acc u : Nat),
      s.b.mayWrite s.key acc roleObs false = yOk →
      exec (.teLoad acc u) s = .next (s.putB ((s.b.aput acc F.FLT_TE_SEL_UNIT u).awrs acc Reg.FLT_TE_CFG
        [(s.b.flt.unit (u % 32)).cfg0, (s.b.flt.unit (u % 32)).cfg1, (s.b.flt.unit (u % 32)).cfg2]))) ∧
  (-- TE_COMMIT
    ∀ (s : State) (acc u : Nat) (w : W32 × W32 × W32) (b1 : Block),
      s.b.mayWrite s.key acc roleEng true = yOk →
      w = teWords (s.b.ards acc Reg.FLT_TE_CFG 3) →
      bits w.1 23 20 ≠ 8 →
      w.1.getLsbD 31 = false →
      b1 = s.b.aput acc F.FLT_TE_SEL_UNIT u →
      exec (.teCommit acc u) s = .next (s.putB ((b1.modFlt fun x =>
        { x with units := modAt x.units (u % 32) fun t => { t with cfg0 := w.1, cfg1 := w.2.1, cfg2 := w.2.2, on := false } }).teState (u % 32) false))) ∧
  (-- FLT_EVIDENCE_POST
    ∀ (s : State) (sl : Nat),
      exec (.fltEvidencePost sl) s = .next (s.putB ((s.b.postEvid (mkEvid 4 s.b.afeOn (decide (3 ≤ s.b.devClass)) false false s.b.flt.rseq sl s.b.devClass s.b.fltItems)).modFlt fun x =>
        { x with rseq := (x.rseq + 1) % 65536, settleSeen := false, clipSeen := false, units := x.units.map fun t => { t with seen := false } }))) ∧
  (-- ESTIMATOR_REPORT
    ∀ (s : State) (sl invalid srcErr : Nat) (vals : List W64) (lowV lowI : Bool) (b1 : Block),
      s.b.afeOn = true →
      lowV = s.b.belowPct (vals.getD 8 0) Reg.FLT_VNOM 10 →
      lowI = s.b.belowPct (vals.getD 9 0) Reg.FLT_INOM 10 →
      b1 = s.b.putFlag F.FLT_PMU_FREQ_SRC lowV →
      exec (.estimatorReport sl vals invalid srcErr) s = .next (s.putB (b1.localWrite sl false ((List.range 14).map fun i =>
        if lowV ∧ lowI ∧ 12 ≤ i then 0 else b1.localEntry i (invalid.testBit i) (srcErr.testBit i) (vals.getD i 0))))) ∧
  (-- QC_PHASOR_DELIVERY
    ∀ (s : State) (at_ invalid srcErr : Nat) (v1 freq dig0 dig1 : W64) (f : Q) (b1 : Block),
      s.b.afeOn = true →
      s.b.flag F.FLT_PMU_QC_EN = true →
      singleQ (entSingle 2 freq) = some f →
      b1 = s.b.lomEvaluate at_ (entAngle v1) f (s.b.belowPct v1 Reg.FLT_VNOM (s.b.fld F.ISL_BLOCK_V_DIP)) →
      exec (.qcPhasorDelivery at_ v1 freq dig0 dig1 invalid srcErr) s = .next (s.putB ((b1.slotsIn at_ (at_ + tickS / (4 * b1.f0) - 1)).foldl (fun b sl =>
        b.localWrite sl true (List.replicate 14 0 ++ ([qcRotate v1 f (sl - at_), freq, dig0, dig1].zipIdx.map fun p => b.localEntry (14 + p.2) (invalid.testBit p.2) (srcErr.testBit p.2) p.1))) b1))) ∧
  (-- PMU_CLASS_APPLY
    ∀ (s : State) (t : Nat),
      s.b.flt.classAt = some t →
      t ≤ s.b.tai →
      exec .pmuClassApply s = .next (s.putB (s.b.modFlt fun x => { x with classNow := s.b.fld F.FLT_PMU_CLASS, classAt := none })))

/-- SELFTEST, SELFTEST_REQUEST, SELFTEST_COMPLETE, L0_PERIODIC, CALIBRATE and CALIBRATION_COMPLETE take effect -/
def Obligations.SelfTestAndCalibrationTakeEffect : Prop :=
  (-- SELFTEST
    ∀ (s : State) (h : Hdr) (blk level : Nat),
      Ready s h 0x0C01 ⟨some roleMnt, false⟩ →
      level < 3 →
      (s.taken h 0x0C01).testAllowed level = true →
      s.b.afeOn = true →
      s.b.flt.test = none →
      exec (.selftest h blk level) s = .next (s.answer h 0x0C01 yPending [] fun b => b.startTest level (some (h.session, h.tag)))) ∧
  (-- SELFTEST_REQUEST
    ∀ (s : State) (acc level : Nat) (b1 : Block),
      s.b.mayWrite s.key acc roleEng true = yOk →
      level < 3 →
      b1 = s.b.put F.FLT_ST_CTRL_LEVEL level →
      b1.testAllowed level = true →
      b1.afeOn = true →
      b1.flt.test = none →
      exec (.selftestRequest acc level) s = .next (s.putB (b1.startTest level none))) ∧
  (-- SELFTEST_COMPLETE
    ∀ (s : State) (pass : Bool) (fc l t : Nat) (who : Option (Nat × Nat)),
      s.b.flt.test = some (l, t, who) →
      t ≤ s.b.now →
      exec (.selftestComplete pass fc) s = .next (s.putB (s.b.endTest pass fc))) ∧
  (-- the end of a test
    ∀ (b : Block) (pass : Bool) (fc level t : Nat),
      b.flt.test = some (level, t, none) →
      level = 1 →
      b.endTest pass fc = Block.testStat ((b.modFlt fun x => { x with test := none }).put F.FLT_ST_STAT_BUSY 0) level pass fc) ∧
  (-- L0_PERIODIC
    ∀ (s : State) (pass : Bool) (b1 : Block),
      s.b.flag F.FLT_ST_CTRL_L0_EN = true →
      s.b.afeOn = true →
      s.b.testAllowed 0 = true →
      s.b.flt.test = none →
      s.b.since s.b.flt.l0At (max 1 (s.b.fld F.FLT_ST_CTRL_L0_PERIOD) * tickS) = true →
      (b1 = s.b.modFlt fun x => { x with l0At := s.b.now }) →
      exec (.l0Periodic false pass) s = .next (s.putB (b1.bump Reg.FLT_CNT_L0_SKIP)) ∧ exec (.l0Periodic true true) s = .next (s.putB (b1.l0Result true)) ∧
        exec (.l0Periodic true false) s = .next (s.putB ((b1.l0Result false).testStat 0 false ((b1.l0Result false).fld F.FLT_ST_STAT_FAIL_CODE)))) ∧
  (-- CALIBRATE of one channel
    ∀ (s : State) (h : Hdr) (ch : Nat),
      Ready s h 0x0C02 ⟨some roleMnt, false⟩ →
      ch < 8 →
      s.b.topState = stRun ∨ s.b.topState = stWatch →
      s.b.flt.cal = none →
      exec (.calibrate h ch) s = .next (s.answer h 0x0C02 yPending [] fun b => b.modFlt fun x => { x with queued := some ch, cal := some ⟨ch, none, (h.session, h.tag)⟩ })) ∧
  (-- CALIBRATE of all
    ∀ (s : State) (h : Hdr),
      Ready s h 0x0C02 ⟨some roleMnt, false⟩ →
      s.b.topState = stMaint →
      s.b.flt.cal = none →
      exec (.calibrate h 255) s = .next (s.answer h 0x0C02 yPending [] fun b => b.abortRot.modFlt fun x => { x with cal := some ⟨255, some (b.abortRot.now + 452 * tickMs), (h.session, h.tag)⟩ })) ∧
  (-- CALIBRATION_COMPLETE
    ∀ (s : State) (bad : Nat) (trims : List (Int × Int)) (c : CalRun) (t : Nat) (b1 : Block),
      s.b.flt.cal = some c →
      c.at? = some t →
      t ≤ s.b.now →
      c.ch = 255 →
      bad % 512 = 0 →
      (b1 = (s.b.modFlt fun x => { x with cal := none }).fullTrims bad trims) →
      ((List.range 9).filter bad.testBit) = [] →
      exec (.calibrationComplete bad trims) s = .next (s.putB (b1.finish c.who.1 c.who.2 0x0C02 yOk (beBytes 4 (b1.rd Reg.FLT_CAL_STAT).toNat))))

/-- Line cycles, latching, time fallback, pulses, saves, reading and evidence of the energy block -/
def Obligations.EnergyCommandsTakeEffect : Prop :=
  (-- LINE_CYCLE_END
    ∀ (s : State) (c : LineCycle),
      s.b.nrgOn = true →
      s.b.flag F.NRG_STAT_TIME_LATCH = false →
      exec (.lineCycleEnd c) s = .next (s.putB (s.b.addCycle c))) ∧
  (-- TIME_FALLBACK_CYCLE_END
    ∀ (s : State) (c : LineCycle),
      s.b.nrgOn = true →
      s.b.flag F.NRG_STAT_TIME_LATCH = true →
      exec (.timeFallbackCycleEnd c) s = .next (s.putB ((s.b.addCycle c).modNrg fun x => { x with perTime := true }))) ∧
  (-- ENERGY_LATCH
    ∀ (s : State),
      s.b.nrgOn = true →
      s.b.nrg.latchDue = true →
      ∃ t, exec .energyLatch s = .next t ∧ t.b.rd Reg.NRG_CNT_LATCH = BitVec.ofNat 32 (min 0xFFFFFFFF ((s.b.rd Reg.NRG_CNT_LATCH).toNat + 1)) ∧
        t.b = s.b.latchEnergy ∧ t.b.nrg = { s.b.nrg with latchDue := false, cycles := 0, latchN := t.b.nrg.latchN, perTime := false, perSubst := false, perNoload := 0 } ∧
        t.key = s.key ∧ t.pending = s.pending) ∧
  (-- NRG_TIME_LATCH
    ∀ (s : State),
      s.b.nrgOn = true →
      s.b.flag F.NRG_STAT_TIME_LATCH = false →
      exec .nrgTimeLatch s = .next (s.putB (((s.b.put F.NRG_STAT_TIME_LATCH 1).modNrg fun x => { x with cycles := 0 }).note 0x0703 1 (lt32 s.b.tai)))) ∧
  (-- TIME_LATCH_RETURN
    ∀ (s : State) (c : LineCycle),
      s.b.nrgOn = true →
      s.b.flag F.NRG_STAT_TIME_LATCH = true →
      exec (.timeLatchReturn c) s = .next (s.putB ((Block.latchEnergy (((s.b.addCycle c).modNrg fun x => { x with perTime := true }).put F.NRG_STAT_TIME_LATCH 0)).note 0x0703 0
        (lt32 (Block.tai (((s.b.addCycle c).modNrg fun x => { x with perTime := true }).put F.NRG_STAT_TIME_LATCH 0)))))) ∧
  (-- PULSE_OUTPUT rises
    ∀ (s : State) (n : Nat) (b1 : Block) (p : Pulse),
      n < 4 →
      b1 = s.b.pulseFlush n →
      p = b1.nrg.pulses.getD n .reset →
      p.highTo = none →
      0 < p.queue →
      p.lowTo ≤ b1.now →
      exec (.pulseOutput n) s = .next (s.putB (((((b1.modPulse n fun p => { p with queue := p.queue - 1, highTo := some (b1.now + max 10 (b1.fld (F.PUL_CFG_WIDTH.at (8 * n))) * tickMs) }).put F.PUL_STAT_LEVEL
        (b1.fld F.PUL_STAT_LEVEL ||| (1 <<< n))).bump (Reg.PUL_CNT_ + 4 * n)).emit 9 Emit.land [n, 1])))) ∧
  (-- PULSE_OUTPUT falls
    ∀ (s : State) (n t : Nat) (b1 : Block) (p : Pulse),
      n < 4 →
      b1 = s.b.pulseFlush n →
      p = b1.nrg.pulses.getD n .reset →
      p.highTo = some t →
      t ≤ b1.now →
      exec (.pulseOutput n) s = .next (s.putB (((b1.modPulse n fun p => { p with highTo := none, lowTo := t + max 10 (b1.fld (F.PUL_CFG_WIDTH.at (8 * n))) * tickMs }).put F.PUL_STAT_LEVEL
        (b1.fld F.PUL_STAT_LEVEL &&& (0xF - (1 <<< n)))).emit 9 Emit.land [n, 0]))) ∧
  (-- NRG_EVIDENCE_POST
    ∀ (s : State) (sl : Nat),
      exec (.nrgEvidencePost sl) s = .next (s.putB ((s.b.postEvid (mkEvid 5 s.b.nrgOn (decide (3 ≤ s.b.devClass)) false false s.b.nrg.rseq sl s.b.devClass s.b.nrgItems)).modNrg fun x =>
        { x with rseq := (x.rseq + 1) % 65536, evNoload := 0, evSubst := false }))) ∧
  (-- ENERGY_SAVE
    ∀ (s : State),
      s.b.nrgOn = true →
      s.b.since s.b.nrg.saveAt (clampNat 1 60 (s.b.fld F.NRG_SAVE_INTERVAL) * tickS) = true →
      exec .energySave s = .next (s.putB (s.b.saveEnergy 1 s.b.nrg.accs))) ∧
  (-- ENERGY_READ
    ∀ (s : State) (h : Hdr),
      Ready s h 0x0601 ⟨some roleObs, false⟩ →
      exec (.energyRead h false) s = .next (s.answer h 0x0601 yOk (wordBytes (s.taken h 0x0601).nrgGroup) fun b => b.nrgCopy (accOf h.session))) ∧
  (-- ENERGY_READ with clear
    ∀ (s : State) (h : Hdr),
      Ready s h 0x0601 ⟨some roleMnt, false⟩ →
      s.b.topState = stMaint →
      exec (.energyRead h true) s = .next (s.answer h 0x0601 yOk (wordBytes (s.taken h 0x0601).nrgGroup) fun b => (b.nrgCopy (accOf h.session)).zeroEnergy)) ∧
  (-- PULSE_ASSIGN
    ∀ (s : State) (h : Hdr) (out : Nat) (cfg k : W32),
      Ready s h 0x0602 ⟨some roleEng, true⟩ →
      out < 4 →
      exec (.pulseAssign h out cfg k) s = .next (s.answer h 0x0602 yOk [] fun b => (b.pulseFlush out).setPulse out cfg k))

/-- A cycle adds each quantity's energy, rounded once to the unit, to its 96-bit accumulator -/
def Obligations.CycleEnergiesEnterTheAccumulators : Prop :=
  (-- accumulators
    ∀ (b : Block) (c : LineCycle) (i : Nat) (uses : List (PhaseUse × (Q × Q × Q) × Nat)) (u : List PhaseUse) (parts : List Q),
      b.nrg.accs.length = 32 →
      i < 32 →
      (uses = [c.a, c.b, c.c].zipIdx.map fun p => b.phaseUse p.2 p.1 c.tc) →
      (u = uses.map fun x => x.1) →
      (parts = (u.flatMap fun x => energyParts (b.flag F.NRG_CTRL_DIR_INV) x.ep x.eq x.es) ++ energyParts (b.flag F.NRG_CTRL_DIR_INV) (u.foldl (fun q x => q.add x.ep) Q.zero) (u.foldl (fun q x => q.add x.eq) Q.zero) (u.foldl (fun q x => q.add x.es) Q.zero)) →
      (b.addCycle c).nrg.accs.getD i 0 = addEnergy ((nrgLsb (b.rd Reg.NRG_PFS) b.nrg.lsbSh).mul (Q.pow2 (-32))) (b.nrg.accs.getD i 0) (parts.getD i Q.zero))

/-- Screening, learning, thresholds, watches, identification, source location and MOD evidence -/
def Obligations.ScreeningAndTrackingCommandsTakeEffect : Prop :=
  (-- SCREENING_UPDATE
    ∀ (s : State) (sl : Nat) (x : Slot) (vals : List (Nat × Q × W32)) (b1 : Block),
      s.b.modOn = true →
      s.b.slot sl = some x →
      x.phase = 2 →
      s.b.level = 0 →
      (b1 = s.b.modMod fun m => { m with screened := max m.screened sl, shedEp := false, resumeAt := if m.shedEp then some sl else m.resumeAt }) →
      exec (.screeningUpdate sl vals) s = .next (s.putB (vals.foldl (fun b v => b.screenOne false v) b1).trackRatios)) ∧
  (-- SCREENING_UPDATE shed
    ∀ (s : State) (sl : Nat) (x : Slot) (vals : List (Nat × Q × W32)),
      s.b.modOn = true →
      s.b.slot sl = some x →
      x.phase = 2 →
      1 ≤ s.b.level →
      exec (.screeningUpdate sl vals) s = .next (s.putB (vals.foldl (fun b v => b.screenOne true v) s.b.shedGap).trackRatios)) ∧
  (-- SCREENING_HIT
    ∀ (s : State) (ch band ms : Nat) (ratio : Q),
      s.b.bandOn band = true →
      (s.b.cb ch band).hit = false →
      s.b.restarting band = false →
      ratio.lt (Q.ofNat 1) = false →
      s.b.persist band ≤ ms →
      exec (.screeningHit ch band ratio ms) s = .next (s.putB ((((s.b.setCb ch band { s.b.cb ch band with hit := true, ratio := ratio }).bump Reg.MOD_CNT_HIT).hitRecord ch band ratio).spawnWatch ch band ratio))) ∧
  (-- HIT_CLEAR
    ∀ (s : State) (ch band ms : Nat) (ratio : Q),
      s.b.bandOn band = true →
      (s.b.cb ch band).hit = true →
      s.b.restarting band = false →
      ratio.lt ⟨4, 5⟩ = true →
      s.b.persist band ≤ ms →
      exec (.hitClear ch band ratio ms) s = .next (s.putB (s.b.setCb ch band { s.b.cb ch band with hit := false, ratio := ratio }))) ∧
  (-- LEARNING_SAMPLE
    ∀ (s : State) (ch band : Nat) (mu sigma : Q),
      s.b.bandOn band = true →
      (([1, 2, 3, 4].any fun d => (s.b.cb ch d).hit) = false) →
      ((s.b.mod.watches.any fun e => e.2.chans.contains ch && e.2.alarm) = false) →
      s.b.restarting band = false →
      s.b.mod.shedEp = false →
      exec (.learningSample ch band mu sigma) s = .next (s.putB (s.b.setCb ch band { s.b.cb ch band with mu := mu, sigma := sigma, samples := (s.b.cb ch band).samples + 1 }))) ∧
  (-- THRESHOLD_UPDATE
    ∀ (s : State) (defDb : List Q) (new : Tab ChBand),
      s.b.modOn = true →
      new = s.b.mod.chans.map (s.b.adaptOne defDb) →
      exec (.thresholdUpdate defDb) s = .next (s.putB ((s.b.modMod fun m => { m with chans := new, saved := new.map fun e => (e.1, e.2.learntOnly) }).note 0x0808
        ((List.zip s.b.mod.chans new).countP fun p => p.1.2.thrDb != p.2.2.thrDb) (new.countP fun e => e.2.clamped) (new.countP fun e => e.2.learned)))) ∧
  (-- MOD_WATCH_RETIRE
    ∀ (s : State) (ctx t : Nat) (w : Watch),
      s.b.watch ctx = some w →
      w.quietFrom = some t →
      w.host = false →
      w.state = 2 →
      w.alarm = false →
      s.b.since t (s.b.fld F.MOD_WATCH_CTRL_RETIRE_S * tickS) = true →
      exec (.modWatchRetire ctx) s = .next (s.putB (s.b.dropWatch ctx 0))) ∧
  (-- WATCH_WINDOW_FILLED
    ∀ (s : State) (ctx dropped : Nat) (w : Watch) (modes : List ModeEst),
      s.b.watch ctx = some w →
      s.b.modOn = true →
      w.state = 1 →
      s.b.since w.fillFrom (w.winS * tickS) = true →
      exec (.watchWindowFilled ctx modes dropped) s = .next (s.putB (s.b.updateWatch ctx w true modes dropped))) ∧
  (-- IDENTIFICATION_UPDATE
    ∀ (s : State) (ctx dropped : Nat) (w : Watch) (modes : List ModeEst),
      s.b.watch ctx = some w →
      s.b.modOn = true →
      w.state = 2 →
      s.b.since w.updAt (w.upd * 50 * tickMs) = true →
      exec (.identificationUpdate ctx modes dropped) s = .next (s.putB (s.b.updateWatch ctx w false modes dropped))) ∧
  (-- an update with most channels present
    ∀ (b : Block) (ctx dropped : Nat) (w : Watch) (refill : Bool) (modes : List ModeEst),
      b.level < 2 →
      w.band ≠ 4 →
      2 * dropped ≤ w.chans.length →
      b.updateWatch ctx w refill modes dropped = (b.modMod fun m => { m with modalShed := false }).identify ctx w refill modes) ∧
  (-- SOURCE_LOCATION
    ∀ (s : State) (rates : List (Nat × Q × W32)) (ctx mode : Nat) (who : Option (Nat × Nat)) (rest : List (Nat × Nat × Option (Nat × Nat))) (res : LocResult),
      s.b.mod.locs = (ctx, mode, who) :: rest →
      s.b.modOn = true →
      s.b.level < 2 →
      res = s.b.locResult ctx mode rates →
      exec (.sourceLocation rates) s = .next (s.putB ((if res.conf = 0 then s.b.free.2 else s.b).endLocation res (s.b.locNet rates) who))) ∧
  (-- the located station
    ∀ (b : Block) (ctx mode st : Nat) (p : Q) (rates : List (Nat × Q × W32)),
      b.foundStation (b.injections (b.usable rates)) = some (st, p) →
      (b.locResult ctx mode rates).station = st ∧ (b.locResult ctx mode rates).conf ≠ 0 ∧ b.locNet rates = qField p 1) ∧
  (-- MOD_EVIDENCE_POST
    ∀ (s : State) (sl : Nat),
      (s.b.topState ≠ stWatch → exec (.modEvidencePost sl) s = .next (s.putB (s.b.postMod s.b.modItems))) ∧
        (s.b.topState = stWatch → exec (.modEvidencePost sl) s = .next s))

/-- WATCH, BRANCH, MODE_REPORT and LOCATE of the host, and the windows of the modal tracker -/
def Obligations.ModalHostCommandsTakeEffect : Prop :=
  (-- LOCATE
    ∀ (s : State) (h : Hdr) (ctx mode : Nat),
      Ready s h 0x0405 ⟨some roleOpr, false⟩ →
      s.b.hasMode ctx mode = true →
      exec (.locate h ctx mode) s = .next (s.answer h 0x0405 yPending [] fun b => b.modMod fun m => { m with locs := m.locs ++ [(ctx, mode, some (h.session, h.tag))] })) ∧
  (-- LOCATE_REQUEST
    ∀ (s : State) (acc ctx mode : Nat) (b1 : Block),
      s.b.mayWrite s.key acc roleOpr false = yOk →
      b1 = (s.b.aput acc F.MOD_LOC_SEL_CTX ctx).aput acc F.MOD_LOC_SEL_MODE mode →
      b1.hasMode ctx mode = true →
      exec (.locateRequest acc ctx mode) s = .next (s.putB (b1.modMod fun m => { m with locs := m.locs ++ [(ctx, mode, none)] }))) ∧
  (-- WATCH_DEFINE
    ∀ (s : State) (h : Hdr) (ctx band nch nmMax winS upd zetaAlarm zetaDrop : Nat) (chans : List Nat),
      Ready s h 0x0401 ⟨some roleEng, true⟩ →
      watchParamsOk band nch nmMax winS upd zetaAlarm zetaDrop chans = true →
      ctx < 128 →
      s.b.watch ctx = none →
      exec (.watchDefine h ctx band nch nmMax winS upd zetaAlarm zetaDrop chans) s = .next (s.answer h 0x0401 yOk (beBytes 1 ctx) fun b =>
        b.setWatch ctx (b.newWatch true band chans nmMax winS upd zetaAlarm zetaDrop))) ∧
  (-- WATCH_REMOVE
    ∀ (s : State) (h : Hdr) (ctx : Nat),
      Ready s h 0x0402 ⟨some roleEng, true⟩ →
      (s.b.watch ctx).isSome = true →
      exec (.watchRemove h ctx) s = .next (s.answer h 0x0402 yOk [] fun b => b.dropWatch ctx 2)) ∧
  (-- MODE_REPORT
    ∀ (s : State) (h : Hdr) (ctx mode : Nat),
      Ready s h 0x0403 ⟨some roleObs, false⟩ →
      ctx < 128 →
      mode < 8 →
      exec (.modeReport h ctx mode) s = .next (s.answer h 0x0403 yOk (wordBytes ((s.taken h 0x0403).modeGroup ctx mode)) fun b =>
        b.awrs (accOf h.session) Reg.MOD_M_ (b.modeGroup ctx mode))) ∧
  (-- BRANCH_DEFINE
    ∀ (s : State) (h : Hdr) (br : Nat) (w0 w1 w2 w3 w4 : W32),
      Ready s h 0x0404 ⟨some roleEng, true⟩ →
      br < 1024 →
      bits w3 1 0 ≠ 2 →
      exec (.branchDefine h br w0 w1 w2 w3 w4) s = .next (s.answer h 0x0404 yOk [] fun b => b.modMod fun m =>
        { m with branches := tabSet m.branches br ⟨w0 &&& 0x8003FFFF, w1 &&& 0x3FFFF, w2, w3 &&& 0x03FF0003, w4 &&& 0x3FF⟩ })) ∧
  (-- the window loads
    ∀ (s : State) (acc n : Nat),
      exec (.watchWindowLoad acc n) s = .next (s.putB ((s.b.aput acc F.MOD_W_SEL_CTX (n % 128)).awrs acc Reg.MOD_W_W (s.b.watchWords (n % 128)))) ∧
        (∃ x : Branch, x = (tabGet s.b.mod.branches (n % 1024)).getD ⟨0, 0, 0, 0, 0⟩ ∧
        exec (.branchWindowLoad acc n) s = .next (s.putB ((s.b.aput acc F.MOD_BR_SEL_BR (n % 1024)).awrs acc Reg.MOD_BR_W [x.w0, x.w1, x.w2, x.w3, x.w4]))) ∧
        (∃ ws : List W32, ws.length = 9 ∧ (∀ d, d < 4 → ws.getD (2 * d) 0 = (s.b.cb (n % 2 ^ 18) (d + 1)).rms ∧ ws.getD (2 * d + 1) 0 = s.b.thrWord (n % 2 ^ 18) (d + 1)) ∧
        exec (.channelWindowLoad acc n) s = .next (s.putB ((s.b.aput acc F.MOD_CH_SEL_CH (n % 2 ^ 18)).awrs acc Reg.MOD_CH_ ws)))) ∧
  (-- WATCH_WINDOW_COMMIT
    ∀ (s : State) (acc ctx : Nat) (b1 : Block) (r : WRes),
      b1 = s.b.aput acc F.MOD_W_SEL_CTX ctx →
      b1.mayWrite s.key acc roleEng true = yOk →
      (r = (b1.defineWatch (ctx % 128) (bits (b1.ard acc Reg.MOD_W_W) 6 4) (bits (b1.ard acc Reg.MOD_W_W) 21 16) (bits (b1.ard acc Reg.MOD_W_W) 27 24) (bits (b1.ard acc (Reg.MOD_W_W + 4)) 9 0) (bits (b1.ard acc (Reg.MOD_W_W + 4)) 25 16) (bits (b1.ard acc (Reg.MOD_W_W + 8)) 9 0) (bits (b1.ard acc (Reg.MOD_W_W + 8)) 25 16) ((List.range (min 32 (bits (b1.ard acc Reg.MOD_W_W) 21 16))).map fun i => bits (b1.ard acc (Reg.MOD_W_W + 4 * (8 + i))) 17 0)).1) →
      exec (.watchWindowCommit acc ctx) s = .next (s.putB (r.b.aput acc F.MOD_W_SEL_ERR (errCode r.status)))) ∧
  (-- WATCH_WINDOW_REMOVE
    ∀ (s : State) (acc ctx : Nat) (b1 : Block) (r : WRes),
      b1 = s.b.aput acc F.MOD_W_SEL_CTX ctx →
      b1.mayWrite s.key acc roleEng true = yOk →
      r = b1.removeWatch (ctx % 128) →
      exec (.watchWindowRemove acc ctx) s = .next (s.putB (r.b.aput acc F.MOD_W_SEL_ERR (errCode r.status)))) ∧
  (-- BRANCH_WINDOW_COMMIT
    ∀ (s : State) (acc br : Nat) (b1 : Block) (r : WRes),
      b1 = s.b.aput acc F.MOD_BR_SEL_BR br →
      b1.mayWrite s.key acc roleEng true = yOk →
      r = b1.defineBranch (br % 1024) (b1.ard acc Reg.MOD_BR_W) (b1.ard acc (Reg.MOD_BR_W + 4)) (b1.ard acc (Reg.MOD_BR_W + 8)) (b1.ard acc (Reg.MOD_BR_W + 12)) (b1.ard acc (Reg.MOD_BR_W + 16)) →
      exec (.branchWindowCommit acc br) s = .next (s.putB (r.b.aput acc F.MOD_BR_SEL_ERR (errCode r.status))))

/-- ISLAND_EVALUATION, GOOSE messages, loss-of-mains hold, definitions, report and windows -/
def Obligations.IslandCommandsTakeEffect : Prop :=
  (-- ISLAND_EVALUATION
    ∀ (s : State) (run : Nat) (x : Slot),
      s.b.atStage 1 = some x →
      s.b.flag F.ISL_CTRL_EN = true →
      s.b.topState ≠ stWatch →
      exec (.islandEvaluation run) s = .next (s.putB ((s.b.islEvaluate x).finishStage x.s 1 run))) ∧
  (-- ISLAND_EVALUATION with islanding off
    ∀ (s : State) (run : Nat) (x : Slot),
      s.b.atStage 1 = some x →
      s.b.flag F.ISL_CTRL_EN = false →
      exec (.islandEvaluation run) s = .next (s.putB ((s.b.postIsl x.s false false false 0).finishStage x.s 1 run))) ∧
  (-- ISLAND_EVALUATION in WATCH
    ∀ (s : State) (run : Nat) (x : Slot) (b1 : Block),
      s.b.atStage 1 = some x →
      s.b.flag F.ISL_CTRL_EN = true →
      s.b.topState = stWatch →
      b1 = s.b.putFlag F.ISL_STAT_LOCAL_MODE true →
      exec (.islandEvaluation run) s = .next (s.putB ((b1.postIsl x.s true true false (((b1.isl.items &&& 0xFFFF001F) ||| 2 ^ 15) ||| maskOf b1.lomItems)).finishStage x.s 1 run))) ∧
  (-- GOOSE_MESSAGE_RECEIVE
    ∀ (s : State) (m : GooseMsg) (n : Nat) (g : GooseSub),
      m.ndsCom = false →
      s.b.gooseFor m = some (n, g) →
      m.confRev = g.confRev →
      exec (.gooseMessageReceive m) s = .next (s.putB (s.b.modIsl fun x => { x with gooses := tabSet x.gooses n { g with alive := true, confErr := false, sim := m.sim, liveTo := s.b.now + m.ttl * tickMs, members := m.members } }))) ∧
  (-- GOOSE_MESSAGE_RECEIVE of no subscription
    ∀ (s : State) (m : GooseMsg),
      m.ndsCom = false →
      s.b.gooseFor m = none →
      exec (.gooseMessageReceive m) s = .next (s.putB (s.b.bump Reg.ISL_CNT_GOOSE_REJ))) ∧
  (-- ISL_GOOSE_TAL
    ∀ (s : State) (n : Nat) (g : GooseSub),
      tabGet s.b.isl.gooses n = some g →
      g.alive = true →
      g.liveTo ≤ s.b.now →
      exec (.islGooseTal n) s = .next (s.putB (((s.b.modIsl fun x => { x with gooses := tabSet x.gooses n { g with alive := false } }).bump Reg.ISL_CNT_GOOSE_TAL).note 0x0908 n))) ∧
  (-- LOM_HOLD_EXPIRY of the vector shift
    ∀ (s : State) (value : Nat),
      s.b.isl.lomVs.on = true →
      s.b.since s.b.isl.lomVs.lastOn (s.b.fld F.ISL_LOM_HOLD * 100 * tickMs) = true →
      exec (.lomHoldExpiry 0 value) s = .next (s.putB ((s.b.modIsl fun x => { x with lomVs := { x.lomVs with on := false } }).lomRecord 0 false value s.b.tai))) ∧
  (-- LOM_HOLD_EXPIRY of the rate of change
    ∀ (s : State) (value : Nat),
      s.b.isl.lomRocof.on = true →
      s.b.since s.b.isl.lomRocof.lastOn (s.b.fld F.ISL_LOM_HOLD * 100 * tickMs) = true →
      s.b.fld F.ISL_LOM_ROCOF_N ≤ s.b.isl.lomRocof.low →
      exec (.lomHoldExpiry 1 value) s = .next (s.putB ((s.b.modIsl fun x => { x with lomRocof := { x.lomRocof with on := false } }).lomRecord 1 false value s.b.tai))) ∧
  (-- STATION_DEFINE
    ∀ (s : State) (h : Hdr) (st : Nat) (w : List W32),
      Ready s h 0x0501 ⟨some roleEng, true⟩ →
      w.length = 11 →
      st < 1024 →
      ((stationOf w).en && !(stationOf w).reps.all ((s.taken h 0x0501).repOk st)) = false →
      (s.b.islNext.apply (.station st (stationOf w))).channels.length ≤ 8192 →
      exec (.stationDefine h st w) s = .next (s.answer h 0x0501 yOk [] fun b => b.modIsl fun x => { x with pending := x.pending ++ [.station st (stationOf w)] })) ∧
  (-- AREA_DEFINE
    ∀ (s : State) (h : Hdr) (area : Nat) (stations : List Nat),
      Ready s h 0x0502 ⟨some roleEng, true⟩ →
      area < 64 →
      stations.all s.b.islNext.knows = true →
      exec (.areaDefine h area stations) s = .next (s.answer h 0x0502 yOk [] fun b => b.modIsl fun x => { x with pending := x.pending ++ stations.map fun n => .area n area })) ∧
  (-- TIE_DEFINE
    ∀ (s : State) (h : Hdr) (n : Nat) (w : List W32),
      Ready s h 0x0503 ⟨some roleEng, true⟩ →
      w.length = 3 →
      n < 4096 →
      bits (tieOf w).srcA 31 30 ≠ 3 →
      bits (tieOf w).srcB 31 30 ≠ 3 →
      (s.b.islNext.apply (.tie n (tieOf w))).channels.length ≤ 8192 →
      exec (.tieDefine h n w) s = .next (s.answer h 0x0503 yOk [] fun b => b.modIsl fun x => { x with pending := x.pending ++ [.tie n (tieOf w)] })) ∧
  (-- GOOSE_SUB
    ∀ (s : State) (h : Hdr) (n : Nat) (w : List W32),
      Ready s h 0x0504 ⟨some roleEng, true⟩ →
      w.length = 3 →
      n < 256 →
      (s.b.islNext.apply (.goose n (gooseOf w))).channels.length ≤ 8192 →
      exec (.gooseSub h n w) s = .next (s.answer h 0x0504 yOk [] fun b => b.modIsl fun x => { x with pending := x.pending ++ [.goose n (gooseOf w)] })) ∧
  (-- ISLAND_REPORT
    ∀ (s : State) (h : Hdr) (i : Nat),
      Ready s h 0x0505 ⟨some roleObs, false⟩ →
      i < 16 →
      exec (.islandReport h i) s = .next (s.answer h 0x0505 yOk (wordBytes ((s.taken h 0x0505).islandGroup i)) fun b => b.awrs (accOf h.session) Reg.ISL_IS_ (b.islandGroup i))) ∧
  (-- the window loads
    ∀ (s : State) (acc n : Nat),
      exec (.stationWindowLoad acc n) s = .next (s.putB ((s.b.aput acc F.ISL_ST_SEL_IDX n).awrs acc Reg.ISL_ST_W (s.b.stationWords (n % 1024)))) ∧
        exec (.tieWindowLoad acc n) s = .next (s.putB ((s.b.aput acc F.ISL_TIE_SEL_IDX n).awrs acc Reg.ISL_TIE_W (s.b.tieWords (n % 4096)))) ∧
        exec (.gooseWindowLoad acc n) s = .next (s.putB ((s.b.aput acc F.ISL_GS_SEL_IDX n).awrs acc Reg.ISL_GS_W (s.b.gooseWords (n % 256))))) ∧
  (-- STATION_WINDOW_COMMIT
    ∀ (s : State) (acc n : Nat) (b1 : Block) (r : WRes),
      b1 = s.b.aput acc F.ISL_ST_SEL_IDX n →
      b1.mayWrite s.key acc roleEng true = yOk →
      r = b1.commitStation (n % 1024) (b1.ards acc Reg.ISL_ST_W 11) →
      exec (.stationWindowCommit acc n) s = .next (s.putB (r.b.aput acc F.ISL_ST_SEL_ERR (errCode r.status)))) ∧
  (-- TIE_WINDOW_COMMIT
    ∀ (s : State) (acc n : Nat) (b1 : Block) (r : WRes),
      b1 = s.b.aput acc F.ISL_TIE_SEL_IDX n →
      b1.mayWrite s.key acc roleEng true = yOk →
      r = b1.commitTie (n % 4096) (b1.ards acc Reg.ISL_TIE_W 3) →
      exec (.tieWindowCommit acc n) s = .next (s.putB (r.b.aput acc F.ISL_TIE_SEL_ERR (errCode r.status)))) ∧
  (-- GOOSE_WINDOW_COMMIT
    ∀ (s : State) (acc n : Nat) (b1 : Block) (r : WRes),
      b1 = s.b.aput acc F.ISL_GS_SEL_IDX n →
      b1.mayWrite s.key acc roleEng true = yOk →
      r = b1.commitGoose (n % 256) (b1.ards acc Reg.ISL_GS_W 3) →
      exec (.gooseWindowCommit acc n) s = .next (s.putB (r.b.aput acc F.ISL_GS_SEL_ERR (errCode r.status))))

/-- A vector shift above its threshold, not blocked by a dip, asserts the element and is counted once -/
def Obligations.VectorShiftAboveItsThresholdAsserts : Prop :=
  (-- vector shift
    ∀ (b : Block) (t : Nat) (theta freq th4 fr4 : Q),
      b.flag F.ISL_CTRL_LOM_EN = true →
      b.flag F.FLT_PMU_QC_EN = true →
      b.flag F.ISL_LOM_VS_EN = true →
      b.isl.qc[3]? = some (th4, fr4) →
      b.isl.lomBlockTo ≤ b.now →
      (Q.norm (b.fld F.ISL_LOM_VS_THR) 10).lt (Q.abs (wrap180 ((theta.sub th4).sub (((Q.ofNat 360).mul (fr4.sub (Q.ofNat b.f0))).div (Q.ofNat b.f0))))) = true →
      (b.lomEvaluate t theta freq false).isl.lomVs.on = true ∧ (b.lomEvaluate t theta freq false).isl.lomVs.lastOn = b.now ∧
        ((b.lomEvaluate t theta freq false).rd Reg.ISL_CNT_LOM_VS).toNat = (if b.isl.lomVs.on then (b.rd Reg.ISL_CNT_LOM_VS).toNat else min 0xFFFFFFFF ((b.rd Reg.ISL_CNT_LOM_VS).toNat + 1)))

/-- Evaluation, missing evidence, fail-safe, latched bells, network bells and the firmware watchdog -/
def Obligations.EvaluationEvidenceAndBellsTakeEffect : Prop :=
  (-- GUARD_EVALUATION under a package
    ∀ (s : State) (run : Nat) (x : Slot) (b1 : Block),
      s.b.atStage 2 = some x →
      (b1 = (s.b.modGrd fun g => { g with used := s.b.usedFor x.s, asserted := [] }).bump Reg.GRD_CNT_EVAL) →
      s.b.grd.gsp.isSome = true →
      (b1.evaluate x.s (s.b.usedFor x.s)).aln.stepLast ≠ some x.s →
      exec (.guardEvaluation run) s = .next (s.putB (((b1.evaluate x.s (s.b.usedFor x.s)).modGrd fun g => { g with lastS := x.s }).finishStage x.s 2 run))) ∧
  (-- GUARD_EVALUATION without a package
    ∀ (s : State) (run : Nat) (x : Slot),
      s.b.atStage 2 = some x →
      s.b.grd.gsp = none →
      s.b.aln.stepLast = none →
      exec (.guardEvaluation run) s = .next (s.putB ((((s.b.modGrd fun g => { g with used := s.b.usedFor x.s, asserted := [] }).bump Reg.GRD_CNT_EVAL).modGrd fun g => { g with lastS := x.s }).finishStage x.s 2 run))) ∧
  (-- EVIDENCE_MISS
    ∀ (s : State) (e t : Nat),
      1 ≤ e →
      e ≤ 8 →
      s.b.guardWatches = true →
      s.b.exempt e = false →
      (onGrid s.b.cadence t || s.b.grd.sched.any (·.1 == t)) = true →
      ((((s.b.engine e).missS.map fun u => decide (u < t)).getD true) = true) →
      s.b.missed e t = true →
      s.b.tdm.enNow = false →
      exec (.evidenceMiss e t) s = .next (s.putB ((s.b.modGrd fun g => { g with engines := modAt g.engines e fun x => { x with misses := min 255 (x.misses + 1), missS := some t } }).bump Reg.GRD_CNT_MISS))) ∧
  (-- FAILSAFE_ENTRY
    ∀ (s : State) (e : Nat) (g : GspPkg),
      s.b.grd.gsp = some g →
      s.b.guardWatches = true →
      s.b.evTimeout ≤ (s.b.engine e).misses →
      s.b.hitMask g e ≠ 0 →
      exec (.failsafeEntry e) s = .next (s.putB (((((s.b.modGrd fun x => { x with bells := s.b.hitBells g e }).bump Reg.GRD_CNT_FAILSAFE).noteBells s.b.grd.bells (s.b.hitBells g e) (lt32 s.b.tai) 1).note 0x0A04 (s.b.hitMask g e) e 1).settleGuard 1))) ∧
  (-- BELL_RESET
    ∀ (s : State) (h : Hdr) (mask : Nat),
      Ready s h 0x0703 ⟨some roleOpr, false⟩ →
      exec (.bellReset h mask) s = .next (s.answer h 0x0703 yOk [] fun b => (b.modGrd fun g => { g with bells := b.release mask }).note 0x0A08 h.session (mask % 256) (b.freed mask))) ∧
  (-- GUARD_STATUS
    ∀ (s : State) (h : Hdr),
      Ready s h 0x0702 ⟨some roleObs, false⟩ →
      exec (.guardStatus h) s = .next (s.answer h 0x0702 yOk (wordBytes ((List.range 24).map fun i => (s.taken h 0x0702).guardReg (Reg.GRD_STAT + 4 * i))) fun b => b)) ∧
  (-- BELLF_SEND
    ∀ (s : State) (run : Nat) (x : Slot) (g : GspPkg) (b : Block) (f : List Byte × Block) (b1 : Block),
      s.b.atStage 4 = some x →
      b = s.b.finishStage x.s 4 run →
      b.grd.gsp = some g →
      b.sendsBells = true →
      f = b.bellfFrame s.key g x run →
      (b1 = ((f.2.modGrd fun y => { y with bseq := b.nextBseq x.s }).bellfOut g.net f.1).bellfEvent (b.bellfBells g, b.grd.mask (·.fs)) f.1) →
      exec (.bellfSend run) s = .next (s.putB ((b1.modGrd fun y => { y with breach := decide (x.dl.getD x.c + tickMs < x.departs run), lastBells := some (b.bellfBells g, b.grd.mask (·.fs)) }).bellfBreach (x.departs run) (x.dl.getD x.c)))) ∧
  (-- BELLF_SEND where the unit does not send
    ∀ (s : State) (run : Nat) (x : Slot) (g : GspPkg) (b : Block),
      s.b.atStage 4 = some x →
      b = s.b.finishStage x.s 4 run →
      b.grd.gsp = some g →
      b.sendsBells = false →
      exec (.bellfSend run) s = .next (s.putB (b.modGrd fun y => { y with bseq := b.nextBseq x.s }))) ∧
  (-- GOOSE_RETRANSMIT
    ∀ (s : State) (g : GspPkg),
      s.b.grd.gsp = some g →
      s.b.grd.gooseData.isEmpty = false →
      s.b.grd.gooseNext ≤ s.b.now →
      s.b.active = true →
      exec .gooseRetransmit s = .next (s.putB ((s.b.modGrd fun x => { x with sqNum := wrap1 x.sqNum }).gooseSend g (s.b.grd.gooseOff + gooseInterval g.net.gooseT0 s.b.grd.gooseOff)))) ∧
  (-- FIRMWARE_KICK
    ∀ (s : State),
      s.b.top.rstRun = none →
      exec .firmwareKick s = .next (s.putB (s.b.modGrd fun g => { g with kickAt := some s.b.now, wdtStage := 0, wdtFrom := none, wdtWait := false }))) ∧
  (-- WATCHDOG_STAGE1
    ∀ (s : State) (t : Nat) (b1 : Block),
      s.b.grd.kickAt = some t →
      s.b.since t (s.b.fld F.GRD_WDT_TMO * tickMs) = true →
      (b1 = (s.b.modGrd fun g => { g with kickAt := none, wdtStage := 1, wdtFired := true, wdtWait := true }).bump Reg.GRD_CNT_WDT1) →
      exec .watchdogStage1 s = .next (s.onKB fun k _ => assertReset srcSwr false false k ((b1.note 0x0A05 1 (s.b.fld F.GRD_WDT_TMO)).settleGuard))) ∧
  (-- WATCHDOG_STAGE2
    ∀ (s : State) (t : Nat) (b1 : Block),
      s.b.grd.wdtFrom = some t →
      s.b.since t (5 * tickS) = true →
      (b1 = (s.b.modGrd fun g => { g with wdtFrom := none, wdtStage := 2, wdtFired := true }).bump Reg.GRD_CNT_WDT2) →
      exec .watchdogStage2 s = .next (s.onKB fun k _ => assertReset srcWdt false false k (b1.note 0x0A05 2 (b1.fld F.GRD_WDT_TMO))))

/-- GSP_SUBMIT, GSP_CHECK and GSP_COMMIT -/
def Obligations.SettingsPackagesAreSubmittedCheckedAndCommitted : Prop :=
  (-- GSP_SUBMIT a part that is not the last
    ∀ (s : State) (h : Hdr) (offset total : Nat) (bytes all : List Byte),
      Ready s h 0x0701 ⟨some roleGsb, false⟩ →
      1 ≤ bytes.length →
      bytes.length ≤ 4088 →
      (offset ≠ 0 → offset = ((s.taken h 0x0701).sess h.session).gspBytes.length ∧ total = ((s.taken h 0x0701).sess h.session).gspTotal total) →
      offset + bytes.length < total →
      all = (if offset = 0 then [] else ((s.taken h 0x0701).sess h.session).gspBytes) ++ bytes →
      exec (.gspSubmit h offset total bytes) s = .next (s.answer h 0x0701 yOk [] fun b => b.modSess h.session fun x => { x with gspStage := some ⟨total, all⟩ })) ∧
  (-- GSP_SUBMIT the last part
    ∀ (s : State) (h : Hdr) (offset total : Nat) (bytes all : List Byte),
      Ready s h 0x0701 ⟨some roleGsb, false⟩ →
      1 ≤ bytes.length →
      bytes.length ≤ 4088 →
      (offset ≠ 0 → offset = ((s.taken h 0x0701).sess h.session).gspBytes.length ∧ total = ((s.taken h 0x0701).sess h.session).gspTotal total) →
      offset + bytes.length = total →
      all = (if offset = 0 then [] else ((s.taken h 0x0701).sess h.session).gspBytes) ++ bytes →
      exec (.gspSubmit h offset total bytes) s = .next (s.answer h 0x0701 yPending [] fun b => (b.modSess h.session fun x => { x with gspStage := none }).modGrd fun g => { g with checking := g.checking ++ [(h.session, h.tag, all)] })) ∧
  (-- GSP_CHECK accepts
    ∀ (s : State) (body : GspPkg) (ok : Bool) (n tag : Nat) (bytes : List Byte) (rest : List (Nat × Nat × List Byte)) (b1 : Block),
      s.b.grd.checking = (n, tag, bytes) :: rest →
      s.b.grd.accepted = none →
      (b1 = s.b.modGrd fun g => { g with checking := rest }) →
      verdict s.key b1 (readPkg body bytes) bytes ok = .accept →
      exec (.gspCheck body ok) s = .next (s.putB (b1.modGrd fun g => { g with accepted := some (n, tag, readPkg body bytes, Config.sha384 bytes) }))) ∧
  (-- GSP_CHECK of the package in force
    ∀ (s : State) (body : GspPkg) (ok : Bool) (n tag : Nat) (bytes : List Byte) (rest : List (Nat × Nat × List Byte)) (b1 : Block),
      s.b.grd.checking = (n, tag, bytes) :: rest →
      s.b.grd.accepted = none →
      (b1 = s.b.modGrd fun g => { g with checking := rest }) →
      verdict s.key b1 (readPkg body bytes) bytes ok = .same →
      exec (.gspCheck body ok) s = .next (s.putB (b1.finish n tag 0x0701 yOk []))) ∧
  (-- GSP_CHECK rejects
    ∀ (s : State) (body : GspPkg) (ok : Bool) (n tag step status : Nat) (bytes : List Byte) (rest : List (Nat × Nat × List Byte)) (b1 : Block),
      s.b.grd.checking = (n, tag, bytes) :: rest →
      s.b.grd.accepted = none →
      (b1 = s.b.modGrd fun g => { g with checking := rest }) →
      verdict s.key b1 (readPkg body bytes) bytes ok = .reject step status →
      exec (.gspCheck body ok) s = .next (s.putB (((((b1.put F.GRD_GSP_REJ_STEP step).put F.GRD_GSP_REJ_STATUS status).bump Reg.GRD_CNT_GSP_REJ).note 0x0A02 step status (readPkg body bytes).version).finish n tag 0x0701 status []))) ∧
  (-- GSP_COMMIT
    ∀ (s : State) (n tag : Nat) (p : GspPkg) (dig : Digest) (b1 : Block),
      s.b.grd.accepted = some (n, tag, p, dig) →
      b1 = (((s.b.storePkg p dig).takePkg p dig).bump Reg.GRD_CNT_GSP_ACC).note 0x0A01 p.version (dig.toNat >>> 352) s.b.grd.version →
      exec .gspCommit s = .next (s.putB (((((b1.shedHold (s.b.envelope 0x0102)).clampAll).applyRoles s.key).settleGuard 3).finish n tag 0x0701 yOk [])))

/-- BSEQ is max(SEQ(S), last + 1), and the frame carries SEQ_HELD where that is last + 1 -/
def Obligations.BellSequenceNumbersOfR340 : Prop :=
  (-- at start last is 0
    State.reset.b.grd.bseq = 0) ∧
  (-- SEQ(S)
    ∀ (t : Nat),
      seqOf t = t / tickS * 2 ^ 16 + (t % tickS * 8) * 2 ^ 16 / 10 ^ 9) ∧
  (-- the number after BELLF_SEND
    ∀ (s : State) (run : Nat) (x : Slot),
      s.b.atStage 4 = some x →
      s.b.grd.gsp.isSome = true →
      ∃ t, exec (.bellfSend run) s = .next t ∧ t.b.grd.bseq = max (seqOf x.s) (s.b.grd.bseq + 1)) ∧
  (-- the frame
    ∀ (k : Key) (b : Block) (g : GspPkg) (x : Slot) (run : Nat),
      (b.bellfFrame k g x run).1.getD 3 0 = BitVec.ofNat 8 (b.bellfFlags (decide (max (seqOf x.s) (b.grd.bseq + 1) = b.grd.bseq + 1))) ∧
        ((b.bellfFrame k g x run).1.drop 8).take 8 = beBytes 8 (max (seqOf x.s) (b.grd.bseq + 1)) ∧
        (b.bellfFlags true).testBit 2 = true ∧ (b.bellfFlags false).testBit 2 = false) ∧
  (-- SEQ rises
    ∀ (t u : Nat),
      t + 260375 ≤ u →
      seqOf t < seqOf u) ∧
  (-- the worked values
    ∀ (n : Nat),
      seqOf (n * tickS + 520833) = n * 2 ^ 16 + 0x0111 ∧ seqOf (n * tickS + 1562500) = n * 2 ^ 16 + 0x0333)

/-- A bell asserts PICKUP after its logic's run of true starts and deasserts DROPOUT after its run of false starts -/
def Obligations.BellAssertsAndDeassertsByItsTimers : Prop :=
  (-- a run of true
    ∀ (x : Bell) (e : BellEntry) (t : Nat) (l : List Nat),
      x.trueFrom = none →
      ((t :: l).foldl (fun y u => y.step e true u) x).on = (x.on || (t :: l).any fun u => decide (t + e.pickup * tickMs ≤ u))) ∧
  (-- a run of false
    ∀ (x : Bell) (e : BellEntry) (t : Nat) (l : List Nat),
      x.falseFrom = none →
      x.release = 0 →
      e.latch = false →
      ((t :: l).foldl (fun y u => y.step e false u) x).on = (x.on && (t :: l).all fun u => decide (u < t + e.dropout * tickMs))) ∧
  (-- both at 0
    ∀ (x : Bell) (e : BellEntry) (logic : Bool) (t : Nat),
      e.pickup = 0 →
      e.dropout = 0 →
      e.latch = false →
      x.trueFrom.getD t ≤ t →
      x.falseFrom.getD t ≤ t →
      (x.step e logic t).on = logic)

/-- Pins, heartbeats, lane delay, claim, gate and lockout of a tandem unit -/
def Obligations.HeartbeatsAndClaimsTakeEffect : Prop :=
  (-- BELL_PINS
    ∀ (s : State) (run : Nat) (x : Slot),
      s.b.atStage 3 = some x →
      exec (.bellPins run) s = .next (s.putB ((((s.b.modGrd fun g => { g with bells := g.bells.map fun y => { y with drive := y.on } }).finishStage x.s 3 run).sendDigest x.s).handNow))) ∧
  (-- HEARTBEAT_SEND
    ∀ (s : State),
      s.b.tdm.enNow = true →
      (s.b.tdm.hbSent == 0 || s.b.since s.b.tdm.hbSent (250 * tickUs)) = true →
      exec .heartbeatSend s = .next (s.putB (((s.b.tdmSend [1, s.b.cfgDigest, s.b.tdmState, s.b.prefers.toNat, Config.tdmMac, s.b.islFresh.toNat, s.b.tdm.katOwn]).modTdm fun t => { t with hbSent := s.b.now }).flushRelays.maybeTake))) ∧
  (-- HEARTBEAT_RECEIVE
    ∀ (s : State) (hb : Heartbeat) (b1 : Block),
      s.b.tdm.enNow = true →
      s.b.laneUp = true →
      b1 = s.b.takeHeartbeat hb →
      exec (.heartbeatReceive hb) s = .next (s.onKB fun k _ => (if b1.cfgMatch then b1 else b1.goAlone 2).askCatchup.katDecide k)) ∧
  (-- HEARTBEAT_LOSS
    ∀ (s : State),
      s.b.tdm.enNow = true →
      s.b.tdm.hbSeen = true →
      s.b.since s.b.tdm.hbLast (s.b.fld F.TDM_TIMERS_HB_TMO * tickUs) = true →
      exec .heartbeatLoss s = .next (s.putB (((((s.b.bump Reg.TDM_CNT_HB_LOSS).modTdm fun t => { t with hbSeen := false, partnerLost := t.partnerLost || !s.b.partnerClaims }).modRad fun r => { r with handFrom := none }).goAlone 0).settleGuard))) ∧
  (-- TDM_DELAY_MEASURE
    ∀ (s : State) (delta : Nat) (offset : Int) (short : Bool),
      s.b.tdm.enNow = true →
      s.b.laneUp = true →
      short = decide (s.b.fld F.TDM_XCHG_LEAD * 1000 < 2 * delta + offset.natAbs + 50000) →
      exec (.tdmDelayMeasure delta offset) s = .next (s.putB ((((s.b.wr Reg.TDM_DELAY (BitVec.ofNat 32 (min 0xFFFFFFFF delta))).wr Reg.TDM_OFFSET (BitVec.ofInt 32 (clampInt (-2147483648) 2147483647 offset))).putFlag F.TDM_STAT_LEAD_SHORT short).modTdm fun t => { t with shortFrom := if short then some (t.shortFrom.getD s.b.now) else none }))) ∧
  (-- CLAIM_PRESENT without an own claim
    ∀ (s : State) (gaps : List Nat),
      s.b.tdm.enNow = true →
      gaps.length = 3 →
      ((gaps.all fun g => decide (4000 ≤ g ∧ g ≤ 6000)) = true) →
      s.b.claims = false →
      exec (.claimPresent gaps) s = .next (s.putB (((s.b.put F.TDM_STAT_PCLAIM 1).modTdm fun t => { t with edgeAt := s.b.now }).askCatchup))) ∧
  (-- CLAIM_PRESENT against the claim of the unit without a delay
    ∀ (s : State) (gaps : List Nat) (b1 : Block),
      s.b.tdm.enNow = true →
      gaps.length = 3 →
      ((gaps.all fun g => decide (4000 ≤ g ∧ g ≤ 6000)) = true) →
      (b1 = ((s.b.put F.TDM_STAT_PCLAIM 1).modTdm fun t => { t with edgeAt := s.b.now }).modGrd fun g => { g with gateOpen := false }) →
      b1.claims = true →
      b1.claimDelay = 0 →
      exec (.claimPresent gaps) s = .next (s.putB b1)) ∧
  (-- CLAIM_PRESENT against the claim of the unit with a delay
    ∀ (s : State) (gaps : List Nat) (b1 : Block),
      s.b.tdm.enNow = true →
      gaps.length = 3 →
      ((gaps.all fun g => decide (4000 ≤ g ∧ g ≤ 6000)) = true) →
      (b1 = ((s.b.put F.TDM_STAT_PCLAIM 1).modTdm fun t => { t with edgeAt := s.b.now }).modGrd fun g => { g with gateOpen := false }) →
      b1.claims = true →
      b1.claimDelay ≠ 0 →
      exec (.claimPresent gaps) s = .next (s.putB (b1.free.2.releaseClaim (b1.free.1.toNat % 2 ^ 32)).settleGuard)) ∧
  (-- CLAIM_ABSENT
    ∀ (s : State),
      s.b.tdm.enNow = true →
      s.b.partnerClaims = true →
      s.b.since s.b.tdm.edgeAt (30 * tickUs) = true →
      exec .claimAbsent s = .next (s.putB ((s.b.put F.TDM_STAT_PCLAIM 0).modTdm fun t => { t with absentAt := s.b.now }))) ∧
  (-- TDM_CLAIM
    ∀ (s : State) (b1 b2 : Block),
      s.b.eligible = true →
      s.b.claims = false →
      s.b.partnerClaims = false →
      s.b.tdm.lockTo = none →
      s.b.since s.b.tdm.absentAt s.b.claimDelay = true →
      (b1 = ((s.b.put F.TDM_STAT_CLAIM 1).bump Reg.TDM_CNT_CLAIM).modTdm fun t => { t with claimAt := s.b.now, closedSince := 0, takeSent := false }) →
      (b2 = if s.b.handedOver then b1.modRad fun r => { r with handFrom := some (sfnAt (s.b.tai + 2 * sfTicks)) } else b1) →
      exec .tdmClaim s = .next (s.putB (b2.degradedStart.note 0x0B02 1 s.b.handedOver.toNat (lt32 s.b.tai)).settleGuard)) ∧
  (-- GATE_OPEN
    ∀ (s : State),
      s.b.tdm.enNow = true →
      s.b.claims = true →
      s.b.partnerClaims = false →
      s.b.since s.b.tdm.claimAt (50 * tickUs) = true →
      exec .gateOpen s = .next (s.putB (s.b.modGrd fun g => { g with gateOpen := true }))) ∧
  (-- LOCKOUT_END
    ∀ (s : State) (t : Nat),
      s.b.tdm.lockTo = some t →
      t ≤ s.b.now →
      exec .lockoutEnd s = .next (s.putB (s.b.modTdm fun t => { t with lockTo := none }))) ∧
  (-- KAT_PARTNER_TIMEOUT
    ∀ (s : State),
      s.b.tdm.katOwn ≠ 0 →
      s.b.tdm.katPart = 0 →
      s.b.since s.b.tdm.katAt (200 * tickMs) = true →
      exec .katPartnerTimeout s = .next (s.putB ((s.b.note 0x0B04 (s.b.tdm.katOwn - 1) 2).modTdm fun t => { t with katOwn := 0 }))) ∧
  (-- TDM_KAT
    ∀ (s : State) (pass : Bool),
      s.b.fld F.TDM_STAT_KAT = 1 →
      exec (.tdmKat pass) s = .next (s.onKB fun k b => ((if pass then (b.put F.TDM_STAT_KAT 2).bump Reg.TDM_CNT_KAT else ((b.put F.TDM_STAT_KAT 3).bump Reg.TDM_CNT_KAT).bump Reg.TDM_CNT_KAT_FAIL).modTdm fun t => { t with katOwn := if pass then 1 else 2 }).katDecide k))

/-- Schedules, relays, cuts, needs, fills, digests and shared evidence -/
def Obligations.SlotExchangeOfATandemTakesEffect : Prop :=
  (-- SCHED_RECEIVE
    ∀ (s : State) (t d : Nat) (x : Slot),
      s.b.stoker = true →
      s.b.laneUp = true →
      s.b.tai ≤ t + 200 * tickUs →
      s.b.tooEarly t = false →
      (s.b.openSlot t).slot t = some x →
      x.phase = 0 →
      exec (.schedReceive t d) s = .next (s.putB ((s.b.openSlot t).takeSched t d))) ∧
  (-- SCHED_TIMEOUT
    ∀ (s : State) (t : Nat) (x : Slot),
      s.b.slot t = some x →
      s.b.stoker = true →
      x.schedGot = false →
      x.phase = 0 →
      t + 200 * tickUs ≤ s.b.tai →
      exec (.schedTimeout t) s = .next (s.putB (s.b.markIncomplete t))) ∧
  (-- TDM_RELAY_RECEIVE
    ∀ (s : State) (spoke t : Nat) (vals : List W64),
      s.b.inExchange = true →
      s.b.laneUp = true →
      exec (.tdmRelayReceive spoke t vals) s = .next (s.putB ((s.b.bumpBy Reg.TDM_CNT_RELAY_RX (vals.countP entPresent)).takeReport spoke false (relayed s.b t vals)))) ∧
  (-- TDM_RELAY_DROP
    ∀ (s : State) (n at_ : Nat) (msg : List Nat) (rest : List (Nat × Nat × List Nat)),
      s.b.tdm.relays = (n, at_, msg) :: rest →
      at_ + s.b.fld F.TDM_XCHG_LEAD * tickUs < s.b.now →
      exec .tdmRelayDrop s = .next (s.putB ((s.b.bumpBy Reg.TDM_CNT_RELAY_DROP n).modTdm fun t => { t with relays := rest }))) ∧
  (-- TDM_CUT at P
    ∀ (s : State) (t : Nat) (x : Slot) (b1 : Block),
      s.b.slot t = some x →
      s.b.inExchange = true →
      x.cutSent = false →
      x.phase = 0 →
      x.dl.isSome = true →
      x.dl.getD 0 ≤ s.b.tai + s.b.leadUs * tickUs →
      (b1 = s.b.modSlot t fun x => { x with cutSent := true }) →
      exec (.tdmCut t) s = .next (s.putB ((b1.tdmSend ([3, t, 0, 0] ++ x.bitmap.filter fun n => !x.relayed.contains n)).sendNeeds t))) ∧
  (-- TDM_CUT before P at the captain
    ∀ (s : State) (t p : Nat) (x : Slot),
      s.b.slot t = some x →
      s.b.inExchange = true →
      x.cutSent = false →
      x.phase = 0 →
      x.dl.isSome = true →
      s.b.tai + s.b.leadUs * tickUs < x.dl.getD 0 →
      p = s.b.tai + 60 * tickUs + Config.earlyLead →
      s.b.mayCutEarly x p = true →
      exec (.tdmCut t) s = .next (s.putB ((s.b.setEarly t p).tdmSend [3, t, 1, p]))) ∧
  (-- CUT_RECEIVE
    ∀ (s : State) (t : Nat) (bitmap : List Nat) (p : Nat) (x : Slot),
      s.b.slot t = some x →
      s.b.inExchange = true →
      s.b.laneUp = true →
      x.phase = 0 →
      exec (.cutReceive t bitmap false p) s = .next (s.putB ((s.b.modSlot t fun x => { x with partnerCut := some (bitmap.foldl (fun m n => insNat n m) []) }).sendNeeds t))) ∧
  (-- CUT_RECEIVE early
    ∀ (s : State) (t : Nat) (bitmap : List Nat) (p : Nat) (x : Slot),
      s.b.slot t = some x →
      s.b.inExchange = true →
      s.b.laneUp = true →
      x.phase = 0 →
      s.b.claims = false →
      x.cutSent = false →
      p + s.b.leadUs * tickUs ≤ x.dl.getD 0 →
      exec (.cutReceive t bitmap true p) s = .next (s.putB (s.b.setEarly t p))) ∧
  (-- NEED_RECEIVE
    ∀ (s : State) (t spoke : Nat) (x : Slot) (y : Spoke) (v : SpVer),
      s.b.slot t = some x →
      s.b.spoke spoke = some y →
      y.cur = some v →
      s.b.inExchange = true →
      s.b.laneUp = true →
      exec (.needReceive t spoke) s = .next (s.putB (s.b.tdmSend ([6, t, spoke] ++ (x.valuesOf v).map BitVec.toNat)))) ∧
  (-- FILL_RECEIVE
    ∀ (s : State) (t spoke : Nat) (vals : List W64) (x : Slot) (y : Spoke) (v : SpVer),
      s.b.slot t = some x →
      s.b.spoke spoke = some y →
      y.cur = some v →
      s.b.inExchange = true →
      s.b.laneUp = true →
      x.needOpen.contains spoke = true →
      exec (.fillReceive t spoke vals) s = .next (s.putB ((s.b.modSlot t fun x => { x with needOpen := x.needOpen.erase spoke }).writeSlot spoke v false y.lastSt s.b.tai t vals))) ∧
  (-- DIGEST_RECEIVE
    ∀ (s : State) (t : Nat) (digest : W64) (inc : Bool),
      s.b.inExchange = true →
      s.b.laneUp = true →
      (s.b.slot t).isSome = true →
      exec (.digestReceive t digest inc) s = .next (s.putB (((s.b.modTdm fun t => { t with pIncRun := if inc then t.pIncRun + 1 else 0 }).modSlot t fun x => { x with digPart := some (digest, inc) }).tryCompare t))) ∧
  (-- DIGEST_TIMEOUT
    ∀ (s : State) (t : Nat) (x : Slot),
      s.b.slot t = some x →
      x.phase ≠ 0 →
      x.digPart = none →
      x.c + tickMs ≤ s.b.tai →
      exec (.digestTimeout t) s = .next (s.putB (s.b.modSlot t fun x => { x with digOwn := none }))) ∧
  (-- EVIDENCE_FORWARD_RECEIVE
    ∀ (s : State) (engine : Nat) (v d bl sh : Bool) (rseq slot tq : Nat) (items : BitVec 128),
      s.b.borrows = true →
      s.b.laneUp = true →
      3 ≤ engine →
      engine ≤ 8 →
      exec (.evidenceForwardReceive engine v d bl sh rseq slot tq items) s = .next (s.putB (s.b.modGrd fun g => { g with engines := modAt g.engines engine fun x => { x with fwd := (mkEvid engine v d bl sh rseq slot tq items.toNat :: x.fwd).take 256, misses := 0, okAt := s.b.tai } }))) ∧
  (-- TDM_EVIDENCE_POST
    ∀ (s : State) (slot : Nat),
      s.b.tdm.enNow = true →
      exec (.tdmEvidencePost slot) s = .next (s.putB ((s.b.postEvid (mkEvid 7 true (s.b.degCaptain || s.b.tdmState == tdAlone) false false s.b.tdm.rseq slot s.b.devClass s.b.tdmItems)).modTdm fun t => { t with rseq := (t.rseq + 1) % 65536 })))

/-- Catch-up, holdoff, slow partners, takeback and the TDM window -/
def Obligations.CatchUpAndTakebackTakeEffect : Prop :=
  (-- CATCHUP_REQUEST
    ∀ (s : State),
      s.b.mayCatchup = true →
      s.b.claims = true →
      exec .catchupRequest s = .next (s.putB (s.b.enterCatchup.tdmSend [9, 1, s.b.grd.bseq, s.b.isl.nextId]))) ∧
  (-- CATCHUP_COMPLETE stage 1 at the stoker
    ∀ (s : State) (d : CatchupData),
      s.b.tdmState = tdCatchup →
      s.b.laneUp = true →
      s.b.claims = false →
      s.b.tdm.stage1 = false →
      exec (.catchupComplete d false) s = .next (s.putB (s.b.takeStage1 d))) ∧
  (-- CATCHUP_COMPLETE stage 2 at the stoker
    ∀ (s : State) (d : CatchupData),
      s.b.tdmState = tdCatchup →
      s.b.laneUp = true →
      s.b.claims = false →
      s.b.tdm.stage1 = true →
      exec (.catchupComplete d true) s = .next (s.putB (((s.b.takeStage2 d).put F.TDM_STAT_STATE tdMatching).freshMatch))) ∧
  (-- CATCHUP_COMPLETE at the holder of the claim
    ∀ (s : State) (d : CatchupData),
      s.b.tdmState = tdCatchup →
      s.b.laneUp = true →
      s.b.claims = true →
      exec (.catchupComplete d true) s = .next (s.putB ((s.b.put F.TDM_STAT_STATE tdMatching).freshMatch))) ∧
  (-- CATCHUP_TIMEOUT
    ∀ (s : State),
      s.b.tdmState = tdCatchup →
      s.b.since s.b.tdm.catchAt (5 * tickS) = true →
      exec .catchupTimeout s = .next (s.putB ((s.b.goAlone 3).modTdm fun t => { t with retryAt := some (s.b.now + 10 * tickS) }))) ∧
  (-- CATCHUP_RETRY
    ∀ (s : State) (t : Nat),
      s.b.tdm.retryAt = some t →
      t ≤ s.b.now →
      exec .catchupRetry s = .next (s.putB ((s.b.modTdm fun t => { t with retryAt := none }).askCatchup))) ∧
  (-- HOLDOFF_MET
    ∀ (s : State),
      s.b.tdmState = tdMatching →
      s.b.tdm.compared = true →
      s.b.since s.b.tdm.matchFrom (max 1 (s.b.fld F.TDM_TIMERS_HOLDOFF) * tickS) = true →
      s.b.tdm.slowLeft = false →
      exec .holdoffMet s = .next (s.putB ((s.b.setTdm tdInStep 4).maybeTake.settleGuard))) ∧
  (-- TDM_SLOW
    ∀ (s : State),
      s.b.inExchange = true →
      max 1 (s.b.fld F.TDM_XCHG_SLOW_N) ≤ s.b.tdm.incRun ∨ max 1 (s.b.fld F.TDM_XCHG_SLOW_N) ≤ s.b.tdm.pIncRun →
      exec .tdmSlow s = .next (s.putB (((s.b.note 0x0B05 1 (s.b.rd Reg.TDM_DELAY).toNat s.b.incLast).goAlone 1).settleGuard))) ∧
  (-- TAKE_RECEIVE
    ∀ (s : State),
      s.b.mayHand = true →
      s.b.laneUp = true →
      exec .takeReceive s = .next (s.putB (s.b.modTdm fun t => { t with handDue := true }))) ∧
  (-- HANDOVER
    ∀ (s : State) (acc : Nat),
      s.b.mayWrite s.key acc roleEng true = yOk →
      exec (.handover acc) s = .next (s.putB (if s.b.mayHand then s.b.modTdm fun t => { t with handDue := true } else s.b))) ∧
  (-- HANDOVER without the role or the saddle
    ∀ (s : State) (acc : Nat),
      s.b.mayWrite s.key acc roleEng true ≠ yOk →
      exec (.handover acc) s = .next (s.putB (s.b.writeDenied acc))) ∧
  (-- TDM_HANDOVER
    ∀ (s : State) (h : Hdr),
      Ready s h 0x0802 ⟨some roleEng, true⟩ →
      (s.taken h 0x0802).mayHand = true →
      exec (.tdmHandover h) s = .next (s.answer h 0x0802 yOk [] fun b => b.modTdm fun t => { t with handDue := true })) ∧
  (-- TDM_HANDOVER where the captain may not act on it
    ∀ (s : State) (h : Hdr),
      Ready s h 0x0802 ⟨some roleEng, true⟩ →
      (s.taken h 0x0802).mayHand = false →
      exec (.tdmHandover h) s = .next (s.answer h 0x0802 yDenied [] fun b => b)) ∧
  (-- TDM_STATUS
    ∀ (s : State) (h : Hdr),
      Ready s h 0x0801 ⟨some roleObs, false⟩ →
      exec (.tdmStatus h) s = .next (s.answer h 0x0801 yOk (wordBytes ((List.range 21).map fun i => (s.taken h 0x0801).tdmReg (Reg.TDM_CTRL + 4 * i))) fun b => b))

/-- Superframes, windows, bundles, requests, polls, relays and a listening unit -/
def Obligations.RadioReceptionTakesEffect : Prop :=
  (-- SUPERFRAME_START on the coordinator
    ∀ (s : State) (busy : Bool) (b1 : Block),
      s.b.radOn = true →
      (s.b.timState == tmInit) = false →
      (s.b.rad.started && s.b.rad.origin == s.b.tai / sfTicks * sfTicks) = false →
      b1 = s.b.settleSuperframe.enterSuperframe (s.b.tai / sfTicks) →
      ((b1.modRad fun r => { r with dueNow := b1.dueSlots, failNow := b1.dueSlots }).radLead = true) →
      exec (.superframeStart busy) s = .next (s.putB (((b1.modRad fun r => { r with dueNow := b1.dueSlots, failNow := b1.dueSlots }).leadSuperframe s.key busy).radioMessage))) ∧
  (-- SUPERFRAME_START on a unit that listens
    ∀ (s : State) (busy : Bool) (b1 : Block),
      s.b.radOn = true →
      (s.b.timState == tmInit) = false →
      (s.b.rad.started && s.b.rad.origin == s.b.tai / sfTicks * sfTicks) = false →
      b1 = s.b.settleSuperframe.enterSuperframe (s.b.tai / sfTicks) →
      ((b1.modRad fun r => { r with dueNow := b1.dueSlots, failNow := b1.dueSlots }).radLead = false) →
      exec (.superframeStart busy) s = .next (s.putB (b1.modRad fun r => { r with dueNow := b1.dueSlots, failNow := b1.dueSlots }).listenSuperframe)) ∧
  (-- SLOT_WINDOW_OPEN
    ∀ (s : State) (slot : Nat) (busy : Bool),
      s.b.radOn = true →
      s.b.rad.started = true →
      exec (.slotWindowOpen slot busy) s = .next (s.putB ((if busy then s.b.cutReception else s.b).modRad fun r => { r with rxSlot := some slot }))) ∧
  (-- BUNDLE_RECEIVE
    ∀ (s : State) (slot : Nat) (f : RadFrame) (x : Bundle) (r : Option Nat × Block) (i : Nat),
      s.b.radOn = true →
      s.b.rad.started = true →
      slot < 24 →
      (r = s.b.radReceive s.key f false false (s.b.owner slot) fun i => s.b.owner slot == some i) →
      r.1 = some i →
      exec (.bundleReceive slot f x) s = .next (s.putB (r.2.takeBundle (1 <<< slot) i f x))) ∧
  (-- ASSOC_REQ at the coordinator
    ∀ (s : State) (slot : Nat) (f : RadFrame) (ppm gear nch cap : Nat),
      s.b.radOn = true →
      s.b.rad.started = true →
      s.b.top.started = true →
      slot < 2 →
      s.b.radLead = true →
      exec (.assocReq slot f ppm gear nch cap) s = .next (s.putB (s.b.joinIn s.key f ppm gear nch cap false))) ∧
  (-- ASSOC_REQ at a listening unit
    ∀ (s : State) (slot : Nat) (f : RadFrame) (ppm gear nch cap : Nat),
      s.b.radOn = true →
      s.b.rad.started = true →
      s.b.top.started = true →
      slot < 2 →
      s.b.radLead = false →
      f.fcsOk = true →
      exec (.assocReq slot f ppm gear nch cap) s = .next (s.putB (s.b.forwardRadio slot f [1, ppm, gear, nch, cap]))) ∧
  (-- POLL at the coordinator
    ∀ (s : State) (slot : Nat) (f : RadFrame) (r : Option Nat × Block) (i : Nat),
      s.b.radOn = true →
      s.b.rad.started = true →
      slot = 2 ∨ slot = 3 →
      s.b.radLead = true →
      (r = s.b.radReceive s.key f false false none fun _ => true) →
      r.1 = some i →
      exec (.poll slot f) s = .next (s.putB (r.2.heardFrom i))) ∧
  (-- DISASSOC at the coordinator
    ∀ (s : State) (slot : Nat) (f : RadFrame) (reason : Nat) (r : Option Nat × Block) (i : Nat),
      s.b.radOn = true →
      s.b.rad.started = true →
      slot = 2 ∨ slot = 3 →
      s.b.radLead = true →
      (r = s.b.radReceive s.key f false false none fun _ => true) →
      r.1 = some i →
      exec (.disassoc slot f reason) s = .next (s.putB (Block.sensorLeaves i (r.2.heardFrom i)))) ∧
  (-- POLL and DISASSOC at a listening unit
    ∀ (s : State) (slot : Nat) (f : RadFrame) (reason : Nat),
      s.b.radOn = true →
      s.b.rad.started = true →
      slot = 2 ∨ slot = 3 →
      s.b.radLead = false →
      f.fcsOk = true →
      exec (.poll slot f) s = .next (s.putB (s.b.forwardRadio (26 + slot) f [5])) ∧
        exec (.disassoc slot f reason) s = .next (s.putB (s.b.forwardRadio (26 + slot) f [6, reason]))) ∧
  (-- RELAY
    ∀ (s : State) (slot : Nat) (f : RadFrame) (inner : List (RadFrame × RadBody)) (r : Option Nat × Block) (i : Nat) (b1 : Block),
      s.b.radOn = true →
      s.b.rad.started = true →
      slot < 24 →
      (r = s.b.radReceive s.key f false false (s.b.owner slot) fun i => s.b.owner slot == some i) →
      r.1 = some i →
      (b1 = (r.2.modRad fun u => { u with acknow := u.acknow ||| 1 <<< slot }).heardFrom i) →
      (b1.flag F.RAD_CTRL_RELAY_EN && (b1.assoc i).relayCap && b1.top.started) = true →
      exec (.relay slot f inner) s = .next (s.putB (inner.foldl (fun b x => b.innerFrame s.key i x) b1))) ∧
  (-- ENH_ACK_RECEIVE at the coordinator
    ∀ (s : State) (n : Nat),
      s.b.radOn = true →
      s.b.rad.started = true →
      s.b.radLead = true →
      exec (.enhAckReceive n) s = .next (s.putB (s.b.acked n))) ∧
  (-- ENH_ACK_RECEIVE at a listening unit
    ∀ (s : State) (n : Nat),
      s.b.radOn = true →
      s.b.rad.started = true →
      s.b.radLead = false →
      exec (.enhAckReceive n) s = .next (s.putB ((s.b.bump Reg.TDM_CNT_RADIO_FWD).tdmSend [12, 26, n]))) ∧
  (-- BEACON_RECEIVE
    ∀ (s : State) (x : Beacon),
      s.b.radOn = true →
      s.b.radLead = false →
      exec (.beaconReceive x) s = .next (s.putB (((s.b.modRad fun r => { r with heard := true, missed := 0, capSfn := x.sfn }).put F.RAD_STAT_MAP_VER x.mapVer).putFlag F.RAD_STAT_MAP_PENDING x.mapPending))) ∧
  (-- RADIO_FORWARD_RECEIVE of a bundle and of a request
    ∀ (s : State) (slot : Nat) (f : RadFrame) (x : Bundle) (ppm gear nch cap : Nat),
      s.b.radOn = true →
      s.b.rad.started = true →
      s.b.tdm.enNow = true →
      s.b.radLead = true →
      (2 ≤ slot ∧ slot < 26 → exec (.radioForwardReceive slot f (.bundle x)) s = .next (s.putB (s.b.bundleIn s.key (slot - 2) f x true))) ∧
        (s.b.top.started = true → exec (.radioForwardReceive slot f (.assocReq ppm gear nch cap)) s = .next (s.putB (s.b.joinIn s.key f ppm gear nch cap true)))) ∧
  (-- RADIO_MESSAGE_RECEIVE
    ∀ (s : State) (m : RadioMsg) (b1 : Block),
      s.b.top.variant ≠ .n0 →
      s.b.tdm.enNow = true →
      s.b.claims = false →
      s.b.laneUp = true →
      s.b.rad.lead = false →
      (b1 = s.b.modRad fun r => { r with capFc := some m.coordFc, capSfn := m.sfn }) →
      exec (.radioMessageReceive m) s = .next (s.putB ((b1.putMap Reg.RAD_MAP_EFF m.map).takeEntries m.sfn m.entries)))

/-- Downlink slots, supervision, excised channels, counters, beaconing, evidence and the host's radio commands -/
def Obligations.RadioMaintenanceTakesEffect : Prop :=
  (-- DOWNLINK_SLOT with a map pending
    ∀ (s : State) (busy : Bool) (p : MapChange) (r : Bool × Block),
      (s.b.radOn && s.b.rad.started && s.b.radLead && s.b.top.started) = true →
      s.b.rad.mapPend = some p →
      r = s.b.radSecured s.key Emit.radio (commandPsdu false 12) [0x03, 0xFFFF, s.b.fld F.RAD_STAT_MAP_VER, p.act % 256, p.map] →
      exec (.downlinkSlot 1 busy) s = .next (s.putB (if r.1 && busy then r.2.bump Reg.RAD_CNT_RX_ABORT else r.2))) ∧
  (-- DOWNLINK_SLOT with a queued frame
    ∀ (s : State) (busy : Bool) (d : Downlink) (r : Bool × Block),
      (s.b.radOn && s.b.rad.started && s.b.radLead && s.b.top.started) = true →
      ((s.b.rad.downlink.find? fun d => !d.sent && decide (d.sends < 4)) = some d) →
      r = s.b.radSecured s.key Emit.radio (commandPsdu (d.cmd == 0x02) (1 + d.body.length)) ([d.cmd, shortOf d.entry, d.seqNo] ++ d.body) →
      r.1 = true →
      exec (.downlinkSlot 0 busy) s = .next (s.putB ((if busy then r.2.bump Reg.RAD_CNT_RX_ABORT else r.2).modRad fun u => { u with downlink := u.downlink.map fun y => if y.seqNo = d.seqNo then { y with sent := true, sends := y.sends + 1 } else y }))) ∧
  (-- SUPERVISION_TIMEOUT
    ∀ (s : State) (i : Nat),
      (s.b.radOn && s.b.rad.started && s.b.radLead) = true →
      (s.b.assoc i).state ≠ 0 →
      s.b.since (s.b.assoc i).heardAt ((s.b.assoc i).sup * tickMs) = true →
      exec (.supervisionTimeout i) s = .next (s.putB (if (s.b.assoc i).state = 2 then s.b.dropAssoc i 0 else s.b.releaseAssoc i))) ∧
  (-- CHANNEL_REINSTATE
    ∀ (s : State) (ch t pct : Nat) (b1 : Block),
      tabGet s.b.rad.excised ch = some (t, pct) →
      (s.b.radOn && s.b.radLead) = true →
      s.b.rad.mapPend = none →
      s.b.since t (s.b.fld F.RAD_EXC_HOLD * 10 * tickS) = true →
      (s.b.mapAt Reg.RAD_MAP).testBit ch = true →
      (s.b.mapAt Reg.RAD_MAP_EFF).testBit ch = false →
      (b1 = (s.b.modRad fun r => { r with excised := tabDel r.excised ch }).changeMap (s.b.mapAt Reg.RAD_MAP_EFF ||| 1 <<< ch) 0) →
      exec (.channelReinstate ch) s = .next (s.putB (b1.note 0x0C04 ch 0 pct (b1.fld F.RAD_STAT_MAP_VER)))) ∧
  (-- FRAME_COUNTER_SAVE
    ∀ (s : State),
      s.b.radOn = true →
      s.b.since s.b.rad.savedAt (60 * tickS) = true →
      exec .frameCounterSave s = .next (s.putB s.b.saveAssoc)) ∧
  (-- COORD_FC_SAVE
    ∀ (s : State),
      4096 ≤ s.b.rad.sinceFc →
      exec .coordFcSave s = .next (s.putB (s.b.modRad fun r => { r with savedFc := (s.b.rd Reg.RAD_FC_OUT).toNat, sinceFc := 0 }))) ∧
  (-- BEACONING_START
    ∀ (s : State),
      (s.b.radOn && s.b.tdm.enNow && s.b.claims) = true →
      s.b.rad.lead = false →
      3 ≤ s.b.rad.missed →
      s.b.partnerClaims = false →
      exec .beaconingStart s = .next (s.putB ((s.b.resumeCap.modRad fun r => { r with lead := true, handFrom := none, lastTo := none }).note 0x0B08 1 ((s.b.resumeCap.rad.sfn + 1) % 2 ^ 32)))) ∧
  (-- RAD_EVIDENCE_POST
    ∀ (s : State) (slot : Nat),
      s.b.top.variant ≠ .n0 →
      exec (.radEvidencePost slot) s = .next (s.putB ((s.b.postEvid (mkEvid 8 s.b.radOn (s.b.radItems.testBit 1 || s.b.radItems.testBit 3) false false s.b.rad.rseq slot s.b.devClass s.b.radItems)).modRad fun r => { r with rseq := (r.rseq + 1) % 65536 }))) ∧
  (-- ASSOC_LIST
    ∀ (s : State) (h : Hdr) (first count : Nat),
      Ready s h 0x0901 ⟨some roleObs, false⟩ →
      s.b.top.variant ≠ .n0 →
      1 ≤ count →
      first + count ≤ 256 →
      exec (.assocList h first count) s = .next (s.answer h 0x0901 yOk (wordBytes ((List.range count).flatMap fun n => (s.taken h 0x0901).assocWords (first + n))) fun b => b)) ∧
  (-- ASSOC_SET
    ∀ (s : State) (h : Hdr) (i : Nat) (en : Bool) (eui gear : Nat) (r : WRes),
      Ready s h 0x0902 ⟨some roleEng, true⟩ →
      r = (s.taken h 0x0902).setAssoc (i % 256) en (eui % 2 ^ 64) (gear % 4) →
      exec (.assocSet h i en eui gear) s = .next (s.answer h 0x0902 r.status [] fun _ => r.b)) ∧
  (-- ASSOC_DROP
    ∀ (s : State) (h : Hdr) (i : Nat),
      Ready s h 0x0903 ⟨some roleEng, true⟩ →
      s.b.top.variant ≠ .n0 →
      exec (.assocDrop h i) s = .next (s.answer h 0x0903 yOk [] fun b => if (b.assoc (i % 256)).state = 2 then b.dropAssoc (i % 256) 1 else b)) ∧
  (-- CHANMAP_SET
    ∀ (s : State) (h : Hdr) (map : Nat),
      Ready s h 0x0904 ⟨some roleEng, true⟩ →
      s.b.top.variant ≠ .n0 →
      map &&& (s.taken h 0x0904).planMap = map →
      (s.taken h 0x0904).mapFloor ≤ (mapList map).length →
      exec (.chanmapSet h map) s = .next (s.answer h 0x0904 yOk (beBytes 1 (((s.taken h 0x0904).setMap map).fld F.RAD_STAT_MAP_VER) ++ beBytes 4 ((s.taken h 0x0904).setMap map).mapActNow) fun b => b.setMap map)) ∧
  (-- ASSOC_WINDOW_LOAD
    ∀ (s : State) (acc i : Nat),
      exec (.assocWindowLoad acc i) s = .next (s.putB ((s.b.aput acc F.RAD_AS_SEL_IDX i).awrs acc Reg.RAD_AS_W (s.b.assocWords (i % 256))))) ∧
  (-- ASSOC_WINDOW_COMMIT
    ∀ (s : State) (acc i : Nat) (b1 : Block) (r : WRes),
      b1 = s.b.aput acc F.RAD_AS_SEL_IDX i →
      b1.mayWrite s.key acc roleEng true = yOk →
      r = b1.setAssoc (i % 256) ((b1.ard acc Reg.RAD_AS_W).getLsbD 31) ((b1.ard acc (Reg.RAD_AS_W + 4)).toNat * 2 ^ 32 + (b1.ard acc (Reg.RAD_AS_W + 8)).toNat) (bits (b1.ard acc (Reg.RAD_AS_W + 12)) 1 0) →
      exec (.assocWindowCommit acc i) s = .next (s.putB (r.b.aput acc F.RAD_AS_SEL_ERR (errCode r.status)))) ∧
  (-- ASSOC_WINDOW_DROP
    ∀ (s : State) (acc i : Nat) (b1 : Block) (r : WRes),
      b1 = s.b.aput acc F.RAD_AS_SEL_IDX i →
      b1.mayWrite s.key acc roleEng true = yOk →
      r = b1.hostDrop (i % 256) →
      exec (.assocWindowDrop acc i) s = .next (s.putB (r.b.aput acc F.RAD_AS_SEL_ERR (errCode r.status)))) ∧
  (-- RADIO_ENABLE
    ∀ (s : State) (acc : Nat) (v : W32) (b1 : Block),
      s.b.mayWrite s.key acc roleEng true = yOk →
      s.b.top.variant ≠ .n0 →
      s.b.fld F.RAD_ID_PAN_ID ≠ 0xFFFF →
      b1 = s.b.wr Reg.RAD_CTRL (v &&& 0x39) →
      exec (.radioEnable acc v) s = .next (s.putB (if v.getLsbD 0 == s.b.flag F.RAD_CTRL_EN then b1 else (b1.put F.RAD_STAT_STATE (v.getLsbD 0).toNat).modRad fun r => { r with started := false, beaconed := false }))) ∧
  (-- RADIO_ENABLE refused
    ∀ (s : State) (acc : Nat) (v : W32),
      s.b.mayWrite s.key acc roleEng true = yOk →
      s.b.top.variant ≠ .n0 →
      s.b.fld F.RAD_ID_PAN_ID = 0xFFFF →
      v.getLsbD 0 = true →
      exec (.radioEnable acc v) s = .next s)

/-- Opening and closing of sessions, credit and the saddle -/
def Obligations.SessionsAndTheSaddleTakeEffect : Prop :=
  (-- HELLO over PCIe
    ∀ (s : State) (h : Hdr) (c r e : Nat) (t : Bool) (b1 : Block),
      h.session < 4 →
      (s.b.sess h.session).state ≠ 1 →
      ¬(s.b.topState = stKick ∧ h.session ≠ 0) →
      helloParamsOk 1 c r e = true →
      s.b.gspRoles h.session ≠ 0 →
      b1 = (s.b.openSession h.session (s.b.gspRoles h.session) c r e none 0).helloTake h.session h →
      exec (.hello h 1 c r e none t) s = .next (s.putB (b1.reply h.session 0x0001 h.tag yOk (helloReply b1 h.session (s.b.gspRoles h.session))))) ∧
  (-- HELLO over UDP
    ∀ (s : State) (h : Hdr) (c r e n proved granted : Nat) (u : HelloUdp),
      s.b.udpSession u.ip u.port = none →
      (([4, 5, 6, 7].find? fun s' => (s.b.sess s').state == 0) = some n) →
      ¬(s.b.topState = stKick ∧ u.mgt ≠ 0) →
      helloParamsOk 1 c r e = true →
      1 ≤ u.sigs.length →
      u.sigs.length ≤ 5 →
      proved = provedRoles s.key u.sigs →
      granted = s.b.gspRoles n &&& proved →
      granted ≠ 0 →
      exec (.hello h 1 c r e (some u) false) s = .next (s.onKB fun k b => helloUdpOpen h n (granted ||| 1) proved c r e u k (b.bumpBy Reg.KEY_CNT_AUTH_FAIL (u.sigs.filter fun e => !e.2).length))) ∧
  (-- BYE
    ∀ (s : State) (h : Hdr) (b1 : Block) (pkt : List Byte),
      Ready s h 0x0002 ⟨none, false⟩ →
      b1 = s.taken h 0x0002 →
      pkt = ycpPacket h.session flReply 0x0002 h.tag yOk (b1.creditByte h.session) 0 [] →
      exec (.bye h) s = .next (s.onKB fun k _ => endSession h.session 0 k (if isUdp h.session then b1.sendDatagram h.session pkt else b1.emit 10 Emit.ycp (pkt.map BitVec.toNat)))) ∧
  (-- PCIE_LINK_DOWN
    ∀ (s : State),
      exec .pcieLinkDown s = .next (((((s.onKB (endSession 0 2)).onKB (endSession 1 2)).onKB (endSession 2 2)).onKB (endSession 3 2)))) ∧
  (-- FUNCTION_LEVEL_RESET
    ∀ (s : State) (f : Nat),
      f < 4 →
      exec (.functionLevelReset f) s = .next (s.onKB (endSession f 2))) ∧
  (-- UDP_SESSION_TIMEOUT
    ∀ (s : State) (n : Nat),
      4 ≤ n →
      n < 8 →
      (s.b.sess n).state = 1 →
      s.b.since (s.b.sess n).lastAuth (s.b.fld F.HST_CTRL_UDP_TMO * tickS) = true →
      exec (.udpSessionTimeout n) s = .next (s.onKB (endSession n 1))) ∧
  (-- CREDIT_QUERY
    ∀ (s : State) (h : Hdr) (x : Session),
      Ready s h 0x0003 ⟨none, false⟩ →
      x = (s.taken h 0x0003).sess h.session →
      exec (.creditQuery h) s = .next (s.answer h 0x0003 yOk (beBytes 2 x.cmdFree ++ beBytes 2 x.rpl.free ++ beBytes 2 x.evt.free) fun b => b)) ∧
  (-- SADDLE_TAKE of a free or an own saddle
    ∀ (s : State) (h : Hdr) (lease : Nat) (force : Bool),
      Ready s h 0x0004 ⟨some roleEng, false⟩ →
      10 ≤ lease →
      lease ≤ 3600 →
      (s.taken h 0x0004).hst.holder = none ∨ (s.taken h 0x0004).hst.holder = some h.session →
      exec (.saddleTake h lease force) s = .next (s.answer h 0x0004 yOk (beBytes 6 (lt48 ((s.taken h 0x0004).tai + lease * tickS)).toNat) fun b => b.grantSaddle h.session lease 0)) ∧
  (-- SADDLE_TAKE with FORCE
    ∀ (s : State) (h : Hdr) (lease n : Nat),
      Ready s h 0x0004 ⟨some roleEng, false⟩ →
      10 ≤ lease →
      lease ≤ 3600 →
      (s.taken h 0x0004).hst.holder = some n →
      n ≠ h.session →
      (s.taken h 0x0004).hasRole s.key h.session roleMnt = true →
      exec (.saddleTake h lease true) s = .next (s.answer h 0x0004 yOk (beBytes 6 (lt48 ((s.taken h 0x0004).tai + lease * tickS)).toNat) fun b =>
        (b.modSess n fun x => { x with outStage := none, gspStage := none, fwStage := none }).grantSaddle h.session lease 4)) ∧
  (-- SADDLE_TAKE of another's saddle
    ∀ (s : State) (h : Hdr) (lease n : Nat) (force : Bool),
      Ready s h 0x0004 ⟨some roleEng, false⟩ →
      10 ≤ lease →
      lease ≤ 3600 →
      (s.taken h 0x0004).hst.holder = some n →
      n ≠ h.session →
      (force && (s.taken h 0x0004).hasRole s.key h.session roleMnt) = false →
      exec (.saddleTake h lease force) s = .next (s.answer h 0x0004 yBusy [] fun b => b)) ∧
  (-- SADDLE_DROP
    ∀ (s : State) (h : Hdr),
      Ready s h 0x0005 ⟨some roleEng, true⟩ →
      exec (.saddleDrop h) s = .next (s.answer h 0x0005 yOk [] fun b => b.releaseSaddle 1)) ∧
  (-- SADDLE_EXPIRY
    ∀ (s : State),
      s.b.hst.holder.isSome = true →
      s.b.hst.leaseEnd ≤ s.b.now →
      exec .saddleExpiry s = .next (s.putB (s.b.releaseSaddle 2)))

/-- Command packets, pannier operations, replies, subscriptions and the share registers -/
def Obligations.PacketsAndPanniersTakeEffect : Prop :=
  (-- PAN_CMD_CELL_APPEND
    ∀ (s : State) (f : Nat) (v : W32),
      f < 4 →
      (s.b.sess f).cmdFree ≠ 0 →
      exec (.panCmdCellAppend f v) s = .next (s.putB (s.b.modSess f fun x => { x with cellBuf := x.cellBuf.set 15 v, staged := x.staged ++ [cellBytes (x.cellBuf.set 15 v)] }))) ∧
  (-- PAN_CMD_CELL_APPEND without credit
    ∀ (s : State) (f : Nat) (v : W32),
      f < 4 →
      (s.b.sess f).cmdFree = 0 →
      exec (.panCmdCellAppend f v) s = .next (s.putB (s.b.modSess f fun x => { x with cellBuf := x.cellBuf.set 15 v, overrun := true, cellLost := true }))) ∧
  (-- PAN_CMD_PUSH
    ∀ (s : State) (f n : Nat) (pkt : List Byte),
      f < 4 →
      1 ≤ n →
      n ≤ 65 →
      (s.b.sess f).staged.length = n →
      pkt = (s.b.sess f).staged.flatten →
      ((packetStatus f pkt fun len => cellsFor len == n) = yOk) →
      exec (.panCmdPush f n) s = .next (s.putB ((s.b.modSess f fun x => { x with staged := [], cellLost := false }).takePacket f n pkt))) ∧
  (-- PAN_CMD_PUSH of another number of cells
    ∀ (s : State) (f n : Nat) (pkt : List Byte),
      f < 4 →
      1 ≤ n →
      (s.b.sess f).staged.length ≠ n →
      pkt = (s.b.sess f).staged.flatten →
      exec (.panCmdPush f n) s = .next (s.putB ((s.b.modSess f fun x => { x with staged := [], cellLost := false }).reply f (pktNat pkt 6 2) (pktNat pkt 8 2) (if (s.b.sess f).cellLost then yNoCredit else yBadLength) []))) ∧
  (-- PAN_CMD_PUSH of a packet that fails a check
    ∀ (s : State) (f n st : Nat) (pkt : List Byte),
      f < 4 →
      1 ≤ n →
      n ≤ 65 →
      (s.b.sess f).staged.length = n →
      pkt = (s.b.sess f).staged.flatten →
      ((packetStatus f pkt fun len => cellsFor len == n) = st) →
      st ≠ yOk →
      exec (.panCmdPush f n) s = .next (s.putB (((s.b.modSess f fun x => { x with staged := [], cellLost := false }).reply f (pktNat pkt 6 2) (pktNat pkt 8 2) st []).emit 10 Emit.pcie [f, 2]))) ∧
  (-- YCP_DATAGRAM_RECEIVE
    ∀ (s : State) (d : Datagram) (n : Nat),
      (if d.mgt = 0 then s.b.flag F.HST_CTRL_UDP_MGT0 else s.b.flag F.HST_CTRL_UDP_MGT1) = true →
      d.dport = s.b.fld F.HST_CTRL_UDP_PORT →
      s.b.udpSession d.ip d.port = some n →
      pktNat d.pkt 6 2 ≠ 1 →
      d.mac = ycpMac (s.b.sess n).sessKey d.pkt d.counter →
      (s.b.sess n).rxCtr < d.counter →
      cellsFor (d.pkt.length - 20) ≤ (s.b.sess n).cmdFree →
      ((packetStatus n d.pkt fun len => d.pkt.length == 20 + len) = yOk) →
      exec (.ycpDatagramReceive d) s = .next (s.putB ((s.b.modSess n fun x => { x with rxCtr := d.counter, lastAuth := s.b.now }).takePacket n (cellsFor (d.pkt.length - 20)) d.pkt))) ∧
  (-- the pannier operations by register
    ∀ (s : State) (f p n : Nat),
      f < 4 →
      exec (.panMark (.reg f) p) s = .next (s.putB (s.b.modPan f p .setMark)) ∧
        exec (.panRewind (.reg f) p) s = .next (s.putB (s.b.modPan f p .rewind)) ∧
        exec (.panRelease (.reg f) p n) s = .next (s.putB (s.b.modPan f p (·.release n))) ∧
        exec (.panRplNext f p) s = .next (s.putB (s.b.modPan f p .next))) ∧
  (-- the pannier operations by opcode over UDP
    ∀ (s : State) (h : Hdr) (p n : Nat) (b1 b2 : Block),
      Ready s h 0x0006 ⟨none, false⟩ →
      Ready s h 0x0008 ⟨none, false⟩ →
      4 ≤ h.session →
      p ≤ 1 →
      b1 = (s.taken h 0x0006).modPan h.session p .setMark →
      b2 = (s.taken h 0x0008).modPan h.session p (·.release n) →
      exec (.panMark (.ycp h) p) s = .next (s.putB (b1.controlReply h.session 0x0006 h.tag (b1.pan h.session p).result [])) ∧
        exec (.panRelease (.ycp h) p n) s = .next (s.putB (b2.controlReply h.session 0x0008 h.tag (b2.pan h.session p).result []))) ∧
  (-- PAN_REWIND by opcode over UDP
    ∀ (s : State) (h : Hdr) (p : Nat) (b1 b2 : Block),
      Ready s h 0x0007 ⟨none, false⟩ →
      4 ≤ h.session →
      p ≤ 1 →
      b1 = (s.taken h 0x0007).modPan h.session p .rewind →
      b2 = b1.controlReply h.session 0x0007 h.tag (b1.pan h.session p).result [] →
      exec (.panRewind (.ycp h) p) s = .next (s.putB (if (s.b.pan h.session p).mark.isSome then b2.resend h.session p else b2))) ∧
  (-- the pannier operations by opcode over PCIe
    ∀ (s : State) (h : Hdr) (p n : Nat),
      h.session < 4 →
      Ready s h 0x0006 ⟨none, false⟩ →
      Ready s h 0x0007 ⟨none, false⟩ →
      Ready s h 0x0008 ⟨none, false⟩ →
      exec (.panMark (.ycp h) p) s = .next (s.answer h 0x0006 yDenied [] id) ∧
        exec (.panRewind (.ycp h) p) s = .next (s.answer h 0x0007 yDenied [] id) ∧
        exec (.panRelease (.ycp h) p n) s = .next (s.answer h 0x0008 yDenied [] id)) ∧
  (-- TAG_QUERY
    ∀ (s : State) (h : Hdr) (tag : Nat) (x : Session),
      Ready s h 0x0009 ⟨none, false⟩ →
      x = (s.taken h 0x0009).sess h.session →
      exec (.tagQuery h tag) s = .next (s.answer h 0x0009 (if x.pending.any (fun e => e.1 == tag) || x.taken.any (fun t => t.tag == tag) then yNotReady else ((x.done.find? fun e => e.1 == tag).map (·.2)).getD yBadParam) [] fun b => b)) ∧
  (-- PENDING_COMMAND_COMPLETE
    ∀ (s : State) (n tag op st : Nat) (pl : List Byte),
      (((s.b.sess n).pending.find? fun e => e.1 == tag) = some (tag, op)) →
      st ≠ yPending →
      st ≠ yNotReady →
      exec (.pendingCommandComplete n tag st pl) s = .next (s.putB (s.b.finish n tag op st pl))) ∧
  (-- REPLY_FRAGMENT
    ∀ (s : State) (n : Nat),
      exec (.replyFragment n) s = .next (s.putB (s.b.replyStep n))) ∧
  (-- HOST_EVT_GAP
    ∀ (s : State) (n sub : Nat) (u : Sub) (b1 : Block) (pkt : List Byte),
      (((s.b.sess n).subs.find? fun u => u.num == sub && u.dropped != 0) = some u) →
      1 ≤ (s.b.sess n).evt.free →
      pkt = ycpPacket n flEvent 0x0D0F u.num yOk (s.b.creditByte n) u.seqNo (beBytes 4 u.dropped) →
      (b1 = s.b.modSess n fun x => { x with subs := x.subs.map fun v => if v.num = u.num then { v with dropped := 0, seqNo := (v.seqNo + 1) % 65536 } else v }) →
      exec (.hostEvtGap n sub) s = .next (s.putB ((b1.putEvt n pkt).note 0x0D04 n u.num u.dropped))) ∧
  (-- SUB_ADD
    ∀ (s : State) (h : Hdr) (kind filter : Nat) (l : List Sub),
      Ready s h 0x0D01 ⟨some roleObs, false⟩ →
      kind ≤ 4 →
      l = ((s.taken h 0x0D01).sess h.session).subs →
      l.length < 16 →
      exec (.subAdd h kind filter) s = .next (s.answer h 0x0D01 yOk (beBytes 1 (freeSub l)) fun b => b.modSess h.session fun x => { x with subs := x.subs ++ [⟨freeSub l, kind, filter, 0, 0⟩] })) ∧
  (-- SUB_REMOVE
    ∀ (s : State) (h : Hdr) (sub : Nat),
      Ready s h 0x0D02 ⟨some roleObs, false⟩ →
      (((s.taken h 0x0D02).sess h.session).subs.any (fun u => u.num == sub) = true) →
      exec (.subRemove h sub) s = .next (s.answer h 0x0D02 yOk [] fun b => b.modSess h.session fun x => { x with subs := x.subs.filter (·.num != sub) })) ∧
  (-- SUB_LIST
    ∀ (s : State) (h : Hdr),
      Ready s h 0x0D03 ⟨some roleObs, false⟩ →
      exec (.subList h) s = .next (s.answer h 0x0D03 yOk (((s.taken h 0x0D03).sess h.session).subs.flatMap fun u => beBytes 1 u.num ++ beBytes 1 u.kind ++ beBytes 4 u.filter) fun b => b)) ∧
  (-- HOST_SHARE_WRITE
    ∀ (s : State) (acc which : Nat) (v : W32) (b1 : Block),
      s.b.mayWrite s.key acc roleEng true = yOk →
      shareSum v + shareSum (s.b.rd (if which = 0 then Reg.HST_SHARE_B else Reg.HST_SHARE_A)) ≤ 100 →
      b1 = (s.b.wr (if which = 0 then Reg.HST_SHARE_A else Reg.HST_SHARE_B) v).put F.HST_STAT_SHARE_ERR 0 →
      exec (.hostShareWrite acc which v) s = .next (s.putB (b1.note 0x0D05 (b1.rd Reg.HST_SHARE_A).toNat (b1.rd Reg.HST_SHARE_B).toNat))) ∧
  (-- HOST_SHARE_WRITE past 100
    ∀ (s : State) (acc which : Nat) (v : W32),
      s.b.mayWrite s.key acc roleEng true = yOk →
      100 < shareSum v + shareSum (s.b.rd (if which = 0 then Reg.HST_SHARE_B else Reg.HST_SHARE_A)) →
      exec (.hostShareWrite acc which v) s = .next (s.putB (s.b.put F.HST_STAT_SHARE_ERR 1)))

/-- The four pannier operations move RP, MK and FP as R439 says, by signed differences -/
def Obligations.PannierPointersFollowR439 : Prop :=
  (-- NEXT
    ∀ (p : Pannier),
      p.next = (if p.rp = p.wp then p else { p with rp := p.rp + 1 })) ∧
  (-- MARK and REWIND
    ∀ (p : Pannier) (m : W32),
      p.setMark = { p with mark := some p.rp, result := yOk } ∧
        (p.mark = none → p.rewind = { p with result := yNoMark }) ∧
        (p.mark = some m → p.rewind = { p with rp := m, result := yOk } ∧ p.rewind.mark = some m)) ∧
  (-- RELEASE
    ∀ (p : Pannier) (n : Nat) (target : W32),
      (p.rp - p.fp).toNat < 2 ^ 31 →
      n < 2 ^ 31 →
      (∀ m, p.mark = some m → (m - p.fp).toNat ≤ (p.rp - p.fp).toNat) →
      (target = if n = 0 then p.rp else if (p.fp + BitVec.ofNat 32 n - p.rp).toInt ≤ 0 then p.fp + BitVec.ofNat 32 n else p.rp) →
      (p.release n).fp = target ∧ (p.release n).rp = p.rp ∧ (p.release n).wp = p.wp ∧
        (p.mark = none → (p.release n).mark = none ∧ (p.release n).result = yOk) ∧
        ∀ m, p.mark = some m → (0 < (target - m).toInt → (p.release n).mark = none ∧ (p.release n).result = yMarkLost) ∧ ((target - m).toInt ≤ 0 → (p.release n).mark = some m ∧ (p.release n).result = yOk)) ∧
  (-- a packet is written
    ∀ (p : Pannier) (pkt : List Byte),
      p.write pkt = { p with cells := p.cells ++ toCells 66 pkt, wp := p.wp + BitVec.ofNat 32 (toCells 66 pkt).length })

/-- PUF regeneration, KEY_GEN, certificates, quotes and the slot window -/
def Obligations.KeyCommandsTakeEffect : Prop :=
  (-- DUK_REGENERATE with an attempt that passes
    ∀ (s : State) (tries : List Bool) (n : Nat) (c : Nat) (k1 : Key),
      s.key.duk = none →
      s.b.top.rstRun = none →
      s.b.top.started = false →
      k1 = s.key.enrolled →
      (k1.helperA || k1.helperB) = true →
      (tries.take 3).contains true = true →
      n = (tries.take 3).findIdx id + 1 →
      exec (.dukRegenerate tries c) s = .next (s.onKB fun _ b => ({ k1 with duk := some Config.duk, pufOk := true, pufFail := false, pufTries := n }, (b.bumpBy Reg.KEY_CNT_PUF_RETRY (n - 1)).note 0x0E01 (if n = 1 then 0 else 1) c n))) ∧
  (-- DUK_REGENERATE when every attempt fails
    ∀ (s : State) (tries : List Bool) (c : Nat) (k1 : Key),
      s.key.duk = none →
      s.b.top.rstRun = none →
      s.b.top.started = false →
      k1 = s.key.enrolled →
      ((k1.helperA || k1.helperB) && (tries.take 3).contains true) = false →
      exec (.dukRegenerate tries c) s = .next (s.onKB fun _ b => (k1.pufFailed, (b.bumpBy Reg.KEY_CNT_PUF_RETRY 2).note 0x0E01 2 c 3))) ∧
  (-- KEY_GEN that loads a key
    ∀ (s : State) (h : Hdr) (slot i mode engine alg : Nat) (c : KeyContent) (kb kb2 : Key × Block) (x : KeySlot),
      Ready s h 0x0A02 (keyGenReq slot mode) →
      s.key.lcs ≠ 4 →
      mode ≤ 4 →
      s.key.genSlot slot = some i →
      s.key.genRefusal i mode engine alg = yOk →
      contentFits s.key mode c = true →
      kb = vacate i mode c s.key (s.taken h 0x0A02) →
      (kb.1.keep i).genKey i mode engine alg h.session kb.2.tim.sec c = some x →
      kb2 = keyLoaded { kb.1.keep i with draws := (kb.1.keep i).draws + 1 } kb.2 i x →
      exec (.keyGen h slot mode engine alg c false) s = .next (s.answerK h 0x0A02 yOk (beBytes 1 i ++ beBytes 4 ((kb2.1.keep i).slot i).gen ++ x.pubBytes alg) (kb2.1.keep i) (kb2.2.bump Reg.KEY_CNT_OP))) ∧
  (-- KEY_GEN whose unwrap fails
    ∀ (s : State) (h : Hdr) (slot i mode engine alg : Nat) (c : KeyContent) (kb : Key × Block),
      Ready s h 0x0A02 (keyGenReq slot mode) →
      s.key.lcs ≠ 4 →
      mode ≤ 4 →
      s.key.genSlot slot = some i →
      s.key.genRefusal i mode engine alg = yOk →
      contentFits s.key mode c = true →
      kb = vacate i mode c s.key (s.taken h 0x0A02) →
      (kb.1.keep i).genKey i mode engine alg h.session kb.2.tim.sec c = none →
      exec (.keyGen h slot mode engine alg c false) s = .next (s.answerK h 0x0A02 yAuthFail [] (kb.1.keep i) ((kb.2.bump Reg.KEY_CNT_AUTH_FAIL).bump Reg.KEY_CNT_OP))) ∧
  (-- KEY_GEN mode 5
    ∀ (s : State) (h : Hdr) (slot i engine alg : Nat) (c : KeyContent) (kb : Key × Block),
      Ready s h 0x0A02 (keyGenReq slot 5) →
      s.key.lcs ≠ 4 →
      s.key.genSlot slot = some i →
      s.key.genRefusal i 5 engine alg = yOk →
      kb = vacate i 5 c s.key (s.taken h 0x0A02) →
      exec (.keyGen h slot 5 engine alg c false) s = .next (s.answerK h 0x0A02 yOk (beBytes 1 i ++ beBytes 4 ((kb.1.keep i).slot i).gen) (kb.1.keep i) (kb.2.bump Reg.KEY_CNT_OP))) ∧
  (-- KEY_GEN under a tamper event
    ∀ (s : State) (h : Hdr) (slot i mode engine alg : Nat) (c : KeyContent) (kb : Key × Block),
      Ready s h 0x0A02 (keyGenReq slot mode) →
      s.key.lcs ≠ 4 →
      mode ≤ 5 →
      s.key.genSlot slot = some i →
      s.key.genRefusal i mode engine alg = yOk →
      contentFits s.key mode c = true →
      kb = vacate i mode c s.key (s.taken h 0x0A02) →
      exec (.keyGen h slot mode engine alg c true) s = .next (s.answerK h 0x0A02 yTamperAbort [] ((kb.1.keep i).zeroise i) (keyAbort (kb.1.keep i) kb.2 0x0A02 i))) ∧
  (-- KEY_GEN refused
    ∀ (s : State) (h : Hdr) (slot i mode engine alg : Nat) (c : KeyContent) (t : Bool),
      Ready s h 0x0A02 (keyGenReq slot mode) →
      s.key.genSlot slot = some i →
      mode ≤ 5 →
      s.key.lcs = 4 ∨ s.key.genRefusal i mode engine alg ≠ yOk →
      exec (.keyGen h slot mode engine alg c t) s = .next (s.answerK h 0x0A02 (if s.key.lcs = 4 then yDenied else s.key.genRefusal i mode engine alg) [] s.key (s.taken h 0x0A02))) ∧
  (-- KEY_CERTIFY
    ∀ (s : State) (h : Hdr) (slot : Nat) (nonce : BitVec 256),
      Ready s h 0x0A03 ⟨some roleObs, false⟩ →
      slot < 64 →
      (s.key.slot slot).state ≠ 0 →
      exec (.keyCertify h slot nonce false) s = .next (s.answer h 0x0A03 yOk (s.key.certificate slot nonce ++ s.key.aliasDoc) fun b => b.bump Reg.KEY_CNT_OP)) ∧
  (-- ATTEST_QUOTE
    ∀ (s : State) (h : Hdr) (nonce : BitVec 256),
      Ready s h 0x0A01 ⟨some roleObs, false⟩ →
      exec (.attestQuote h nonce false) s = .next (s.answer h 0x0A01 yOk (s.key.quote (s.taken h 0x0A01) nonce 0 ++ s.key.aliasDoc) fun b => b.bump Reg.KEY_CNT_OP)) ∧
  (-- KEY_CERTIFY and ATTEST_QUOTE under a tamper event
    ∀ (s : State) (h : Hdr) (slot : Nat) (nonce : BitVec 256),
      Ready s h 0x0A03 ⟨some roleObs, false⟩ →
      Ready s h 0x0A01 ⟨some roleObs, false⟩ →
      slot < 64 →
      (s.key.slot slot).state ≠ 0 →
      exec (.keyCertify h slot nonce true) s = .next (s.answer h 0x0A03 yTamperAbort [] fun b => keyAbort s.key b 0x0A03 0xFF) ∧
        exec (.attestQuote h nonce true) s = .next (s.answer h 0x0A01 yTamperAbort [] fun b => keyAbort s.key b 0x0A01 0xFF)) ∧
  (-- KEY_SLOT_LOAD
    ∀ (s : State) (acc slot : Nat) (x : KeySlot),
      s.b.mayWrite s.key acc roleObs false = yOk →
      x = s.key.slot (slot % 64) →
      exec (.keySlotLoad acc slot) s = .next (s.putB ((((s.b.aput acc F.KEY_SLOT_SEL_SLOT slot).awr acc Reg.KEY_SLOT_INFO (BitVec.ofNat 32 x.info)).awr acc Reg.KEY_SLOT_GEN (BitVec.ofNat 32 x.gen)).awr acc Reg.KEY_SLOT_KCV (BitVec.ofNat 32 (if x.state = 0 then 0 else x.kcv32)))))

/-- A tamper event latches, counts, withholds and is recorded; TAMPER_ACK ends it -/
def Obligations.TamperEventsLatchWithholdAndAreAcknowledged : Prop :=
  (-- TAMPER_EVENT
    ∀ (s : State) (src : Nat) (b1 : Block),
      s.b.tamperWatched src = true →
      s.key.live.testBit src = false →
      s.key.armed.testBit src = true →
      b1 = (s.b.bump Reg.KEY_CNT_TAMPER).secDown →
      exec (.tamperEvent src) s = .next (s.onKB fun k _ => (k.tamper src, b1.recBy (if s.b.topState = stWatch then 3 else 4) (decide (s.b.topState = stWatch)) 0x0E03 (1 <<< src) (k.tamper src).tseq b1.topState (!k.withheld).toNat))) ∧
  (-- what it leaves of the key block
    ∀ (k : Key) (src i : Nat),
      i < 64 →
      k.slots.length = 64 →
      k.withheld = false →
      (k.tamper src).tseq = (k.tseq + 1) % 2 ^ 32 ∧ (k.tamper src).pend = true ∧ (k.tamper src).withheld = true ∧
        (k.tamper src).latch = k.latch ||| 1 <<< src ∧
        ((k.tamper src).slot i).state = (if [10, 11, 12, 13, 16, 18].contains i && (k.slot i).state == 1 then 2 else (k.slot i).state)) ∧
  (-- MESH_CHECK that fails
    ∀ (s : State),
      s.key.meshFails = 0 →
      exec (.meshCheck false) s = .next { s with key := { s.key with meshFails := 1 } }) ∧
  (-- MESH_CHECK that fails again
    ∀ (s : State),
      1 ≤ s.key.meshFails →
      exec (.meshCheck false) s = .next (s.onKB fun k b => tamperEvent 4 { k with meshFails := 2 } b)) ∧
  (-- MESH_CHECK that passes
    ∀ (s : State),
      exec (.meshCheck true) s = .next { s with key := { s.key with meshFails := 0 } }) ∧
  (-- TAMPER_SOURCE_CLEAR
    ∀ (s : State) (src out : Nat),
      src < 8 →
      exec (.tamperSourceClear src out) s = .next { s with key := { s.key with live := s.key.live &&& (0xFF - 1 <<< src), armed := if s.b.fld F.KEY_TMP_CTRL_DEBOUNCE ≤ out then s.key.armed ||| 1 <<< src else s.key.armed } }) ∧
  (-- TAMPER_ACK
    ∀ (s : State) (h : Hdr) (tseq : Nat) (ok : Bool),
      Ready s h 0x0A04 ⟨some roleOpr, false⟩ →
      (ok = true → s.key.usable 3 = true → tseq = s.key.tseq → s.key.live = 0 → exec (.tamperAck h tseq ok) s = .next (s.answerK h 0x0A04 yOk [] { s.key.unwithhold with pend := false, acked := tseq } ((s.taken h 0x0A04).note 0x0E04 tseq h.session))) ∧
        (ok = true → s.key.usable 3 = true → (tseq ≠ s.key.tseq ∨ s.key.live ≠ 0) → exec (.tamperAck h tseq ok) s = .next (s.answerK h 0x0A04 yDenied [] s.key (s.taken h 0x0A04))) ∧
        ((ok = false ∨ s.key.usable 3 = false) → exec (.tamperAck h tseq ok) s = .next (s.answerK h 0x0A04 yAuthFail [] s.key ((s.taken h 0x0A04).bump Reg.KEY_CNT_AUTH_FAIL))))

/-- Records are accepted, committed, sealed, marked and counted -/
def Obligations.RecorderAcceptsCommitsSealsAndMarks : Prop :=
  (-- RECORD_ACCEPT
    ∀ (s : State) (r : Rec) (rest : List Rec),
      s.b.log.offered = r :: rest →
      (s.b.pfail && r.src == 1) = false →
      exec .recordAccept s = .next (s.onB fun k b => (b.modLog fun l => { l with offered := rest }).takeIn k r.code r.src r.aon r.p0 r.p1 r.p2 r.p3)) ∧
  (-- RECORD_ACCEPT of a firmware record under PFAIL
    ∀ (s : State) (r : Rec) (rest : List Rec),
      s.b.log.offered = r :: rest →
      s.b.pfail = true →
      r.src = 1 →
      exec .recordAccept s = .next (s.onB fun _ b => (b.modLog fun l => { l with offered := rest, dropped := l.dropped + 1 }).bump Reg.LOG_CNT_DROP)) ∧
  (-- RECORD_COMMIT
    ∀ (s : State) (r : LogRec) (rest : List LogRec),
      s.b.log.queue = r :: rest →
      exec .recordCommit s = .next (s.onB fun _ b => (b.commitRec r).modLog fun l => { l with queue := rest })) ∧
  (-- nothing offered and nothing queued
    ∀ (s : State),
      s.b.log.offered = [] →
      s.b.log.queue = [] →
      exec .recordAccept s = .next s ∧ exec .recordCommit s = .next s) ∧
  (-- LOG_DROPPED
    ∀ (s : State),
      s.b.dropDue = true →
      exec .logDropped s = .next (s.onB fun _ b => (b.modLog fun l => { l with dropped := 0 }).accept 0x0F05 1 false false (BitVec.ofNat 32 b.log.dropped) 0 0 0)) ∧
  (-- LOG_DROPPED not due
    ∀ (s : State),
      s.b.dropDue = false →
      exec .logDropped s = .next s) ∧
  (-- TIME_MARK
    ∀ (s : State),
      s.b.markDue = true →
      exec .timeMark s = .next (s.onB fun k b => b.marked.arrive k 0x0F03 1 false (BitVec.ofNat 32 b.tim.sec) (BitVec.ofNat 32 b.tim.ns) b.markP2 (BitVec.ofNat 32 b.opsec))) ∧
  (-- TIME_MARK not due
    ∀ (s : State),
      s.b.markDue = false →
      exec .timeMark s = .next s) ∧
  (-- LOG_SEAL
    ∀ (s : State),
      s.b.sealDue s.key = true →
      exec .logSeal s = .next (s.onB fun k b => b.sealWith k (b.sealNow k))) ∧
  (-- LOG_SEAL not due
    ∀ (s : State),
      s.b.sealDue s.key = false →
      exec .logSeal s = .next s) ∧
  (-- OPSEC_SAVE
    ∀ (s : State),
      s.b.log.opsecSaved + 60 ≤ s.b.opsec →
      exec .opsecSave s = .next (s.onB fun _ b => b.modLog fun l => { l with opsecSaved := b.opsec, savedAtPfail := false, lostSaved := l.lost })) ∧
  (-- OPSEC_SAVE before its 60 s
    ∀ (s : State),
      s.b.opsec < s.b.log.opsecSaved + 60 →
      exec .opsecSave s = .next s)

/-- LOG_READ, LOG_CTRL.VERIFY and LOG_CLEAR -/
def Obligations.LogReadVerifyAndClearTakeEffect : Prop :=
  (-- LOG_READ
    ∀ (s : State) (h : Hdr) (first count : Nat) (l : List LogRec),
      Ready s h 0x0B01 ⟨some roleObs, false⟩ →
      1 ≤ count →
      count ≤ 128 →
      s.b.log.range count first = some l →
      exec (.logRead h first count) s = .next (s.answer h 0x0B01 yOk (l.flatMap LogRec.bytes) fun b => b.bumpBy Reg.LOG_CNT_CRC (l.filter fun r => !r.crcOk).length)) ∧
  (-- LOG_READ refused
    ∀ (s : State) (h : Hdr) (first count : Nat),
      Ready s h 0x0B01 ⟨some roleObs, false⟩ →
      count < 1 ∨ 128 < count ∨ s.b.log.range count first = none →
      exec (.logRead h first count) s = .next (s.answer h 0x0B01 yBadParam [] id)) ∧
  (-- SEAL_VERIFY
    ∀ (s : State) (acc : Nat),
      s.b.mayWrite s.key acc roleEng true = yOk →
      exec (.sealVerify acc) s = .next (s.onB fun k b => b.verifyChains k)) ∧
  (-- SEAL_VERIFY refused
    ∀ (s : State) (acc : Nat),
      s.b.mayWrite s.key acc roleEng true ≠ yOk →
      exec (.sealVerify acc) s = .next (s.onB fun _ b => (wErr s.b acc (b.mayWrite s.key acc roleEng true)).b)) ∧
  (-- LOG_CLEAR
    ∀ (s : State) (h : Hdr) (clrNo newSize newFixed : Nat),
      Ready s h 0x0B02 ⟨some roleMnt, false⟩ →
      logSizesOk newSize newFixed = true →
      (s.key.slot 3).state ≠ 0 →
      clrNo = s.b.log.clrCnt →
      exec (.logClear h clrNo newSize newFixed true) s = .next (s.answer h 0x0B02 yOk [] fun b => (b.newLog newSize newFixed).accept 0x0F01 1 false false (BitVec.ofNat 32 b.log.rnumNext) (BitVec.ofNat 32 b.log.lost) (BitVec.ofNat 32 h.session) (BitVec.ofNat 32 clrNo))) ∧
  (-- LOG_CLEAR refused
    ∀ (s : State) (h : Hdr) (clrNo newSize newFixed : Nat) (sigOk : Bool) (st : Nat),
      Ready s h 0x0B02 ⟨some roleMnt, false⟩ →
      (st = (if logSizesOk newSize newFixed = false then yBadParam else if (s.key.slot 3).state = 0 then yDenied else if sigOk = false then yAuthFail else if clrNo ≠ s.b.log.clrCnt then yDenied else yOk)) →
      st ≠ yOk →
      exec (.logClear h clrNo newSize newFixed sigOk) s = .next (s.answer h 0x0B02 st [] id))

/-- An accepted record takes RNUM_NEXT and SEQ and joins the queue's end -/
def Obligations.RecordsTakeTheirNumbersInOrder : Prop :=
  (-- RECORD_ACCEPT numbers the record
    ∀ (s : State) (r : Rec) (rest : List Rec) (op : Bool) (x : LogRec),
      s.b.log.offered = r :: rest →
      s.b.pfail = false →
      s.b.log.dropped = 0 →
      s.b.sealDue s.key = false →
      s.b.log.queue.length < 64 →
      s.b.log.full = false →
      s.b.log.size ≠ 65536 →
      r.code ≠ 0x0F04 →
      op = (r.code != 0x0F03 && s.b.tformNow r.src) →
      x.rnum = s.b.log.rnumNext →
      x.code = r.code →
      x.src = r.src →
      x.flags = 128 * op.toNat + 64 * r.aon.toNat + 32 * (decide (s.b.log.rnumNext < s.b.log.fixed)).toNat →
      (x.time = if op then (s.b.opsec % 2 ^ 40) * 2 ^ 24 + s.b.log.pcc else s.b.log.seq) →
      x.p0 = r.p0 →
      x.p1 = r.p1 →
      x.p2 = r.p2 →
      x.p3 = r.p3 →
      x.crc = crc32c x.head →
      exec .recordAccept s = .next (s.onB fun _ b => (b.modLog fun l => { l with offered := rest, queue := l.queue ++ [x], rnumNext := (if l.rnumNext = 0xFFFFFFFF then l.fixed else l.rnumNext + 1), seq := (if op then l.seq else (l.seq + 1) % 2 ^ 64), lastSeq := (if op then l.lastSeq else l.seq), lastOpsec := b.opsec, sealCount := l.sealCount + 1, sealBytes := l.sealBytes ++ x.bytes }).deliver x))

/-- PFAIL, the hold-up store, the thresholds and the temperature -/
def Obligations.SupplyAndTemperatureEventsTakeEffect : Prop :=
  (-- PFAIL_ASSERT
    ∀ (s : State) (vin vstore : Nat) (part : LineCycle),
      s.b.failsAt vin = true →
      s.b.pfail = false →
      exec (.pfailAssert vin vstore part) s = .next (s.onB fun _ b => (b.failInputs vin vstore).assertPfail vin vstore part)) ∧
  (-- PFAIL_ASSERT under a PFAIL
    ∀ (s : State) (vin vstore : Nat) (part : LineCycle),
      s.b.failsAt vin = true →
      s.b.pfail = true →
      exec (.pfailAssert vin vstore part) s = .next (s.onB fun _ b => (b.failInputs vin vstore).addFeed vin vstore)) ∧
  (-- PFAIL_CLEAR
    ∀ (s : State) (vin vstore goodUs : Nat),
      s.b.recovers vin goodUs = true →
      exec (.pfailClear vin vstore goodUs) s = .next (s.onB fun _ b => (((((b.supply vin vstore).put F.PWR_STAT_PFAIL 0).put F.PWR_STAT_ON_STORE 0).modTop fun t => { t with pfailAt := none }).bump Reg.PWR_CNT_RIDE).pwrFail false vin b.pfailUs vstore)) ∧
  (-- OVERVOLTAGE_RECONNECT
    ∀ (s : State) (vin vstore : Nat),
      s.b.top.disconnected = true →
      vin ≤ 6200 →
      exec (.overvoltageReconnect vin vstore) s = .next (s.onB fun _ b => ((b.supply vin vstore).modTop fun t => { t with disconnected := false }).putFlag F.PWR_STAT_ON_STORE (decide (vin < 560 ∨ vin < vstore)))) ∧
  (-- STORE_REACHES_VIN
    ∀ (s : State) (vin vstore : Nat),
      s.b.pfail = true →
      s.b.top.disconnected = false →
      560 ≤ vin →
      vstore ≤ vin →
      exec (.storeReachesVin vin vstore) s = .next (s.onB fun _ b => (b.supply vin vstore).put F.PWR_STAT_ON_STORE 0)) ∧
  (-- the supply events whose condition does not hold
    ∀ (s : State) (vin vstore goodUs : Nat) (part : LineCycle),
      s.b.failsAt vin = false →
      s.b.pfail = false →
      s.b.top.disconnected = false →
      exec (.pfailAssert vin vstore part) s = .next s ∧ exec (.pfailClear vin vstore goodUs) s = .next s ∧ exec (.overvoltageReconnect vin vstore) s = .next s ∧ exec (.storeReachesVin vin vstore) s = .next s) ∧
  (-- POWER_THRESHOLD_WRITE
    ∀ (s : State) (acc : Nat) (value : W32),
      s.b.mayWrite s.key acc roleEng false = yOk →
      clampNat 58 500 (bits value 9 0) + 10 ≤ min 550 (bits value 25 16) →
      exec (.powerThresholdWrite acc value) s = .next (s.onB fun _ b => (b.put F.PWR_THR_WATCH_THR (min 550 (bits value 25 16))).put F.PWR_THR_PFAIL_THR (clampNat 58 500 (bits value 9 0)))) ∧
  (-- POWER_THRESHOLD_WRITE of a session without ENGINEER
    ∀ (s : State) (acc : Nat) (value : W32),
      s.b.mayWrite s.key acc roleEng false ≠ yOk →
      exec (.powerThresholdWrite acc value) s = .next (s.onB fun k b => (wErr b acc (b.mayWrite k acc roleEng false)).b)) ∧
  (-- TEMP_MEASURE
    ∀ (s : State) (t : Int),
      s.b.top.loaded = true →
      t ≤ 1250 ∨ s.b.within s.b.top.overTick (60 * tickS) = true →
      exec (.tempMeasure t) s = .next (s.onB fun _ b => b.measured t)) ∧
  (-- TEMP_MEASURE too hot
    ∀ (s : State) (t : Int),
      s.b.top.loaded = true →
      1250 < t →
      s.b.within s.b.top.overTick (60 * tickS) = false →
      exec (.tempMeasure t) s = .next (s.onB fun _ b => ((b.measured t).modTop fun x => { x with overTick := some b.now }).note 0x010A (s32 t % 65536))) ∧
  (-- TEMP_MEASURE before the load
    ∀ (s : State) (t : Int),
      s.b.top.loaded = false →
      exec (.tempMeasure t) s = .next s)

/-- Every source asserts its reset, and a reset ends when its sources and its stretch allow -/
def Obligations.ResetSourcesAndTheirEndTakeEffect : Prop :=
  (-- POR
    ∀ (s : State) (vin vstore : Nat),
      exec (.por vin vstore) s = .next (s.onKB fun k b => ((assertReset srcPor false false k b).1, (assertReset srcPor false false k b).2.supply vin vstore))) ∧
  (-- BOR
    ∀ (s : State) (rail : Bool) (vin vstore : Nat),
      rail = true ∨ (vstore < 800 ∧ (vin < 560 ∨ s.b.top.disconnected = true)) →
      exec (.bor rail vin vstore) s = .next (s.onKB fun k b => ((assertReset srcBor false false k b).1, (assertReset srcBor false false k b).2.supply vin vstore))) ∧
  (-- BOR and RESET_PIN whose condition does not hold
    ∀ (s : State) (vin vstore samples : Nat),
      800 ≤ vstore ∨ (560 ≤ vin ∧ s.b.top.disconnected = false) →
      samples < 3 ∨ s.b.top.resetNLow = true →
      exec (.bor false vin vstore) s = .next s ∧ exec (.resetPin samples) s = .next s) ∧
  (-- RESET_PIN
    ∀ (s : State) (samples : Nat),
      3 ≤ samples →
      s.b.top.resetNLow = false →
      exec (.resetPin samples) s = .next (s.onKB fun k b => assertReset srcPin false false k b)) ∧
  (-- DBG_RESET and LOCKUP
    ∀ (s : State) (point : Nat),
      exec .dbgReset s = .next (s.onKB fun k b => assertReset srcDbg false false k b) ∧ exec (.lockup point) s = .next (s.onKB fun k b => assertReset srcLockup false false k (b.modGrd fun g => { g with lockup := some point }))) ∧
  (-- PLL_LOCK_LOSS
    ∀ (s : State) (lostUs off : Nat),
      10 < lostUs ∨ 200 < off →
      exec (.pllLockLoss lostUs off) s = .next (s.onKB fun k b => assertReset srcClkf false false k (b.put F.CLK_STAT_PLL_LOCK 0))) ∧
  (-- PLL_LOCK_LOSS too short
    ∀ (s : State) (lostUs off : Nat),
      lostUs ≤ 10 →
      off ≤ 200 →
      exec (.pllLockLoss lostUs off) s = .next s) ∧
  (-- SYS_REQ and FW_REQ
    ∀ (s : State) (acc : Nat),
      s.b.mayWrite s.key acc roleMnt false = yOk →
      exec (.sysReq acc) s = .next (s.onKB fun k b => assertReset srcPin true false k b) ∧ exec (.fwReq acc) s = .next (s.onKB fun k b => assertReset srcSwr false false k b)) ∧
  (-- SYS_REQ and FW_REQ denied
    ∀ (s : State) (acc : Nat),
      s.b.mayWrite s.key acc roleMnt false ≠ yOk →
      exec (.sysReq acc) s = .next (s.onB fun _ b => b.writeDenied acc) ∧ exec (.fwReq acc) s = .next (s.onB fun _ b => b.writeDenied acc)) ∧
  (-- RESET
    ∀ (s : State) (h : Hdr) (reach : Nat),
      Ready s h 0x0C04 ⟨some roleMnt, false⟩ →
      reach < 2 →
      exec (.reset h reach) s = .next (s.onKB fun k _ => assertReset (if reach = 0 then srcSwr else srcPin) (reach == 1) false k ((s.taken h 0x0C04).lastReply h 0x0C04))) ∧
  (-- RESET with another REACH
    ∀ (s : State) (h : Hdr) (reach : Nat),
      Ready s h 0x0C04 ⟨some roleMnt, false⟩ →
      2 ≤ reach →
      exec (.reset h reach) s = .next (s.answer h 0x0C04 yBadParam [] id)) ∧
  (-- RESET_END
    ∀ (s : State) (r : ResetRun),
      s.b.top.rstRun = some r →
      s.b.since r.lastAssert (stretch r.reach) = true →
      exec (.resetEnd 0) s = .next (s.onKB fun k b => endReset r k b)) ∧
  (-- RESET_END while only the land holds it
    ∀ (s : State) (r : ResetRun),
      s.b.top.rstRun = some r →
      s.b.since r.lastAssert (stretch r.reach) = true →
      exec (.resetEnd 4) s = .next (s.onB fun _ b => b.landHolds r.reach)) ∧
  (-- RESET_END before the end
    ∀ (s : State) (r : ResetRun) (held : Nat),
      s.b.top.rstRun = some r →
      s.b.since r.lastAssert (stretch r.reach) = false ∨ heldOthers held ≠ 0 →
      exec (.resetEnd held) s = .next s)

/-- Options and trims, firmware, RUN, the failed-start counter, FW_UPDATE and LIFECYCLE -/
def Obligations.TheStepsOfAStartTakeEffect : Prop :=
  (-- OPTION_TRIM_LOAD
    ∀ (s : State) (refin : Bool),
      s.b.top.rstRun = none →
      s.b.top.loaded = false →
      s.b.top.started = false →
      exec (.optionTrimLoad refin) s = .next (s.onB fun _ b => b.loadItems refin)) ∧
  (-- FIRMWARE_START after a reset of reach C
    ∀ (s : State) (f : BootFind),
      s.b.top.rstRun = none →
      s.b.top.loaded = true →
      s.b.top.started = false →
      s.b.fld F.RST_CAUSE_LAST_REACH = 2 →
      s.b.top.dramFw = true →
      exec (.firmwareStart f) s = .next (s.onB fun _ b => b.resumeFw)) ∧
  (-- FIRMWARE_START of reach A or B
    ∀ (s : State) (f : BootFind),
      s.b.top.rstRun = none →
      s.b.top.loaded = true →
      s.b.top.started = false →
      s.b.fld F.RST_CAUSE_LAST_REACH ≠ 2 ∨ s.b.top.dramFw = false →
      s.key.duk.isSome = true ∨ s.key.pufFail = true →
      exec (.firmwareStart f) s = .next (s.onKB fun k b => bootFw f k b)) ∧
  (-- the steps of a start out of their place
    ∀ (s : State) (refin : Bool) (f : BootFind),
      s.b.top.started = true →
      s.b.topState ≠ stStart →
      exec (.optionTrimLoad refin) s = .next s ∧ exec (.firmwareStart f) s = .next s ∧ exec .startComplete s = .next s) ∧
  (-- START_COMPLETE
    ∀ (s : State),
      s.b.topState = stStart →
      s.b.top.started = true →
      s.b.top.rstRun = none →
      exec .startComplete s = .next (s.onB fun _ b => b.comeUp)) ∧
  (-- RUN_S_LIMIT
    ∀ (s : State),
      s.b.top.runDone = false →
      60 * tickS ≤ s.b.runTicks →
      s.b.flag F.TOP_FW_RECOVERY = false →
      exec .runSLimit s = .next (s.onB fun _ b => (b.modTop fun t => { t with runDone := true, mramFsc := 0 }).raiseFloor)) ∧
  (-- RUN_S_LIMIT before it, and once it is done
    ∀ (s : State),
      s.b.runTicks < 60 * tickS ∨ s.b.top.runDone = true →
      exec .runSLimit s = .next s) ∧
  (-- FSC_CLEAR
    ∀ (s : State) (acc : Nat),
      s.b.mayWrite s.key acc roleMnt false = yOk →
      exec (.fscClear acc) s = .next (s.onB fun _ b => b.modTop fun t => { t with mramFsc := 0 })) ∧
  (-- FSC_CLEAR denied
    ∀ (s : State) (acc : Nat),
      s.b.mayWrite s.key acc roleMnt false ≠ yOk →
      exec (.fscClear acc) s = .next (s.onB fun k b => (wErr b acc (b.mayWrite k acc roleMnt false)).b)) ∧
  (-- FW_UPDATE's last fragment
    ∀ (s : State) (h : Hdr) (offset total : Nat) (bytes : List Byte) (c : FwContent),
      Ready s h 0x0C05 ⟨some roleMnt, false⟩ →
      s.b.topState ≠ stWatch →
      fwLast (s.b.sess h.session).fwStage offset total bytes = true →
      exec (.fwUpdate h offset total bytes c) s = .next (s.late h 0x0C05 fun b => (b.modSess h.session fun x => { x with fwStage := none }).fwFinish total c)) ∧
  (-- FW_UPDATE's other fragments
    ∀ (s : State) (h : Hdr) (offset total : Nat) (bytes : List Byte) (c : FwContent),
      Ready s h 0x0C05 ⟨some roleMnt, false⟩ →
      s.b.topState = stWatch ∨ fwLast (s.b.sess h.session).fwStage offset total bytes = false →
      exec (.fwUpdate h offset total bytes c) s = .next (s.answer h 0x0C05 (fwKeep h.session offset total bytes (s.taken h 0x0C05)).status (fwKeep h.session offset total bytes (s.taken h 0x0C05)).payload fun b => (fwKeep h.session offset total bytes b).b)) ∧
  (-- LIFECYCLE
    ∀ (s : State) (h : Hdr) (target : Nat),
      Ready s h 0x0C03 ⟨some roleMnt, false⟩ →
      s.b.topState = stMaint →
      target = s.key.lcs + 1 →
      target ≤ 4 →
      (s.key.slot 3).state ≠ 0 →
      exec (.lifecycle h target true false) s = .next (s.onKB fun k _ => lifecycleAct h target k (s.taken h 0x0C03))) ∧
  (-- LIFECYCLE refused
    ∀ (s : State) (h : Hdr) (target : Nat) (sigOk tampered : Bool),
      Ready s h 0x0C03 ⟨some roleMnt, false⟩ →
      s.b.topState ≠ stMaint ∨ target ≠ s.key.lcs + 1 ∨ 4 < target →
      exec (.lifecycle h target sigOk tampered) s = .next (s.answer h 0x0C03 (if s.b.topState ≠ stMaint then yDenied else yBadParam) [] id)) ∧
  (-- TOP_NOMF_WRITE
    ∀ (s : State) (acc : Nat) (value : W32),
      s.b.mayWrite s.key acc roleEng true = yOk →
      s.b.topState = stMaint →
      exec (.topNomfWrite acc value) s = .next (s.onB fun _ b => (b.put F.TOP_NOMF_SEL (bits value 0 0)).modTop fun t => { t with mramNomf := some (bits value 0 0) })) ∧
  (-- TOP_NOMF_WRITE outside MAINT
    ∀ (s : State) (acc : Nat) (value : W32),
      s.b.mayWrite s.key acc roleEng true = yOk →
      s.b.topState ≠ stMaint →
      exec (.topNomfWrite acc value) s = .next s) ∧
  (-- TOP_NOMF_WRITE denied
    ∀ (s : State) (acc : Nat) (value : W32),
      s.b.mayWrite s.key acc roleEng true ≠ yOk →
      exec (.topNomfWrite acc value) s = .next (s.onB fun k b => (wErr b acc (b.mayWrite k acc roleEng true)).b))

/-- References, CK_AON, WATCH and STATE_SET -/
def Obligations.ClocksAndDeviceStatesTakeEffect : Prop :=
  (-- REFCLK_INVALID while REFCLK_IN is selected
    ∀ (s : State) (b1 : Block),
      b1 = s.b.put F.CLK_STAT_REFIN_OK 0 →
      b1.fld F.CLK_STAT_REF_ACTIVE = 1 →
      exec .refclkInvalid s = .next (s.onKB fun k _ => if b1.flag F.CLK_CTRL_REF_AUTO then (k, b1.switchRef 0 0) else clkf k b1)) ∧
  (-- REFCLK_INVALID otherwise
    ∀ (s : State) (b1 : Block),
      b1 = s.b.put F.CLK_STAT_REFIN_OK 0 →
      b1.fld F.CLK_STAT_REF_ACTIVE ≠ 1 →
      exec .refclkInvalid s = .next (s.onKB fun k _ => (k, b1))) ∧
  (-- TCXO_FAIL while it is selected
    ∀ (s : State) (refin : Bool),
      s.b.fld F.CLK_STAT_REF_ACTIVE = 0 →
      exec (.tcxoFail refin) s = .next (s.onKB fun k b => if (b.flag F.CLK_CTRL_REF_AUTO && refin) = true then (k, (b.put F.CLK_STAT_REFIN_OK 1).switchRef 1 0) else clkf k b)) ∧
  (-- TCXO_FAIL while REFCLK_IN is selected
    ∀ (s : State) (refin : Bool),
      s.b.fld F.CLK_STAT_REF_ACTIVE ≠ 0 →
      exec (.tcxoFail refin) s = .next s) ∧
  (-- CK_AON_BAD
    ∀ (s : State) (hz : Nat),
      hz < 20000 ∨ 45000 < hz →
      (s.b.put F.CLK_AON_HZ_HZ (min 65535 hz)).flag F.CLK_STAT_AON_BAD = false →
      exec (.ckAonBad hz) s = .next (s.onB fun _ b => ((b.put F.CLK_AON_HZ_HZ (min 65535 hz)).put F.CLK_STAT_AON_BAD 1).note 0x0107 0 (min 65535 hz))) ∧
  (-- CK_AON_BAD in range
    ∀ (s : State) (hz : Nat),
      20000 ≤ hz →
      hz ≤ 45000 →
      exec (.ckAonBad hz) s = .next (s.onB fun _ b => b.put F.CLK_AON_HZ_HZ hz)) ∧
  (-- REF_SWITCH_REQUEST
    ∀ (s : State) (acc : Nat) (value : W32) (refin : Bool) (b1 : Block),
      s.b.mayWrite s.key acc roleEng false = yOk →
      b1 = ((s.b.put F.CLK_CTRL_REF_SEL (bits value 1 1)).put F.CLK_CTRL_REF_AUTO (bits value 0 0)).putFlag F.CLK_STAT_REFIN_OK refin →
      exec (.refSwitchRequest acc value refin) s = .next (s.onB fun _ _ => if bits value 1 1 = b1.fld F.CLK_STAT_REF_ACTIVE ∨ b1.top.refTo.isSome = true ∨ (bits value 1 1 = 1 ∧ refin = false) then b1 else b1.switchRef (bits value 1 1) 1)) ∧
  (-- REF_SWITCH_REQUEST denied
    ∀ (s : State) (acc : Nat) (value : W32) (refin : Bool),
      s.b.mayWrite s.key acc roleEng false ≠ yOk →
      exec (.refSwitchRequest acc value refin) s = .next (s.onB fun k b => (wErr b acc (b.mayWrite k acc roleEng false)).b)) ∧
  (-- PLL_RELOCK
    ∀ (s : State),
      s.b.top.refTo.isSome = true →
      exec .pllRelock s = .next (s.onB fun _ b => ((b.put F.CLK_STAT_HOLDOVER 0).put F.CLK_STAT_PLL_LOCK 1).modTop fun t => { t with refTo := none })) ∧
  (-- PLL_RELOCK with no switch
    ∀ (s : State),
      s.b.top.refTo = none →
      exec .pllRelock s = .next s) ∧
  (-- WATCH_ENTRY
    ∀ (s : State) (vin lowMs : Nat),
      s.b.topState = stRun ∨ s.b.topState = stMaint →
      s.b.flag F.PWR_CTRL_WATCH_AUTO = true →
      vin < s.b.watchThr →
      100 ≤ lowMs →
      exec (.watchEntry vin lowMs) s = .next (s.onKB fun k b => endMgtKeys k ((b.put F.PWR_VIN_VIN vin).enterWatch 0))) ∧
  (-- WATCH_EXIT
    ∀ (s : State) (vin highMs : Nat),
      s.b.topState = stWatch →
      s.b.fld F.TOP_STATE_WATCH_CAUSE = 1 →
      s.b.watchThr + s.b.watchHys ≤ vin →
      1000 * max 1 (s.b.fld F.PWR_WATCH_DWELL) ≤ highMs →
      exec (.watchExit vin highMs) s = .next (s.onB fun _ b => (b.put F.PWR_VIN_VIN vin).exitWatch 0)) ∧
  (-- WATCH_ENTRY and WATCH_EXIT where R529 has no row
    ∀ (s : State) (vin lowMs highMs : Nat),
      s.b.topState = stStart ∨ s.b.topState = stKick →
      exec (.watchEntry vin lowMs) s = .next s ∧ exec (.watchExit vin highMs) s = .next s) ∧
  (-- STATE_SET
    ∀ (s : State) (h : Hdr) (target vin : Nat),
      Ready s h 0x0C06 ⟨some roleMnt, false⟩ →
      s.b.stateAllowed target vin = true →
      exec (.stateSet h target vin) s = .next ((s.late h 0x0C06 fun b => ⟨yOk, beBytes 1 (b.stateTo target).topState, b.stateTo target⟩).onKB fun k b => if target = 3 then endMgtKeys k b else (k, b))) ∧
  (-- STATE_SET refused
    ∀ (s : State) (h : Hdr) (target vin : Nat),
      Ready s h 0x0C06 ⟨some roleMnt, false⟩ →
      s.b.stateAllowed target vin = false →
      exec (.stateSet h target vin) s = .next (s.answer h 0x0C06 (if target < 2 ∨ 4 < target then yBadParam else yDenied) [] id))

/-- Register writes and reads, over PCIe and through YCP -/
def Obligations.RegisterAccessesTakeEffect : Prop :=
  (-- REGISTER_WRITE
    ∀ (s : State) (acc addr : Nat) (value : W32),
      addr % 4 = 0 →
      s.b.fnAnswers acc = true →
      exec (.registerWrite acc addr 4 value) s = .next (s.onKB fun k b => ((hostWrite acc addr value 0xFFFFFFFF k b).k, (hostWrite acc addr value 0xFFFFFFFF k b).b))) ∧
  (-- REGISTER_WRITE of a register that one block holds, with the role and the saddle
    ∀ (s : State) (acc addr : Nat) (value : W32) (d : RegDesc),
      addr % 4 = 0 →
      s.b.fnAnswers acc = true →
      regAt addr = some d →
      s.b.radOff addr = false →
      d.role = .eng ∨ d.role = .engS ∨ d.role = .opr ∨ d.role = .mnt ∨ d.role = .mntS →
      s.b.mayWrite s.key acc d.role.need.1 d.role.need.2 = yOk →
      d.writable ≠ 0 →
      addr ≠ Reg.RST_CTRL →
      isWindow addr = false →
      exec (.registerWrite acc addr 4 value) s = .next (s.onB fun k b => (blockWrite ⟨acc, addr, b.rd addr, d.merge (b.rd addr) value 0xFFFFFFFF, 0xFFFFFFFF, value⟩ k b).b)) ∧
  (-- REGISTER_WRITE without the role or the saddle
    ∀ (s : State) (acc addr : Nat) (value : W32) (d : RegDesc),
      addr % 4 = 0 →
      s.b.fnAnswers acc = true →
      regAt addr = some d →
      s.b.radOff addr = false →
      d.role ≠ .none →
      d.role ≠ .gw →
      d.role ≠ .pan →
      s.b.mayWrite s.key acc d.role.need.1 d.role.need.2 ≠ yOk →
      exec (.registerWrite acc addr 4 value) s = .next (s.onB fun k b => (wErr b acc (b.mayWrite k acc d.role.need.1 d.role.need.2)).b)) ∧
  (-- REGISTER_WRITE of another width or alignment, or through a function that does not answer
    ∀ (s : State) (acc addr size : Nat) (value : W32),
      size ≠ 4 ∨ addr % 4 ≠ 0 ∨ s.b.fnAnswers acc = false →
      exec (.registerWrite acc addr size value) s = .next s) ∧
  (-- RL_GROUP_LATCH
    ∀ (s : State) (acc addr : Nat),
      acc < 13 →
      4 ≤ acc ∨ s.b.fnAnswers acc = true →
      exec (.rlGroupLatch acc addr) s = .next (s.onB fun _ b => b.latch acc addr)) ∧
  (-- REG_READ
    ∀ (s : State) (h : Hdr) (addr : Nat),
      Ready s h 0x0101 ⟨some roleObs, false⟩ →
      addrOk addr = true →
      exec (.regRead h addr) s = .next (s.answer h 0x0101 yOk (wordBytes [((s.taken h 0x0101).readReg s.key (accOf h.session) addr).1]) fun b => (b.readReg s.key (accOf h.session) addr).2)) ∧
  (-- REG_READ_BLOCK
    ∀ (s : State) (h : Hdr) (addr count : Nat),
      Ready s h 0x0103 ⟨some roleObs, false⟩ →
      1 ≤ count →
      count ≤ 1024 →
      (((List.range count).all fun i => addrOk (addr + 4 * i)) = true) →
      exec (.regReadBlock h addr count) s = .next (s.answer h 0x0103 yOk (wordBytes (Block.readRegs s.key (accOf h.session) addr count (s.taken h 0x0103)).1) fun b => (Block.readRegs s.key (accOf h.session) addr count b).2)) ∧
  (-- REG_READ and REG_READ_BLOCK of what is no register
    ∀ (s : State) (h : Hdr) (addr count : Nat),
      Ready s h 0x0101 ⟨some roleObs, false⟩ →
      Ready s h 0x0103 ⟨some roleObs, false⟩ →
      addrOk addr = false →
      (count = 0 ∨ 1024 < count ∨ ((List.range count).all fun i => addrOk (addr + 4 * i)) = false) →
      exec (.regRead h addr) s = .next (s.answer h 0x0101 yBadParam [] id) ∧ exec (.regReadBlock h addr count) s = .next (s.answer h 0x0103 yBadParam [] id)) ∧
  (-- REG_WRITE
    ∀ (s : State) (h : Hdr) (addr : Nat) (value mask : W32),
      Ready s h 0x0102 ⟨none, false⟩ →
      addr % 4 = 0 →
      addr ≠ Reg.RST_CTRL ∨ bits (value &&& mask) 1 0 = 0 →
      exec (.regWrite h addr value mask) s = .next (s.answerK h 0x0102 (hostWrite (accOf h.session) addr value mask s.key (s.taken h 0x0102)).status [] (hostWrite (accOf h.session) addr value mask s.key (s.taken h 0x0102)).k (hostWrite (accOf h.session) addr value mask s.key (s.taken h 0x0102)).b)) ∧
  (-- REG_WRITE that requests a reset
    ∀ (s : State) (h : Hdr) (value mask : W32),
      Ready s h 0x0102 ⟨none, false⟩ →
      bits (value &&& mask) 1 0 ≠ 0 →
      (s.taken h 0x0102).mayWrite s.key (accOf h.session) roleMnt false = yOk →
      exec (.regWrite h Reg.RST_CTRL value mask) s = .next (s.onKB fun k _ => ((hostWrite (accOf h.session) Reg.RST_CTRL value mask k ((s.taken h 0x0102).lastReply h 0x0102)).k, (hostWrite (accOf h.session) Reg.RST_CTRL value mask k ((s.taken h 0x0102).lastReply h 0x0102)).b))) ∧
  (-- REG_WRITE at a misaligned address
    ∀ (s : State) (h : Hdr) (addr : Nat) (value mask : W32),
      Ready s h 0x0102 ⟨none, false⟩ →
      addr % 4 ≠ 0 →
      exec (.regWrite h addr value mask) s = .next (s.answer h 0x0102 yBadParam [] id))

/-- A write of a GW register changes nothing, and REG_WRITE answers GUARD_ONLY -/
def Obligations.GuardRegistersAreNotWritten : Prop :=
  (-- REGISTER_WRITE of a GW register
    ∀ (s : State) (acc addr size : Nat) (value : W32) (d : RegDesc),
      regAt addr = some d →
      d.role = .gw →
      exec (.registerWrite acc addr size value) s = .next s) ∧
  (-- REG_WRITE of a GW register
    ∀ (s : State) (h : Hdr) (addr : Nat) (value mask : W32) (d : RegDesc),
      Ready s h 0x0102 ⟨none, false⟩ →
      addr % 4 = 0 →
      regAt addr = some d →
      d.role = .gw →
      addr ≠ grdGap →
      exec (.regWrite h addr value mask) s = .next (s.answer h 0x0102 yGuardOnly [] id))

/-- A write that would leave WATCH_THR below PFAIL_THR + 1.0 V is refused -/
def Obligations.WatchThresholdStaysAboveThePfailThreshold : Prop :=
  (-- POWER_THRESHOLD_WRITE and REGISTER_WRITE refused
    ∀ (s : State) (acc : Nat) (value : W32),
      s.b.mayWrite s.key acc roleEng false = yOk →
      s.b.fnAnswers acc = true →
      min 550 (bits value 25 16) < clampNat 58 500 (bits value 9 0) + 10 →
      exec (.powerThresholdWrite acc value) s = .next (s.onB fun _ b => b.put F.PWR_STAT_CFG_ERR 1) ∧ exec (.registerWrite acc Reg.PWR_THR 4 value) s = .next (s.onB fun _ b => b.put F.PWR_STAT_CFG_ERR 1)) ∧
  (-- REG_WRITE refused
    ∀ (s : State) (h : Hdr) (value mask new : W32),
      Ready s h 0x0102 ⟨none, false⟩ →
      (s.taken h 0x0102).mayWrite s.key (accOf h.session) roleEng false = yOk →
      mask &&& 0x03FF03FF ≠ 0 →
      new = (s.b.rd Reg.PWR_THR &&& ~~~mask) ||| (value &&& mask) →
      min 550 (if mask &&& 0x03FF0000 = 0 then bits (s.b.rd Reg.PWR_THR) 25 16 else bits new 25 16) < clampNat 58 500 (if mask &&& 0x000003FF = 0 then bits (s.b.rd Reg.PWR_THR) 9 0 else bits new 9 0) + 10 →
      exec (.regWrite h Reg.PWR_THR value mask) s = .next (s.answer h 0x0102 yBadParam [] fun b => b.put F.PWR_STAT_CFG_ERR 1))

/-- A write of ALN_LDG_SHARE_A or _B that would not fit keeps both and sets SHARE_ERR -/
def Obligations.LedgerSharesThatDoNotFitAreRefused : Prop :=
  (-- LEDGER_SHARE_WRITE refused
    ∀ (s : State) (acc which : Nat) (value a c : W32),
      s.b.mayWrite s.key acc roleEng true = yOk →
      which = 0 ∨ which = 1 →
      (a = if which = 0 then value else s.b.rd Reg.ALN_LDG_SHARE_A) →
      (c = if which = 0 then s.b.rd Reg.ALN_LDG_SHARE_B else value &&& 0xFFFF) →
      100 < bits a 7 0 + bits a 15 8 + bits a 23 16 + bits a 31 24 + bits c 7 0 ∨ bits c 7 0 < bits c 15 8 ∨ bits c 15 8 < 2 →
      exec (.ledgerShareWrite acc which value) s = .next (s.onB fun _ b => b.put F.ALN_LDG_STAT_SHARE_ERR 1)) ∧
  (-- REGISTER_WRITE refused
    ∀ (s : State) (acc which : Nat) (value new a c : W32) (d : RegDesc),
      s.b.fnAnswers acc = true →
      s.b.mayWrite s.key acc roleEng true = yOk →
      which = 0 ∨ which = 1 →
      regAt (Reg.ALN_LDG_SHARE_A + 4 * which) = some d →
      new = d.merge (s.b.rd (Reg.ALN_LDG_SHARE_A + 4 * which)) value 0xFFFFFFFF →
      (a = if which = 0 then new else s.b.rd Reg.ALN_LDG_SHARE_A) →
      (c = if which = 0 then s.b.rd Reg.ALN_LDG_SHARE_B else new &&& 0xFFFF) →
      100 < bits a 7 0 + bits a 15 8 + bits a 23 16 + bits a 31 24 + bits c 7 0 ∨ bits c 7 0 < bits c 15 8 ∨ bits c 15 8 < 2 →
      exec (.registerWrite acc (Reg.ALN_LDG_SHARE_A + 4 * which) 4 value) s = .next (s.onB fun _ b => b.put F.ALN_LDG_STAT_SHARE_ERR 1)) ∧
  (-- REG_WRITE refused
    ∀ (s : State) (h : Hdr) (which : Nat) (value mask new a c : W32) (d : RegDesc),
      Ready s h 0x0102 ⟨none, false⟩ →
      (s.taken h 0x0102).mayWrite s.key (accOf h.session) roleEng true = yOk →
      which = 0 ∨ which = 1 →
      regAt (Reg.ALN_LDG_SHARE_A + 4 * which) = some d →
      mask &&& d.writable ≠ 0 →
      new = d.merge (s.b.rd (Reg.ALN_LDG_SHARE_A + 4 * which)) value mask →
      (a = if which = 0 then new else s.b.rd Reg.ALN_LDG_SHARE_A) →
      (c = if which = 0 then s.b.rd Reg.ALN_LDG_SHARE_B else new &&& 0xFFFF) →
      100 < bits a 7 0 + bits a 15 8 + bits a 23 16 + bits a 31 24 + bits c 7 0 ∨ bits c 7 0 < bits c 15 8 ∨ bits c 15 8 < 2 →
      exec (.regWrite h (Reg.ALN_LDG_SHARE_A + 4 * which) value mask) s = .next (s.answer h 0x0102 yBadParam [] fun b => b.put F.ALN_LDG_STAT_SHARE_ERR 1))

/-- MAP_LIST, STRIDE and the channel of a superframe -/
def Obligations.HoppingVisitsEveryChannelOfTheMap : Prop :=
  (-- MAP_LIST
    ∀ (m c : Nat),
      (mapList m).Pairwise (· < ·) ∧ (c ∈ mapList m ↔ c < 72 ∧ m.testBit c = true)) ∧
  (-- STRIDE
    ∀ (n : Nat),
      0 < n →
      n ≤ 72 →
      (stride n).Prime ∧ 7 ≤ stride n ∧ ¬ stride n ∣ n ∧ ∀ p, p.Prime → 7 ≤ p → p < stride n → p ∣ n) ∧
  (-- the channel of a superframe
    ∀ (m sfn : Nat),
      mapList m ≠ [] →
      (mapList m)[sfn * stride (mapList m).length % (mapList m).length]? = some (hopChan m sfn)) ∧
  (-- the channel a superframe takes
    ∀ (b : Block),
      b.hop.rad.chan = hopChan (b.hop.mapAt Reg.RAD_MAP_EFF) b.rad.sfn) ∧
  (-- every channel once
    ∀ (m start c : Nat),
      c ∈ mapList m →
      ∃ j, j < (mapList m).length ∧ hopChan m (start + j) = c ∧ ∀ i, i < (mapList m).length → hopChan m (start + i) = c → i = j)

/-- When PFAIL asserts, the queue is committed and OPSEC is saved -/
def Obligations.PowerFailSavesTheQueueAndTheSeconds : Prop :=
  (-- PFAIL_ASSERT
    ∀ (s : State) (vin vstore : Nat) (part : LineCycle),
      s.b.failsAt vin = true →
      s.b.pfail = false →
      ∃ t, exec (.pfailAssert vin vstore part) s = .next t ∧ t.b.pfail = true ∧ t.b.top.pfailAt = some s.b.now ∧ t.b.log.queue = [] ∧ t.b.log.opsecSaved = s.b.opsec ∧ t.b.log.savedAtPfail = true ∧ t.b.log.lostSaved = s.b.log.lost ∧ t.b.log.lost = s.b.log.lost ∧ t.b.log.seq = s.b.log.seq ∧ t.b.log.rnumNext = s.b.log.rnumNext)

/-- What a reset of reach A and one of reach B keep and clear -/
def Obligations.AResetKeepsWhatItsReachKeeps : Prop :=
  (-- POR
    ∀ (s : State) (vin vstore : Nat),
      s.b.top.rstRun = none →
      ∃ t, exec (.por vin vstore) s = .next t ∧ t.b.fld F.RST_CAUSE_SRC = 1 ∧ t.b.top.resetNLow = true ∧ t.b.top.rstRun.map (·.reach) = some 0 ∧ t.key.duk = none ∧ t.key.slots = s.key.slots.map (fun x => { KeySlot.empty with gen := x.gen }) ∧ t.key.lcsA = s.key.lcsA ∧ t.key.lcsB = s.key.lcsB ∧ t.key.store = s.key.store ∧ t.key.tseq = s.key.tseq ∧ t.b.log.queue = [] ∧ t.b.log.area = s.b.log.area ∧ t.b.log.size = s.b.log.size ∧ t.b.log.fixed = s.b.log.fixed ∧ t.b.log.clrCnt = s.b.log.clrCnt ∧ t.b.log.pcc = (s.b.log.pcc + 1) % 2 ^ 24 ∧ t.b.top.mramBank = s.b.top.mramBank ∧ t.b.top.mramFloor = s.b.top.mramFloor ∧ t.b.top.mramFsc = s.b.top.mramFsc) ∧
  (-- LOCKUP
    ∀ (s : State) (point : Nat),
      s.b.top.rstRun = none →
      ∃ t, exec (.lockup point) s = .next t ∧ t.b.fld F.RST_CAUSE_SRC = s.b.fld F.RST_CAUSE_SRC ||| 0x80 ∧ t.b.top.resetNLow = true ∧ t.b.top.rstRun.map (·.reach) = some 1 ∧ t.key.duk = none ∧ t.key.slots = s.key.slots.map (fun x => { KeySlot.empty with gen := x.gen }) ∧ t.key.lcsA = s.key.lcsA ∧ t.key.lcsB = s.key.lcsB ∧ t.key.store = s.key.store ∧ t.key.tseq = s.key.tseq ∧ t.key.latch = s.key.latch ∧ t.b.log.queue = s.b.log.queue ∧ t.b.log.area = s.b.log.area ∧ t.b.log.opsec = s.b.log.opsec ∧ t.b.log.pcc = s.b.log.pcc ∧ t.b.top.mramBank = s.b.top.mramBank ∧ t.b.top.mramFloor = s.b.top.mramFloor ∧ t.b.top.mramFsc = s.b.top.mramFsc)

/-- State.reset: TOP_STATE START, nothing waiting, no session, no key, and fields at their Reset column -/
def Obligations.ResetGivesTheValuesOfTheResetColumn : Prop :=
  (-- reset
    State.reset.pending = [] ∧ State.reset.b.topState = stStart ∧ (∀ n, n < 8 → (State.reset.b.sess n).state = 0) ∧ State.reset.b.hst.holder = none ∧ (∀ i, i < 64 → (State.reset.key.slot i).state = 0) ∧ State.reset.b.log.queue = [] ∧ State.reset.b.fld F.PWR_THR_WATCH_THR = 105 ∧ State.reset.b.fld F.PWR_THR_PFAIL_THR = 58 ∧ State.reset.b.fld F.ALN_CADENCE_CODE = 11 ∧ State.reset.b.rd Reg.ALN_WAIT_MAX = 40000 ∧ State.reset.b.rd Reg.ALN_LDG_SHARE_A = 0x0A191E14 ∧ State.reset.b.rd Reg.ALN_LDG_SHARE_B = 0x0000050F ∧ State.reset.b.fld F.MAC_MAXLEN_LEN = 1522 ∧ State.reset.b.rd Reg.ISL_CRIT = 0x1E1E3141 ∧ State.reset.b.rd Reg.HST_SHARE_A = 0x0A0A0F19 ∧ State.reset.b.fld F.LOG_CTRL_SEAL_N = 256)
end

