-- ==== Sys2Proof/Laws/Key.lean ====
section
/-!
SUPPORT. Laws of the key block's operations: each keeps what Safety.lean says of the key block.
-/
namespace Sys2Proof.Machine

@[simp] theorem modAt_length {α : Type} (l : List α) (i : Nat) (f : α → α) : (modAt l i f).length = l.length := by
  induction l generalizing i with
  | nil => rfl
  | cons x r ih => cases i <;> simp [modAt, ih]

theorem modAt_get {α : Type} (l : List α) (i j : Nat) (f : α → α) :
    (modAt l i f)[j]? = if j = i then (l[j]?).map f else l[j]? := by
  induction l generalizing i j with
  | nil => simp [modAt]
  | cons x r ih =>
    cases i <;> cases j <;> simp [modAt, ih]

/-- A slot changed by a function that keeps it sound. -/
theorem Key.modSlot_sound {k : Key} (h : k.Sound) (i : Nat) (f : KeySlot → KeySlot)
    (hf : ∀ x, x.sound k.withheld i → (f x).sound k.withheld i) : (k.modSlot i f).Sound := by
  refine ⟨by simp [Key.modSlot, h.count], ?_, h.kept, h.pend, h.lcs, h.top⟩
  intro j x hx
  simp only [Key.modSlot, modAt_get] at hx
  split at hx
  · rename_i hj
    subst hj
    cases hg : k.slots[j]? with
    | none => simp [hg] at hx
    | some y =>
      simp only [hg, Option.map_some, Option.some.injEq] at hx
      subst hx
      exact hf y (h.each j y hg)
  · exact h.each j x hx

theorem KeySlot.empty_sound (w : Bool) (i g : Nat) : ({ KeySlot.empty with gen := g } : KeySlot).sound w i := by
  simp [KeySlot.sound, KeySlot.empty]

theorem Key.zeroise_sound {k : Key} (h : k.Sound) (i : Nat) : (k.zeroise i).Sound :=
  k.modSlot_sound h i _ fun x _ => KeySlot.empty_sound _ _ _

theorem Key.load_sound {k : Key} (h : k.Sound) (i : Nat) (s : KeySlot) (hs : engineBit s.engine < 8) : (k.load i s).Sound := by
  refine k.modSlot_sound h i _ fun _ _ => ?_
  by_cases hw : (k.withheld && isWithheldSlot i) = true <;> simp [KeySlot.sound, hw, hs]

/-- A change of every slot by a function. -/
theorem Key.mapSlots_sound {k : Key} (h : k.Sound) (f : KeySlot → KeySlot)
    (hf : ∀ (i : Nat) (x : KeySlot), x.sound k.withheld i → (f x).sound k.withheld i) : ({ k with slots := k.slots.map f } : Key).Sound := by
  refine ⟨by simp [h.count], ?_, h.kept, h.pend, h.lcs, h.top⟩
  intro j x hx
  rw [List.getElem?_map] at hx
  cases hg : k.slots[j]? with
  | none => simp [hg] at hx
  | some y =>
    simp only [hg, Option.map_some, Option.some.injEq] at hx
    subst hx
    exact hf j y (h.each j y hg)

theorem Key.closeSession_sound {k : Key} (h : k.Sound) (s : Nat) : (k.closeSession s).Sound :=
  k.mapSlots_sound h _ fun i x hx => by
    split
    · exact KeySlot.empty_sound _ _ _
    · exact hx

theorem Key.dropEphemeral_sound {k : Key} (h : k.Sound) : k.dropEphemeral.Sound :=
  k.mapSlots_sound h _ fun i x hx => by
    split
    · exact KeySlot.empty_sound _ _ _
    · exact hx

theorem Key.withhold_sound {k : Key} (h : k.Sound) : ({ k.withhold with pend := true } : Key).Sound := by
  refine ⟨by simp [Key.withhold, h.count], ?_, h.kept, rfl, h.lcs, h.top⟩
  intro j x hx
  simp only [Key.withhold, List.getElem?_map] at hx
  cases hg : k.slots[j]? with
  | none => simp [hg] at hx
  | some y =>
    simp [List.getElem?_zipIdx, hg] at hx
    have hy := h.each j y hg
    subst hx
    obtain ⟨h1, h2, h3⟩ := hy
    by_cases hw : isWithheldSlot j = true
    · by_cases hs : y.state = 1
      · simp_all [KeySlot.sound, Key.withhold]
      · simp_all [KeySlot.sound, Key.withhold]
    · simp_all [KeySlot.sound, Key.withhold]

theorem Key.unwithhold_sound {k : Key} (h : k.Sound) (n : Nat) : ({ k.unwithhold with pend := false, acked := n } : Key).Sound := by
  refine ⟨by simp [Key.unwithhold, h.count], ?_, h.kept, rfl, h.lcs, h.top⟩
  intro j x hx
  simp only [Key.unwithhold, List.getElem?_map] at hx
  cases hg : k.slots[j]? with
  | none => simp [hg] at hx
  | some y =>
    simp [hg] at hx
    obtain ⟨h1, h2, h3⟩ := h.each j y hg
    subst hx
    by_cases hs : y.state = 2
    · simp_all [KeySlot.sound, Key.unwithhold]
    · simp_all [KeySlot.sound, Key.unwithhold]

theorem Key.deepReset_sound {k : Key} (h : k.Sound) (a : Bool) : (k.deepReset a).Sound := by
  refine ⟨by simp [Key.deepReset, h.count], ?_, h.kept, rfl, ?_, h.top⟩
  · intro j x hx
    simp only [Key.deepReset, List.getElem?_map] at hx
    cases hg : k.slots[j]? with
    | none => simp [hg] at hx
    | some y =>
      simp [hg] at hx
      subst hx
      exact KeySlot.empty_sound _ _ _
  · simp [Key.deepReset]

/-! ### The shared operations -/

theorem keyLoaded_sound {k : Key} (h : k.Sound) (b : Block) (i : Nat) (s : KeySlot) (hs : engineBit s.engine < 8) :
    (keyLoaded k b i s).1.Sound := k.load_sound h i s hs

theorem keyZeroised_sound {k : Key} (h : k.Sound) (b : Block) (i : Nat) : (keyZeroised k b i).1.Sound := k.zeroise_sound h i

theorem resetEffects_sound {k : Key} (h : k.Sound) (r : Nat) (b : Block) : (resetEffects r k b).1.Sound := by
  unfold resetEffects
  split
  · exact k.deepReset_sound h _
  · split
    · exact k.deepReset_sound h _
    · exact k.dropEphemeral_sound h

theorem beginReset_sound {k : Key} (h : k.Sound) (m s : Nat) (a c : Bool) (b : Block) : (beginReset m s a c k b).1.Sound := by
  unfold beginReset
  dsimp only
  split
  · exact resetEffects_sound h _ _
  · exact h

theorem assertReset_sound {k : Key} (h : k.Sound) (s : Nat) (a c : Bool) (b : Block) : (assertReset s a c k b).1.Sound :=
  beginReset_sound h _ _ _ _ _

theorem ycpK_sound {k : Key} (h : k.Sound) (b : Block) (hd : Hdr) (op : Nat) (q : YReq) (body : Key → Block → KRes)
    (hb : ∀ b, (body k b).k.Sound) : (b.ycpK k hd op q body).1.Sound := by
  unfold Block.ycpK
  dsimp only
  split
  · exact h
  · exact hb _

theorem tabDel_mem {α : Type} {t : Tab α} {i : Nat} {e : Nat × α} (h : e ∈ tabDel t i) : e ∈ t := by
  induction t with
  | nil => simp [tabDel] at h
  | cons x r ih =>
    obtain ⟨k, v⟩ := x
    simp only [tabDel] at h
    split at h
    · exact List.mem_cons_of_mem _ (ih h)
    · rcases List.mem_cons.mp h with rfl | h
      · simp
      · exact List.mem_cons_of_mem _ (ih h)

theorem tabIns_mem {α : Type} {t : Tab α} {i : Nat} {v : α} {e : Nat × α} (h : e ∈ tabIns i v t) : e = (i, v) ∨ e ∈ t := by
  induction t with
  | nil => simpa [tabIns] using h
  | cons x r ih =>
    obtain ⟨k, w⟩ := x
    simp only [tabIns] at h
    split at h
    · simpa using h
    · rcases List.mem_cons.mp h with rfl | h
      · simp
      · rcases ih h with h | h
        · exact Or.inl h
        · exact Or.inr (List.mem_cons_of_mem _ h)

theorem keep_sound {k : Key} (h : k.Sound) (i : Nat) : (k.keep i).Sound := by
  unfold Key.keep
  dsimp only
  split
  · rename_i hc
    refine ⟨h.count, h.each, ?_, h.pend, h.lcs, h.top⟩
    intro e he
    rcases tabIns_mem he with rfl | he
    · simp at hc
      simp
      unfold Key.slot at *
      cases hg : k.slots[i]? with
      | none => simp [List.getD, hg, KeySlot.empty] at hc
      | some y =>
        have := (h.each i y hg).1
        simp [List.getD, hg] at hc ⊢
        exact this hc.1.1
    · exact h.kept e (tabDel_mem he)
  · exact ⟨h.count, h.each, fun e he => h.kept e (tabDel_mem he), h.pend, h.lcs, h.top⟩

theorem genKey_engine {k : Key} {i mode engine alg session created : Nat} {c : KeyContent} {s : KeySlot}
    (h : k.genKey i mode engine alg session created c = some s) : s.engine = engine := by
  unfold Key.genKey at h
  dsimp only at h
  split at h <;> simp at h <;> subst h <;> rfl

theorem genRefusal_engine {k : Key} {i mode engine alg : Nat} (h : k.genRefusal i mode engine alg = yOk) : engineBit engine < 8 := by
  have hle : engineBit engine ≤ 8 := by
    unfold engineBit
    cases hf : (List.range 8).find? fun i => engine == 2 ^ i with
    | none => simp
    | some v =>
      have := List.mem_of_find?_eq_some hf
      simp at this
      simp; omega
  unfold Key.genRefusal at h
  split at h
  · simp at h
  · split at h
    · simp at h
    · omega

theorem vacate_sound {k : Key} (h : k.Sound) (i m : Nat) (c : KeyContent) (b : Block) : (vacate i m c k b).1.Sound := by
  unfold vacate
  dsimp only
  have h1 : (if (k.slot i).state ≠ 0 then keyZeroised (k.modSlot i fun s => { s with gen := s.gen + 1 }) b i else (k, b)).1.Sound := by
    split
    · refine keyZeroised_sound ?_ _ _
      exact k.modSlot_sound h i _ fun x hx => hx
    · exact h
  split
  · exact h1
  · split
    · exact keyZeroised_sound h1 _ _
    · exact h1

theorem keyGenBody_sound {k : Key} (h : k.Sound) (se sl m e a : Nat) (c : KeyContent) (t : Bool) (b : Block) :
    (keyGenBody se sl m e a c t k b).k.Sound := by
  unfold keyGenBody
  split
  · exact h
  split
  · exact h
  split
  · exact h
  · rename_i i hi
    dsimp only
    split
    · exact h
    rename_i hr
    simp only [ne_eq, not_not] at hr
    have heng := genRefusal_engine hr
    split
    · exact h
    have h3 := keep_sound (vacate_sound h i m c b) i
    generalize hv : vacate i m c k b = kb2 at h3 ⊢
    split
    · exact Key.zeroise_sound h3 _
    split
    · exact h3
    split
    · exact h3
    · rename_i s hs
      have : ({ kb2.1.keep i with draws := (kb2.1.keep i).draws + 1 } : Key).Sound := ⟨h3.count, h3.each, h3.kept, h3.pend, h3.lcs, h3.top⟩
      refine keep_sound (keyLoaded_sound this _ i s ?_) i
      rw [genKey_engine hs]; exact heng

theorem engineBit_pow (n : Nat) (h : n < 8) : engineBit (2 ^ n) < 8 := by
  have : n = 0 ∨ n = 1 ∨ n = 2 ∨ n = 3 ∨ n = 4 ∨ n = 5 ∨ n = 6 ∨ n = 7 := by omega
  rcases this with rfl|rfl|rfl|rfl|rfl|rfl|rfl|rfl <;> decide

theorem loadDerived_sound {k : Key} (h : k.Sound) (b : Block) (sl lab me bit alg) (hb : bit < 8) : (loadDerived sl lab me bit alg k b).1.Sound :=
  keyLoaded_sound h _ _ _ (engineBit_pow _ hb)

theorem startKeys_sound {k : Key} (h : k.Sound) (m1 mf) (b : Block) : (startKeys m1 mf k b).1.Sound := by
  unfold startKeys
  refine loadDerived_sound ?_ _ _ _ _ _ _ (by decide)
  refine loadDerived_sound ?_ _ _ _ _ _ _ (by decide)
  exact loadDerived_sound h _ _ _ _ _ _ (by decide)

theorem loadKeys_sound {k : Key} (h : k.Sound) (m1 mf : Digest) (bad : List Nat) (b : Block) : (loadKeys m1 mf bad k b).1.Sound := by
  unfold loadKeys
  dsimp only
  have h0 : ({ k with m1 := m1, mf := mf, storeOk := true } : Key).Sound := ⟨h.count, h.each, h.kept, h.pend, h.lcs, h.top⟩
  split
  · exact h0
  · have hs : ∀ (l : List (Nat × KeySlot)) (kb : Key × Block), (∀ e ∈ l, engineBit e.2.engine < 8) → kb.1.Sound →
        (l.foldl (fun kb e => loadStored bad e kb) kb).1.Sound := by
      intro l
      induction l with
      | nil => intro kb _ hk; exact hk
      | cons e r ih =>
        intro kb he hk
        refine ih _ (fun x hx => he x (by simp [hx])) ?_
        show (loadStored bad e kb).1.Sound
        unfold loadStored
        split
        · exact ⟨hk.count, hk.each, hk.kept, hk.pend, hk.lcs, hk.top⟩
        · exact keyLoaded_sound hk _ _ _ (he e (by simp))
    have h3 := hs k.store (startKeys m1 mf { k with m1 := m1, mf := mf, storeOk := true } b) h.kept (startKeys_sound h0 _ _ _)
    exact ⟨h3.count, h3.each, h3.kept, h3.pend, h3.lcs, h3.top⟩

theorem zeroiseAll_sound {k : Key} (h : k.Sound) (b : Block) : (zeroiseAll k b).1.Sound ∧ (zeroiseAll k b).1.lcs = k.lcs := by
  have hz : ∀ (l : List Nat) (kb : Key × Block), kb.1.Sound → kb.1.lcs = k.lcs → 
     (l.foldl (fun (kb : Key × Block) i => keyZeroised kb.1 kb.2 i) kb).1.Sound ∧ (l.foldl (fun (kb : Key × Block) i => keyZeroised kb.1 kb.2 i) kb).1.lcs = k.lcs := by
    intro l
    induction l with
    | nil => intro kb h1 h2; exact ⟨h1, h2⟩
    | cons e r ih => intro kb h1 h2; exact ih _ (keyZeroised_sound h1 _ _) h2
  exact hz (List.range 64) (k, _) h rfl

theorem katDecide_sound {k : Key} (h : k.Sound) (b : Block) : (b.katDecide k).1.Sound := by
  unfold Block.katDecide
  dsimp only
  repeat' split
  all_goals first | exact h | exact assertReset_sound h _ _ _ _

theorem hostWrite_sound {k : Key} (h : k.Sound) (acc addr : Nat) (v m : W32) (b : Block) : (hostWrite acc addr v m k b).k.Sound := by
  unfold hostWrite
  dsimp only
  split
  · exact h
  split
  · exact h
  split
  · exact h
  · exact h
  · exact h
  split
  · exact h
  split
  · exact h
  split
  · split
    · unfold sysReqW resetReqW; dsimp only; split
      · exact h
      · exact assertReset_sound h srcPin true false b
    · split
      · unfold fwReqW resetReqW; dsimp only; split
        · exact h
        · exact assertReset_sound h srcSwr false false b
      · exact h
  split
  · exact h
  split
  · exact h
  · exact h
  · exact h

end Sys2Proof.Machine
end

