-- ==== Sys2Proof/Laws/Regs.lean ====
section
/-!
SUPPORT. Laws of the register file and of register fields: a read after a write, the canonical form, a field after a field.
-/
namespace Sys2Proof.Machine

/-! ### The register file as a map -/

theorem RegFile.get_erase (r : RegFile) (a c : Nat) : (r.erase a).get c = if c = a then 0 else r.get c := by
  induction r with
  | nil => simp [RegFile.erase, RegFile.get]
  | cons e r ih =>
    obtain ⟨k, v⟩ := e
    by_cases h : k = a
    · subst h
      simp only [RegFile.erase, if_true, ih]
      by_cases hc : c = k
      · simp [hc]
      · simp [hc, RegFile.get, Ne.symm hc]
    · simp only [RegFile.erase, h, if_false, RegFile.get]
      by_cases hk : k = c
      · subst hk
        simp [h]
      · simp [hk, ih]

/-- No entry for an address. -/
def RegFile.lacks (r : RegFile) (a : Nat) : Prop := ∀ e ∈ r, e.1 ≠ a

theorem RegFile.erase_lacks (r : RegFile) (a : Nat) : (r.erase a).lacks a := by
  induction r with
  | nil => simp [RegFile.erase, RegFile.lacks]
  | cons e r ih =>
    obtain ⟨k, v⟩ := e
    by_cases h : k = a
    · simpa [RegFile.erase, h] using ih
    · intro x hx
      simp only [RegFile.erase, h, if_false, List.mem_cons] at hx
      rcases hx with rfl | hx
      · exact h
      · exact ih x hx

theorem RegFile.get_insert (r : RegFile) (a c : Nat) (v : W32) (hl : r.lacks a) :
    (RegFile.insert a v r).get c = if c = a then v else r.get c := by
  induction r with
  | nil => by_cases h : a = c <;> simp [RegFile.insert, RegFile.get, h, eq_comm]
  | cons e r ih =>
    obtain ⟨k, w⟩ := e
    have hk : k ≠ a := hl (k, w) (by simp)
    have hr : RegFile.lacks r a := fun x hx => hl x (by simp [hx])
    simp only [RegFile.insert]
    split
    · by_cases h : a = c <;> simp [RegFile.get, h, eq_comm]
    · by_cases h : k = c
      · subst h
        simp [RegFile.get, hk]
      · simp [RegFile.get, h, ih hr]

theorem RegFile.get_set (r : RegFile) (a c : Nat) (v : W32) : (r.set a v).get c = if c = a then v else r.get c := by
  unfold RegFile.set
  split
  · rename_i h
    rw [RegFile.get_erase, h]
  · rw [RegFile.get_insert _ _ _ _ (r.erase_lacks a), RegFile.get_erase]
    by_cases hc : c = a <;> simp [hc]

/-! ### The canonical form -/

/-- Every address of the file is above one. -/
def RegFile.above (r : RegFile) (a : Nat) : Prop := ∀ e ∈ r, a < e.1

theorem RegFile.wf_cons (k : Nat) (v : W32) (r : RegFile) :
    RegFile.wf ((k, v) :: r) = true ↔ v ≠ 0 ∧ r.above k ∧ r.wf = true := by
  induction r generalizing k v with
  | nil => simp [RegFile.wf, RegFile.above]
  | cons e r ih =>
    obtain ⟨k', v'⟩ := e
    have h1 : RegFile.wf ((k, v) :: (k', v') :: r) = true ↔ v ≠ 0 ∧ k < k' ∧ RegFile.wf ((k', v') :: r) = true := by
      simp [RegFile.wf]
    rw [h1]
    constructor
    · rintro ⟨hv, hk, hw⟩
      refine ⟨hv, ?_, hw⟩
      intro x hx
      rcases List.mem_cons.mp hx with rfl | hx
      · exact hk
      · exact Nat.lt_trans hk (((ih k' v').mp hw).2.1 x hx)
    · rintro ⟨hv, ha, hw⟩
      exact ⟨hv, ha (k', v') (by simp), hw⟩

theorem RegFile.mem_erase {r : RegFile} {a : Nat} {e : Nat × W32} (h : e ∈ r.erase a) : e ∈ r := by
  induction r with
  | nil => simp [RegFile.erase] at h
  | cons x r ih =>
    obtain ⟨k, v⟩ := x
    simp only [RegFile.erase] at h
    split at h
    · exact List.mem_cons_of_mem _ (ih h)
    · rcases List.mem_cons.mp h with rfl | h
      · simp
      · exact List.mem_cons_of_mem _ (ih h)

theorem RegFile.wf_erase {r : RegFile} (a : Nat) (h : r.wf = true) : (r.erase a).wf = true := by
  induction r with
  | nil => rfl
  | cons x r ih =>
    obtain ⟨k, v⟩ := x
    obtain ⟨hv, ha, hw⟩ := (RegFile.wf_cons k v r).mp h
    simp only [RegFile.erase]
    split
    · exact ih hw
    · exact (RegFile.wf_cons k v _).mpr ⟨hv, fun e he => ha e (RegFile.mem_erase he), ih hw⟩

theorem RegFile.mem_insert {r : RegFile} {a : Nat} {v : W32} {e : Nat × W32} (h : e ∈ RegFile.insert a v r) : e = (a, v) ∨ e ∈ r := by
  induction r with
  | nil => simpa [RegFile.insert] using h
  | cons x r ih =>
    obtain ⟨k, w⟩ := x
    simp only [RegFile.insert] at h
    split at h
    · simpa using h
    · rcases List.mem_cons.mp h with rfl | h
      · simp
      · rcases ih h with h | h
        · exact Or.inl h
        · exact Or.inr (List.mem_cons_of_mem _ h)

theorem RegFile.wf_insert {r : RegFile} {a : Nat} {v : W32} (hv : v ≠ 0) (hl : r.lacks a) (h : r.wf = true) :
    (RegFile.insert a v r).wf = true := by
  induction r with
  | nil => exact (RegFile.wf_cons a v []).mpr ⟨hv, by simp [RegFile.above], rfl⟩
  | cons x r ih =>
    obtain ⟨k, w⟩ := x
    obtain ⟨hw, ha, hr⟩ := (RegFile.wf_cons k w r).mp h
    have hk : k ≠ a := hl (k, w) (by simp)
    simp only [RegFile.insert]
    split
    · rename_i hlt
      refine (RegFile.wf_cons a v _).mpr ⟨hv, ?_, h⟩
      intro e he
      rcases List.mem_cons.mp he with rfl | he
      · exact hlt
      · exact Nat.lt_trans hlt (ha e he)
    · refine (RegFile.wf_cons k w _).mpr ⟨hw, ?_, ih (fun e he => hl e (by simp [he])) hr⟩
      intro e he
      rcases RegFile.mem_insert he with rfl | he
      · simp only
        omega
      · exact ha e he

/-- A write keeps the canonical form. -/
theorem RegFile.wf_set {r : RegFile} (a : Nat) (v : W32) (h : r.wf = true) : (r.set a v).wf = true := by
  unfold RegFile.set
  split
  · exact RegFile.wf_erase a h
  · rename_i hv
    exact RegFile.wf_insert hv (r.erase_lacks a) (RegFile.wf_erase a h)

/-! ### Registers and fields of a block -/

@[simp] theorem Block.rd_wr (b : Block) (a c : Nat) (v : W32) : (b.wr a v).rd c = if c = a then v else b.rd c :=
  RegFile.get_set b.regs a c v

theorem Block.rd_put (b : Block) (f : Fld) (n c : Nat) :
    (b.put f n).rd c = if c = f.addr then putBits (b.rd f.addr) f.hi f.lo n else b.rd c := by
  simp [Block.put]

theorem Block.rd_put_ne (b : Block) (f : Fld) (n c : Nat) (h : c ≠ f.addr) : (b.put f n).rd c = b.rd c := by
  simp [Block.rd_put, h]

theorem Block.rd_bumpBy_ne (b : Block) (a k c : Nat) (h : c ≠ a) : (b.bumpBy a k).rd c = b.rd c := by
  simp [Block.bumpBy, h]

theorem Block.fld_put_ne (b : Block) (f g : Fld) (n : Nat) (h : g.addr ≠ f.addr) : (b.put f n).fld g = b.fld g := by
  simp [Block.fld, Block.rd_put, h]

theorem getLsbD_putBits (v : W32) (hi lo n i : Nat) (hh : hi < 32) :
    (putBits v hi lo n).getLsbD i = if lo ≤ i ∧ i ≤ hi then n.testBit (i - lo) else v.getLsbD i := by
  unfold putBits fieldMask
  by_cases hi32 : i < 32
  · by_cases hr : lo ≤ i ∧ i ≤ hi
    · have h1 : ((2 ^ (hi + 1 - lo) - 1) <<< lo).testBit i = true := by
        rw [Nat.testBit_shiftLeft]
        simp only [Nat.testBit_two_pow_sub_one]
        simp
        omega
      have h2 : (n <<< lo).testBit i = n.testBit (i - lo) := by
        rw [Nat.testBit_shiftLeft]
        simp [hr.1]
      simp only [BitVec.getLsbD_or, BitVec.getLsbD_and, BitVec.getLsbD_not, BitVec.getLsbD_ofNat, hi32, h1, h2, hr]
      simp
    · have h1 : ((2 ^ (hi + 1 - lo) - 1) <<< lo).testBit i = false := by
        rw [Nat.testBit_shiftLeft]
        simp only [Nat.testBit_two_pow_sub_one]
        by_cases h : lo ≤ i
        · simp [h]
          omega
        · simp [h]
      simp only [BitVec.getLsbD_or, BitVec.getLsbD_and, BitVec.getLsbD_not, BitVec.getLsbD_ofNat, hi32, h1, hr]
      simp
  · have h3 : ¬(lo ≤ i ∧ i ≤ hi) := by omega
    simp [h3, BitVec.getLsbD_of_ge _ _ (Nat.le_of_not_lt hi32)]

theorem testBit_bits (v : W32) (hi lo i : Nat) : (bits v hi lo).testBit i = (decide (i < hi + 1 - lo) && v.getLsbD (lo + i)) := by
  unfold bits
  rw [Nat.testBit_mod_two_pow, Nat.testBit_shiftRight]
  rfl

theorem bits_putBits (v : W32) (hi lo n : Nat) (hh : hi < 32) : bits (putBits v hi lo n) hi lo = n % 2 ^ (hi + 1 - lo) := by
  apply Nat.eq_of_testBit_eq
  intro i
  rw [testBit_bits, getLsbD_putBits _ _ _ _ _ hh, Nat.testBit_mod_two_pow]
  by_cases h : i < hi + 1 - lo
  · have : lo ≤ lo + i ∧ lo + i ≤ hi := by omega
    simp [h, this]
  · simp [h]

theorem bits_putBits_disj (v : W32) (hi lo n hi' lo' : Nat) (hh : hi < 32) (hd : hi' < lo ∨ hi < lo') :
    bits (putBits v hi lo n) hi' lo' = bits v hi' lo' := by
  apply Nat.eq_of_testBit_eq
  intro i
  rw [testBit_bits, testBit_bits, getLsbD_putBits _ _ _ _ _ hh]
  by_cases h : i < hi' + 1 - lo'
  · have : ¬(lo ≤ lo' + i ∧ lo' + i ≤ hi) := by omega
    simp [this]
  · simp [h]

/-- A field reads what was written into it. -/
theorem Block.fld_put (b : Block) (f : Fld) (n : Nat) (hh : f.hi < 32) : (b.put f n).fld f = n % 2 ^ (f.hi + 1 - f.lo) := by
  simp [Block.fld, Block.rd_put, bits_putBits _ _ _ _ hh]

/-- A field of the same register beside the one written keeps its value. -/
theorem Block.fld_put_disj (b : Block) (f g : Fld) (n : Nat) (hh : f.hi < 32) (hd : g.hi < f.lo ∨ f.hi < g.lo) :
    (b.put f n).fld g = b.fld g := by
  by_cases h : g.addr = f.addr
  · simp [Block.fld, Block.rd_put, h, bits_putBits_disj _ _ _ _ _ _ hh hd]
  · exact Block.fld_put_ne b f g n h

/-- A counter never wraps. -/
theorem Block.rd_bump (b : Block) (a : Nat) : ((b.bump a).rd a).toNat = min 0xFFFFFFFF ((b.rd a).toNat + 1) := by
  simp [Block.bump, Block.bumpBy]

end Sys2Proof.Machine
end

