-- ==== Sys2Proof/Laws/State.lean ====
section
/-!
SUPPORT. What each elementary update of the block leaves as it is: one lemma a part, true by computation.
-/
namespace Sys2Proof.Machine

section
variable (b : Block)

/-! ### wr -/

@[simp] theorem Block.wr_acc (a : Nat) (v : W32) : (b.wr a v).acc = b.acc := rfl
@[simp] theorem Block.wr_ldg (a : Nat) (v : W32) : (b.wr a v).ldg = b.ldg := rfl
@[simp] theorem Block.wr_tim (a : Nat) (v : W32) : (b.wr a v).tim = b.tim := rfl
@[simp] theorem Block.wr_ports (a : Nat) (v : W32) : (b.wr a v).ports = b.ports := rfl
@[simp] theorem Block.wr_ing (a : Nat) (v : W32) : (b.wr a v).ing = b.ing := rfl
@[simp] theorem Block.wr_aln (a : Nat) (v : W32) : (b.wr a v).aln = b.aln := rfl
@[simp] theorem Block.wr_flt (a : Nat) (v : W32) : (b.wr a v).flt = b.flt := rfl
@[simp] theorem Block.wr_nrg (a : Nat) (v : W32) : (b.wr a v).nrg = b.nrg := rfl
@[simp] theorem Block.wr_mod (a : Nat) (v : W32) : (b.wr a v).mod = b.mod := rfl
@[simp] theorem Block.wr_isl (a : Nat) (v : W32) : (b.wr a v).isl = b.isl := rfl
@[simp] theorem Block.wr_grd (a : Nat) (v : W32) : (b.wr a v).grd = b.grd := rfl
@[simp] theorem Block.wr_tdm (a : Nat) (v : W32) : (b.wr a v).tdm = b.tdm := rfl
@[simp] theorem Block.wr_rad (a : Nat) (v : W32) : (b.wr a v).rad = b.rad := rfl
@[simp] theorem Block.wr_hst (a : Nat) (v : W32) : (b.wr a v).hst = b.hst := rfl
@[simp] theorem Block.wr_top (a : Nat) (v : W32) : (b.wr a v).top = b.top := rfl
@[simp] theorem Block.wr_log (a : Nat) (v : W32) : (b.wr a v).log = b.log := rfl
@[simp] theorem Block.wr_tx (a : Nat) (v : W32) : (b.wr a v).tx = b.tx := rfl
@[simp] theorem Block.wr_freeCtr (a : Nat) (v : W32) : (b.wr a v).freeCtr = b.freeCtr := rfl
@[simp] theorem Block.wr_sess (a : Nat) (v : W32) (x : Nat) : (b.wr a v).sess x = b.sess x := rfl

/-! ### put -/

@[simp] theorem Block.put_acc (f : Fld) (n : Nat) : (b.put f n).acc = b.acc := rfl
@[simp] theorem Block.put_ldg (f : Fld) (n : Nat) : (b.put f n).ldg = b.ldg := rfl
@[simp] theorem Block.put_tim (f : Fld) (n : Nat) : (b.put f n).tim = b.tim := rfl
@[simp] theorem Block.put_ports (f : Fld) (n : Nat) : (b.put f n).ports = b.ports := rfl
@[simp] theorem Block.put_ing (f : Fld) (n : Nat) : (b.put f n).ing = b.ing := rfl
@[simp] theorem Block.put_aln (f : Fld) (n : Nat) : (b.put f n).aln = b.aln := rfl
@[simp] theorem Block.put_flt (f : Fld) (n : Nat) : (b.put f n).flt = b.flt := rfl
@[simp] theorem Block.put_nrg (f : Fld) (n : Nat) : (b.put f n).nrg = b.nrg := rfl
@[simp] theorem Block.put_mod (f : Fld) (n : Nat) : (b.put f n).mod = b.mod := rfl
@[simp] theorem Block.put_isl (f : Fld) (n : Nat) : (b.put f n).isl = b.isl := rfl
@[simp] theorem Block.put_grd (f : Fld) (n : Nat) : (b.put f n).grd = b.grd := rfl
@[simp] theorem Block.put_tdm (f : Fld) (n : Nat) : (b.put f n).tdm = b.tdm := rfl
@[simp] theorem Block.put_rad (f : Fld) (n : Nat) : (b.put f n).rad = b.rad := rfl
@[simp] theorem Block.put_hst (f : Fld) (n : Nat) : (b.put f n).hst = b.hst := rfl
@[simp] theorem Block.put_top (f : Fld) (n : Nat) : (b.put f n).top = b.top := rfl
@[simp] theorem Block.put_log (f : Fld) (n : Nat) : (b.put f n).log = b.log := rfl
@[simp] theorem Block.put_tx (f : Fld) (n : Nat) : (b.put f n).tx = b.tx := rfl
@[simp] theorem Block.put_freeCtr (f : Fld) (n : Nat) : (b.put f n).freeCtr = b.freeCtr := rfl
@[simp] theorem Block.put_sess (f : Fld) (n : Nat) (x : Nat) : (b.put f n).sess x = b.sess x := rfl

/-! ### putFlag -/

@[simp] theorem Block.putFlag_acc (f : Fld) (v : Bool) : (b.putFlag f v).acc = b.acc := rfl
@[simp] theorem Block.putFlag_ldg (f : Fld) (v : Bool) : (b.putFlag f v).ldg = b.ldg := rfl
@[simp] theorem Block.putFlag_tim (f : Fld) (v : Bool) : (b.putFlag f v).tim = b.tim := rfl
@[simp] theorem Block.putFlag_ports (f : Fld) (v : Bool) : (b.putFlag f v).ports = b.ports := rfl
@[simp] theorem Block.putFlag_ing (f : Fld) (v : Bool) : (b.putFlag f v).ing = b.ing := rfl
@[simp] theorem Block.putFlag_aln (f : Fld) (v : Bool) : (b.putFlag f v).aln = b.aln := rfl
@[simp] theorem Block.putFlag_flt (f : Fld) (v : Bool) : (b.putFlag f v).flt = b.flt := rfl
@[simp] theorem Block.putFlag_nrg (f : Fld) (v : Bool) : (b.putFlag f v).nrg = b.nrg := rfl
@[simp] theorem Block.putFlag_mod (f : Fld) (v : Bool) : (b.putFlag f v).mod = b.mod := rfl
@[simp] theorem Block.putFlag_isl (f : Fld) (v : Bool) : (b.putFlag f v).isl = b.isl := rfl
@[simp] theorem Block.putFlag_grd (f : Fld) (v : Bool) : (b.putFlag f v).grd = b.grd := rfl
@[simp] theorem Block.putFlag_tdm (f : Fld) (v : Bool) : (b.putFlag f v).tdm = b.tdm := rfl
@[simp] theorem Block.putFlag_rad (f : Fld) (v : Bool) : (b.putFlag f v).rad = b.rad := rfl
@[simp] theorem Block.putFlag_hst (f : Fld) (v : Bool) : (b.putFlag f v).hst = b.hst := rfl
@[simp] theorem Block.putFlag_top (f : Fld) (v : Bool) : (b.putFlag f v).top = b.top := rfl
@[simp] theorem Block.putFlag_log (f : Fld) (v : Bool) : (b.putFlag f v).log = b.log := rfl
@[simp] theorem Block.putFlag_tx (f : Fld) (v : Bool) : (b.putFlag f v).tx = b.tx := rfl
@[simp] theorem Block.putFlag_freeCtr (f : Fld) (v : Bool) : (b.putFlag f v).freeCtr = b.freeCtr := rfl
@[simp] theorem Block.putFlag_sess (f : Fld) (v : Bool) (x : Nat) : (b.putFlag f v).sess x = b.sess x := rfl

/-! ### bumpBy -/

@[simp] theorem Block.bumpBy_acc (a n : Nat) : (b.bumpBy a n).acc = b.acc := rfl
@[simp] theorem Block.bumpBy_ldg (a n : Nat) : (b.bumpBy a n).ldg = b.ldg := rfl
@[simp] theorem Block.bumpBy_tim (a n : Nat) : (b.bumpBy a n).tim = b.tim := rfl
@[simp] theorem Block.bumpBy_ports (a n : Nat) : (b.bumpBy a n).ports = b.ports := rfl
@[simp] theorem Block.bumpBy_ing (a n : Nat) : (b.bumpBy a n).ing = b.ing := rfl
@[simp] theorem Block.bumpBy_aln (a n : Nat) : (b.bumpBy a n).aln = b.aln := rfl
@[simp] theorem Block.bumpBy_flt (a n : Nat) : (b.bumpBy a n).flt = b.flt := rfl
@[simp] theorem Block.bumpBy_nrg (a n : Nat) : (b.bumpBy a n).nrg = b.nrg := rfl
@[simp] theorem Block.bumpBy_mod (a n : Nat) : (b.bumpBy a n).mod = b.mod := rfl
@[simp] theorem Block.bumpBy_isl (a n : Nat) : (b.bumpBy a n).isl = b.isl := rfl
@[simp] theorem Block.bumpBy_grd (a n : Nat) : (b.bumpBy a n).grd = b.grd := rfl
@[simp] theorem Block.bumpBy_tdm (a n : Nat) : (b.bumpBy a n).tdm = b.tdm := rfl
@[simp] theorem Block.bumpBy_rad (a n : Nat) : (b.bumpBy a n).rad = b.rad := rfl
@[simp] theorem Block.bumpBy_hst (a n : Nat) : (b.bumpBy a n).hst = b.hst := rfl
@[simp] theorem Block.bumpBy_top (a n : Nat) : (b.bumpBy a n).top = b.top := rfl
@[simp] theorem Block.bumpBy_log (a n : Nat) : (b.bumpBy a n).log = b.log := rfl
@[simp] theorem Block.bumpBy_tx (a n : Nat) : (b.bumpBy a n).tx = b.tx := rfl
@[simp] theorem Block.bumpBy_freeCtr (a n : Nat) : (b.bumpBy a n).freeCtr = b.freeCtr := rfl
@[simp] theorem Block.bumpBy_sess (a n : Nat) (x : Nat) : (b.bumpBy a n).sess x = b.sess x := rfl

/-! ### bump -/

@[simp] theorem Block.bump_acc (a : Nat) : (b.bump a).acc = b.acc := rfl
@[simp] theorem Block.bump_ldg (a : Nat) : (b.bump a).ldg = b.ldg := rfl
@[simp] theorem Block.bump_tim (a : Nat) : (b.bump a).tim = b.tim := rfl
@[simp] theorem Block.bump_ports (a : Nat) : (b.bump a).ports = b.ports := rfl
@[simp] theorem Block.bump_ing (a : Nat) : (b.bump a).ing = b.ing := rfl
@[simp] theorem Block.bump_aln (a : Nat) : (b.bump a).aln = b.aln := rfl
@[simp] theorem Block.bump_flt (a : Nat) : (b.bump a).flt = b.flt := rfl
@[simp] theorem Block.bump_nrg (a : Nat) : (b.bump a).nrg = b.nrg := rfl
@[simp] theorem Block.bump_mod (a : Nat) : (b.bump a).mod = b.mod := rfl
@[simp] theorem Block.bump_isl (a : Nat) : (b.bump a).isl = b.isl := rfl
@[simp] theorem Block.bump_grd (a : Nat) : (b.bump a).grd = b.grd := rfl
@[simp] theorem Block.bump_tdm (a : Nat) : (b.bump a).tdm = b.tdm := rfl
@[simp] theorem Block.bump_rad (a : Nat) : (b.bump a).rad = b.rad := rfl
@[simp] theorem Block.bump_hst (a : Nat) : (b.bump a).hst = b.hst := rfl
@[simp] theorem Block.bump_top (a : Nat) : (b.bump a).top = b.top := rfl
@[simp] theorem Block.bump_log (a : Nat) : (b.bump a).log = b.log := rfl
@[simp] theorem Block.bump_tx (a : Nat) : (b.bump a).tx = b.tx := rfl
@[simp] theorem Block.bump_freeCtr (a : Nat) : (b.bump a).freeCtr = b.freeCtr := rfl
@[simp] theorem Block.bump_sess (a : Nat) (x : Nat) : (b.bump a).sess x = b.sess x := rfl

/-! ### wr64 -/

@[simp] theorem Block.wr64_acc (a n : Nat) : (b.wr64 a n).acc = b.acc := rfl
@[simp] theorem Block.wr64_ldg (a n : Nat) : (b.wr64 a n).ldg = b.ldg := rfl
@[simp] theorem Block.wr64_tim (a n : Nat) : (b.wr64 a n).tim = b.tim := rfl
@[simp] theorem Block.wr64_ports (a n : Nat) : (b.wr64 a n).ports = b.ports := rfl
@[simp] theorem Block.wr64_ing (a n : Nat) : (b.wr64 a n).ing = b.ing := rfl
@[simp] theorem Block.wr64_aln (a n : Nat) : (b.wr64 a n).aln = b.aln := rfl
@[simp] theorem Block.wr64_flt (a n : Nat) : (b.wr64 a n).flt = b.flt := rfl
@[simp] theorem Block.wr64_nrg (a n : Nat) : (b.wr64 a n).nrg = b.nrg := rfl
@[simp] theorem Block.wr64_mod (a n : Nat) : (b.wr64 a n).mod = b.mod := rfl
@[simp] theorem Block.wr64_isl (a n : Nat) : (b.wr64 a n).isl = b.isl := rfl
@[simp] theorem Block.wr64_grd (a n : Nat) : (b.wr64 a n).grd = b.grd := rfl
@[simp] theorem Block.wr64_tdm (a n : Nat) : (b.wr64 a n).tdm = b.tdm := rfl
@[simp] theorem Block.wr64_rad (a n : Nat) : (b.wr64 a n).rad = b.rad := rfl
@[simp] theorem Block.wr64_hst (a n : Nat) : (b.wr64 a n).hst = b.hst := rfl
@[simp] theorem Block.wr64_top (a n : Nat) : (b.wr64 a n).top = b.top := rfl
@[simp] theorem Block.wr64_log (a n : Nat) : (b.wr64 a n).log = b.log := rfl
@[simp] theorem Block.wr64_tx (a n : Nat) : (b.wr64 a n).tx = b.tx := rfl
@[simp] theorem Block.wr64_freeCtr (a n : Nat) : (b.wr64 a n).freeCtr = b.freeCtr := rfl
@[simp] theorem Block.wr64_sess (a n : Nat) (x : Nat) : (b.wr64 a n).sess x = b.sess x := rfl

/-! ### awr -/

@[simp] theorem Block.awr_regs (c a : Nat) (v : W32) : (b.awr c a v).regs = b.regs := rfl
@[simp] theorem Block.awr_ldg (c a : Nat) (v : W32) : (b.awr c a v).ldg = b.ldg := rfl
@[simp] theorem Block.awr_tim (c a : Nat) (v : W32) : (b.awr c a v).tim = b.tim := rfl
@[simp] theorem Block.awr_ports (c a : Nat) (v : W32) : (b.awr c a v).ports = b.ports := rfl
@[simp] theorem Block.awr_ing (c a : Nat) (v : W32) : (b.awr c a v).ing = b.ing := rfl
@[simp] theorem Block.awr_aln (c a : Nat) (v : W32) : (b.awr c a v).aln = b.aln := rfl
@[simp] theorem Block.awr_flt (c a : Nat) (v : W32) : (b.awr c a v).flt = b.flt := rfl
@[simp] theorem Block.awr_nrg (c a : Nat) (v : W32) : (b.awr c a v).nrg = b.nrg := rfl
@[simp] theorem Block.awr_mod (c a : Nat) (v : W32) : (b.awr c a v).mod = b.mod := rfl
@[simp] theorem Block.awr_isl (c a : Nat) (v : W32) : (b.awr c a v).isl = b.isl := rfl
@[simp] theorem Block.awr_grd (c a : Nat) (v : W32) : (b.awr c a v).grd = b.grd := rfl
@[simp] theorem Block.awr_tdm (c a : Nat) (v : W32) : (b.awr c a v).tdm = b.tdm := rfl
@[simp] theorem Block.awr_rad (c a : Nat) (v : W32) : (b.awr c a v).rad = b.rad := rfl
@[simp] theorem Block.awr_hst (c a : Nat) (v : W32) : (b.awr c a v).hst = b.hst := rfl
@[simp] theorem Block.awr_top (c a : Nat) (v : W32) : (b.awr c a v).top = b.top := rfl
@[simp] theorem Block.awr_log (c a : Nat) (v : W32) : (b.awr c a v).log = b.log := rfl
@[simp] theorem Block.awr_tx (c a : Nat) (v : W32) : (b.awr c a v).tx = b.tx := rfl
@[simp] theorem Block.awr_freeCtr (c a : Nat) (v : W32) : (b.awr c a v).freeCtr = b.freeCtr := rfl
@[simp] theorem Block.awr_rd (c a : Nat) (v : W32) (x : Nat) : (b.awr c a v).rd x = b.rd x := rfl
@[simp] theorem Block.awr_fld (c a : Nat) (v : W32) (g : Fld) : (b.awr c a v).fld g = b.fld g := rfl
@[simp] theorem Block.awr_flag (c a : Nat) (v : W32) (g : Fld) : (b.awr c a v).flag g = b.flag g := rfl
@[simp] theorem Block.awr_sess (c a : Nat) (v : W32) (x : Nat) : (b.awr c a v).sess x = b.sess x := rfl

/-! ### aput -/

@[simp] theorem Block.aput_regs (c : Nat) (f : Fld) (n : Nat) : (b.aput c f n).regs = b.regs := rfl
@[simp] theorem Block.aput_ldg (c : Nat) (f : Fld) (n : Nat) : (b.aput c f n).ldg = b.ldg := rfl
@[simp] theorem Block.aput_tim (c : Nat) (f : Fld) (n : Nat) : (b.aput c f n).tim = b.tim := rfl
@[simp] theorem Block.aput_ports (c : Nat) (f : Fld) (n : Nat) : (b.aput c f n).ports = b.ports := rfl
@[simp] theorem Block.aput_ing (c : Nat) (f : Fld) (n : Nat) : (b.aput c f n).ing = b.ing := rfl
@[simp] theorem Block.aput_aln (c : Nat) (f : Fld) (n : Nat) : (b.aput c f n).aln = b.aln := rfl
@[simp] theorem Block.aput_flt (c : Nat) (f : Fld) (n : Nat) : (b.aput c f n).flt = b.flt := rfl
@[simp] theorem Block.aput_nrg (c : Nat) (f : Fld) (n : Nat) : (b.aput c f n).nrg = b.nrg := rfl
@[simp] theorem Block.aput_mod (c : Nat) (f : Fld) (n : Nat) : (b.aput c f n).mod = b.mod := rfl
@[simp] theorem Block.aput_isl (c : Nat) (f : Fld) (n : Nat) : (b.aput c f n).isl = b.isl := rfl
@[simp] theorem Block.aput_grd (c : Nat) (f : Fld) (n : Nat) : (b.aput c f n).grd = b.grd := rfl
@[simp] theorem Block.aput_tdm (c : Nat) (f : Fld) (n : Nat) : (b.aput c f n).tdm = b.tdm := rfl
@[simp] theorem Block.aput_rad (c : Nat) (f : Fld) (n : Nat) : (b.aput c f n).rad = b.rad := rfl
@[simp] theorem Block.aput_hst (c : Nat) (f : Fld) (n : Nat) : (b.aput c f n).hst = b.hst := rfl
@[simp] theorem Block.aput_top (c : Nat) (f : Fld) (n : Nat) : (b.aput c f n).top = b.top := rfl
@[simp] theorem Block.aput_log (c : Nat) (f : Fld) (n : Nat) : (b.aput c f n).log = b.log := rfl
@[simp] theorem Block.aput_tx (c : Nat) (f : Fld) (n : Nat) : (b.aput c f n).tx = b.tx := rfl
@[simp] theorem Block.aput_freeCtr (c : Nat) (f : Fld) (n : Nat) : (b.aput c f n).freeCtr = b.freeCtr := rfl
@[simp] theorem Block.aput_rd (c : Nat) (f : Fld) (n : Nat) (x : Nat) : (b.aput c f n).rd x = b.rd x := rfl
@[simp] theorem Block.aput_fld (c : Nat) (f : Fld) (n : Nat) (g : Fld) : (b.aput c f n).fld g = b.fld g := rfl
@[simp] theorem Block.aput_flag (c : Nat) (f : Fld) (n : Nat) (g : Fld) : (b.aput c f n).flag g = b.flag g := rfl
@[simp] theorem Block.aput_sess (c : Nat) (f : Fld) (n : Nat) (x : Nat) : (b.aput c f n).sess x = b.sess x := rfl

/-! ### recBy -/

@[simp] theorem Block.recBy_regs (src : Nat) (aon : Bool) (code p0 p1 p2 p3 : Nat) : (b.recBy src aon code p0 p1 p2 p3).regs = b.regs := rfl
@[simp] theorem Block.recBy_acc (src : Nat) (aon : Bool) (code p0 p1 p2 p3 : Nat) : (b.recBy src aon code p0 p1 p2 p3).acc = b.acc := rfl
@[simp] theorem Block.recBy_ldg (src : Nat) (aon : Bool) (code p0 p1 p2 p3 : Nat) : (b.recBy src aon code p0 p1 p2 p3).ldg = b.ldg := rfl
@[simp] theorem Block.recBy_tim (src : Nat) (aon : Bool) (code p0 p1 p2 p3 : Nat) : (b.recBy src aon code p0 p1 p2 p3).tim = b.tim := rfl
@[simp] theorem Block.recBy_ports (src : Nat) (aon : Bool) (code p0 p1 p2 p3 : Nat) : (b.recBy src aon code p0 p1 p2 p3).ports = b.ports := rfl
@[simp] theorem Block.recBy_ing (src : Nat) (aon : Bool) (code p0 p1 p2 p3 : Nat) : (b.recBy src aon code p0 p1 p2 p3).ing = b.ing := rfl
@[simp] theorem Block.recBy_aln (src : Nat) (aon : Bool) (code p0 p1 p2 p3 : Nat) : (b.recBy src aon code p0 p1 p2 p3).aln = b.aln := rfl
@[simp] theorem Block.recBy_flt (src : Nat) (aon : Bool) (code p0 p1 p2 p3 : Nat) : (b.recBy src aon code p0 p1 p2 p3).flt = b.flt := rfl
@[simp] theorem Block.recBy_nrg (src : Nat) (aon : Bool) (code p0 p1 p2 p3 : Nat) : (b.recBy src aon code p0 p1 p2 p3).nrg = b.nrg := rfl
@[simp] theorem Block.recBy_mod (src : Nat) (aon : Bool) (code p0 p1 p2 p3 : Nat) : (b.recBy src aon code p0 p1 p2 p3).mod = b.mod := rfl
@[simp] theorem Block.recBy_isl (src : Nat) (aon : Bool) (code p0 p1 p2 p3 : Nat) : (b.recBy src aon code p0 p1 p2 p3).isl = b.isl := rfl
@[simp] theorem Block.recBy_grd (src : Nat) (aon : Bool) (code p0 p1 p2 p3 : Nat) : (b.recBy src aon code p0 p1 p2 p3).grd = b.grd := rfl
@[simp] theorem Block.recBy_tdm (src : Nat) (aon : Bool) (code p0 p1 p2 p3 : Nat) : (b.recBy src aon code p0 p1 p2 p3).tdm = b.tdm := rfl
@[simp] theorem Block.recBy_rad (src : Nat) (aon : Bool) (code p0 p1 p2 p3 : Nat) : (b.recBy src aon code p0 p1 p2 p3).rad = b.rad := rfl
@[simp] theorem Block.recBy_hst (src : Nat) (aon : Bool) (code p0 p1 p2 p3 : Nat) : (b.recBy src aon code p0 p1 p2 p3).hst = b.hst := rfl
@[simp] theorem Block.recBy_top (src : Nat) (aon : Bool) (code p0 p1 p2 p3 : Nat) : (b.recBy src aon code p0 p1 p2 p3).top = b.top := rfl
@[simp] theorem Block.recBy_tx (src : Nat) (aon : Bool) (code p0 p1 p2 p3 : Nat) : (b.recBy src aon code p0 p1 p2 p3).tx = b.tx := rfl
@[simp] theorem Block.recBy_freeCtr (src : Nat) (aon : Bool) (code p0 p1 p2 p3 : Nat) : (b.recBy src aon code p0 p1 p2 p3).freeCtr = b.freeCtr := rfl
@[simp] theorem Block.recBy_rd (src : Nat) (aon : Bool) (code p0 p1 p2 p3 : Nat) (x : Nat) : (b.recBy src aon code p0 p1 p2 p3).rd x = b.rd x := rfl
@[simp] theorem Block.recBy_fld (src : Nat) (aon : Bool) (code p0 p1 p2 p3 : Nat) (g : Fld) : (b.recBy src aon code p0 p1 p2 p3).fld g = b.fld g := rfl
@[simp] theorem Block.recBy_flag (src : Nat) (aon : Bool) (code p0 p1 p2 p3 : Nat) (g : Fld) : (b.recBy src aon code p0 p1 p2 p3).flag g = b.flag g := rfl
@[simp] theorem Block.recBy_sess (src : Nat) (aon : Bool) (code p0 p1 p2 p3 : Nat) (x : Nat) : (b.recBy src aon code p0 p1 p2 p3).sess x = b.sess x := rfl

/-! ### note -/

@[simp] theorem Block.note_regs (code p0 p1 p2 p3 : Nat) : (b.note code p0 p1 p2 p3).regs = b.regs := rfl
@[simp] theorem Block.note_acc (code p0 p1 p2 p3 : Nat) : (b.note code p0 p1 p2 p3).acc = b.acc := rfl
@[simp] theorem Block.note_ldg (code p0 p1 p2 p3 : Nat) : (b.note code p0 p1 p2 p3).ldg = b.ldg := rfl
@[simp] theorem Block.note_tim (code p0 p1 p2 p3 : Nat) : (b.note code p0 p1 p2 p3).tim = b.tim := rfl
@[simp] theorem Block.note_ports (code p0 p1 p2 p3 : Nat) : (b.note code p0 p1 p2 p3).ports = b.ports := rfl
@[simp] theorem Block.note_ing (code p0 p1 p2 p3 : Nat) : (b.note code p0 p1 p2 p3).ing = b.ing := rfl
@[simp] theorem Block.note_aln (code p0 p1 p2 p3 : Nat) : (b.note code p0 p1 p2 p3).aln = b.aln := rfl
@[simp] theorem Block.note_flt (code p0 p1 p2 p3 : Nat) : (b.note code p0 p1 p2 p3).flt = b.flt := rfl
@[simp] theorem Block.note_nrg (code p0 p1 p2 p3 : Nat) : (b.note code p0 p1 p2 p3).nrg = b.nrg := rfl
@[simp] theorem Block.note_mod (code p0 p1 p2 p3 : Nat) : (b.note code p0 p1 p2 p3).mod = b.mod := rfl
@[simp] theorem Block.note_isl (code p0 p1 p2 p3 : Nat) : (b.note code p0 p1 p2 p3).isl = b.isl := rfl
@[simp] theorem Block.note_grd (code p0 p1 p2 p3 : Nat) : (b.note code p0 p1 p2 p3).grd = b.grd := rfl
@[simp] theorem Block.note_tdm (code p0 p1 p2 p3 : Nat) : (b.note code p0 p1 p2 p3).tdm = b.tdm := rfl
@[simp] theorem Block.note_rad (code p0 p1 p2 p3 : Nat) : (b.note code p0 p1 p2 p3).rad = b.rad := rfl
@[simp] theorem Block.note_hst (code p0 p1 p2 p3 : Nat) : (b.note code p0 p1 p2 p3).hst = b.hst := rfl
@[simp] theorem Block.note_top (code p0 p1 p2 p3 : Nat) : (b.note code p0 p1 p2 p3).top = b.top := rfl
@[simp] theorem Block.note_tx (code p0 p1 p2 p3 : Nat) : (b.note code p0 p1 p2 p3).tx = b.tx := rfl
@[simp] theorem Block.note_freeCtr (code p0 p1 p2 p3 : Nat) : (b.note code p0 p1 p2 p3).freeCtr = b.freeCtr := rfl
@[simp] theorem Block.note_rd (code p0 p1 p2 p3 : Nat) (x : Nat) : (b.note code p0 p1 p2 p3).rd x = b.rd x := rfl
@[simp] theorem Block.note_fld (code p0 p1 p2 p3 : Nat) (g : Fld) : (b.note code p0 p1 p2 p3).fld g = b.fld g := rfl
@[simp] theorem Block.note_flag (code p0 p1 p2 p3 : Nat) (g : Fld) : (b.note code p0 p1 p2 p3).flag g = b.flag g := rfl
@[simp] theorem Block.note_sess (code p0 p1 p2 p3 : Nat) (x : Nat) : (b.note code p0 p1 p2 p3).sess x = b.sess x := rfl

/-! ### emit -/

@[simp] theorem Block.emit_regs (port kind : Nat) (body : List Nat) : (b.emit port kind body).regs = b.regs := rfl
@[simp] theorem Block.emit_acc (port kind : Nat) (body : List Nat) : (b.emit port kind body).acc = b.acc := rfl
@[simp] theorem Block.emit_ldg (port kind : Nat) (body : List Nat) : (b.emit port kind body).ldg = b.ldg := rfl
@[simp] theorem Block.emit_tim (port kind : Nat) (body : List Nat) : (b.emit port kind body).tim = b.tim := rfl
@[simp] theorem Block.emit_ports (port kind : Nat) (body : List Nat) : (b.emit port kind body).ports = b.ports := rfl
@[simp] theorem Block.emit_ing (port kind : Nat) (body : List Nat) : (b.emit port kind body).ing = b.ing := rfl
@[simp] theorem Block.emit_aln (port kind : Nat) (body : List Nat) : (b.emit port kind body).aln = b.aln := rfl
@[simp] theorem Block.emit_flt (port kind : Nat) (body : List Nat) : (b.emit port kind body).flt = b.flt := rfl
@[simp] theorem Block.emit_nrg (port kind : Nat) (body : List Nat) : (b.emit port kind body).nrg = b.nrg := rfl
@[simp] theorem Block.emit_mod (port kind : Nat) (body : List Nat) : (b.emit port kind body).mod = b.mod := rfl
@[simp] theorem Block.emit_isl (port kind : Nat) (body : List Nat) : (b.emit port kind body).isl = b.isl := rfl
@[simp] theorem Block.emit_grd (port kind : Nat) (body : List Nat) : (b.emit port kind body).grd = b.grd := rfl
@[simp] theorem Block.emit_tdm (port kind : Nat) (body : List Nat) : (b.emit port kind body).tdm = b.tdm := rfl
@[simp] theorem Block.emit_rad (port kind : Nat) (body : List Nat) : (b.emit port kind body).rad = b.rad := rfl
@[simp] theorem Block.emit_hst (port kind : Nat) (body : List Nat) : (b.emit port kind body).hst = b.hst := rfl
@[simp] theorem Block.emit_top (port kind : Nat) (body : List Nat) : (b.emit port kind body).top = b.top := rfl
@[simp] theorem Block.emit_log (port kind : Nat) (body : List Nat) : (b.emit port kind body).log = b.log := rfl
@[simp] theorem Block.emit_freeCtr (port kind : Nat) (body : List Nat) : (b.emit port kind body).freeCtr = b.freeCtr := rfl
@[simp] theorem Block.emit_rd (port kind : Nat) (body : List Nat) (x : Nat) : (b.emit port kind body).rd x = b.rd x := rfl
@[simp] theorem Block.emit_fld (port kind : Nat) (body : List Nat) (g : Fld) : (b.emit port kind body).fld g = b.fld g := rfl
@[simp] theorem Block.emit_flag (port kind : Nat) (body : List Nat) (g : Fld) : (b.emit port kind body).flag g = b.flag g := rfl
@[simp] theorem Block.emit_sess (port kind : Nat) (body : List Nat) (x : Nat) : (b.emit port kind body).sess x = b.sess x := rfl
@[simp] theorem Block.emit_tx (port kind : Nat) (body : List Nat) : (b.emit port kind body).tx = ⟨port, kind, body⟩ :: b.tx := rfl

/-! ### modPort -/

@[simp] theorem Block.modPort_regs (p : Nat) (f : Port → Port) : (b.modPort p f).regs = b.regs := rfl
@[simp] theorem Block.modPort_acc (p : Nat) (f : Port → Port) : (b.modPort p f).acc = b.acc := rfl
@[simp] theorem Block.modPort_ldg (p : Nat) (f : Port → Port) : (b.modPort p f).ldg = b.ldg := rfl
@[simp] theorem Block.modPort_tim (p : Nat) (f : Port → Port) : (b.modPort p f).tim = b.tim := rfl
@[simp] theorem Block.modPort_ing (p : Nat) (f : Port → Port) : (b.modPort p f).ing = b.ing := rfl
@[simp] theorem Block.modPort_aln (p : Nat) (f : Port → Port) : (b.modPort p f).aln = b.aln := rfl
@[simp] theorem Block.modPort_flt (p : Nat) (f : Port → Port) : (b.modPort p f).flt = b.flt := rfl
@[simp] theorem Block.modPort_nrg (p : Nat) (f : Port → Port) : (b.modPort p f).nrg = b.nrg := rfl
@[simp] theorem Block.modPort_mod (p : Nat) (f : Port → Port) : (b.modPort p f).mod = b.mod := rfl
@[simp] theorem Block.modPort_isl (p : Nat) (f : Port → Port) : (b.modPort p f).isl = b.isl := rfl
@[simp] theorem Block.modPort_grd (p : Nat) (f : Port → Port) : (b.modPort p f).grd = b.grd := rfl
@[simp] theorem Block.modPort_tdm (p : Nat) (f : Port → Port) : (b.modPort p f).tdm = b.tdm := rfl
@[simp] theorem Block.modPort_rad (p : Nat) (f : Port → Port) : (b.modPort p f).rad = b.rad := rfl
@[simp] theorem Block.modPort_hst (p : Nat) (f : Port → Port) : (b.modPort p f).hst = b.hst := rfl
@[simp] theorem Block.modPort_top (p : Nat) (f : Port → Port) : (b.modPort p f).top = b.top := rfl
@[simp] theorem Block.modPort_log (p : Nat) (f : Port → Port) : (b.modPort p f).log = b.log := rfl
@[simp] theorem Block.modPort_tx (p : Nat) (f : Port → Port) : (b.modPort p f).tx = b.tx := rfl
@[simp] theorem Block.modPort_freeCtr (p : Nat) (f : Port → Port) : (b.modPort p f).freeCtr = b.freeCtr := rfl
@[simp] theorem Block.modPort_rd (p : Nat) (f : Port → Port) (x : Nat) : (b.modPort p f).rd x = b.rd x := rfl
@[simp] theorem Block.modPort_fld (p : Nat) (f : Port → Port) (g : Fld) : (b.modPort p f).fld g = b.fld g := rfl
@[simp] theorem Block.modPort_flag (p : Nat) (f : Port → Port) (g : Fld) : (b.modPort p f).flag g = b.flag g := rfl
@[simp] theorem Block.modPort_sess (p : Nat) (f : Port → Port) (x : Nat) : (b.modPort p f).sess x = b.sess x := rfl
@[simp] theorem Block.modPort_ports (p : Nat) (f : Port → Port) : (b.modPort p f).ports = modAt b.ports p f := rfl

/-! ### cntPort -/

@[simp] theorem Block.cntPort_regs (p c n : Nat) : (b.cntPort p c n).regs = b.regs := rfl
@[simp] theorem Block.cntPort_acc (p c n : Nat) : (b.cntPort p c n).acc = b.acc := rfl
@[simp] theorem Block.cntPort_ldg (p c n : Nat) : (b.cntPort p c n).ldg = b.ldg := rfl
@[simp] theorem Block.cntPort_tim (p c n : Nat) : (b.cntPort p c n).tim = b.tim := rfl
@[simp] theorem Block.cntPort_ing (p c n : Nat) : (b.cntPort p c n).ing = b.ing := rfl
@[simp] theorem Block.cntPort_aln (p c n : Nat) : (b.cntPort p c n).aln = b.aln := rfl
@[simp] theorem Block.cntPort_flt (p c n : Nat) : (b.cntPort p c n).flt = b.flt := rfl
@[simp] theorem Block.cntPort_nrg (p c n : Nat) : (b.cntPort p c n).nrg = b.nrg := rfl
@[simp] theorem Block.cntPort_mod (p c n : Nat) : (b.cntPort p c n).mod = b.mod := rfl
@[simp] theorem Block.cntPort_isl (p c n : Nat) : (b.cntPort p c n).isl = b.isl := rfl
@[simp] theorem Block.cntPort_grd (p c n : Nat) : (b.cntPort p c n).grd = b.grd := rfl
@[simp] theorem Block.cntPort_tdm (p c n : Nat) : (b.cntPort p c n).tdm = b.tdm := rfl
@[simp] theorem Block.cntPort_rad (p c n : Nat) : (b.cntPort p c n).rad = b.rad := rfl
@[simp] theorem Block.cntPort_hst (p c n : Nat) : (b.cntPort p c n).hst = b.hst := rfl
@[simp] theorem Block.cntPort_top (p c n : Nat) : (b.cntPort p c n).top = b.top := rfl
@[simp] theorem Block.cntPort_log (p c n : Nat) : (b.cntPort p c n).log = b.log := rfl
@[simp] theorem Block.cntPort_tx (p c n : Nat) : (b.cntPort p c n).tx = b.tx := rfl
@[simp] theorem Block.cntPort_freeCtr (p c n : Nat) : (b.cntPort p c n).freeCtr = b.freeCtr := rfl
@[simp] theorem Block.cntPort_rd (p c n : Nat) (x : Nat) : (b.cntPort p c n).rd x = b.rd x := rfl
@[simp] theorem Block.cntPort_fld (p c n : Nat) (g : Fld) : (b.cntPort p c n).fld g = b.fld g := rfl
@[simp] theorem Block.cntPort_flag (p c n : Nat) (g : Fld) : (b.cntPort p c n).flag g = b.flag g := rfl
@[simp] theorem Block.cntPort_sess (p c n : Nat) (x : Nat) : (b.cntPort p c n).sess x = b.sess x := rfl

/-! ### modSlot -/

@[simp] theorem Block.modSlot_regs (s : Nat) (f : Slot → Slot) : (b.modSlot s f).regs = b.regs := rfl
@[simp] theorem Block.modSlot_acc (s : Nat) (f : Slot → Slot) : (b.modSlot s f).acc = b.acc := rfl
@[simp] theorem Block.modSlot_ldg (s : Nat) (f : Slot → Slot) : (b.modSlot s f).ldg = b.ldg := rfl
@[simp] theorem Block.modSlot_tim (s : Nat) (f : Slot → Slot) : (b.modSlot s f).tim = b.tim := rfl
@[simp] theorem Block.modSlot_ports (s : Nat) (f : Slot → Slot) : (b.modSlot s f).ports = b.ports := rfl
@[simp] theorem Block.modSlot_ing (s : Nat) (f : Slot → Slot) : (b.modSlot s f).ing = b.ing := rfl
@[simp] theorem Block.modSlot_flt (s : Nat) (f : Slot → Slot) : (b.modSlot s f).flt = b.flt := rfl
@[simp] theorem Block.modSlot_nrg (s : Nat) (f : Slot → Slot) : (b.modSlot s f).nrg = b.nrg := rfl
@[simp] theorem Block.modSlot_mod (s : Nat) (f : Slot → Slot) : (b.modSlot s f).mod = b.mod := rfl
@[simp] theorem Block.modSlot_isl (s : Nat) (f : Slot → Slot) : (b.modSlot s f).isl = b.isl := rfl
@[simp] theorem Block.modSlot_grd (s : Nat) (f : Slot → Slot) : (b.modSlot s f).grd = b.grd := rfl
@[simp] theorem Block.modSlot_tdm (s : Nat) (f : Slot → Slot) : (b.modSlot s f).tdm = b.tdm := rfl
@[simp] theorem Block.modSlot_rad (s : Nat) (f : Slot → Slot) : (b.modSlot s f).rad = b.rad := rfl
@[simp] theorem Block.modSlot_hst (s : Nat) (f : Slot → Slot) : (b.modSlot s f).hst = b.hst := rfl
@[simp] theorem Block.modSlot_top (s : Nat) (f : Slot → Slot) : (b.modSlot s f).top = b.top := rfl
@[simp] theorem Block.modSlot_log (s : Nat) (f : Slot → Slot) : (b.modSlot s f).log = b.log := rfl
@[simp] theorem Block.modSlot_tx (s : Nat) (f : Slot → Slot) : (b.modSlot s f).tx = b.tx := rfl
@[simp] theorem Block.modSlot_freeCtr (s : Nat) (f : Slot → Slot) : (b.modSlot s f).freeCtr = b.freeCtr := rfl
@[simp] theorem Block.modSlot_rd (s : Nat) (f : Slot → Slot) (x : Nat) : (b.modSlot s f).rd x = b.rd x := rfl
@[simp] theorem Block.modSlot_fld (s : Nat) (f : Slot → Slot) (g : Fld) : (b.modSlot s f).fld g = b.fld g := rfl
@[simp] theorem Block.modSlot_flag (s : Nat) (f : Slot → Slot) (g : Fld) : (b.modSlot s f).flag g = b.flag g := rfl
@[simp] theorem Block.modSlot_sess (s : Nat) (f : Slot → Slot) (x : Nat) : (b.modSlot s f).sess x = b.sess x := rfl

/-! ### modLdg -/

@[simp] theorem Block.modLdg_regs (f : Ldg → Ldg) : (b.modLdg f).regs = b.regs := rfl
@[simp] theorem Block.modLdg_acc (f : Ldg → Ldg) : (b.modLdg f).acc = b.acc := rfl
@[simp] theorem Block.modLdg_tim (f : Ldg → Ldg) : (b.modLdg f).tim = b.tim := rfl
@[simp] theorem Block.modLdg_ports (f : Ldg → Ldg) : (b.modLdg f).ports = b.ports := rfl
@[simp] theorem Block.modLdg_ing (f : Ldg → Ldg) : (b.modLdg f).ing = b.ing := rfl
@[simp] theorem Block.modLdg_aln (f : Ldg → Ldg) : (b.modLdg f).aln = b.aln := rfl
@[simp] theorem Block.modLdg_flt (f : Ldg → Ldg) : (b.modLdg f).flt = b.flt := rfl
@[simp] theorem Block.modLdg_nrg (f : Ldg → Ldg) : (b.modLdg f).nrg = b.nrg := rfl
@[simp] theorem Block.modLdg_mod (f : Ldg → Ldg) : (b.modLdg f).mod = b.mod := rfl
@[simp] theorem Block.modLdg_isl (f : Ldg → Ldg) : (b.modLdg f).isl = b.isl := rfl
@[simp] theorem Block.modLdg_grd (f : Ldg → Ldg) : (b.modLdg f).grd = b.grd := rfl
@[simp] theorem Block.modLdg_tdm (f : Ldg → Ldg) : (b.modLdg f).tdm = b.tdm := rfl
@[simp] theorem Block.modLdg_rad (f : Ldg → Ldg) : (b.modLdg f).rad = b.rad := rfl
@[simp] theorem Block.modLdg_hst (f : Ldg → Ldg) : (b.modLdg f).hst = b.hst := rfl
@[simp] theorem Block.modLdg_top (f : Ldg → Ldg) : (b.modLdg f).top = b.top := rfl
@[simp] theorem Block.modLdg_log (f : Ldg → Ldg) : (b.modLdg f).log = b.log := rfl
@[simp] theorem Block.modLdg_tx (f : Ldg → Ldg) : (b.modLdg f).tx = b.tx := rfl
@[simp] theorem Block.modLdg_freeCtr (f : Ldg → Ldg) : (b.modLdg f).freeCtr = b.freeCtr := rfl
@[simp] theorem Block.modLdg_rd (f : Ldg → Ldg) (x : Nat) : (b.modLdg f).rd x = b.rd x := rfl
@[simp] theorem Block.modLdg_fld (f : Ldg → Ldg) (g : Fld) : (b.modLdg f).fld g = b.fld g := rfl
@[simp] theorem Block.modLdg_flag (f : Ldg → Ldg) (g : Fld) : (b.modLdg f).flag g = b.flag g := rfl
@[simp] theorem Block.modLdg_sess (f : Ldg → Ldg) (x : Nat) : (b.modLdg f).sess x = b.sess x := rfl
@[simp] theorem Block.modLdg_ldg (f : Ldg → Ldg) : (b.modLdg f).ldg = f b.ldg := rfl

/-! ### modIng -/

@[simp] theorem Block.modIng_regs (f : Ing → Ing) : (b.modIng f).regs = b.regs := rfl
@[simp] theorem Block.modIng_acc (f : Ing → Ing) : (b.modIng f).acc = b.acc := rfl
@[simp] theorem Block.modIng_ldg (f : Ing → Ing) : (b.modIng f).ldg = b.ldg := rfl
@[simp] theorem Block.modIng_tim (f : Ing → Ing) : (b.modIng f).tim = b.tim := rfl
@[simp] theorem Block.modIng_ports (f : Ing → Ing) : (b.modIng f).ports = b.ports := rfl
@[simp] theorem Block.modIng_aln (f : Ing → Ing) : (b.modIng f).aln = b.aln := rfl
@[simp] theorem Block.modIng_flt (f : Ing → Ing) : (b.modIng f).flt = b.flt := rfl
@[simp] theorem Block.modIng_nrg (f : Ing → Ing) : (b.modIng f).nrg = b.nrg := rfl
@[simp] theorem Block.modIng_mod (f : Ing → Ing) : (b.modIng f).mod = b.mod := rfl
@[simp] theorem Block.modIng_isl (f : Ing → Ing) : (b.modIng f).isl = b.isl := rfl
@[simp] theorem Block.modIng_grd (f : Ing → Ing) : (b.modIng f).grd = b.grd := rfl
@[simp] theorem Block.modIng_tdm (f : Ing → Ing) : (b.modIng f).tdm = b.tdm := rfl
@[simp] theorem Block.modIng_rad (f : Ing → Ing) : (b.modIng f).rad = b.rad := rfl
@[simp] theorem Block.modIng_hst (f : Ing → Ing) : (b.modIng f).hst = b.hst := rfl
@[simp] theorem Block.modIng_top (f : Ing → Ing) : (b.modIng f).top = b.top := rfl
@[simp] theorem Block.modIng_log (f : Ing → Ing) : (b.modIng f).log = b.log := rfl
@[simp] theorem Block.modIng_tx (f : Ing → Ing) : (b.modIng f).tx = b.tx := rfl
@[simp] theorem Block.modIng_freeCtr (f : Ing → Ing) : (b.modIng f).freeCtr = b.freeCtr := rfl
@[simp] theorem Block.modIng_rd (f : Ing → Ing) (x : Nat) : (b.modIng f).rd x = b.rd x := rfl
@[simp] theorem Block.modIng_fld (f : Ing → Ing) (g : Fld) : (b.modIng f).fld g = b.fld g := rfl
@[simp] theorem Block.modIng_flag (f : Ing → Ing) (g : Fld) : (b.modIng f).flag g = b.flag g := rfl
@[simp] theorem Block.modIng_sess (f : Ing → Ing) (x : Nat) : (b.modIng f).sess x = b.sess x := rfl
@[simp] theorem Block.modIng_ing (f : Ing → Ing) : (b.modIng f).ing = f b.ing := rfl

/-! ### modHst -/

@[simp] theorem Block.modHst_regs (f : Hst → Hst) : (b.modHst f).regs = b.regs := rfl
@[simp] theorem Block.modHst_acc (f : Hst → Hst) : (b.modHst f).acc = b.acc := rfl
@[simp] theorem Block.modHst_ldg (f : Hst → Hst) : (b.modHst f).ldg = b.ldg := rfl
@[simp] theorem Block.modHst_tim (f : Hst → Hst) : (b.modHst f).tim = b.tim := rfl
@[simp] theorem Block.modHst_ports (f : Hst → Hst) : (b.modHst f).ports = b.ports := rfl
@[simp] theorem Block.modHst_ing (f : Hst → Hst) : (b.modHst f).ing = b.ing := rfl
@[simp] theorem Block.modHst_aln (f : Hst → Hst) : (b.modHst f).aln = b.aln := rfl
@[simp] theorem Block.modHst_flt (f : Hst → Hst) : (b.modHst f).flt = b.flt := rfl
@[simp] theorem Block.modHst_nrg (f : Hst → Hst) : (b.modHst f).nrg = b.nrg := rfl
@[simp] theorem Block.modHst_mod (f : Hst → Hst) : (b.modHst f).mod = b.mod := rfl
@[simp] theorem Block.modHst_isl (f : Hst → Hst) : (b.modHst f).isl = b.isl := rfl
@[simp] theorem Block.modHst_grd (f : Hst → Hst) : (b.modHst f).grd = b.grd := rfl
@[simp] theorem Block.modHst_tdm (f : Hst → Hst) : (b.modHst f).tdm = b.tdm := rfl
@[simp] theorem Block.modHst_rad (f : Hst → Hst) : (b.modHst f).rad = b.rad := rfl
@[simp] theorem Block.modHst_top (f : Hst → Hst) : (b.modHst f).top = b.top := rfl
@[simp] theorem Block.modHst_log (f : Hst → Hst) : (b.modHst f).log = b.log := rfl
@[simp] theorem Block.modHst_tx (f : Hst → Hst) : (b.modHst f).tx = b.tx := rfl
@[simp] theorem Block.modHst_freeCtr (f : Hst → Hst) : (b.modHst f).freeCtr = b.freeCtr := rfl
@[simp] theorem Block.modHst_rd (f : Hst → Hst) (x : Nat) : (b.modHst f).rd x = b.rd x := rfl
@[simp] theorem Block.modHst_fld (f : Hst → Hst) (g : Fld) : (b.modHst f).fld g = b.fld g := rfl
@[simp] theorem Block.modHst_flag (f : Hst → Hst) (g : Fld) : (b.modHst f).flag g = b.flag g := rfl
@[simp] theorem Block.modHst_hst (f : Hst → Hst) : (b.modHst f).hst = f b.hst := rfl

/-! ### modAln -/

@[simp] theorem Block.modAln_regs (f : Aln → Aln) : (b.modAln f).regs = b.regs := rfl
@[simp] theorem Block.modAln_acc (f : Aln → Aln) : (b.modAln f).acc = b.acc := rfl
@[simp] theorem Block.modAln_ldg (f : Aln → Aln) : (b.modAln f).ldg = b.ldg := rfl
@[simp] theorem Block.modAln_tim (f : Aln → Aln) : (b.modAln f).tim = b.tim := rfl
@[simp] theorem Block.modAln_ports (f : Aln → Aln) : (b.modAln f).ports = b.ports := rfl
@[simp] theorem Block.modAln_ing (f : Aln → Aln) : (b.modAln f).ing = b.ing := rfl
@[simp] theorem Block.modAln_flt (f : Aln → Aln) : (b.modAln f).flt = b.flt := rfl
@[simp] theorem Block.modAln_nrg (f : Aln → Aln) : (b.modAln f).nrg = b.nrg := rfl
@[simp] theorem Block.modAln_mod (f : Aln → Aln) : (b.modAln f).mod = b.mod := rfl
@[simp] theorem Block.modAln_isl (f : Aln → Aln) : (b.modAln f).isl = b.isl := rfl
@[simp] theorem Block.modAln_grd (f : Aln → Aln) : (b.modAln f).grd = b.grd := rfl
@[simp] theorem Block.modAln_tdm (f : Aln → Aln) : (b.modAln f).tdm = b.tdm := rfl
@[simp] theorem Block.modAln_rad (f : Aln → Aln) : (b.modAln f).rad = b.rad := rfl
@[simp] theorem Block.modAln_hst (f : Aln → Aln) : (b.modAln f).hst = b.hst := rfl
@[simp] theorem Block.modAln_top (f : Aln → Aln) : (b.modAln f).top = b.top := rfl
@[simp] theorem Block.modAln_log (f : Aln → Aln) : (b.modAln f).log = b.log := rfl
@[simp] theorem Block.modAln_tx (f : Aln → Aln) : (b.modAln f).tx = b.tx := rfl
@[simp] theorem Block.modAln_freeCtr (f : Aln → Aln) : (b.modAln f).freeCtr = b.freeCtr := rfl
@[simp] theorem Block.modAln_rd (f : Aln → Aln) (x : Nat) : (b.modAln f).rd x = b.rd x := rfl
@[simp] theorem Block.modAln_fld (f : Aln → Aln) (g : Fld) : (b.modAln f).fld g = b.fld g := rfl
@[simp] theorem Block.modAln_flag (f : Aln → Aln) (g : Fld) : (b.modAln f).flag g = b.flag g := rfl
@[simp] theorem Block.modAln_sess (f : Aln → Aln) (x : Nat) : (b.modAln f).sess x = b.sess x := rfl
@[simp] theorem Block.modAln_aln (f : Aln → Aln) : (b.modAln f).aln = f b.aln := rfl

/-! ### modOut -/

@[simp] theorem Block.modOut_regs (i : Nat) (f : OutSet → OutSet) : (b.modOut i f).regs = b.regs := rfl
@[simp] theorem Block.modOut_acc (i : Nat) (f : OutSet → OutSet) : (b.modOut i f).acc = b.acc := rfl
@[simp] theorem Block.modOut_ldg (i : Nat) (f : OutSet → OutSet) : (b.modOut i f).ldg = b.ldg := rfl
@[simp] theorem Block.modOut_tim (i : Nat) (f : OutSet → OutSet) : (b.modOut i f).tim = b.tim := rfl
@[simp] theorem Block.modOut_ports (i : Nat) (f : OutSet → OutSet) : (b.modOut i f).ports = b.ports := rfl
@[simp] theorem Block.modOut_ing (i : Nat) (f : OutSet → OutSet) : (b.modOut i f).ing = b.ing := rfl
@[simp] theorem Block.modOut_flt (i : Nat) (f : OutSet → OutSet) : (b.modOut i f).flt = b.flt := rfl
@[simp] theorem Block.modOut_nrg (i : Nat) (f : OutSet → OutSet) : (b.modOut i f).nrg = b.nrg := rfl
@[simp] theorem Block.modOut_mod (i : Nat) (f : OutSet → OutSet) : (b.modOut i f).mod = b.mod := rfl
@[simp] theorem Block.modOut_isl (i : Nat) (f : OutSet → OutSet) : (b.modOut i f).isl = b.isl := rfl
@[simp] theorem Block.modOut_grd (i : Nat) (f : OutSet → OutSet) : (b.modOut i f).grd = b.grd := rfl
@[simp] theorem Block.modOut_tdm (i : Nat) (f : OutSet → OutSet) : (b.modOut i f).tdm = b.tdm := rfl
@[simp] theorem Block.modOut_rad (i : Nat) (f : OutSet → OutSet) : (b.modOut i f).rad = b.rad := rfl
@[simp] theorem Block.modOut_hst (i : Nat) (f : OutSet → OutSet) : (b.modOut i f).hst = b.hst := rfl
@[simp] theorem Block.modOut_top (i : Nat) (f : OutSet → OutSet) : (b.modOut i f).top = b.top := rfl
@[simp] theorem Block.modOut_log (i : Nat) (f : OutSet → OutSet) : (b.modOut i f).log = b.log := rfl
@[simp] theorem Block.modOut_tx (i : Nat) (f : OutSet → OutSet) : (b.modOut i f).tx = b.tx := rfl
@[simp] theorem Block.modOut_freeCtr (i : Nat) (f : OutSet → OutSet) : (b.modOut i f).freeCtr = b.freeCtr := rfl
@[simp] theorem Block.modOut_rd (i : Nat) (f : OutSet → OutSet) (x : Nat) : (b.modOut i f).rd x = b.rd x := rfl
@[simp] theorem Block.modOut_fld (i : Nat) (f : OutSet → OutSet) (g : Fld) : (b.modOut i f).fld g = b.fld g := rfl
@[simp] theorem Block.modOut_flag (i : Nat) (f : OutSet → OutSet) (g : Fld) : (b.modOut i f).flag g = b.flag g := rfl
@[simp] theorem Block.modOut_sess (i : Nat) (f : OutSet → OutSet) (x : Nat) : (b.modOut i f).sess x = b.sess x := rfl

/-! ### modBay -/

@[simp] theorem Block.modBay_regs (i : Nat) (f : Bay → Bay) : (b.modBay i f).regs = b.regs := rfl
@[simp] theorem Block.modBay_acc (i : Nat) (f : Bay → Bay) : (b.modBay i f).acc = b.acc := rfl
@[simp] theorem Block.modBay_ldg (i : Nat) (f : Bay → Bay) : (b.modBay i f).ldg = b.ldg := rfl
@[simp] theorem Block.modBay_tim (i : Nat) (f : Bay → Bay) : (b.modBay i f).tim = b.tim := rfl
@[simp] theorem Block.modBay_ports (i : Nat) (f : Bay → Bay) : (b.modBay i f).ports = b.ports := rfl
@[simp] theorem Block.modBay_ing (i : Nat) (f : Bay → Bay) : (b.modBay i f).ing = b.ing := rfl
@[simp] theorem Block.modBay_flt (i : Nat) (f : Bay → Bay) : (b.modBay i f).flt = b.flt := rfl
@[simp] theorem Block.modBay_nrg (i : Nat) (f : Bay → Bay) : (b.modBay i f).nrg = b.nrg := rfl
@[simp] theorem Block.modBay_mod (i : Nat) (f : Bay → Bay) : (b.modBay i f).mod = b.mod := rfl
@[simp] theorem Block.modBay_isl (i : Nat) (f : Bay → Bay) : (b.modBay i f).isl = b.isl := rfl
@[simp] theorem Block.modBay_grd (i : Nat) (f : Bay → Bay) : (b.modBay i f).grd = b.grd := rfl
@[simp] theorem Block.modBay_tdm (i : Nat) (f : Bay → Bay) : (b.modBay i f).tdm = b.tdm := rfl
@[simp] theorem Block.modBay_rad (i : Nat) (f : Bay → Bay) : (b.modBay i f).rad = b.rad := rfl
@[simp] theorem Block.modBay_hst (i : Nat) (f : Bay → Bay) : (b.modBay i f).hst = b.hst := rfl
@[simp] theorem Block.modBay_top (i : Nat) (f : Bay → Bay) : (b.modBay i f).top = b.top := rfl
@[simp] theorem Block.modBay_log (i : Nat) (f : Bay → Bay) : (b.modBay i f).log = b.log := rfl
@[simp] theorem Block.modBay_tx (i : Nat) (f : Bay → Bay) : (b.modBay i f).tx = b.tx := rfl
@[simp] theorem Block.modBay_freeCtr (i : Nat) (f : Bay → Bay) : (b.modBay i f).freeCtr = b.freeCtr := rfl
@[simp] theorem Block.modBay_rd (i : Nat) (f : Bay → Bay) (x : Nat) : (b.modBay i f).rd x = b.rd x := rfl
@[simp] theorem Block.modBay_fld (i : Nat) (f : Bay → Bay) (g : Fld) : (b.modBay i f).fld g = b.fld g := rfl
@[simp] theorem Block.modBay_flag (i : Nat) (f : Bay → Bay) (g : Fld) : (b.modBay i f).flag g = b.flag g := rfl
@[simp] theorem Block.modBay_sess (i : Nat) (f : Bay → Bay) (x : Nat) : (b.modBay i f).sess x = b.sess x := rfl

/-! ### modNrg -/

@[simp] theorem Block.modNrg_regs (f : Nrg → Nrg) : (b.modNrg f).regs = b.regs := rfl
@[simp] theorem Block.modNrg_acc (f : Nrg → Nrg) : (b.modNrg f).acc = b.acc := rfl
@[simp] theorem Block.modNrg_ldg (f : Nrg → Nrg) : (b.modNrg f).ldg = b.ldg := rfl
@[simp] theorem Block.modNrg_tim (f : Nrg → Nrg) : (b.modNrg f).tim = b.tim := rfl
@[simp] theorem Block.modNrg_ports (f : Nrg → Nrg) : (b.modNrg f).ports = b.ports := rfl
@[simp] theorem Block.modNrg_ing (f : Nrg → Nrg) : (b.modNrg f).ing = b.ing := rfl
@[simp] theorem Block.modNrg_aln (f : Nrg → Nrg) : (b.modNrg f).aln = b.aln := rfl
@[simp] theorem Block.modNrg_flt (f : Nrg → Nrg) : (b.modNrg f).flt = b.flt := rfl
@[simp] theorem Block.modNrg_mod (f : Nrg → Nrg) : (b.modNrg f).mod = b.mod := rfl
@[simp] theorem Block.modNrg_isl (f : Nrg → Nrg) : (b.modNrg f).isl = b.isl := rfl
@[simp] theorem Block.modNrg_grd (f : Nrg → Nrg) : (b.modNrg f).grd = b.grd := rfl
@[simp] theorem Block.modNrg_tdm (f : Nrg → Nrg) : (b.modNrg f).tdm = b.tdm := rfl
@[simp] theorem Block.modNrg_rad (f : Nrg → Nrg) : (b.modNrg f).rad = b.rad := rfl
@[simp] theorem Block.modNrg_hst (f : Nrg → Nrg) : (b.modNrg f).hst = b.hst := rfl
@[simp] theorem Block.modNrg_top (f : Nrg → Nrg) : (b.modNrg f).top = b.top := rfl
@[simp] theorem Block.modNrg_log (f : Nrg → Nrg) : (b.modNrg f).log = b.log := rfl
@[simp] theorem Block.modNrg_tx (f : Nrg → Nrg) : (b.modNrg f).tx = b.tx := rfl
@[simp] theorem Block.modNrg_freeCtr (f : Nrg → Nrg) : (b.modNrg f).freeCtr = b.freeCtr := rfl
@[simp] theorem Block.modNrg_rd (f : Nrg → Nrg) (x : Nat) : (b.modNrg f).rd x = b.rd x := rfl
@[simp] theorem Block.modNrg_fld (f : Nrg → Nrg) (g : Fld) : (b.modNrg f).fld g = b.fld g := rfl
@[simp] theorem Block.modNrg_flag (f : Nrg → Nrg) (g : Fld) : (b.modNrg f).flag g = b.flag g := rfl
@[simp] theorem Block.modNrg_sess (f : Nrg → Nrg) (x : Nat) : (b.modNrg f).sess x = b.sess x := rfl
@[simp] theorem Block.modNrg_nrg (f : Nrg → Nrg) : (b.modNrg f).nrg = f b.nrg := rfl

/-! ### modFlt -/

@[simp] theorem Block.modFlt_regs (f : Flt → Flt) : (b.modFlt f).regs = b.regs := rfl
@[simp] theorem Block.modFlt_acc (f : Flt → Flt) : (b.modFlt f).acc = b.acc := rfl
@[simp] theorem Block.modFlt_ldg (f : Flt → Flt) : (b.modFlt f).ldg = b.ldg := rfl
@[simp] theorem Block.modFlt_tim (f : Flt → Flt) : (b.modFlt f).tim = b.tim := rfl
@[simp] theorem Block.modFlt_ports (f : Flt → Flt) : (b.modFlt f).ports = b.ports := rfl
@[simp] theorem Block.modFlt_ing (f : Flt → Flt) : (b.modFlt f).ing = b.ing := rfl
@[simp] theorem Block.modFlt_aln (f : Flt → Flt) : (b.modFlt f).aln = b.aln := rfl
@[simp] theorem Block.modFlt_nrg (f : Flt → Flt) : (b.modFlt f).nrg = b.nrg := rfl
@[simp] theorem Block.modFlt_mod (f : Flt → Flt) : (b.modFlt f).mod = b.mod := rfl
@[simp] theorem Block.modFlt_isl (f : Flt → Flt) : (b.modFlt f).isl = b.isl := rfl
@[simp] theorem Block.modFlt_grd (f : Flt → Flt) : (b.modFlt f).grd = b.grd := rfl
@[simp] theorem Block.modFlt_tdm (f : Flt → Flt) : (b.modFlt f).tdm = b.tdm := rfl
@[simp] theorem Block.modFlt_rad (f : Flt → Flt) : (b.modFlt f).rad = b.rad := rfl
@[simp] theorem Block.modFlt_hst (f : Flt → Flt) : (b.modFlt f).hst = b.hst := rfl
@[simp] theorem Block.modFlt_top (f : Flt → Flt) : (b.modFlt f).top = b.top := rfl
@[simp] theorem Block.modFlt_log (f : Flt → Flt) : (b.modFlt f).log = b.log := rfl
@[simp] theorem Block.modFlt_tx (f : Flt → Flt) : (b.modFlt f).tx = b.tx := rfl
@[simp] theorem Block.modFlt_freeCtr (f : Flt → Flt) : (b.modFlt f).freeCtr = b.freeCtr := rfl
@[simp] theorem Block.modFlt_rd (f : Flt → Flt) (x : Nat) : (b.modFlt f).rd x = b.rd x := rfl
@[simp] theorem Block.modFlt_fld (f : Flt → Flt) (g : Fld) : (b.modFlt f).fld g = b.fld g := rfl
@[simp] theorem Block.modFlt_flag (f : Flt → Flt) (g : Fld) : (b.modFlt f).flag g = b.flag g := rfl
@[simp] theorem Block.modFlt_sess (f : Flt → Flt) (x : Nat) : (b.modFlt f).sess x = b.sess x := rfl
@[simp] theorem Block.modFlt_flt (f : Flt → Flt) : (b.modFlt f).flt = f b.flt := rfl

/-! ### modGrd -/

@[simp] theorem Block.modGrd_regs (f : Grd → Grd) : (b.modGrd f).regs = b.regs := rfl
@[simp] theorem Block.modGrd_acc (f : Grd → Grd) : (b.modGrd f).acc = b.acc := rfl
@[simp] theorem Block.modGrd_ldg (f : Grd → Grd) : (b.modGrd f).ldg = b.ldg := rfl
@[simp] theorem Block.modGrd_tim (f : Grd → Grd) : (b.modGrd f).tim = b.tim := rfl
@[simp] theorem Block.modGrd_ports (f : Grd → Grd) : (b.modGrd f).ports = b.ports := rfl
@[simp] theorem Block.modGrd_ing (f : Grd → Grd) : (b.modGrd f).ing = b.ing := rfl
@[simp] theorem Block.modGrd_aln (f : Grd → Grd) : (b.modGrd f).aln = b.aln := rfl
@[simp] theorem Block.modGrd_flt (f : Grd → Grd) : (b.modGrd f).flt = b.flt := rfl
@[simp] theorem Block.modGrd_nrg (f : Grd → Grd) : (b.modGrd f).nrg = b.nrg := rfl
@[simp] theorem Block.modGrd_mod (f : Grd → Grd) : (b.modGrd f).mod = b.mod := rfl
@[simp] theorem Block.modGrd_isl (f : Grd → Grd) : (b.modGrd f).isl = b.isl := rfl
@[simp] theorem Block.modGrd_tdm (f : Grd → Grd) : (b.modGrd f).tdm = b.tdm := rfl
@[simp] theorem Block.modGrd_rad (f : Grd → Grd) : (b.modGrd f).rad = b.rad := rfl
@[simp] theorem Block.modGrd_hst (f : Grd → Grd) : (b.modGrd f).hst = b.hst := rfl
@[simp] theorem Block.modGrd_top (f : Grd → Grd) : (b.modGrd f).top = b.top := rfl
@[simp] theorem Block.modGrd_log (f : Grd → Grd) : (b.modGrd f).log = b.log := rfl
@[simp] theorem Block.modGrd_tx (f : Grd → Grd) : (b.modGrd f).tx = b.tx := rfl
@[simp] theorem Block.modGrd_freeCtr (f : Grd → Grd) : (b.modGrd f).freeCtr = b.freeCtr := rfl
@[simp] theorem Block.modGrd_rd (f : Grd → Grd) (x : Nat) : (b.modGrd f).rd x = b.rd x := rfl
@[simp] theorem Block.modGrd_fld (f : Grd → Grd) (g : Fld) : (b.modGrd f).fld g = b.fld g := rfl
@[simp] theorem Block.modGrd_flag (f : Grd → Grd) (g : Fld) : (b.modGrd f).flag g = b.flag g := rfl
@[simp] theorem Block.modGrd_sess (f : Grd → Grd) (x : Nat) : (b.modGrd f).sess x = b.sess x := rfl
@[simp] theorem Block.modGrd_grd (f : Grd → Grd) : (b.modGrd f).grd = f b.grd := rfl

/-! ### modTdm -/

@[simp] theorem Block.modTdm_regs (f : Tdm → Tdm) : (b.modTdm f).regs = b.regs := rfl
@[simp] theorem Block.modTdm_acc (f : Tdm → Tdm) : (b.modTdm f).acc = b.acc := rfl
@[simp] theorem Block.modTdm_ldg (f : Tdm → Tdm) : (b.modTdm f).ldg = b.ldg := rfl
@[simp] theorem Block.modTdm_tim (f : Tdm → Tdm) : (b.modTdm f).tim = b.tim := rfl
@[simp] theorem Block.modTdm_ports (f : Tdm → Tdm) : (b.modTdm f).ports = b.ports := rfl
@[simp] theorem Block.modTdm_ing (f : Tdm → Tdm) : (b.modTdm f).ing = b.ing := rfl
@[simp] theorem Block.modTdm_aln (f : Tdm → Tdm) : (b.modTdm f).aln = b.aln := rfl
@[simp] theorem Block.modTdm_flt (f : Tdm → Tdm) : (b.modTdm f).flt = b.flt := rfl
@[simp] theorem Block.modTdm_nrg (f : Tdm → Tdm) : (b.modTdm f).nrg = b.nrg := rfl
@[simp] theorem Block.modTdm_mod (f : Tdm → Tdm) : (b.modTdm f).mod = b.mod := rfl
@[simp] theorem Block.modTdm_isl (f : Tdm → Tdm) : (b.modTdm f).isl = b.isl := rfl
@[simp] theorem Block.modTdm_grd (f : Tdm → Tdm) : (b.modTdm f).grd = b.grd := rfl
@[simp] theorem Block.modTdm_rad (f : Tdm → Tdm) : (b.modTdm f).rad = b.rad := rfl
@[simp] theorem Block.modTdm_hst (f : Tdm → Tdm) : (b.modTdm f).hst = b.hst := rfl
@[simp] theorem Block.modTdm_top (f : Tdm → Tdm) : (b.modTdm f).top = b.top := rfl
@[simp] theorem Block.modTdm_log (f : Tdm → Tdm) : (b.modTdm f).log = b.log := rfl
@[simp] theorem Block.modTdm_tx (f : Tdm → Tdm) : (b.modTdm f).tx = b.tx := rfl
@[simp] theorem Block.modTdm_freeCtr (f : Tdm → Tdm) : (b.modTdm f).freeCtr = b.freeCtr := rfl
@[simp] theorem Block.modTdm_rd (f : Tdm → Tdm) (x : Nat) : (b.modTdm f).rd x = b.rd x := rfl
@[simp] theorem Block.modTdm_fld (f : Tdm → Tdm) (g : Fld) : (b.modTdm f).fld g = b.fld g := rfl
@[simp] theorem Block.modTdm_flag (f : Tdm → Tdm) (g : Fld) : (b.modTdm f).flag g = b.flag g := rfl
@[simp] theorem Block.modTdm_sess (f : Tdm → Tdm) (x : Nat) : (b.modTdm f).sess x = b.sess x := rfl
@[simp] theorem Block.modTdm_tdm (f : Tdm → Tdm) : (b.modTdm f).tdm = f b.tdm := rfl

/-! ### modIsl -/

@[simp] theorem Block.modIsl_regs (f : Isl → Isl) : (b.modIsl f).regs = b.regs := rfl
@[simp] theorem Block.modIsl_acc (f : Isl → Isl) : (b.modIsl f).acc = b.acc := rfl
@[simp] theorem Block.modIsl_ldg (f : Isl → Isl) : (b.modIsl f).ldg = b.ldg := rfl
@[simp] theorem Block.modIsl_tim (f : Isl → Isl) : (b.modIsl f).tim = b.tim := rfl
@[simp] theorem Block.modIsl_ports (f : Isl → Isl) : (b.modIsl f).ports = b.ports := rfl
@[simp] theorem Block.modIsl_ing (f : Isl → Isl) : (b.modIsl f).ing = b.ing := rfl
@[simp] theorem Block.modIsl_aln (f : Isl → Isl) : (b.modIsl f).aln = b.aln := rfl
@[simp] theorem Block.modIsl_flt (f : Isl → Isl) : (b.modIsl f).flt = b.flt := rfl
@[simp] theorem Block.modIsl_nrg (f : Isl → Isl) : (b.modIsl f).nrg = b.nrg := rfl
@[simp] theorem Block.modIsl_mod (f : Isl → Isl) : (b.modIsl f).mod = b.mod := rfl
@[simp] theorem Block.modIsl_grd (f : Isl → Isl) : (b.modIsl f).grd = b.grd := rfl
@[simp] theorem Block.modIsl_tdm (f : Isl → Isl) : (b.modIsl f).tdm = b.tdm := rfl
@[simp] theorem Block.modIsl_rad (f : Isl → Isl) : (b.modIsl f).rad = b.rad := rfl
@[simp] theorem Block.modIsl_hst (f : Isl → Isl) : (b.modIsl f).hst = b.hst := rfl
@[simp] theorem Block.modIsl_top (f : Isl → Isl) : (b.modIsl f).top = b.top := rfl
@[simp] theorem Block.modIsl_log (f : Isl → Isl) : (b.modIsl f).log = b.log := rfl
@[simp] theorem Block.modIsl_tx (f : Isl → Isl) : (b.modIsl f).tx = b.tx := rfl
@[simp] theorem Block.modIsl_freeCtr (f : Isl → Isl) : (b.modIsl f).freeCtr = b.freeCtr := rfl
@[simp] theorem Block.modIsl_rd (f : Isl → Isl) (x : Nat) : (b.modIsl f).rd x = b.rd x := rfl
@[simp] theorem Block.modIsl_fld (f : Isl → Isl) (g : Fld) : (b.modIsl f).fld g = b.fld g := rfl
@[simp] theorem Block.modIsl_flag (f : Isl → Isl) (g : Fld) : (b.modIsl f).flag g = b.flag g := rfl
@[simp] theorem Block.modIsl_sess (f : Isl → Isl) (x : Nat) : (b.modIsl f).sess x = b.sess x := rfl
@[simp] theorem Block.modIsl_isl (f : Isl → Isl) : (b.modIsl f).isl = f b.isl := rfl

/-! ### modMod -/

@[simp] theorem Block.modMod_regs (f : Mod → Mod) : (b.modMod f).regs = b.regs := rfl
@[simp] theorem Block.modMod_acc (f : Mod → Mod) : (b.modMod f).acc = b.acc := rfl
@[simp] theorem Block.modMod_ldg (f : Mod → Mod) : (b.modMod f).ldg = b.ldg := rfl
@[simp] theorem Block.modMod_tim (f : Mod → Mod) : (b.modMod f).tim = b.tim := rfl
@[simp] theorem Block.modMod_ports (f : Mod → Mod) : (b.modMod f).ports = b.ports := rfl
@[simp] theorem Block.modMod_ing (f : Mod → Mod) : (b.modMod f).ing = b.ing := rfl
@[simp] theorem Block.modMod_aln (f : Mod → Mod) : (b.modMod f).aln = b.aln := rfl
@[simp] theorem Block.modMod_flt (f : Mod → Mod) : (b.modMod f).flt = b.flt := rfl
@[simp] theorem Block.modMod_nrg (f : Mod → Mod) : (b.modMod f).nrg = b.nrg := rfl
@[simp] theorem Block.modMod_isl (f : Mod → Mod) : (b.modMod f).isl = b.isl := rfl
@[simp] theorem Block.modMod_grd (f : Mod → Mod) : (b.modMod f).grd = b.grd := rfl
@[simp] theorem Block.modMod_tdm (f : Mod → Mod) : (b.modMod f).tdm = b.tdm := rfl
@[simp] theorem Block.modMod_rad (f : Mod → Mod) : (b.modMod f).rad = b.rad := rfl
@[simp] theorem Block.modMod_hst (f : Mod → Mod) : (b.modMod f).hst = b.hst := rfl
@[simp] theorem Block.modMod_top (f : Mod → Mod) : (b.modMod f).top = b.top := rfl
@[simp] theorem Block.modMod_log (f : Mod → Mod) : (b.modMod f).log = b.log := rfl
@[simp] theorem Block.modMod_tx (f : Mod → Mod) : (b.modMod f).tx = b.tx := rfl
@[simp] theorem Block.modMod_freeCtr (f : Mod → Mod) : (b.modMod f).freeCtr = b.freeCtr := rfl
@[simp] theorem Block.modMod_rd (f : Mod → Mod) (x : Nat) : (b.modMod f).rd x = b.rd x := rfl
@[simp] theorem Block.modMod_fld (f : Mod → Mod) (g : Fld) : (b.modMod f).fld g = b.fld g := rfl
@[simp] theorem Block.modMod_flag (f : Mod → Mod) (g : Fld) : (b.modMod f).flag g = b.flag g := rfl
@[simp] theorem Block.modMod_sess (f : Mod → Mod) (x : Nat) : (b.modMod f).sess x = b.sess x := rfl
@[simp] theorem Block.modMod_mod (f : Mod → Mod) : (b.modMod f).mod = f b.mod := rfl

/-! ### modRad -/

@[simp] theorem Block.modRad_regs (f : Rad → Rad) : (b.modRad f).regs = b.regs := rfl
@[simp] theorem Block.modRad_acc (f : Rad → Rad) : (b.modRad f).acc = b.acc := rfl
@[simp] theorem Block.modRad_ldg (f : Rad → Rad) : (b.modRad f).ldg = b.ldg := rfl
@[simp] theorem Block.modRad_tim (f : Rad → Rad) : (b.modRad f).tim = b.tim := rfl
@[simp] theorem Block.modRad_ports (f : Rad → Rad) : (b.modRad f).ports = b.ports := rfl
@[simp] theorem Block.modRad_ing (f : Rad → Rad) : (b.modRad f).ing = b.ing := rfl
@[simp] theorem Block.modRad_aln (f : Rad → Rad) : (b.modRad f).aln = b.aln := rfl
@[simp] theorem Block.modRad_flt (f : Rad → Rad) : (b.modRad f).flt = b.flt := rfl
@[simp] theorem Block.modRad_nrg (f : Rad → Rad) : (b.modRad f).nrg = b.nrg := rfl
@[simp] theorem Block.modRad_mod (f : Rad → Rad) : (b.modRad f).mod = b.mod := rfl
@[simp] theorem Block.modRad_isl (f : Rad → Rad) : (b.modRad f).isl = b.isl := rfl
@[simp] theorem Block.modRad_grd (f : Rad → Rad) : (b.modRad f).grd = b.grd := rfl
@[simp] theorem Block.modRad_tdm (f : Rad → Rad) : (b.modRad f).tdm = b.tdm := rfl
@[simp] theorem Block.modRad_hst (f : Rad → Rad) : (b.modRad f).hst = b.hst := rfl
@[simp] theorem Block.modRad_top (f : Rad → Rad) : (b.modRad f).top = b.top := rfl
@[simp] theorem Block.modRad_log (f : Rad → Rad) : (b.modRad f).log = b.log := rfl
@[simp] theorem Block.modRad_tx (f : Rad → Rad) : (b.modRad f).tx = b.tx := rfl
@[simp] theorem Block.modRad_freeCtr (f : Rad → Rad) : (b.modRad f).freeCtr = b.freeCtr := rfl
@[simp] theorem Block.modRad_rd (f : Rad → Rad) (x : Nat) : (b.modRad f).rd x = b.rd x := rfl
@[simp] theorem Block.modRad_fld (f : Rad → Rad) (g : Fld) : (b.modRad f).fld g = b.fld g := rfl
@[simp] theorem Block.modRad_flag (f : Rad → Rad) (g : Fld) : (b.modRad f).flag g = b.flag g := rfl
@[simp] theorem Block.modRad_sess (f : Rad → Rad) (x : Nat) : (b.modRad f).sess x = b.sess x := rfl
@[simp] theorem Block.modRad_rad (f : Rad → Rad) : (b.modRad f).rad = f b.rad := rfl

/-! ### modAssoc -/

@[simp] theorem Block.modAssoc_regs (i : Nat) (f : Assoc → Assoc) : (b.modAssoc i f).regs = b.regs := rfl
@[simp] theorem Block.modAssoc_acc (i : Nat) (f : Assoc → Assoc) : (b.modAssoc i f).acc = b.acc := rfl
@[simp] theorem Block.modAssoc_ldg (i : Nat) (f : Assoc → Assoc) : (b.modAssoc i f).ldg = b.ldg := rfl
@[simp] theorem Block.modAssoc_tim (i : Nat) (f : Assoc → Assoc) : (b.modAssoc i f).tim = b.tim := rfl
@[simp] theorem Block.modAssoc_ports (i : Nat) (f : Assoc → Assoc) : (b.modAssoc i f).ports = b.ports := rfl
@[simp] theorem Block.modAssoc_ing (i : Nat) (f : Assoc → Assoc) : (b.modAssoc i f).ing = b.ing := rfl
@[simp] theorem Block.modAssoc_aln (i : Nat) (f : Assoc → Assoc) : (b.modAssoc i f).aln = b.aln := rfl
@[simp] theorem Block.modAssoc_flt (i : Nat) (f : Assoc → Assoc) : (b.modAssoc i f).flt = b.flt := rfl
@[simp] theorem Block.modAssoc_nrg (i : Nat) (f : Assoc → Assoc) : (b.modAssoc i f).nrg = b.nrg := rfl
@[simp] theorem Block.modAssoc_mod (i : Nat) (f : Assoc → Assoc) : (b.modAssoc i f).mod = b.mod := rfl
@[simp] theorem Block.modAssoc_isl (i : Nat) (f : Assoc → Assoc) : (b.modAssoc i f).isl = b.isl := rfl
@[simp] theorem Block.modAssoc_grd (i : Nat) (f : Assoc → Assoc) : (b.modAssoc i f).grd = b.grd := rfl
@[simp] theorem Block.modAssoc_tdm (i : Nat) (f : Assoc → Assoc) : (b.modAssoc i f).tdm = b.tdm := rfl
@[simp] theorem Block.modAssoc_hst (i : Nat) (f : Assoc → Assoc) : (b.modAssoc i f).hst = b.hst := rfl
@[simp] theorem Block.modAssoc_top (i : Nat) (f : Assoc → Assoc) : (b.modAssoc i f).top = b.top := rfl
@[simp] theorem Block.modAssoc_log (i : Nat) (f : Assoc → Assoc) : (b.modAssoc i f).log = b.log := rfl
@[simp] theorem Block.modAssoc_tx (i : Nat) (f : Assoc → Assoc) : (b.modAssoc i f).tx = b.tx := rfl
@[simp] theorem Block.modAssoc_freeCtr (i : Nat) (f : Assoc → Assoc) : (b.modAssoc i f).freeCtr = b.freeCtr := rfl
@[simp] theorem Block.modAssoc_rd (i : Nat) (f : Assoc → Assoc) (x : Nat) : (b.modAssoc i f).rd x = b.rd x := rfl
@[simp] theorem Block.modAssoc_fld (i : Nat) (f : Assoc → Assoc) (g : Fld) : (b.modAssoc i f).fld g = b.fld g := rfl
@[simp] theorem Block.modAssoc_flag (i : Nat) (f : Assoc → Assoc) (g : Fld) : (b.modAssoc i f).flag g = b.flag g := rfl
@[simp] theorem Block.modAssoc_sess (i : Nat) (f : Assoc → Assoc) (x : Nat) : (b.modAssoc i f).sess x = b.sess x := rfl

/-! ### modLog -/

@[simp] theorem Block.modLog_regs (f : Log → Log) : (b.modLog f).regs = b.regs := rfl
@[simp] theorem Block.modLog_acc (f : Log → Log) : (b.modLog f).acc = b.acc := rfl
@[simp] theorem Block.modLog_ldg (f : Log → Log) : (b.modLog f).ldg = b.ldg := rfl
@[simp] theorem Block.modLog_tim (f : Log → Log) : (b.modLog f).tim = b.tim := rfl
@[simp] theorem Block.modLog_ports (f : Log → Log) : (b.modLog f).ports = b.ports := rfl
@[simp] theorem Block.modLog_ing (f : Log → Log) : (b.modLog f).ing = b.ing := rfl
@[simp] theorem Block.modLog_aln (f : Log → Log) : (b.modLog f).aln = b.aln := rfl
@[simp] theorem Block.modLog_flt (f : Log → Log) : (b.modLog f).flt = b.flt := rfl
@[simp] theorem Block.modLog_nrg (f : Log → Log) : (b.modLog f).nrg = b.nrg := rfl
@[simp] theorem Block.modLog_mod (f : Log → Log) : (b.modLog f).mod = b.mod := rfl
@[simp] theorem Block.modLog_isl (f : Log → Log) : (b.modLog f).isl = b.isl := rfl
@[simp] theorem Block.modLog_grd (f : Log → Log) : (b.modLog f).grd = b.grd := rfl
@[simp] theorem Block.modLog_tdm (f : Log → Log) : (b.modLog f).tdm = b.tdm := rfl
@[simp] theorem Block.modLog_rad (f : Log → Log) : (b.modLog f).rad = b.rad := rfl
@[simp] theorem Block.modLog_hst (f : Log → Log) : (b.modLog f).hst = b.hst := rfl
@[simp] theorem Block.modLog_top (f : Log → Log) : (b.modLog f).top = b.top := rfl
@[simp] theorem Block.modLog_tx (f : Log → Log) : (b.modLog f).tx = b.tx := rfl
@[simp] theorem Block.modLog_freeCtr (f : Log → Log) : (b.modLog f).freeCtr = b.freeCtr := rfl
@[simp] theorem Block.modLog_rd (f : Log → Log) (x : Nat) : (b.modLog f).rd x = b.rd x := rfl
@[simp] theorem Block.modLog_fld (f : Log → Log) (g : Fld) : (b.modLog f).fld g = b.fld g := rfl
@[simp] theorem Block.modLog_flag (f : Log → Log) (g : Fld) : (b.modLog f).flag g = b.flag g := rfl
@[simp] theorem Block.modLog_sess (f : Log → Log) (x : Nat) : (b.modLog f).sess x = b.sess x := rfl
@[simp] theorem Block.modLog_log (f : Log → Log) : (b.modLog f).log = f b.log := rfl

/-! ### modTop -/

@[simp] theorem Block.modTop_regs (f : Top → Top) : (b.modTop f).regs = b.regs := rfl
@[simp] theorem Block.modTop_acc (f : Top → Top) : (b.modTop f).acc = b.acc := rfl
@[simp] theorem Block.modTop_ldg (f : Top → Top) : (b.modTop f).ldg = b.ldg := rfl
@[simp] theorem Block.modTop_tim (f : Top → Top) : (b.modTop f).tim = b.tim := rfl
@[simp] theorem Block.modTop_ports (f : Top → Top) : (b.modTop f).ports = b.ports := rfl
@[simp] theorem Block.modTop_ing (f : Top → Top) : (b.modTop f).ing = b.ing := rfl
@[simp] theorem Block.modTop_aln (f : Top → Top) : (b.modTop f).aln = b.aln := rfl
@[simp] theorem Block.modTop_flt (f : Top → Top) : (b.modTop f).flt = b.flt := rfl
@[simp] theorem Block.modTop_nrg (f : Top → Top) : (b.modTop f).nrg = b.nrg := rfl
@[simp] theorem Block.modTop_mod (f : Top → Top) : (b.modTop f).mod = b.mod := rfl
@[simp] theorem Block.modTop_isl (f : Top → Top) : (b.modTop f).isl = b.isl := rfl
@[simp] theorem Block.modTop_grd (f : Top → Top) : (b.modTop f).grd = b.grd := rfl
@[simp] theorem Block.modTop_tdm (f : Top → Top) : (b.modTop f).tdm = b.tdm := rfl
@[simp] theorem Block.modTop_rad (f : Top → Top) : (b.modTop f).rad = b.rad := rfl
@[simp] theorem Block.modTop_hst (f : Top → Top) : (b.modTop f).hst = b.hst := rfl
@[simp] theorem Block.modTop_log (f : Top → Top) : (b.modTop f).log = b.log := rfl
@[simp] theorem Block.modTop_tx (f : Top → Top) : (b.modTop f).tx = b.tx := rfl
@[simp] theorem Block.modTop_freeCtr (f : Top → Top) : (b.modTop f).freeCtr = b.freeCtr := rfl
@[simp] theorem Block.modTop_rd (f : Top → Top) (x : Nat) : (b.modTop f).rd x = b.rd x := rfl
@[simp] theorem Block.modTop_fld (f : Top → Top) (g : Fld) : (b.modTop f).fld g = b.fld g := rfl
@[simp] theorem Block.modTop_flag (f : Top → Top) (g : Fld) : (b.modTop f).flag g = b.flag g := rfl
@[simp] theorem Block.modTop_sess (f : Top → Top) (x : Nat) : (b.modTop f).sess x = b.sess x := rfl
@[simp] theorem Block.modTop_top (f : Top → Top) : (b.modTop f).top = f b.top := rfl

/-! ### modTrims -/

@[simp] theorem Block.modTrims_regs (f : TrimImage → TrimImage) : (b.modTrims f).regs = b.regs := rfl
@[simp] theorem Block.modTrims_acc (f : TrimImage → TrimImage) : (b.modTrims f).acc = b.acc := rfl
@[simp] theorem Block.modTrims_ldg (f : TrimImage → TrimImage) : (b.modTrims f).ldg = b.ldg := rfl
@[simp] theorem Block.modTrims_tim (f : TrimImage → TrimImage) : (b.modTrims f).tim = b.tim := rfl
@[simp] theorem Block.modTrims_ports (f : TrimImage → TrimImage) : (b.modTrims f).ports = b.ports := rfl
@[simp] theorem Block.modTrims_ing (f : TrimImage → TrimImage) : (b.modTrims f).ing = b.ing := rfl
@[simp] theorem Block.modTrims_aln (f : TrimImage → TrimImage) : (b.modTrims f).aln = b.aln := rfl
@[simp] theorem Block.modTrims_flt (f : TrimImage → TrimImage) : (b.modTrims f).flt = b.flt := rfl
@[simp] theorem Block.modTrims_nrg (f : TrimImage → TrimImage) : (b.modTrims f).nrg = b.nrg := rfl
@[simp] theorem Block.modTrims_mod (f : TrimImage → TrimImage) : (b.modTrims f).mod = b.mod := rfl
@[simp] theorem Block.modTrims_isl (f : TrimImage → TrimImage) : (b.modTrims f).isl = b.isl := rfl
@[simp] theorem Block.modTrims_grd (f : TrimImage → TrimImage) : (b.modTrims f).grd = b.grd := rfl
@[simp] theorem Block.modTrims_tdm (f : TrimImage → TrimImage) : (b.modTrims f).tdm = b.tdm := rfl
@[simp] theorem Block.modTrims_rad (f : TrimImage → TrimImage) : (b.modTrims f).rad = b.rad := rfl
@[simp] theorem Block.modTrims_hst (f : TrimImage → TrimImage) : (b.modTrims f).hst = b.hst := rfl
@[simp] theorem Block.modTrims_log (f : TrimImage → TrimImage) : (b.modTrims f).log = b.log := rfl
@[simp] theorem Block.modTrims_tx (f : TrimImage → TrimImage) : (b.modTrims f).tx = b.tx := rfl
@[simp] theorem Block.modTrims_freeCtr (f : TrimImage → TrimImage) : (b.modTrims f).freeCtr = b.freeCtr := rfl
@[simp] theorem Block.modTrims_rd (f : TrimImage → TrimImage) (x : Nat) : (b.modTrims f).rd x = b.rd x := rfl
@[simp] theorem Block.modTrims_fld (f : TrimImage → TrimImage) (g : Fld) : (b.modTrims f).fld g = b.fld g := rfl
@[simp] theorem Block.modTrims_flag (f : TrimImage → TrimImage) (g : Fld) : (b.modTrims f).flag g = b.flag g := rfl
@[simp] theorem Block.modTrims_sess (f : TrimImage → TrimImage) (x : Nat) : (b.modTrims f).sess x = b.sess x := rfl

/-! ### modTim -/

@[simp] theorem Block.modTim_regs (f : Tim → Tim) : (b.modTim f).regs = b.regs := rfl
@[simp] theorem Block.modTim_acc (f : Tim → Tim) : (b.modTim f).acc = b.acc := rfl
@[simp] theorem Block.modTim_ldg (f : Tim → Tim) : (b.modTim f).ldg = b.ldg := rfl
@[simp] theorem Block.modTim_ports (f : Tim → Tim) : (b.modTim f).ports = b.ports := rfl
@[simp] theorem Block.modTim_ing (f : Tim → Tim) : (b.modTim f).ing = b.ing := rfl
@[simp] theorem Block.modTim_aln (f : Tim → Tim) : (b.modTim f).aln = b.aln := rfl
@[simp] theorem Block.modTim_flt (f : Tim → Tim) : (b.modTim f).flt = b.flt := rfl
@[simp] theorem Block.modTim_nrg (f : Tim → Tim) : (b.modTim f).nrg = b.nrg := rfl
@[simp] theorem Block.modTim_mod (f : Tim → Tim) : (b.modTim f).mod = b.mod := rfl
@[simp] theorem Block.modTim_isl (f : Tim → Tim) : (b.modTim f).isl = b.isl := rfl
@[simp] theorem Block.modTim_grd (f : Tim → Tim) : (b.modTim f).grd = b.grd := rfl
@[simp] theorem Block.modTim_tdm (f : Tim → Tim) : (b.modTim f).tdm = b.tdm := rfl
@[simp] theorem Block.modTim_rad (f : Tim → Tim) : (b.modTim f).rad = b.rad := rfl
@[simp] theorem Block.modTim_hst (f : Tim → Tim) : (b.modTim f).hst = b.hst := rfl
@[simp] theorem Block.modTim_top (f : Tim → Tim) : (b.modTim f).top = b.top := rfl
@[simp] theorem Block.modTim_log (f : Tim → Tim) : (b.modTim f).log = b.log := rfl
@[simp] theorem Block.modTim_tx (f : Tim → Tim) : (b.modTim f).tx = b.tx := rfl
@[simp] theorem Block.modTim_freeCtr (f : Tim → Tim) : (b.modTim f).freeCtr = b.freeCtr := rfl
@[simp] theorem Block.modTim_rd (f : Tim → Tim) (x : Nat) : (b.modTim f).rd x = b.rd x := rfl
@[simp] theorem Block.modTim_fld (f : Tim → Tim) (g : Fld) : (b.modTim f).fld g = b.fld g := rfl
@[simp] theorem Block.modTim_flag (f : Tim → Tim) (g : Fld) : (b.modTim f).flag g = b.flag g := rfl
@[simp] theorem Block.modTim_sess (f : Tim → Tim) (x : Nat) : (b.modTim f).sess x = b.sess x := rfl
@[simp] theorem Block.modTim_tim (f : Tim → Tim) : (b.modTim f).tim = f b.tim := rfl

/-! ### modSrc -/

@[simp] theorem Block.modSrc_regs (i : Nat) (f : TimSrc → TimSrc) : (b.modSrc i f).regs = b.regs := rfl
@[simp] theorem Block.modSrc_acc (i : Nat) (f : TimSrc → TimSrc) : (b.modSrc i f).acc = b.acc := rfl
@[simp] theorem Block.modSrc_ldg (i : Nat) (f : TimSrc → TimSrc) : (b.modSrc i f).ldg = b.ldg := rfl
@[simp] theorem Block.modSrc_ports (i : Nat) (f : TimSrc → TimSrc) : (b.modSrc i f).ports = b.ports := rfl
@[simp] theorem Block.modSrc_ing (i : Nat) (f : TimSrc → TimSrc) : (b.modSrc i f).ing = b.ing := rfl
@[simp] theorem Block.modSrc_aln (i : Nat) (f : TimSrc → TimSrc) : (b.modSrc i f).aln = b.aln := rfl
@[simp] theorem Block.modSrc_flt (i : Nat) (f : TimSrc → TimSrc) : (b.modSrc i f).flt = b.flt := rfl
@[simp] theorem Block.modSrc_nrg (i : Nat) (f : TimSrc → TimSrc) : (b.modSrc i f).nrg = b.nrg := rfl
@[simp] theorem Block.modSrc_mod (i : Nat) (f : TimSrc → TimSrc) : (b.modSrc i f).mod = b.mod := rfl
@[simp] theorem Block.modSrc_isl (i : Nat) (f : TimSrc → TimSrc) : (b.modSrc i f).isl = b.isl := rfl
@[simp] theorem Block.modSrc_grd (i : Nat) (f : TimSrc → TimSrc) : (b.modSrc i f).grd = b.grd := rfl
@[simp] theorem Block.modSrc_tdm (i : Nat) (f : TimSrc → TimSrc) : (b.modSrc i f).tdm = b.tdm := rfl
@[simp] theorem Block.modSrc_rad (i : Nat) (f : TimSrc → TimSrc) : (b.modSrc i f).rad = b.rad := rfl
@[simp] theorem Block.modSrc_hst (i : Nat) (f : TimSrc → TimSrc) : (b.modSrc i f).hst = b.hst := rfl
@[simp] theorem Block.modSrc_top (i : Nat) (f : TimSrc → TimSrc) : (b.modSrc i f).top = b.top := rfl
@[simp] theorem Block.modSrc_log (i : Nat) (f : TimSrc → TimSrc) : (b.modSrc i f).log = b.log := rfl
@[simp] theorem Block.modSrc_tx (i : Nat) (f : TimSrc → TimSrc) : (b.modSrc i f).tx = b.tx := rfl
@[simp] theorem Block.modSrc_freeCtr (i : Nat) (f : TimSrc → TimSrc) : (b.modSrc i f).freeCtr = b.freeCtr := rfl
@[simp] theorem Block.modSrc_rd (i : Nat) (f : TimSrc → TimSrc) (x : Nat) : (b.modSrc i f).rd x = b.rd x := rfl
@[simp] theorem Block.modSrc_fld (i : Nat) (f : TimSrc → TimSrc) (g : Fld) : (b.modSrc i f).fld g = b.fld g := rfl
@[simp] theorem Block.modSrc_flag (i : Nat) (f : TimSrc → TimSrc) (g : Fld) : (b.modSrc i f).flag g = b.flag g := rfl
@[simp] theorem Block.modSrc_sess (i : Nat) (f : TimSrc → TimSrc) (x : Nat) : (b.modSrc i f).sess x = b.sess x := rfl

/-! ### modSpoke -/

@[simp] theorem Block.modSpoke_regs (n : Nat) (f : Spoke → Spoke) : (b.modSpoke n f).regs = b.regs := rfl
@[simp] theorem Block.modSpoke_acc (n : Nat) (f : Spoke → Spoke) : (b.modSpoke n f).acc = b.acc := rfl
@[simp] theorem Block.modSpoke_ldg (n : Nat) (f : Spoke → Spoke) : (b.modSpoke n f).ldg = b.ldg := rfl
@[simp] theorem Block.modSpoke_tim (n : Nat) (f : Spoke → Spoke) : (b.modSpoke n f).tim = b.tim := rfl
@[simp] theorem Block.modSpoke_ports (n : Nat) (f : Spoke → Spoke) : (b.modSpoke n f).ports = b.ports := rfl
@[simp] theorem Block.modSpoke_aln (n : Nat) (f : Spoke → Spoke) : (b.modSpoke n f).aln = b.aln := rfl
@[simp] theorem Block.modSpoke_flt (n : Nat) (f : Spoke → Spoke) : (b.modSpoke n f).flt = b.flt := rfl
@[simp] theorem Block.modSpoke_nrg (n : Nat) (f : Spoke → Spoke) : (b.modSpoke n f).nrg = b.nrg := rfl
@[simp] theorem Block.modSpoke_mod (n : Nat) (f : Spoke → Spoke) : (b.modSpoke n f).mod = b.mod := rfl
@[simp] theorem Block.modSpoke_isl (n : Nat) (f : Spoke → Spoke) : (b.modSpoke n f).isl = b.isl := rfl
@[simp] theorem Block.modSpoke_grd (n : Nat) (f : Spoke → Spoke) : (b.modSpoke n f).grd = b.grd := rfl
@[simp] theorem Block.modSpoke_tdm (n : Nat) (f : Spoke → Spoke) : (b.modSpoke n f).tdm = b.tdm := rfl
@[simp] theorem Block.modSpoke_rad (n : Nat) (f : Spoke → Spoke) : (b.modSpoke n f).rad = b.rad := rfl
@[simp] theorem Block.modSpoke_hst (n : Nat) (f : Spoke → Spoke) : (b.modSpoke n f).hst = b.hst := rfl
@[simp] theorem Block.modSpoke_top (n : Nat) (f : Spoke → Spoke) : (b.modSpoke n f).top = b.top := rfl
@[simp] theorem Block.modSpoke_log (n : Nat) (f : Spoke → Spoke) : (b.modSpoke n f).log = b.log := rfl
@[simp] theorem Block.modSpoke_tx (n : Nat) (f : Spoke → Spoke) : (b.modSpoke n f).tx = b.tx := rfl
@[simp] theorem Block.modSpoke_freeCtr (n : Nat) (f : Spoke → Spoke) : (b.modSpoke n f).freeCtr = b.freeCtr := rfl
@[simp] theorem Block.modSpoke_rd (n : Nat) (f : Spoke → Spoke) (x : Nat) : (b.modSpoke n f).rd x = b.rd x := rfl
@[simp] theorem Block.modSpoke_fld (n : Nat) (f : Spoke → Spoke) (g : Fld) : (b.modSpoke n f).fld g = b.fld g := rfl
@[simp] theorem Block.modSpoke_flag (n : Nat) (f : Spoke → Spoke) (g : Fld) : (b.modSpoke n f).flag g = b.flag g := rfl
@[simp] theorem Block.modSpoke_sess (n : Nat) (f : Spoke → Spoke) (x : Nat) : (b.modSpoke n f).sess x = b.sess x := rfl

/-! ### modSess -/

@[simp] theorem Block.modSess_regs (i : Nat) (f : Session → Session) : (b.modSess i f).regs = b.regs := rfl
@[simp] theorem Block.modSess_acc (i : Nat) (f : Session → Session) : (b.modSess i f).acc = b.acc := rfl
@[simp] theorem Block.modSess_ldg (i : Nat) (f : Session → Session) : (b.modSess i f).ldg = b.ldg := rfl
@[simp] theorem Block.modSess_tim (i : Nat) (f : Session → Session) : (b.modSess i f).tim = b.tim := rfl
@[simp] theorem Block.modSess_ports (i : Nat) (f : Session → Session) : (b.modSess i f).ports = b.ports := rfl
@[simp] theorem Block.modSess_ing (i : Nat) (f : Session → Session) : (b.modSess i f).ing = b.ing := rfl
@[simp] theorem Block.modSess_aln (i : Nat) (f : Session → Session) : (b.modSess i f).aln = b.aln := rfl
@[simp] theorem Block.modSess_flt (i : Nat) (f : Session → Session) : (b.modSess i f).flt = b.flt := rfl
@[simp] theorem Block.modSess_nrg (i : Nat) (f : Session → Session) : (b.modSess i f).nrg = b.nrg := rfl
@[simp] theorem Block.modSess_mod (i : Nat) (f : Session → Session) : (b.modSess i f).mod = b.mod := rfl
@[simp] theorem Block.modSess_isl (i : Nat) (f : Session → Session) : (b.modSess i f).isl = b.isl := rfl
@[simp] theorem Block.modSess_grd (i : Nat) (f : Session → Session) : (b.modSess i f).grd = b.grd := rfl
@[simp] theorem Block.modSess_tdm (i : Nat) (f : Session → Session) : (b.modSess i f).tdm = b.tdm := rfl
@[simp] theorem Block.modSess_rad (i : Nat) (f : Session → Session) : (b.modSess i f).rad = b.rad := rfl
@[simp] theorem Block.modSess_top (i : Nat) (f : Session → Session) : (b.modSess i f).top = b.top := rfl
@[simp] theorem Block.modSess_log (i : Nat) (f : Session → Session) : (b.modSess i f).log = b.log := rfl
@[simp] theorem Block.modSess_tx (i : Nat) (f : Session → Session) : (b.modSess i f).tx = b.tx := rfl
@[simp] theorem Block.modSess_freeCtr (i : Nat) (f : Session → Session) : (b.modSess i f).freeCtr = b.freeCtr := rfl
@[simp] theorem Block.modSess_rd (i : Nat) (f : Session → Session) (x : Nat) : (b.modSess i f).rd x = b.rd x := rfl
@[simp] theorem Block.modSess_fld (i : Nat) (f : Session → Session) (g : Fld) : (b.modSess i f).fld g = b.fld g := rfl
@[simp] theorem Block.modSess_flag (i : Nat) (f : Session → Session) (g : Fld) : (b.modSess i f).flag g = b.flag g := rfl

/-! ### modPan -/

@[simp] theorem Block.modPan_regs (i p : Nat) (f : Pannier → Pannier) : (b.modPan i p f).regs = b.regs := rfl
@[simp] theorem Block.modPan_acc (i p : Nat) (f : Pannier → Pannier) : (b.modPan i p f).acc = b.acc := rfl
@[simp] theorem Block.modPan_ldg (i p : Nat) (f : Pannier → Pannier) : (b.modPan i p f).ldg = b.ldg := rfl
@[simp] theorem Block.modPan_tim (i p : Nat) (f : Pannier → Pannier) : (b.modPan i p f).tim = b.tim := rfl
@[simp] theorem Block.modPan_ports (i p : Nat) (f : Pannier → Pannier) : (b.modPan i p f).ports = b.ports := rfl
@[simp] theorem Block.modPan_ing (i p : Nat) (f : Pannier → Pannier) : (b.modPan i p f).ing = b.ing := rfl
@[simp] theorem Block.modPan_aln (i p : Nat) (f : Pannier → Pannier) : (b.modPan i p f).aln = b.aln := rfl
@[simp] theorem Block.modPan_flt (i p : Nat) (f : Pannier → Pannier) : (b.modPan i p f).flt = b.flt := rfl
@[simp] theorem Block.modPan_nrg (i p : Nat) (f : Pannier → Pannier) : (b.modPan i p f).nrg = b.nrg := rfl
@[simp] theorem Block.modPan_mod (i p : Nat) (f : Pannier → Pannier) : (b.modPan i p f).mod = b.mod := rfl
@[simp] theorem Block.modPan_isl (i p : Nat) (f : Pannier → Pannier) : (b.modPan i p f).isl = b.isl := rfl
@[simp] theorem Block.modPan_grd (i p : Nat) (f : Pannier → Pannier) : (b.modPan i p f).grd = b.grd := rfl
@[simp] theorem Block.modPan_tdm (i p : Nat) (f : Pannier → Pannier) : (b.modPan i p f).tdm = b.tdm := rfl
@[simp] theorem Block.modPan_rad (i p : Nat) (f : Pannier → Pannier) : (b.modPan i p f).rad = b.rad := rfl
@[simp] theorem Block.modPan_top (i p : Nat) (f : Pannier → Pannier) : (b.modPan i p f).top = b.top := rfl
@[simp] theorem Block.modPan_log (i p : Nat) (f : Pannier → Pannier) : (b.modPan i p f).log = b.log := rfl
@[simp] theorem Block.modPan_tx (i p : Nat) (f : Pannier → Pannier) : (b.modPan i p f).tx = b.tx := rfl
@[simp] theorem Block.modPan_freeCtr (i p : Nat) (f : Pannier → Pannier) : (b.modPan i p f).freeCtr = b.freeCtr := rfl
@[simp] theorem Block.modPan_rd (i p : Nat) (f : Pannier → Pannier) (x : Nat) : (b.modPan i p f).rd x = b.rd x := rfl
@[simp] theorem Block.modPan_fld (i p : Nat) (f : Pannier → Pannier) (g : Fld) : (b.modPan i p f).fld g = b.fld g := rfl
@[simp] theorem Block.modPan_flag (i p : Nat) (f : Pannier → Pannier) (g : Fld) : (b.modPan i p f).flag g = b.flag g := rfl

end

end Sys2Proof.Machine
end

