-- ==== Sys2Proof/Laws/Sessions.lean ====
section
/-!
SUPPORT. Laws of a session's commands: what taking a packet and replying leave as they are, and that a ready command reaches its body.
-/
namespace Sys2Proof.Machine

/-! ### Taking a packet -/

theorem modAt_length_eq {α : Type} (l : List α) (i : Nat) (f : α → α) : (modAt l i f).length = l.length := by
  induction l generalizing i with
  | nil => rfl
  | cons x r ih => cases i <;> simp [modAt, ih]

theorem getD_modAt {α : Type} (l : List α) (i j : Nat) (f : α → α) (d : α) (h : i < l.length) :
    (modAt l i f).getD j d = if j = i then f (l.getD i d) else l.getD j d := by
  induction l generalizing i j with
  | nil => simp at h
  | cons x r ih =>
    cases i with
    | zero => cases j <;> simp [modAt]
    | succ i =>
      cases j with
      | zero => simp [modAt]
      | succ j =>
        have h' : i < r.length := by simpa using h
        simpa [modAt] using ih i j h'

theorem getD_modAt_out {α : Type} (l : List α) (i j : Nat) (f : α → α) (d : α) (h : l.length ≤ i) :
    (modAt l i f).getD j d = l.getD j d := by
  induction l generalizing i j with
  | nil => simp [modAt]
  | cons x r ih =>
    cases i with
    | zero => simp at h
    | succ i =>
      cases j with
      | zero => simp [modAt]
      | succ j => simpa [modAt] using ih i j (by simpa using h)

/-- A session after a change of one. -/
theorem Block.sess_modSess (b : Block) (i j : Nat) (f : Session → Session) (h : i < b.hst.sessions.length) :
    (b.modSess i f).sess j = if j = i then f (b.sess i) else b.sess j := getD_modAt _ _ _ _ _ h

/-- What a change of a session keeps of every session, it keeps of each after it. -/
theorem Block.sess_modSess_keep {α : Type} (b : Block) (i j : Nat) (f : Session → Session) (g : Session → α) (hg : ∀ x, g (f x) = g x) :
    g ((b.modSess i f).sess j) = g (b.sess j) := by
  by_cases h : i < b.hst.sessions.length
  · rw [Block.sess_modSess _ _ _ _ h]
    by_cases hj : j = i
    · subst hj
      simp [hg]
    · simp [hj]
  · exact congrArg g (getD_modAt_out _ _ _ _ _ (Nat.le_of_not_lt h))

@[simp] theorem Block.releaseSaddle_acc (b : Block) (r : Nat) : (b.releaseSaddle r).acc = b.acc := by
  unfold Block.releaseSaddle
  split <;> rfl
@[simp] theorem Block.releaseSaddle_ldg (b : Block) (r : Nat) : (b.releaseSaddle r).ldg = b.ldg := by
  unfold Block.releaseSaddle
  split <;> rfl
@[simp] theorem Block.releaseSaddle_tim (b : Block) (r : Nat) : (b.releaseSaddle r).tim = b.tim := by
  unfold Block.releaseSaddle
  split <;> rfl
@[simp] theorem Block.releaseSaddle_ports (b : Block) (r : Nat) : (b.releaseSaddle r).ports = b.ports := by
  unfold Block.releaseSaddle
  split <;> rfl
@[simp] theorem Block.releaseSaddle_ing (b : Block) (r : Nat) : (b.releaseSaddle r).ing = b.ing := by
  unfold Block.releaseSaddle
  split <;> rfl
@[simp] theorem Block.releaseSaddle_aln (b : Block) (r : Nat) : (b.releaseSaddle r).aln = b.aln := by
  unfold Block.releaseSaddle
  split <;> rfl
@[simp] theorem Block.releaseSaddle_flt (b : Block) (r : Nat) : (b.releaseSaddle r).flt = b.flt := by
  unfold Block.releaseSaddle
  split <;> rfl
@[simp] theorem Block.releaseSaddle_nrg (b : Block) (r : Nat) : (b.releaseSaddle r).nrg = b.nrg := by
  unfold Block.releaseSaddle
  split <;> rfl
@[simp] theorem Block.releaseSaddle_mod (b : Block) (r : Nat) : (b.releaseSaddle r).mod = b.mod := by
  unfold Block.releaseSaddle
  split <;> rfl
@[simp] theorem Block.releaseSaddle_isl (b : Block) (r : Nat) : (b.releaseSaddle r).isl = b.isl := by
  unfold Block.releaseSaddle
  split <;> rfl
@[simp] theorem Block.releaseSaddle_grd (b : Block) (r : Nat) : (b.releaseSaddle r).grd = b.grd := by
  unfold Block.releaseSaddle
  split <;> rfl
@[simp] theorem Block.releaseSaddle_tdm (b : Block) (r : Nat) : (b.releaseSaddle r).tdm = b.tdm := by
  unfold Block.releaseSaddle
  split <;> rfl
@[simp] theorem Block.releaseSaddle_rad (b : Block) (r : Nat) : (b.releaseSaddle r).rad = b.rad := by
  unfold Block.releaseSaddle
  split <;> rfl
@[simp] theorem Block.releaseSaddle_top (b : Block) (r : Nat) : (b.releaseSaddle r).top = b.top := by
  unfold Block.releaseSaddle
  split <;> rfl
@[simp] theorem Block.releaseSaddle_tx (b : Block) (r : Nat) : (b.releaseSaddle r).tx = b.tx := by
  unfold Block.releaseSaddle
  split <;> rfl
@[simp] theorem Block.releaseSaddle_freeCtr (b : Block) (r : Nat) : (b.releaseSaddle r).freeCtr = b.freeCtr := by
  unfold Block.releaseSaddle
  split <;> rfl
@[simp] theorem Block.releaseSaddle_rd (b : Block) (r a : Nat) : (b.releaseSaddle r).rd a = b.rd a := by
  unfold Block.releaseSaddle
  split <;> rfl
@[simp] theorem Block.takeCmd_acc (b : Block) (h : Hdr) (op : Nat) : (b.takeCmd h op).acc = b.acc := by
  unfold Block.takeCmd
  dsimp only
  (repeat' split) <;> rfl
@[simp] theorem Block.takeCmd_ldg (b : Block) (h : Hdr) (op : Nat) : (b.takeCmd h op).ldg = b.ldg := by
  unfold Block.takeCmd
  dsimp only
  (repeat' split) <;> rfl
@[simp] theorem Block.takeCmd_tim (b : Block) (h : Hdr) (op : Nat) : (b.takeCmd h op).tim = b.tim := by
  unfold Block.takeCmd
  dsimp only
  (repeat' split) <;> rfl
@[simp] theorem Block.takeCmd_ports (b : Block) (h : Hdr) (op : Nat) : (b.takeCmd h op).ports = b.ports := by
  unfold Block.takeCmd
  dsimp only
  (repeat' split) <;> rfl
@[simp] theorem Block.takeCmd_ing (b : Block) (h : Hdr) (op : Nat) : (b.takeCmd h op).ing = b.ing := by
  unfold Block.takeCmd
  dsimp only
  (repeat' split) <;> rfl
@[simp] theorem Block.takeCmd_aln (b : Block) (h : Hdr) (op : Nat) : (b.takeCmd h op).aln = b.aln := by
  unfold Block.takeCmd
  dsimp only
  (repeat' split) <;> rfl
@[simp] theorem Block.takeCmd_flt (b : Block) (h : Hdr) (op : Nat) : (b.takeCmd h op).flt = b.flt := by
  unfold Block.takeCmd
  dsimp only
  (repeat' split) <;> rfl
@[simp] theorem Block.takeCmd_nrg (b : Block) (h : Hdr) (op : Nat) : (b.takeCmd h op).nrg = b.nrg := by
  unfold Block.takeCmd
  dsimp only
  (repeat' split) <;> rfl
@[simp] theorem Block.takeCmd_mod (b : Block) (h : Hdr) (op : Nat) : (b.takeCmd h op).mod = b.mod := by
  unfold Block.takeCmd
  dsimp only
  (repeat' split) <;> rfl
@[simp] theorem Block.takeCmd_isl (b : Block) (h : Hdr) (op : Nat) : (b.takeCmd h op).isl = b.isl := by
  unfold Block.takeCmd
  dsimp only
  (repeat' split) <;> rfl
@[simp] theorem Block.takeCmd_grd (b : Block) (h : Hdr) (op : Nat) : (b.takeCmd h op).grd = b.grd := by
  unfold Block.takeCmd
  dsimp only
  (repeat' split) <;> rfl
@[simp] theorem Block.takeCmd_tdm (b : Block) (h : Hdr) (op : Nat) : (b.takeCmd h op).tdm = b.tdm := by
  unfold Block.takeCmd
  dsimp only
  (repeat' split) <;> rfl
@[simp] theorem Block.takeCmd_rad (b : Block) (h : Hdr) (op : Nat) : (b.takeCmd h op).rad = b.rad := by
  unfold Block.takeCmd
  dsimp only
  (repeat' split) <;> rfl
@[simp] theorem Block.takeCmd_top (b : Block) (h : Hdr) (op : Nat) : (b.takeCmd h op).top = b.top := by
  unfold Block.takeCmd
  dsimp only
  (repeat' split) <;> rfl
@[simp] theorem Block.takeCmd_log (b : Block) (h : Hdr) (op : Nat) : (b.takeCmd h op).log = b.log := by
  unfold Block.takeCmd
  dsimp only
  (repeat' split) <;> rfl
@[simp] theorem Block.takeCmd_freeCtr (b : Block) (h : Hdr) (op : Nat) : (b.takeCmd h op).freeCtr = b.freeCtr := by
  unfold Block.takeCmd
  dsimp only
  (repeat' split) <;> rfl
@[simp] theorem Block.takeCmd_rd (b : Block) (h : Hdr) (op a : Nat) : (b.takeCmd h op).rd a = b.rd a := by
  unfold Block.takeCmd
  dsimp only
  (repeat' split) <;> rfl
@[simp] theorem Block.dropLostSaddle_acc (k : Key) (b : Block) (s : Nat) : (Block.dropLostSaddle k b s).acc = b.acc := by
  unfold Block.dropLostSaddle
  split <;> simp
@[simp] theorem Block.dropLostSaddle_ldg (k : Key) (b : Block) (s : Nat) : (Block.dropLostSaddle k b s).ldg = b.ldg := by
  unfold Block.dropLostSaddle
  split <;> simp
@[simp] theorem Block.dropLostSaddle_tim (k : Key) (b : Block) (s : Nat) : (Block.dropLostSaddle k b s).tim = b.tim := by
  unfold Block.dropLostSaddle
  split <;> simp
@[simp] theorem Block.dropLostSaddle_ports (k : Key) (b : Block) (s : Nat) : (Block.dropLostSaddle k b s).ports = b.ports := by
  unfold Block.dropLostSaddle
  split <;> simp
@[simp] theorem Block.dropLostSaddle_ing (k : Key) (b : Block) (s : Nat) : (Block.dropLostSaddle k b s).ing = b.ing := by
  unfold Block.dropLostSaddle
  split <;> simp
@[simp] theorem Block.dropLostSaddle_aln (k : Key) (b : Block) (s : Nat) : (Block.dropLostSaddle k b s).aln = b.aln := by
  unfold Block.dropLostSaddle
  split <;> simp
@[simp] theorem Block.dropLostSaddle_flt (k : Key) (b : Block) (s : Nat) : (Block.dropLostSaddle k b s).flt = b.flt := by
  unfold Block.dropLostSaddle
  split <;> simp
@[simp] theorem Block.dropLostSaddle_nrg (k : Key) (b : Block) (s : Nat) : (Block.dropLostSaddle k b s).nrg = b.nrg := by
  unfold Block.dropLostSaddle
  split <;> simp
@[simp] theorem Block.dropLostSaddle_mod (k : Key) (b : Block) (s : Nat) : (Block.dropLostSaddle k b s).mod = b.mod := by
  unfold Block.dropLostSaddle
  split <;> simp
@[simp] theorem Block.dropLostSaddle_isl (k : Key) (b : Block) (s : Nat) : (Block.dropLostSaddle k b s).isl = b.isl := by
  unfold Block.dropLostSaddle
  split <;> simp
@[simp] theorem Block.dropLostSaddle_grd (k : Key) (b : Block) (s : Nat) : (Block.dropLostSaddle k b s).grd = b.grd := by
  unfold Block.dropLostSaddle
  split <;> simp
@[simp] theorem Block.dropLostSaddle_tdm (k : Key) (b : Block) (s : Nat) : (Block.dropLostSaddle k b s).tdm = b.tdm := by
  unfold Block.dropLostSaddle
  split <;> simp
@[simp] theorem Block.dropLostSaddle_rad (k : Key) (b : Block) (s : Nat) : (Block.dropLostSaddle k b s).rad = b.rad := by
  unfold Block.dropLostSaddle
  split <;> simp
@[simp] theorem Block.dropLostSaddle_top (k : Key) (b : Block) (s : Nat) : (Block.dropLostSaddle k b s).top = b.top := by
  unfold Block.dropLostSaddle
  split <;> simp
@[simp] theorem Block.dropLostSaddle_tx (k : Key) (b : Block) (s : Nat) : (Block.dropLostSaddle k b s).tx = b.tx := by
  unfold Block.dropLostSaddle
  split <;> simp
@[simp] theorem Block.dropLostSaddle_freeCtr (k : Key) (b : Block) (s : Nat) : (Block.dropLostSaddle k b s).freeCtr = b.freeCtr := by
  unfold Block.dropLostSaddle
  split <;> simp
@[simp] theorem Block.dropLostSaddle_rd (k : Key) (b : Block) (s a : Nat) : (Block.dropLostSaddle k b s).rd a = b.rd a := by
  unfold Block.dropLostSaddle
  split <;> simp
@[simp] theorem Block.ycpTake_acc (k : Key) (h : Hdr) (op : Nat) (b : Block) : (b.ycpTake k h op).acc = b.acc := by simp [Block.ycpTake]
@[simp] theorem Block.ycpTake_ldg (k : Key) (h : Hdr) (op : Nat) (b : Block) : (b.ycpTake k h op).ldg = b.ldg := by simp [Block.ycpTake]
@[simp] theorem Block.ycpTake_tim (k : Key) (h : Hdr) (op : Nat) (b : Block) : (b.ycpTake k h op).tim = b.tim := by simp [Block.ycpTake]
@[simp] theorem Block.ycpTake_ports (k : Key) (h : Hdr) (op : Nat) (b : Block) : (b.ycpTake k h op).ports = b.ports := by simp [Block.ycpTake]
@[simp] theorem Block.ycpTake_ing (k : Key) (h : Hdr) (op : Nat) (b : Block) : (b.ycpTake k h op).ing = b.ing := by simp [Block.ycpTake]
@[simp] theorem Block.ycpTake_aln (k : Key) (h : Hdr) (op : Nat) (b : Block) : (b.ycpTake k h op).aln = b.aln := by simp [Block.ycpTake]
@[simp] theorem Block.ycpTake_flt (k : Key) (h : Hdr) (op : Nat) (b : Block) : (b.ycpTake k h op).flt = b.flt := by simp [Block.ycpTake]
@[simp] theorem Block.ycpTake_nrg (k : Key) (h : Hdr) (op : Nat) (b : Block) : (b.ycpTake k h op).nrg = b.nrg := by simp [Block.ycpTake]
@[simp] theorem Block.ycpTake_mod (k : Key) (h : Hdr) (op : Nat) (b : Block) : (b.ycpTake k h op).mod = b.mod := by simp [Block.ycpTake]
@[simp] theorem Block.ycpTake_isl (k : Key) (h : Hdr) (op : Nat) (b : Block) : (b.ycpTake k h op).isl = b.isl := by simp [Block.ycpTake]
@[simp] theorem Block.ycpTake_grd (k : Key) (h : Hdr) (op : Nat) (b : Block) : (b.ycpTake k h op).grd = b.grd := by simp [Block.ycpTake]
@[simp] theorem Block.ycpTake_tdm (k : Key) (h : Hdr) (op : Nat) (b : Block) : (b.ycpTake k h op).tdm = b.tdm := by simp [Block.ycpTake]
@[simp] theorem Block.ycpTake_rad (k : Key) (h : Hdr) (op : Nat) (b : Block) : (b.ycpTake k h op).rad = b.rad := by simp [Block.ycpTake]
@[simp] theorem Block.ycpTake_top (k : Key) (h : Hdr) (op : Nat) (b : Block) : (b.ycpTake k h op).top = b.top := by simp [Block.ycpTake]
/-- Of the recorder, a command that is taken can only offer a record. -/
theorem Block.ycpTake_log (k : Key) (h : Hdr) (op : Nat) (b : Block) :
    (b.ycpTake k h op).log = { b.log with offered := (b.ycpTake k h op).log.offered } := by
  have h1 : (b.takeCmd h op).log = b.log := by
    unfold Block.takeCmd
    dsimp only
    split
    · rfl
    · split <;> rfl
  rw [← h1]
  unfold Block.ycpTake Block.dropLostSaddle
  split
  · unfold Block.releaseSaddle
    split <;> rfl
  · rfl

@[simp] theorem Block.ycpTake_freeCtr (k : Key) (h : Hdr) (op : Nat) (b : Block) : (b.ycpTake k h op).freeCtr = b.freeCtr := by simp [Block.ycpTake]

/-- Taking a packet counts it and changes no other register. -/
theorem Block.ycpTake_rd (k : Key) (h : Hdr) (op : Nat) (b : Block) (a : Nat) :
    (b.ycpTake k h op).rd a =
      if a = Reg.HST_S_CNT_CMD + 0x40 * h.session then BitVec.ofNat 32 (min 0xFFFFFFFF ((b.rd a).toNat + 1)) else b.rd a := by
  unfold Block.ycpTake Block.bump Block.bumpBy
  by_cases ha : a = Reg.HST_S_CNT_CMD + 0x40 * h.session
  · subst ha
    simp
  · simp [ha]

theorem Block.ycpTake_rd_ne (k : Key) (h : Hdr) (op : Nat) (b : Block) (a : Nat) (ha : a ≠ Reg.HST_S_CNT_CMD + 0x40 * h.session) :
    (b.ycpTake k h op).rd a = b.rd a := by simp [Block.ycpTake_rd, ha]

/-- Taking a packet changes no field below the counters of the sessions. -/
@[simp] theorem Block.ycpTake_fld (k : Key) (h : Hdr) (op : Nat) (b : Block) (a hi lo : Nat) (ha : a < 0xD0800) :
    (b.ycpTake k h op).fld ⟨a, hi, lo⟩ = b.fld ⟨a, hi, lo⟩ := by
  have h1 : a ≠ Reg.HST_S_CNT_CMD + 0x40 * h.session := by
    have : Reg.HST_S_CNT_CMD = 0xD0800 := rfl
    omega
  simp [Block.fld, Block.ycpTake_rd_ne _ _ _ _ _ h1]

@[simp] theorem Block.ycpTake_topState (k : Key) (h : Hdr) (op : Nat) (b : Block) : (b.ycpTake k h op).topState = b.topState :=
  Block.ycpTake_fld k h op b _ _ _ (by decide)

@[simp] theorem Block.ycpTake_allowed (k : Key) (h : Hdr) (op n : Nat) (b : Block) : (b.ycpTake k h op).allowed n = b.allowed n := by
  simp [Block.allowed]

theorem Block.takeCmd_sess {α : Type} (b : Block) (h : Hdr) (op j : Nat) (g : Session → α)
    (hg : ∀ x t n, g { x with taken := t, cmdHeld := n } = g x) : g ((b.takeCmd h op).sess j) = g (b.sess j) := by
  unfold Block.takeCmd
  dsimp only
  repeat' split
  · rfl
  all_goals exact Block.sess_modSess_keep b h.session j _ g fun x => hg x _ _

theorem Block.releaseSaddle_sess {α : Type} (b : Block) (r j : Nat) (g : Session → α)
    (hg : ∀ x, g { x with outStage := none, gspStage := none, fwStage := none } = g x) : g ((b.releaseSaddle r).sess j) = g (b.sess j) := by
  unfold Block.releaseSaddle
  split
  · rfl
  · exact Block.sess_modSess_keep b _ j (fun x => { x with outStage := none, gspStage := none, fwStage := none }) g hg

/-- Taking a packet leaves every session's field but the packets it holds, and what a lost saddle discards. -/
theorem Block.ycpTake_sess {α : Type} (k : Key) (h : Hdr) (op j : Nat) (b : Block) (g : Session → α)
    (hg : ∀ x t n, g { x with taken := t, cmdHeld := n } = g x)
    (hs : ∀ x, g { x with outStage := none, gspStage := none, fwStage := none } = g x) : g ((b.ycpTake k h op).sess j) = g (b.sess j) := by
  unfold Block.ycpTake Block.dropLostSaddle
  split
  · rw [Block.releaseSaddle_sess _ _ _ _ hs]
    simp only [Block.bump_sess]
    exact Block.takeCmd_sess _ _ _ _ _ hg
  · simp only [Block.bump_sess]
    exact Block.takeCmd_sess _ _ _ _ _ hg

/-- Taking a packet, where no saddle is lost, leaves every other field of the session. -/
theorem Block.ycpTake_sess_kept {α : Type} (k : Key) (h : Hdr) (op j : Nat) (b : Block) (g : Session → α)
    (hg : ∀ x t n, g { x with taken := t, cmdHeld := n } = g x) (hw : (isUdp h.session && k.withheld) = false) :
    g ((b.ycpTake k h op).sess j) = g (b.sess j) := by
  unfold Block.ycpTake Block.dropLostSaddle
  simp only [hw, Bool.false_and, Bool.false_eq_true, if_false, Block.bump_sess]
  exact Block.takeCmd_sess _ _ _ _ _ hg

@[simp] theorem Block.ycpTake_state (k : Key) (h : Hdr) (op j : Nat) (b : Block) :
    ((b.ycpTake k h op).sess j).state = (b.sess j).state := Block.ycpTake_sess k h op j b (·.state) (fun _ _ _ => rfl) (fun _ => rfl)
@[simp] theorem Block.ycpTake_roles (k : Key) (h : Hdr) (op j : Nat) (b : Block) :
    ((b.ycpTake k h op).sess j).roles = (b.sess j).roles := Block.ycpTake_sess k h op j b (·.roles) (fun _ _ _ => rfl) (fun _ => rfl)
@[simp] theorem Block.ycpTake_pending (k : Key) (h : Hdr) (op j : Nat) (b : Block) :
    ((b.ycpTake k h op).sess j).pending = (b.sess j).pending := Block.ycpTake_sess k h op j b (·.pending) (fun _ _ _ => rfl) (fun _ => rfl)
@[simp] theorem Block.ycpTake_subs (k : Key) (h : Hdr) (op j : Nat) (b : Block) :
    ((b.ycpTake k h op).sess j).subs = (b.sess j).subs := Block.ycpTake_sess k h op j b (·.subs) (fun _ _ _ => rfl) (fun _ => rfl)
@[simp] theorem Block.ycpTake_rpl (k : Key) (h : Hdr) (op j : Nat) (b : Block) :
    ((b.ycpTake k h op).sess j).rpl = (b.sess j).rpl := Block.ycpTake_sess k h op j b (·.rpl) (fun _ _ _ => rfl) (fun _ => rfl)
@[simp] theorem Block.ycpTake_evt (k : Key) (h : Hdr) (op j : Nat) (b : Block) :
    ((b.ycpTake k h op).sess j).evt = (b.sess j).evt := Block.ycpTake_sess k h op j b (·.evt) (fun _ _ _ => rfl) (fun _ => rfl)
@[simp] theorem Block.ycpTake_done (k : Key) (h : Hdr) (op j : Nat) (b : Block) :
    ((b.ycpTake k h op).sess j).done = (b.sess j).done := Block.ycpTake_sess k h op j b (·.done) (fun _ _ _ => rfl) (fun _ => rfl)
@[simp] theorem Block.ycpTake_proved (k : Key) (h : Hdr) (op j : Nat) (b : Block) :
    ((b.ycpTake k h op).sess j).proved = (b.sess j).proved := Block.ycpTake_sess k h op j b (·.proved) (fun _ _ _ => rfl) (fun _ => rfl)

@[simp] theorem Block.ycpTake_hasRole (k k' : Key) (h : Hdr) (op s role : Nat) (b : Block) :
    (b.ycpTake k h op).hasRole k' s role = b.hasRole k' s role := by simp [Block.hasRole, Block.rolesOf]

@[simp] theorem Block.takeCmd_holder (b : Block) (h : Hdr) (op : Nat) : (b.takeCmd h op).hst.holder = b.hst.holder := by
  unfold Block.takeCmd
  dsimp only
  (repeat' split) <;> rfl
@[simp] theorem Block.takeCmd_leaseEnd (b : Block) (h : Hdr) (op : Nat) : (b.takeCmd h op).hst.leaseEnd = b.hst.leaseEnd := by
  unfold Block.takeCmd
  dsimp only
  (repeat' split) <;> rfl

/-- Taking a packet leaves the saddle with its holder, where the holder does not lose it. -/
theorem Block.ycpTake_holder (k : Key) (h : Hdr) (op : Nat) (b : Block) (hw : (isUdp h.session && k.withheld && b.hasSaddle h.session) = false) :
    (b.ycpTake k h op).hst.holder = b.hst.holder := by
  unfold Block.ycpTake Block.dropLostSaddle
  have : ((b.takeCmd h op).bump (Reg.HST_S_CNT_CMD + 0x40 * h.session)).hasSaddle h.session = b.hasSaddle h.session := by
    simp [Block.hasSaddle]
  rw [this, hw]
  simp

/-! ### A ready command reaches its body -/

theorem Ready.precheck {s : State} {h : Hdr} {op : Nat} {q : YReq} (r : Ready s h op q) :
    Block.precheck s.key (s.b.ycpTake s.key h op) h op q = yOk := by
  obtain ⟨_, ha, hr, hs, hp, hl⟩ := r
  unfold Block.precheck
  have h4 : ¬4 ≤ (s.b.sess h.session).pending.length := by omega
  have hsad : (q.saddle && !(s.b.ycpTake s.key h op).hasSaddle h.session) = false := by
    cases hq : q.saddle with
    | false => rfl
    | true =>
      obtain ⟨h1, h2⟩ := hs hq
      have := Block.ycpTake_holder s.key h op s.b (by rw [h2]; rfl)
      simp [Block.hasSaddle, this] at h1 ⊢
      exact h1
  simp [ha, hr, hsad, hp, h4]

/-- A ready command: its body, then its reply. -/
theorem Ready.ycp {s : State} {h : Hdr} {op : Nat} {q : YReq} (r : Ready s h op q) (body : Block → YRes) :
    s.b.ycp s.key h op q body =
      ((body (s.b.ycpTake s.key h op)).b).ycpReply h op (body (s.b.ycpTake s.key h op)).status (body (s.b.ycpTake s.key h op)).payload := by
  simp [Block.ycp, r.precheck]

theorem Ready.ycpK {s : State} {h : Hdr} {op : Nat} {q : YReq} (r : Ready s h op q) (body : Key → Block → KRes) :
    s.b.ycpK s.key h op q body =
      ((body s.key (s.b.ycpTake s.key h op)).k,
       ((body s.key (s.b.ycpTake s.key h op)).b).ycpReply h op (body s.key (s.b.ycpTake s.key h op)).status
         (body s.key (s.b.ycpTake s.key h op)).payload) := by
  simp [Block.ycpK, r.precheck]

/-- A ready command whose body answers a status with a payload and changes the block by a function. -/
theorem Ready.answer {s : State} {h : Hdr} {op : Nat} {q : YReq} (r : Ready s h op q) (body : Block → YRes) (st : Nat) (pl : List Byte)
    (f : Block → Block) (hb : body (s.b.ycpTake s.key h op) = ⟨st, pl, f (s.b.ycpTake s.key h op)⟩) :
    s.b.ycp s.key h op q body = (s.answer h op st pl f).b := by
  rw [r.ycp, hb]
  rfl

end Sys2Proof.Machine
end

