-- ==== Sys2Proof/Tests/Slice0.lean ====
section
/-!
SUPPORT. Tests: small states, and for every statement with hypotheses a state and operands that meet them.
-/
section
set_option Elab.async false

namespace Sys2Proof.Machine

/-- The state after reset with its block changed. -/
def tS (f : Block → Block) : State := { State.reset with b := f Block.reset }

/-- The block in a TOP_STATE. -/
def Block.tIn (st : Nat) (b : Block) : Block := b.put F.TOP_STATE_STATE st

/-- Session 0 open with every role and holding the saddle. -/
def Block.tOpen (b : Block) : Block :=
  { b with hst := { b.hst with
      sessions := { Session.closed with state := 1, roles := 0x1F, cmdSz := 9, rplSz := 9, evtSz := 9 } :: List.replicate 7 .closed,
      holder := some 0, leaseEnd := 1000000000, leaseS := 8 } }

/-- A device in a TOP_STATE with session 0 open. -/
def tIn (st : Nat) (f : Block → Block) : State := tS fun b => f ((b.tIn st).tOpen)

/-- A header of session 0. -/
def tH : Hdr := ⟨0, 7⟩

/-- A running device locked since second 0, its counter at second 20. -/
def tRun : State := tIn 2 fun b => (b.put F.TIM_STAT_STATE 2).modTim fun t => { t with sec := 20, lockTai := some 0, mono := 2500000000 }

/-- The slot at the present second. -/
def tSlot : Slot := { Slot.new (20 * tickS) 8 with dl := some (20 * tickS) }

/-- The running device with that slot open, and with it closed. -/
def tOpenSlot : State := tRun.onB fun _ b => b.modAln fun a => { a with slots := [tSlot] }
def tClosedSlot : State := tRun.onB fun _ b => b.modAln fun a => { a with slots := [{ tSlot with phase := 1, fillDone := true }] }

/-- An output set of two channels, running. -/
def tOut : OutSet := { OutSet.free with state := 2, idcode := 7, div := 1, cmdPort := 4712, dataPort := 4713, amendPort := 4714, port := 2 }

/-- Port 0 and its mate linked under USXGMII, port 4 linked. -/
def tPort : State := tRun.onB fun _ b =>
  ((((((b.put (atPort F.MAC_CTRL_EN 0) 1).put (atPort F.MAC_STAT_LINK 0) 1).put (atPort F.MAC_CTRL_MODE 0) 1).put (atPort F.MAC_STAT_LINK 1) 1).put
    (atPort F.MAC_CTRL_EN 4) 1).put (atPort F.MAC_STAT_LINK 4) 1).put (atPort F.MAC_STAT_RATE 4) 3

/-- A PTP frame of 100 bytes. -/
def tFrame : RxFrame := ⟨100, true, 0x88F7, .ptp, none, 0x112233445566, none, none, none, 0⟩

/-- A source on MGT0, and the words of a PMU spoke with that source. -/
def tSrc : NetSrc := ⟨2, 0x112233445566, 0xFFF, 0x0A000001, 4713⟩
def tWords : List W32 := [1, 0, 0x0FFF0002, 0x11223344, 0x5566, 0x0A000001, 0x12691268, 7, 0, 0, 0, 0, 0, 0x200, 2, 0x03DE001E, 1000, 0]

/-- A running PMU spoke 5 of that source. -/
def tSpoke : Spoke := { Spoke.fresh 5 tWords [] with state := 2 }
def tIng : State := tRun.onB fun _ b => b.setSpokes [tSpoke]

/-- An SV frame of APPID 7, and its spoke. -/
def tSv : SvFrame := { src := ⟨1, 0, 0xFFF, 0, 0⟩, inScope := true, appid := 7, svid := [1], confRev := 1, sim := false, synch := 2, declared := some 0, last := 0, lost := 0, valid0 := true, valid1 := true, arrival := 0, out := [] }
def tVer : SpVer := { ver := 1, since := 0, fs8 := 400, ext := false, kinds := [0, 2], scales := [], format := 0, conf := 0, size := 0, timeBase := 0, rowBase := 0 }
def tSvSpoke : Spoke := { Spoke.fresh 6 (tWords.set 0 2) [1] with state := 2, cur := some tVer }

/-- The running device with its front end on, its bring-up over. -/
def tAfe (f : Block → Block) : State := tRun.onB fun _ b => f ((b.put F.AFE_CTRL_EN 1).put F.FLT_CAL_CTRL_EN 1)

/-- The running device with its energy block on. -/
def tNrg (f : Block → Block) : State := tRun.onB fun _ b => f (b.put F.NRG_CTRL_EN 1)
def tPhase : PhaseCycle := ⟨Q.ofNat 5, Q.ofNat 1, Q.ofNat 6, false⟩
def tCycle : LineCycle := ⟨Q.norm 1 50, tPhase, tPhase, tPhase⟩

/-- The running device with the modal tracker on, and with a watch in context 4 that holds one mode. -/
def tMod : State := tRun.onB fun _ b => b.put F.MOD_CTRL_EN 1
def tModed : State := tMod.onB fun _ b => b.setWatch 4 { b.newWatch true 1 [3] 4 30 5 30 30 with modes := [.fresh 1] }

/-- The running device with islanding on and the closed slot at its stage. -/
def tIsl : State := tRun.onB fun _ b =>
  ((b.put F.ISL_CTRL_EN 1).put F.ISL_CTRL_LOM_EN 1).modAln fun a => { a with slots := [{ tSlot with phase := 1, stage := 1, frame := some [] }] }

/-- A GOOSE message of APPID 7. -/
def tGoose : GooseMsg := ⟨7, 0, 0, 1000, false, false, []⟩

/-- A package whose bell 0 follows ISL item 0, in force; the closed slot at a stage. -/
def tPkg : GspPkg :=
  { magic := 0x4753, format := 1, bind := false, version := 5, topId := 0, device := 0, totalLen := 0, sections := [1, 2, 3, 4, 5, 6, 7, 8],
    groupId := 1, evTimeout := 3, fwWdt := 200, signSlot := 4, envelopes := [], logic := ⟨[[⟨false, 0, 2, 0⟩]], 0, 0, true⟩ :: List.replicate 7 noEntry,
    bellMap := List.replicate 8 3, failsafe := List.replicate 8 2, pinRoles := List.replicate 9 1,
    net := ⟨5000, 0xEF000001, 1, 46, 0xEF000002, 2, 46, 0x3001, 1, 3, 1000, [], [], []⟩, roles := List.replicate 8 31, wellFormed := true }
def tGrd (st : Nat) : State := tRun.onB fun _ b =>
  (b.modGrd fun g => { g with gsp := some tPkg }).modAln fun a => { a with slots := [{ tSlot with phase := 1, stage := st, ends := [1, 2, 3, 4] }] }

/-- A package of 192 bytes whose header and sections are in order, and a state whose key 3 is loaded that has it complete. -/
def tBytes : List Byte := beBytes 2 0x4753 ++ beBytes 2 0x0100 ++ beBytes 4 6 ++ List.replicate 36 0 ++ beBytes 4 192 ++ beBytes 2 8 ++ List.replicate 14 0 ++
  ([1, 2, 3, 4, 5, 6, 7, 8].flatMap fun n => beBytes 2 n ++ [0, 0]) ++ List.replicate 96 0
def tGood : State :=
  { (tGrd 2).onB fun _ b => b.modGrd fun g => { g with checking := [(0, 7, tBytes)] } with
    key := { Key.reset with slots := modAt Key.reset.slots 3 fun x => { x with state := 1 } } }

/-- The same with that package in force. -/
def tSame : State := tGood.onB fun _ b => b.modGrd fun g => { g with gsp := some (readPkg tPkg tBytes), gspDig := Config.sha384 tBytes }

theorem tGood_verdict : verdict tGood.key (tGood.b.modGrd fun g => { g with checking := [] }) (readPkg tPkg tBytes) tBytes true = .accept := by
  decide +kernel
theorem tSame_verdict : verdict tSame.key (tSame.b.modGrd fun g => { g with checking := [] }) (readPkg tPkg tBytes) tBytes true = .same := by
  unfold verdict
  rw [if_neg (by decide +kernel), if_neg (by decide +kernel), if_neg (by decide +kernel), if_neg (by decide +kernel), if_pos]
  simp [tSame, State.onB]

/-- The running device in a tandem whose lane is up, in a TDM state, hearing its partner, whose configuration is the same. -/
def tTdm (st : Nat) (f : Block → Block) : State := tRun.onB fun _ b =>
  f (((((((b.put (atPort F.MAC_CTRL_EN 6) 1).put (atPort F.MAC_STAT_LINK 6) 1).put (atPort F.MAC_STAT_SEC_UP 6) 1).put F.TDM_STAT_STATE st).put
    F.TDM_STAT_CFG_MATCH 1).put F.TDM_CTRL_EN 1).modTdm fun t => { t with enNow := true, hbSeen := true })

/-- Its claim asserted; its slot open with a deadline; its slot closed. -/
def Block.tClaim (b : Block) : Block := b.put F.TDM_STAT_CLAIM 1
def Block.tOpenAt (b : Block) (d : Nat) : Block := b.modAln fun a => { a with slots := [{ tSlot with dl := some d }] }
def tEarlySlot : Slot := { tSlot with dl := some (30 * tickS + Config.earlyLead), bitmap := [5] }
def tEarly : State := tTdm 4 fun b => ((b.tClaim.put F.ALN_CTRL_EARLY_EN 1).setSpokes [{ tSpoke with member := true }]).modAln fun a => { a with slots := [tEarlySlot] }
theorem tEarly_late : tEarly.b.tai + tEarly.b.leadUs * tickUs < tEarlySlot.dl.getD 0 := by
  have h : tEarly.b.tai + tEarly.b.leadUs * tickUs < 30 * tickS := by decide +kernel
  show _ < 30 * tickS + Config.earlyLead
  omega
theorem tEarly_may : tEarly.b.mayCutEarly tEarlySlot (tEarly.b.tai + 60 * tickUs + Config.earlyLead) = true := by
  unfold Block.mayCutEarly
  have h1 : tEarly.b.captain = true := by decide +kernel
  have h0 : tEarly.b.inExchange = true := by decide +kernel
  have h9 : tEarlySlot.dl.isSome = true := rfl
  have h10 : tEarlySlot.cutSent = false := rfl
  have h11 : (tEarlySlot.phase == 0) = true := rfl
  have h2 : tEarly.b.flag F.ALN_CTRL_EARLY_EN = true := by decide +kernel
  have h3 : tEarly.b.members.isEmpty = false := by decide +kernel
  have h4 : tEarly.b.members.all tEarlySlot.bitmap.contains = true := by decide +kernel
  have h5 : tEarly.b.tai + 60 * tickUs + tEarly.b.leadUs * tickUs ≤ 30 * tickS := by decide +kernel
  have h6 : tEarly.b.aln.lastC + tickMs ≤ tEarly.b.tai := by decide +kernel
  have h7 : tEarlySlot.early = false := rfl
  have h8 : tEarlySlot.dl.getD 0 = 30 * tickS + Config.earlyLead := rfl
  simp only [h0, h1, h2, h3, h4, h7, h8, h9, h10, h11, Bool.not_false, Bool.and_self, Bool.true_and, decide_eq_true_eq]
  omega
def Block.tClosedAt (b : Block) : Block := b.modAln fun a => { a with slots := [{ tSlot with phase := 1, c := 20 * tickS }] }

/-- A running coordinator with a usable key, one association in slot 3; a frame of it and one of a joining sensor. -/
def tAssoc : Assoc := { Assoc.empty with en := true, eui := 9, state := 2, slot := 3, relayCap := true, sup := 1000 }
def tRad (f : Block → Block) : State :=
  { tRun.onB fun _ b => f ((((((b.put F.RAD_CTRL_EN 1).put F.RAD_CTRL_ASSOC_EN 1).put F.RAD_CTRL_RELAY_EN 1).put F.RAD_ID_PAN_ID 5).wr Reg.RAD_KEYMAP 30).put F.RAD_SEC_RX_EN 15
      |>.modRad fun r => { r with started := true, entries := [(0, tAssoc), (1, { Assoc.empty with en := true, eui := 10 })], sfn := 100, origin := 100 * sfTicks }) with
    key := { Key.reset with slots := modAt Key.reset.slots 30 fun x => { x with state := 1 } } }
def tRadF : RadFrame := ⟨40, false, true, 5, 0, some 1, 0, true, 1, true, 7, 10, 3000, 20 * tickS⟩
def tRadJ : RadFrame := { tRadF with srcShort := none, srcEui := 10 }
/-- The same in a tandem, listening. -/
def tListen (f : Block → Block) : State :=
  { tTdm 4 fun b => f (((b.put F.RAD_CTRL_EN 1).put F.RAD_CTRL_ASSOC_EN 1).modRad fun r => { r with started := true, sfn := 100, entries := [(0, tAssoc)] }) with key := (tRad id).key }

/-- A header of UDP session 4, the running device with that session open too, and its SADDLE_DROP packet. -/
def tHU : Hdr := ⟨4, 7⟩
def tUdp : State := tRun.onB fun _ b => (b.put F.HST_CTRL_UDP_MGT0 1).modSess 4 fun x =>
  { x with state := 1, roles := 0x1F, proved := 0x1F, cmdSz := 9, rplSz := 9, evtSz := 9, peerIp := 1, peerPort := 2, rpl := { x.rpl with size := 72, mark := some 0 }, evt := { x.evt with size := 72 } }
def tPkt (s op : Nat) : List Byte :=
  let l := beBytes 2 0x5943 ++ beBytes 1 1 ++ beBytes 1 s ++ beBytes 2 0 ++ beBytes 2 op ++ beBytes 2 9 ++ beBytes 2 0 ++ beBytes 1 0 ++ beBytes 1 0 ++ beBytes 2 0
  l ++ beBytes 4 (crc32c l).toNat
def tDatagram : Datagram := ⟨1, 2, 0, (tUdp.b.fld F.HST_CTRL_UDP_PORT), tPkt 4 5, 3, ycpMac 0 (tPkt 4 5) 3⟩

/-- The running device with the OBSERVER credential's slot loaded. -/
def tHello : State := { tRun with key := { Key.reset with slots := modAt Key.reset.slots 14 fun x => { x with state := 1 } } }

/-- The running device with a key loaded in slot 3. -/
def tKeyed : State := { tRun with key := { Key.reset with slots := modAt Key.reset.slots 3 fun x => { x with state := 1, engine := 8 } } }

/-- The running device whose TIME_MARK and first chain are written, a record offered; that record's neighbour queued; slot 2 loaded. -/
def tRecOf (src code : Nat) : Rec := ⟨code, src, false, 1, 2, 3, 4⟩
def tQueued : LogRec := ⟨0, 0x0702, 2, 32, 0, 1, 2, 3, 4, 0⟩
def tRec (f : Block → Block) : State := tRun.onB fun _ b => f (b.modLog fun l => { l with offered := [tRecOf 2 0x0702], marked := true, markTick := 2500000000, chainDue := false })
def tSealKey : Key := { Key.reset with slots := modAt Key.reset.slots 2 fun x => { x with state := 1 } }

/-- What a boot loader finds: both banks valid. -/
def tFind : BootFind := ⟨0, ⟨true, 3, 0⟩, ⟨true, 3, 0⟩, ⟨true, 1, 0⟩, []⟩

/-- A provisioned device: its key block is sound. -/
def tProv : State := { tRun with key := { Key.reset with lcs := 1, lcsA := some 1, lcsB := some 1 } }
theorem tProv_sound : tProv.key.Sound := by
  refine ⟨by simp [tProv, Key.reset], ?_, by simp [tProv, Key.reset], rfl, by simp [tProv], by simp [tProv]⟩
  intro j x hx
  simp only [tProv, Key.reset, List.getElem?_replicate] at hx
  split at hx
  · simp at hx; subst hx; exact KeySlot.empty_sound _ _ _
  · simp at hx

end Sys2Proof.Machine

open Sys2Proof Sys2Proof.Machine


theorem test_meets_StepRunsTheFrontCommand :
    (∃ (c : Instr) (rest : List Instr) (s : State), (s.pending = c :: rest)) :=
  ⟨.gateOpen, [.dbgReset], { State.reset with pending := [.gateOpen, .dbgReset] }, by decide +kernel⟩

theorem test_meets_EmptyQueueIsOneTick :
    (∃ (s : State), (s.pending = [])) :=
  ⟨State.reset, by decide +kernel⟩

theorem test_meets_CommandFailingAChecksIsAnsweredAndDoesNothing :
    (∃ (c : Instr) (s : State) (h : Hdr) (op : Nat) (q : YReq), (needOf c = some (h, op, q)) ∧ ((s.b.ycpTake s.key h op).allowed op = false ∨ (s.b.ycpTake s.key h op).hasRole s.key h.session (q.role.getD roleObs) = false)) ∧
    (∃ (c : Instr) (s : State) (h : Hdr) (op : Nat) (q : YReq), (needOf c = some (h, op, q)) ∧ ((s.b.ycpTake s.key h op).allowed op = true) ∧ ((s.b.ycpTake s.key h op).hasRole s.key h.session (q.role.getD roleObs) = true) ∧ (q.saddle = true) ∧ ((s.b.ycpTake s.key h op).hasSaddle h.session = false)) ∧
    (∃ (c : Instr) (s : State) (h : Hdr) (op : Nat) (q : YReq), (needOf c = some (h, op, q)) ∧ ((s.b.ycpTake s.key h op).allowed op = true) ∧ ((s.b.ycpTake s.key h op).hasRole s.key h.session (q.role.getD roleObs) = true) ∧ ((q.saddle && !(s.b.ycpTake s.key h op).hasSaddle h.session) = false) ∧ (((s.b.ycpTake s.key h op).sess h.session).pending.any (fun e => e.1 == h.tag) = true ∨ 4 ≤ ((s.b.ycpTake s.key h op).sess h.session).pending.length)) :=
  ⟨⟨.saddleDrop tH, State.reset, tH, 0x0005, ⟨some roleEng, true⟩, by exact ⟨rfl, by decide +kernel⟩⟩,
    ⟨.saddleDrop tH, tIn 2 (fun b => { b with hst := { b.hst with holder := some 1 } }), tH, 0x0005, ⟨some roleEng, true⟩, by exact ⟨rfl, by decide +kernel⟩⟩,
    ⟨.saddleDrop tH, tIn 2 (fun b => b.modSess 0 fun x => { x with pending := [(7, 0x0C01)] }), tH, 0x0005, ⟨some roleEng, true⟩, by exact ⟨rfl, by decide +kernel⟩⟩⟩

theorem test_meets_EveryStepKeepsTheKeyBlockSound :
    (∃ (s t : State), (s.key.Sound) ∧ (step s = .next t)) :=
  ⟨tProv, tProv.onB fun _ => idleTick, by exact ⟨tProv_sound, rfl⟩⟩

theorem test_meets_LifeCycleNeverFalls :
    (∃ (s t : State), (s.key.Sound) ∧ (step s = .next t)) :=
  ⟨tProv, tProv.onB fun _ => idleTick, by exact ⟨tProv_sound, rfl⟩⟩

theorem test_meets_LedgerCommandsTakeEffect :
    (∃ (s : State) (cls : Nat) (x : Slot), (cls < 5) ∧ ((s.b.aln.slots.find? fun x => x.ovrDue.contains cls) = some x) ∧ (s.b.level ≠ 19) ∧ (s.b.ldg.raiseSlot ≠ some x.s)) ∧
    (∃ (s : State), (s.b.fld F.ALN_LDG_CTRL_RESTORE_SLOTS ≤ s.b.fld F.ALN_LDG_STAT_CLEAN_SLOTS) ∧ (s.b.shedMode ≠ 1) ∧ (s.b.levelDown s.b.level < s.b.level)) ∧
    (∃ (s : State) (acc : Nat), (s.b.mayWrite s.key acc roleEng true = yOk)) ∧
    (∃ (s : State) (acc : Nat) (value : W32), (s.b.mayWrite s.key acc roleEng true = yOk) ∧ (bits value 1 0 < 3) ∧ (s.b.shedForbidden (bits value 1 0) (min 19 (bits value 8 4)) = false) ∧ (value.getLsbD 31 = false)) ∧
    (∃ (s : State) (acc : Nat) (value : W32), (s.b.mayWrite s.key acc roleEng true = yOk) ∧ (sharesOk value (s.b.rd Reg.ALN_LDG_SHARE_B) = true)) :=
  ⟨⟨tS fun b => { b with aln := { b.aln with slots := [{ Slot.new 100 8 with phase := 1, ovrDue := [2] }] } }, 2, { Slot.new 100 8 with phase := 1, ovrDue := [2] }, by decide +kernel⟩,
    ⟨tS fun b => (b.put F.ALN_LDG_STAT_LEVEL 2).put F.ALN_LDG_STAT_CLEAN_SLOTS 300, by decide +kernel⟩,
    ⟨State.reset, accFw, by decide +kernel⟩,
    ⟨State.reset, accFw, 0x00200012#32, by decide +kernel⟩,
    ⟨State.reset, accFw, 0x0A191E14#32, by decide +kernel⟩⟩

theorem test_meets_TimeSourceEventsTakeEffect :
    (∃ (s : State) (src origin arrival n : Nat), (src < 6) ∧ ((s.b.src src).announced = some n) ∧ (s.b.timSrc ≠ src)) ∧
    (∃ (s : State) (src bound : Nat), (src < 6) ∧ (s.b.timSrc ≠ src)) ∧
    (∃ (s : State) (port seq turn : Nat), (port < 6) ∧ (s.b.portUp port = true) ∧ (72 ≤ (s.b.rd (Reg.MAC_MAXLEN + 0x1000 * port)).toNat)) ∧
    (∃ (s : State) (port arrival turn t1 : Nat), (s.b.tim.pdelayReq[port]? = some (some t1))) ∧
    (∃ (s : State) (stamp : Nat), (s.b.tim.todArmed = true)) ∧
    (∃ (s : State), ((s.b.src 6).valid = true)) :=
  ⟨⟨tS fun b => b.modSrc 1 fun x => { x with announced := some 50 }, 1, 0, 0, 50, by decide +kernel⟩,
    ⟨State.reset, 0, 100, by decide +kernel⟩,
    ⟨tIn 2 (fun b => (b.put F.MAC_CTRL_EN 1).put F.MAC_STAT_LINK 1), 0, 9, 500, by decide +kernel⟩,
    ⟨tS fun b => b.modTim fun t => { t with pdelayReq := [some 5] }, 0, 905, 100, 5, by decide +kernel⟩,
    ⟨tS fun b => b.modTim fun t => { t with todArmed := true }, 4000000100, by decide +kernel⟩,
    ⟨tS fun b => b.modSrc 6 fun x => { x with valid := true }, by decide +kernel⟩⟩

theorem test_meets_TimeBaseTransitionsTakeEffect :
    (∃ (s : State), (s.b.timState = tmAcquire) ∧ (s.b.srcUsable s.b.timSrc = false) ∧ (s.b.bestSrc s.b.srcUsable = none) ∧ (s.b.tim.lockedOnce = false)) ∧
    (∃ (s : State) (k : Nat), (s.b.timState = tmLocked) ∧ (s.b.bestSrc s.b.srcHeld = some k)) ∧
    (∃ (s : State), (s.b.timState = tmAcquire) ∧ (s.b.fld F.TIM_SERVO_LOCK_CNT ≤ s.b.tim.nGood)) ∧
    (∃ (s : State) (m : Int), (s.b.tim.stepDue = some m) ∧ ((s.b.aln.slots.any fun x => x.phase == 0 || (x.stepClose && decide (x.stage < 3))) = false) ∧ (s.b.aln.stepLast.isNone = true)) ∧
    (∃ (s : State), (s.b.timState = tmFree)) ∧
    (∃ (s : State) (acc : Nat), (s.b.mayWrite s.key acc roleEng true = yOk)) ∧
    (∃ (s : State) (acc : Nat) (value : W32), (s.b.mayWrite s.key acc roleEng true = yOk) ∧ ((value.getLsbD 4 && !s.b.srcAllowed (min 7 (bits value 3 0))) = false)) ∧
    (∃ (s : State), (s.b.leapDue = true)) :=
  ⟨⟨tS fun b => (b.put F.TIM_STAT_STATE 1).put F.TIM_STAT_SRC 2, by decide +kernel⟩,
    ⟨tS fun b => (((b.put F.TIM_STAT_STATE 2).put F.TIM_STAT_SRC 2).modSrc 3 fun x => { x with valid := true, lastTick := 9000000000, betterAt := some 0 }).modTim fun t => { t with mono := 9000000000 }, 3, by decide +kernel⟩,
    ⟨tS fun b => (b.put F.TIM_STAT_STATE 1).modTim fun t => { t with nGood := 100 }, by decide +kernel⟩,
    ⟨tS fun b => b.modTim fun t => { t with stepDue := some 5000000 }, 5000000, by decide +kernel⟩,
    ⟨tS fun b => b.put F.TIM_STAT_STATE 3, by decide +kernel⟩,
    ⟨State.reset, accFw, by decide +kernel⟩,
    ⟨State.reset, accFw, 0xFF280A13#32, by decide +kernel⟩,
    ⟨tS fun b => (b.put F.TIM_UTC_LEAP_PEND 1).modTim fun t => { t with sec := 37 }, by decide +kernel⟩⟩

theorem test_meets_TimeOutputsTakeEffect :
    (∃ (s : State), (s.b.flag F.TIM_PPS_OUT_EN = true) ∧ (s.b.timState ≠ tmInit) ∧ (s.b.devClass ≤ s.b.fld F.TIM_PPS_OUT_SQUELCH_TQ)) ∧
    (∃ (s : State) (port phase : Nat), (port < 4) ∧ (s.b.timSrc ≠ port) ∧ (s.b.portUp port = true) ∧ (64 ≤ (s.b.rd (Reg.MAC_MAXLEN + 0x1000 * port)).toNat)) ∧
    (∃ (s : State) (port phase : Nat), (port < 6) ∧ (s.b.portUp port = true) ∧ (72 ≤ (s.b.rd (Reg.MAC_MAXLEN + 0x1000 * port)).toNat)) ∧
    (∃ (s : State) (port : Nat), (port < 4) ∧ (s.b.timSrc ≠ port) ∧ (s.b.portUp port = true) ∧ (82 ≤ (s.b.rd (Reg.MAC_MAXLEN + 0x1000 * port)).toNat)) :=
  ⟨⟨tS fun b => ((b.put F.TIM_PPS_OUT_EN 1).put F.TIM_STAT_STATE 2).put F.TIM_STAT_TQ 0, by decide +kernel⟩,
    ⟨tIn 2 (fun b => (b.put F.MAC_CTRL_EN 1).put F.MAC_STAT_LINK 1), 0, 9, by decide +kernel⟩,
    ⟨tIn 2 (fun b => (b.put F.MAC_CTRL_EN 1).put F.MAC_STAT_LINK 1), 0, 9, by decide +kernel⟩,
    ⟨tIn 2 (fun b => (b.put F.MAC_CTRL_EN 1).put F.MAC_STAT_LINK 1), 0, by decide +kernel⟩⟩

theorem test_meets_SlotsOpenCloseFillAndSettle :
    (∃ (s : State) (sl code : Nat) (b1 b2 b3 b4 b5 b6 : Block) (q : SlotBudget) (d : Nat), (s.b.slotsRun = true) ∧ (s.b.tim.stepDue = none) ∧ (sl ≤ s.b.tai) ∧ (code = s.b.codeAt sl) ∧ (onGrid (cadenceOf code) sl = true) ∧ (s.b.follows sl = true) ∧ (b1 = (Block.dropStore (s.b.modAln fun a => { a with slots := a.slots.filter fun x => !(x.phase == 0 && x.dl.isNone && decide (x.s < sl)) })).openSlot sl) ∧ (q = b1.slotBudget code) ∧ (b2 = ((b1.waitNow q).modAln fun a => { a with slots := a.slots.map fun x => if x.s ≤ slotBefore (cadenceOf code) sl 16 then { x with frame := none } else x })) ∧ (b3 = b2.modSlot sl fun x => x.start b2 q code (max (sl + q.w * tickUs) (b2.aln.lastD + tickMs))) ∧ (d = ((b3.slot sl).bind Slot.dl).getD 0) ∧ (b4 = (b3.modAln fun a => { a with lastS := some sl, lastD := d })) ∧ (b5 = b4.ing.spokes.foldl (fun b x => b.holdInto sl x) b4) ∧ (b6 = b5.modGrd fun u => { u with sched := ((sl, d) :: b5.grd.sched).take 256 })) ∧
    (∃ (s : State) (sl run : Nat) (reads : DramReads) (x : Slot) (b1 b2 b3 b4 : Block) (early step inc prevOvr : Bool) (miss : Nat), (s.b.slot sl = some x) ∧ (s.b.slotsRun = true) ∧ (s.b.closable x = true) ∧ (step = s.b.tim.stepDue.isSome) ∧ (early = (x.early || (!step && decide (s.b.tai < x.dl.getD 0)))) ∧ (miss = s.b.members.countP fun n => !x.bitmap.contains n) ∧ (prevOvr = ((s.b.closedBefore sl).map fun p => p.ovr != 0).getD false) ∧ (b1 = ((s.b.dramReads sl reads).modSlot sl fun x => x.close (s.b.dramReads sl reads) miss early step).freezeUnion sl) ∧ (b2 = if early then b1.bump Reg.ALN_CNT_EARLY_CLOSE else b1) ∧ (b3 = ((if miss = 0 then b2 else b2.missBump).closeEffects sl step).fastFill sl) ∧ (b4 = b3.modSlot sl fun x => { x with due := b3.framesDue sl x.code }) ∧ (inc = ((b4.slot sl).map Slot.incomplete).getD false)) ∧
    (∃ (s : State) (sl : Nat) (reads : DramReads) (x : Slot), (s.b.slot sl = some x) ∧ (x.phase ≠ 0)) ∧
    (∃ (s : State) (sl : Nat) (x : Slot) (b1 b2 : Block), (s.b.slot sl = some x) ∧ (x.phase = 1) ∧ (x.fillDone = true) ∧ ((x.stepClose || decide (x.dl.getD 0 + x.hzn ≤ s.b.tai)) = true) ∧ (b1 = s.b.modSlot sl fun x => { x with phase := 2 }) ∧ (b2 = Block.dropOld (if x.amends = 0 then b1 else ((b1.modAln fun a => { a with aseq := (a.aseq + 1) % 2 ^ 32 }).event 0 noticeAdmits (settleNotice s.b.aln.aseq sl x.amends))))) :=
  ⟨⟨tRun, 20 * tickS, _, _, _, _, _, _, _, _, _, by exact ⟨by decide +kernel, by decide +kernel, by decide +kernel, rfl, by decide +kernel, by decide +kernel, rfl, rfl, rfl, rfl, rfl, rfl, rfl, rfl⟩⟩,
    ⟨tOpenSlot, 20 * tickS, 100, ⟨[], 0⟩, _, _, _, _, _, _, _, _, _, _, by exact ⟨rfl, by decide +kernel, by decide +kernel, rfl, rfl, rfl, rfl, rfl, rfl, rfl, rfl, rfl⟩⟩,
    ⟨tClosedSlot, 20 * tickS, ⟨[], 0⟩, _, by exact ⟨rfl, by decide +kernel⟩⟩,
    ⟨tClosedSlot, 20 * tickS, _, _, _, by exact ⟨rfl, by decide +kernel, by decide +kernel, by decide +kernel, rfl, rfl⟩⟩⟩

theorem test_meets_WaitBudgetAndCadenceCommandsTakeEffect :
    (∃ (s : State) (target w w' : Nat), (s.b.ing.spokes.any (·.member) = true) ∧ (target = s.b.largestP99 * (100 + s.b.fld F.ALN_WAIT_CTRL_MARGIN_PCT) / 100 + 100 * s.b.fld F.ALN_WAIT_CTRL_MARGIN_ABS) ∧ (w = if s.b.aln.wSet then s.b.aln.w else s.b.waitMax) ∧ (w' = if w ≤ target then target else w - (w - target) >>> clampNat 1 8 (s.b.fld F.ALN_WAIT_CTRL_DECAY_SH))) ∧
    (∃ (s : State), (s.b.ing.spokes.any (·.member) = false) ∧ (s.b.aln.wSet = false)) ∧
    (∃ (s : State) (acc : Nat) (value : W32), (s.b.mayWrite s.key acc roleEng true = yOk) ∧ (clampNat 500 250000 (bits value 17 0) ≤ s.b.waitMax)) ∧
    (∃ (s : State) (acc : Nat) (value : W32), (s.b.mayWrite s.key acc roleEng true = yOk) ∧ (s.b.waitMin ≤ clampNat 500 250000 (bits value 17 0))) ∧
    (∃ (s : State) (acc : Nat) (value : W32), (s.b.mayWrite s.key acc roleEng true = yOk) ∧ (s.b.waitMax < clampNat 500 250000 (bits value 17 0))) ∧
    (∃ (s : State) (h : Hdr) (code : Nat), (Ready s h 0x0301 ⟨some roleEng, true⟩) ∧ (s.b.topState = stRun ∨ s.b.topState = stMaint) ∧ (code < 14) ∧ ((s.b.ycpTake s.key h 0x0301).cadenceFits (cadenceOf code) = true)) ∧
    (∃ (s : State) (acc code : Nat), (s.b.mayWrite s.key acc roleEng true = yOk) ∧ (s.b.topState = stRun ∨ s.b.topState = stMaint) ∧ (code < 14) ∧ (s.b.cadenceFits (cadenceOf code) = true)) ∧
    (∃ (s : State) (code t : Nat) (rest : List (Nat × Nat)) (b1 b2 : Block), (s.b.aln.cadPend = (code, t) :: rest) ∧ (t * tickS ≤ s.b.tai) ∧ (b1 = (((s.b.modAln fun a => { a with cadPend := rest }).put F.ALN_CADENCE_ACTIVE code).putFlag F.ALN_CADENCE_PEND (!rest.isEmpty))) ∧ (b2 = b1.setSpokes (b1.ing.spokes.map fun x => if x.type = 2 ∨ x.type = 4 ∨ x.type = 5 then { x with cur := x.cur.map fun v => { v with fs8 := 8 * cadenceOf code } } else x))) :=
  ⟨⟨tS fun b => b.modIng fun u => { u with spokes := [{ Spoke.fresh 5 [] [] with member := true }] }, _, _, _, by exact ⟨rfl, rfl, rfl, rfl⟩⟩,
    ⟨State.reset, by decide +kernel⟩,
    ⟨State.reset, accFw, 600#32, by decide +kernel⟩,
    ⟨State.reset, accFw, 60000#32, by decide +kernel⟩,
    ⟨tS fun b => b.put F.ALN_WAIT_MAX_MAX 1000, accFw, 2000#32, by decide +kernel⟩,
    ⟨tIn 2 id, tH, 8, by decide +kernel⟩,
    ⟨tS (Block.tIn 2), accFw, 8, by decide +kernel⟩,
    ⟨tS fun b => b.modAln fun a => { a with cadPend := [(8, 0)] }, 8, 0, [], _, _, by exact ⟨rfl, by decide +kernel, rfl, rfl⟩⟩⟩

theorem test_meets_OutputSetCommandsTakeEffect :
    (∃ (s : State) (set sl : Nat) (x y : Slot) (b1 : Block), (s.b.slot sl = some x) ∧ (x.due.contains set = true) ∧ (5 ≤ x.stage) ∧ (b1 = (s.b.fillRow sl).modSlot sl fun x => { x with due := x.due.filter (· != set) }) ∧ (b1.slot sl = some y) ∧ ((b1.out set).state = 2)) ∧
    (∃ (s : State) (set sl : Nat) (x y : Slot) (b1 : Block), (s.b.slot sl = some x) ∧ ((s.b.out set).amendDue.contains sl = true) ∧ ((s.b.out set).amendPort ≠ 0) ∧ ((s.b.out set).state = 2) ∧ (s.b.isShed set = false) ∧ (s.b.amendFree set sl x = true) ∧ (b1 = (s.b.fillRow sl).modOut set fun o => { o with amendDue := o.amendDue.filter (· != sl), amendAt := if x.phase = 2 then tabDel o.amendAt sl else tabSet o.amendAt sl s.b.now }) ∧ (b1.slot sl = some y)) ∧
    (∃ (s : State) (h : Hdr) (set : Nat) (words : List W32) (entries : List OutEntry) (o : OutSet), (Ready s h 0x0302 ⟨some roleEng, true⟩) ∧ (set < 16) ∧ ((s.b.out set).state = 0) ∧ (o = OutSet.ofWords words entries (rateExt s.b.f0 (s.b.cadence / max 1 (bits (words.getD 2 0) 23 16)))) ∧ (outListOk o = true) ∧ (outRateOk s.b.cadence (bits (words.getD 2 0) 23 16) = true) ∧ (o.port ≤ 3) ∧ (s.b.aln.outs.length = 16)) ∧
    (∃ (s : State) (h : Hdr) (set : Nat) (words : List W32) (entries : List OutEntry), (Ready s h 0x0302 ⟨some roleEng, true⟩) ∧ (set < 16)) ∧
    (∃ (s : State) (src : NetSrc) (idcode i : Nat) (o : OutSet), ((s.b.aln.outs.zipIdx.find? fun e => e.1.state != 0 && e.1.cmdPort == src.dport && e.1.idcode == idcode && e.1.port == src.port) = some (o, i))) ∧
    (∃ (s : State) (i t : Nat) (o : OutSet), (s.b.aln.outPend.getD i none = some (t, o)) ∧ (t ≤ s.b.tai) ∧ (outRateOk s.b.cadence o.div = true)) ∧
    (∃ (s : State) (acc set : Nat), (s.b.mayWrite s.key acc roleObs false = yOk)) :=
  ⟨⟨tClosedSlot.onB fun _ b => b.modAln fun a => { a with slots := [{ tSlot with phase := 1, fillDone := true, stage := 5, due := [0] }], outs := [tOut] }, 0, 20 * tickS, _, _, _, by exact ⟨rfl, by decide +kernel, by decide +kernel, rfl, rfl, by decide +kernel⟩⟩,
    ⟨tClosedSlot.onB fun _ b => b.modAln fun a => { a with outs := [{ tOut with amendDue := [20 * tickS] }] }, 0, 20 * tickS, _, _, _, by exact ⟨rfl, by decide +kernel, by decide +kernel, by decide +kernel, by decide +kernel, by decide +kernel, rfl, rfl⟩⟩,
    ⟨tRun, tH, 3, [0, 7, 0x10000, 0, 0, 0, 0, 0, 0], [], _, by exact ⟨by decide +kernel, by decide +kernel, by decide +kernel, rfl, by decide +kernel, by decide +kernel, by decide +kernel, by decide +kernel⟩⟩,
    ⟨tRun, tH, 3, [], [], by decide +kernel⟩,
    ⟨tS fun b => b.modAln fun a => { a with outs := [tOut] }, ⟨2, 0, 0, 0, 4712⟩, 7, 0, tOut, by decide +kernel⟩,
    ⟨tRun.onB fun _ b => b.modAln fun a => { a with outPend := [some (0, tOut)] }, 0, 0, tOut, by decide +kernel⟩,
    ⟨State.reset, accFw, 3, by decide +kernel⟩⟩

theorem test_meets_CaptureAndRowReadCommandsTakeEffect :
    (∃ (s : State) (h : Hdr) (bay pre post mask i : Nat), (Ready s h 0x0303 ⟨some roleEng, true⟩) ∧ (bay < 8 ∨ bay = 0xFF) ∧ (pre ≤ 600000) ∧ (post ≤ 600000) ∧ (s.b.bayFor bay = some i) ∧ ((s.taken h 0x0303).bayMib pre post ≤ (s.taken h 0x0303).poolFree)) ∧
    (∃ (s : State) (h : Hdr) (bay pre post trigger mask sec ns : Nat), (Ready s h 0x0303 ⟨some roleEng, true⟩) ∧ (bay < 8)) ∧
    (∃ (s : State) (i sl : Nat) (x : Slot), (s.b.slot sl = some x) ∧ (s.b.triggers (s.b.bay i) x = true) ∧ ((s.b.bay i).state = 1)) ∧
    (∃ (s : State) (i sl : Nat) (x : Slot), (s.b.slot sl = some x) ∧ (s.b.triggers (s.b.bay i) x = true) ∧ ((s.b.bay i).state = 2) ∧ ((s.b.bay i).trigS ≠ sl)) ∧
    (∃ (s : State) (i : Nat) (reads : DramReads) (x z : Slot) (b1 b2 b3 : Block) (row : List Byte), ((s.b.bay i).state = 2) ∧ (b1 = s.b.missRows i (s.b.lostRows (s.b.bay i))) ∧ ((b1.aln.slots.find? fun x => decide ((b1.bay i).from_ ≤ x.s ∧ x.s ≤ (b1.bay i).window.2)) = some x) ∧ (x.phase = 2) ∧ (b2 = b1.dramReads x.s reads) ∧ (z = (b2.slot x.s).getD x) ∧ (row = b2.rowBytes z (granules z.active)) ∧ ((b1.bay i).used + (row.length - 64) ≤ (b1.bay i).sizeMib * 2 ^ 20) ∧ (b3 = b2.modBay i fun y => { y with rows := tabSet y.rows z.s (some row) })) ∧
    (∃ (s : State) (acc bay : Nat), (s.b.mayWrite s.key acc roleEng true = yOk)) ∧
    (∃ (s : State) (acc bay : Nat), (s.b.mayWrite s.key acc roleObs false = yOk)) ∧
    (∃ (s : State) (h : Hdr) (bay first rows : Nat), (Ready s h 0x0304 ⟨some roleObs, false⟩) ∧ (bay < 8) ∧ (((slice (s.b.bay bay).rows first rows).flatMap bayRow).length ≤ 2 ^ 24)) ∧
    (∃ (s : State) (h : Hdr) (slot first grans : Nat) (reads : DramReads) (x y : Slot) (b1 : Block), (Ready s h 0x0305 ⟨some roleObs, false⟩) ∧ ((s.b.aln.slots.find? fun x => x.s % 2 ^ 48 == slot) = some x) ∧ (b1 = ((s.taken h 0x0305).dramReads x.s reads).fillRow x.s) ∧ (y = (b1.slot x.s).getD x) ∧ (first + grans ≤ (granules (b1.rowRuns y)).length)) :=
  ⟨⟨tRun, tH, 0xFF, 1000, 1000, 3, 0, by decide +kernel⟩,
    ⟨tRun, tH, 2, 0, 0, 0, 0, 0, 0, by decide +kernel⟩,
    ⟨tClosedSlot.onB fun _ b => b.modBay 0 fun y => { y with state := 1 }, 0, 20 * tickS, _, by exact ⟨rfl, by decide +kernel, by decide +kernel⟩⟩,
    ⟨tClosedSlot.onB fun _ b => b.modBay 0 fun y => { y with state := 2 }, 0, 20 * tickS, _, by exact ⟨rfl, by decide +kernel, by decide +kernel, by decide +kernel⟩⟩,
    ⟨tRun.onB fun _ b => b.modAln fun a => { a with lostS := 19 * tickS, slots := [{ tSlot with phase := 2 }], bays := [{ Bay.free with state := 2, trigS := 20 * tickS, post := 10, sizeMib := 1 }] }, 0, ⟨[], 0⟩, _, _, _, _, _, _, by exact ⟨by decide +kernel, rfl, rfl, by decide +kernel, rfl, rfl, rfl, by decide +kernel, rfl⟩⟩,
    ⟨State.reset, accFw, 3, by decide +kernel⟩,
    ⟨State.reset, accFw, 3, by decide +kernel⟩,
    ⟨tRun, tH, 2, 0, 4, by decide +kernel⟩,
    ⟨tClosedSlot, tH, (20 * tickS) % 2 ^ 48, 0, 0, ⟨[], 0⟩, _, _, _, by exact ⟨by decide +kernel, rfl, rfl, rfl, by decide +kernel⟩⟩⟩

theorem test_meets_ReceivedFramesMeetTheirChecksInOrder :
    (∃ (s : State) (p : Nat) (f : RxFrame), (p < 7) ∧ (s.b.portUp p = true) ∧ (f.length < 64)) ∧
    (∃ (s : State) (p : Nat) (f : RxFrame), (p < 7) ∧ (s.b.portUp p = true) ∧ (64 ≤ f.length) ∧ (s.b.fld (atPort F.MAC_MAXLEN_LEN p) < f.length)) ∧
    (∃ (s : State) (p : Nat) (f : RxFrame), (p < 7) ∧ (s.b.portUp p = true) ∧ (64 ≤ f.length) ∧ (f.length ≤ s.b.fld (atPort F.MAC_MAXLEN_LEN p)) ∧ (f.fcsOk = false)) ∧
    (∃ (s : State) (p : Nat) (f : RxFrame) (b1 : Block), (p < 7) ∧ (s.b.portUp p = true) ∧ (64 ≤ f.length) ∧ (f.length ≤ s.b.fld (atPort F.MAC_MAXLEN_LEN p)) ∧ (f.fcsOk = true) ∧ (Block.macsec s.key ((s.b.cntPort p cntRxFrames 1).cntPort p cntRxOctets f.length) p f = (b1, true))) ∧
    (∃ (b : Block) (p id : Nat) (f : RxFrame), ((∀ id first adm, f.cls ≠ .fragment id first adm))) ∧
    (∃ (s : State) (p id : Nat), (((s.b.port p).frags.filter fun e => e.1 == id && s.b.since e.2 tickS) ≠ [])) ∧
    (∃ (s : State) (net : Nat), (net < 2)) :=
  ⟨⟨tPort, 0, { tFrame with length := 60 }, by decide +kernel⟩,
    ⟨tPort, 0, { tFrame with length := 5000 }, by decide +kernel⟩,
    ⟨tPort, 0, { tFrame with fcsOk := false }, by decide +kernel⟩,
    ⟨tPort, 0, tFrame, _, by exact ⟨by decide +kernel, by decide +kernel, by decide +kernel, by decide +kernel, rfl, rfl⟩⟩,
    ⟨Block.reset, 0, 0, tFrame, by intro id first adm h; simp [tFrame] at h⟩,
    ⟨tPort.onB fun _ b => b.modPort 4 fun x => { x with frags := [(9, 0)] }, 4, 9, by decide +kernel⟩,
    ⟨State.reset, 1, by decide +kernel⟩⟩

theorem test_meets_PauseCommandsTakeEffect :
    (∃ (s : State) (p prio : Nat), ((s.b.port p).pausing.getD prio false = true) ∧ (s.b.loWm p prio < (s.b.port p).pools.getD prio 0) ∧ (s.b.since ((s.b.port p).pauseAt.getD prio 0) (quantaTicks p (s.b.fld (atPort F.MAC_STAT_RATE p)) 0x8000) = true)) ∧
    (∃ (s : State) (p prio fill : Nat) (b1 : Block), ((s.b.port p).pausing.getD prio false = true) ∧ (fill ≤ s.b.loWm p prio) ∧ (s.b.linkMode p = false) ∧ (b1 = (s.b.modPort p fun x => { x with pools := x.pools.set prio fill }).modPort p fun x => { x with pausing := x.pausing.set prio false }) ∧ (((s.b.modPort p fun x => { x with pools := x.pools.set prio fill }).port p).pausing = (s.b.port p).pausing)) ∧
    (∃ (s : State) (p i quanta : Nat), (p < 6) ∧ (s.b.portUp p = true) ∧ (i < 7)) ∧
    (∃ (s : State) (p prio : Nat), (0 < (s.b.port p).heldTo.getD prio 0) ∧ ((s.b.port p).heldTo.getD prio 0 ≤ s.b.now)) ∧
    (∃ (s : State) (acc p pool hi lo : Nat), (s.b.mayWrite s.key acc roleEng true = yOk) ∧ (p < 6) ∧ (pool < 8) ∧ (lo < hi) ∧ (hi ≤ poolKib p)) ∧
    (∃ (s : State) (acc p pool hi lo : Nat), (s.b.mayWrite s.key acc roleEng true = yOk) ∧ (p < 6) ∧ (pool < 8) ∧ (hi ≤ lo ∨ poolKib p < hi)) :=
  ⟨⟨tPort.onB fun _ b => b.modPort 0 fun x => { x with pausing := [true], pools := [60000] }, 0, 0, by decide +kernel⟩,
    ⟨tPort.onB fun _ b => b.modPort 0 fun x => { x with pausing := [true], pools := [60000] }, 0, 0, 100, _, by exact ⟨by decide +kernel, by decide +kernel, by decide +kernel, rfl, by decide +kernel⟩⟩,
    ⟨tPort, 0, 2, 0x100000000, by decide +kernel⟩,
    ⟨tPort.onB fun _ b => b.modPort 0 fun x => { x with heldTo := [100] }, 0, 0, by decide +kernel⟩,
    ⟨State.reset, accFw, 0, 1, 48, 16, by decide +kernel⟩,
    ⟨State.reset, accFw, 0, 1, 16, 16, by decide +kernel⟩⟩

theorem test_meets_LinkAndRateCommandsTakeEffect :
    (∃ (s : State) (p rx tx : Nat) (b1 : Block), (s.b.stepPort p = true) ∧ (s.b.portUp p = true) ∧ ((s.b.port p).reneg = none) ∧ (0 < s.b.fld (atPort F.MAC_STAT_RATE p)) ∧ (s.b.fld (atPort F.MAC_STEP_HIGH_UTIL p) * rateOctets (s.b.fld (atPort F.MAC_STAT_RATE p)) < max rx tx * 10) ∧ (s.b.stepFree p = true) ∧ (b1 = s.b.modPort p fun x => { x with dwell := (if s.b.fld (atPort F.MAC_STAT_RATE p) < 3 ∧ max rx tx * 10 < s.b.fld (atPort F.MAC_STEP_LOW_UTIL p) * rateOctets (s.b.fld (atPort F.MAC_STAT_RATE p) + 1) then (s.b.port p).dwell + 1 else 0), hiCross := false }) ∧ (b1.stepFree p = s.b.stepFree p)) ∧
    (∃ (s : State) (p rate : Nat), (p < 4) ∧ (s.b.portOn p = true) ∧ (s.b.flag (atPort F.MAC_CTRL_EN p) = true) ∧ (s.b.flag (atPort F.MAC_STAT_LINK p) = false) ∧ (s.b.rateSupported p rate = true) ∧ ((s.b.port p).reneg = none)) ∧
    (∃ (s : State) (p : Nat), (p < 7) ∧ (s.b.flag (atPort F.MAC_STAT_LINK p) = true) ∧ ((if p < 4 then (s.b.port (mate p)).reneg else none) = none) ∧ (((s.b.dropLink p).port (mate p)).reneg = (s.b.port (mate p)).reneg)) ∧
    (∃ (s : State) (p : Nat) (r : Reneg), ((s.b.port p).reneg = some r) ∧ (r.deadline ≤ s.b.now)) ∧
    (∃ (s : State) (acc p : Nat), (s.b.mayWrite s.key acc roleOpr false = yOk)) ∧
    (∃ (s : State) (acc ports : Nat) (clr : Bool) (b1 : Block), (s.b.mayWrite s.key acc roleOpr false = yOk) ∧ (b1 = ((List.range 7).filter ports.testBit).foldl (fun b p => b.snapPort clr p) ((s.b.put F.MAC_SNAP_CTRL_PORTS ports).putFlag F.MAC_SNAP_CTRL_CLR_ON_SNAP clr))) :=
  ⟨⟨tPort.onB fun _ b => b.put (atPort F.MAC_STAT_RATE 0) 2, 0, 900000000, 0, _, by exact ⟨by decide +kernel, by decide +kernel, rfl, by decide +kernel, by decide +kernel, by decide +kernel, rfl, by decide +kernel⟩⟩,
    ⟨tPort.onB fun _ b => b.put (atPort F.MAC_STAT_LINK 0) 0, 0, 0, by decide +kernel⟩,
    ⟨tPort, 0, by decide +kernel⟩,
    ⟨tPort.onB fun _ b => b.modPort 0 fun x => { x with reneg := some ⟨0, 1, 5, 0⟩ }, 0, ⟨0, 1, 5, 0⟩, by decide +kernel⟩,
    ⟨State.reset, accFw, 3, by decide +kernel⟩,
    ⟨State.reset, accFw, 3, true, _, by exact ⟨by decide +kernel, rfl⟩⟩⟩

theorem test_meets_C37FramesAndRequestsTakeEffect :
    (∃ (s : State) (d : C37Data) (cands : List Spoke), (d.tcp = false) ∧ (cands = s.b.ing.spokes.filter fun x => x.type == 1 && x.fromSrc d.src && x.dataPort == d.src.dport) ∧ (d.sync = 0xAA) ∧ (d.ftype = 0) ∧ (d.version = 1 ∨ d.version = 2) ∧ (d.frameSize = d.len) ∧ (d.crcOk = true) ∧ ((cands.filter fun x => x.idcode == d.idcode) ≠ [])) ∧
    (∃ (s : State) (src : NetSrc) (idcode kind : Nat) (cfg : Option CfgFrame) (cands : List Spoke), (kind = 2 ∨ kind = 3) ∧ (cands = s.b.ing.spokes.filter fun x => x.type == 1 && x.fromSrc src && (x.dataPort == src.dport || x.cmdPort == src.dport)) ∧ (cands ≠ [])) ∧
    (∃ (s : State) (src : NetSrc) (idcode : Nat) (text : List Byte), ((s.b.ing.spokes.any fun x => x.type == 1 && x.fromSrc src && (x.dataPort == src.dport || x.cmdPort == src.dport)) = true)) ∧
    (∃ (s : State) (n : Nat) (x : Spoke), (s.b.spoke n = some x) ∧ (x.reqKind = 3) ∧ (s.b.since x.reqAt (2 * tickS) = true)) ∧
    (∃ (s : State) (n : Nat) (x : Spoke), (s.b.spoke n = some x) ∧ (x.reqKind = 2) ∧ (s.b.since x.reqAt (2 * tickS) = true) ∧ (x.tries + 1 < max 1 (s.b.fld F.ING_CTRL_CFG_TRIES))) ∧
    (∃ (s : State) (n : Nat) (x : Spoke), (s.b.spoke n = some x) ∧ (x.type = 1) ∧ (x.state = 1 ∨ x.state = 4) ∧ (x.reqKind = 0) ∧ (s.b.since x.retryAt (10 * tickS) = true)) ∧
    (∃ (s : State) (n : Nat) (x : Spoke), (s.b.spoke n = some x) ∧ (x.state = 2) ∧ (s.b.since x.heardAt (x.silentTmo * tickMs) = true)) ∧
    (∃ (s : State) (f : SvFrame), ((s.b.ing.spokes.find? fun x => x.type == 2 && x.idcode == f.appid && x.svidHash == crc32c f.svid) = none)) ∧
    (∃ (s : State) (f : SvFrame) (x : Spoke) (v : SpVer) (b1 b2 : Block) (g : Spoke × Nat), ((s.b.ing.spokes.find? fun x => x.type == 2 && x.idcode == f.appid && x.svidHash == crc32c f.svid) = some x) ∧ (x.cur = some v) ∧ (f.inScope = true) ∧ (f.src.port = 1) ∧ (f.sim = false) ∧ (x.state = 2) ∧ (v.conf = 0 ∨ v.conf = f.confRev) ∧ (b1 = if v.conf = 0 then s.b.modSpoke x.num fun x => { x with cur := some { v with conf := f.confRev } } else s.b) ∧ (g = x.svGap f (tickS / b1.f0)) ∧ (b2 = (b1.modSpoke x.num fun x => { x with svMiss := g.1.svMiss, svGapTo := g.1.svGapTo }).cntSpoke x.num spSampleGap g.2)) :=
  ⟨⟨tIng, { tcp := false, src := tSrc, sync := 0xAA, ftype := 0, version := 1, frameSize := 20, len := 20, crcOk := true, idcode := 7, soc := 0, leapOcc := false, frac := 0, code := 0, arrival := 0, blocks := [] }, _, by exact ⟨rfl, rfl, rfl, rfl, by decide +kernel, rfl, rfl, by decide +kernel⟩⟩,
    ⟨tIng, tSrc, 7, 2, none, _, by exact ⟨by decide, rfl, by decide +kernel⟩⟩,
    ⟨tIng, tSrc, 7, [1], by decide +kernel⟩,
    ⟨tIng.onB fun _ b => b.setSpokes [{ tSpoke with reqKind := 3 }], 5, _, by exact ⟨rfl, rfl, by decide +kernel⟩⟩,
    ⟨tIng.onB fun _ b => b.setSpokes [{ tSpoke with reqKind := 2 }], 5, _, by exact ⟨rfl, rfl, by decide +kernel, by decide +kernel⟩⟩,
    ⟨tIng.onB fun _ b => b.setSpokes [{ tSpoke with state := 1 }], 5, _, by exact ⟨rfl, by decide +kernel, by decide +kernel, rfl, by decide +kernel⟩⟩,
    ⟨tIng, 5, _, by exact ⟨rfl, rfl, by decide +kernel⟩⟩,
    ⟨State.reset, tSv, by decide +kernel⟩,
    ⟨tRun.onB fun _ b => b.setSpokes [tSvSpoke], tSv, _, _, _, _, _, by exact ⟨rfl, rfl, rfl, rfl, rfl, rfl, by decide +kernel, rfl, rfl, rfl⟩⟩⟩

theorem test_meets_SpokeCommandsTakeEffect :
    (∃ (s : State) (h : Hdr) (n : Nat) (words : List W32) (svid : List Byte) (b1 : Block), (Ready s h 0x0201 ⟨some roleEng, true⟩) ∧ (svid.length ≤ 64) ∧ (n < 4096) ∧ (bits (words.getD 14 0) 1 0 ≠ 0) ∧ (s.b.spoke n = none) ∧ (ctxOk (mergeCtx ctxDefaults words) = true) ∧ ((Spoke.fresh n (mergeCtx ctxDefaults words) svid).type = 1) ∧ (b1 = ((((s.taken h 0x0201).setSpokes (((s.taken h 0x0201).ing.spokes.filter fun y => decide (y.num < n)) ++ [Spoke.fresh n (mergeCtx ctxDefaults words) svid] ++ (s.taken h 0x0201).ing.spokes.filter fun y => decide (n < y.num))).modSpoke n fun x => { x with state := 1 }).note 0x0401 n 1 0).fetchCfg n)) ∧
    (∃ (s : State) (h : Hdr) (n : Nat) (x : Spoke), (Ready s h 0x0202 ⟨some roleEng, true⟩) ∧ (s.b.spoke n = some x) ∧ (x.state ≠ 5)) ∧
    (∃ (s : State) (h : Hdr) (n opt : Nat), (Ready s h 0x0203 ⟨some roleObs, false⟩) ∧ (n < 4096)) ∧
    (∃ (s : State) (acc n : Nat), (s.b.mayWrite s.key acc roleObs false = yOk)) ∧
    (∃ (s : State) (acc n st : Nat) (b1 b2 : Block), (b1 = s.b.aput acc F.ING_CTX_SEL_SPOKE (n % 4096)) ∧ (b1.mayWrite s.key acc roleEng true = yOk) ∧ (b1.setSpoke (n % 4096) ((sessionOf acc).getD 0xFF) (b1.ards acc Reg.ING_CTX_W 18) [] = (st, b2))) ∧
    (∃ (s : State) (acc n ch : Nat) (b1 : Block), (s.b.mayWrite s.key acc roleObs false = yOk) ∧ (b1 = (s.b.aput acc F.ING_CH_SEL_SPOKE (n % 4096)).aput acc F.ING_CH_SEL_CH (ch % 64))) ∧
    (∃ (s : State), (s.b.since s.b.ing.decayAt (clampNat 1 3600 (s.b.fld F.ING_CTRL_HIST_DECAY) * tickS) = true)) ∧
    (∃ (s : State) (b1 b2 : Block), (b1 = s.b.setSpokes (s.b.ing.spokes.map s.b.secondOf)) ∧ (b2 = Block.dropOld (b1.ing.spokes.foldl (fun b x => b.missing x) b1))) :=
  ⟨⟨tRun, tH, 9, tWords, [], _, by exact ⟨by decide +kernel, by decide, by decide, by decide +kernel, rfl, by decide +kernel, by decide +kernel, rfl⟩⟩,
    ⟨tIng, tH, 5, _, by exact ⟨by decide +kernel, rfl, by decide +kernel⟩⟩,
    ⟨tIng, tH, 5, 3, by decide +kernel⟩,
    ⟨State.reset, accFw, 5, by decide +kernel⟩,
    ⟨State.reset, accFw, 5, _, _, _, by exact ⟨rfl, by decide +kernel, rfl⟩⟩,
    ⟨State.reset, accFw, 5, 1, _, by exact ⟨by decide +kernel, rfl⟩⟩,
    ⟨tS fun b => b.modTim fun t => { t with mono := 3600 * tickS }, by decide +kernel⟩,
    ⟨State.reset, _, _, by exact ⟨rfl, rfl⟩⟩⟩

theorem test_meets_RangesSettlingAndFaultsTakeEffect :
    (∃ (s : State) (ch fits : Nat), (s.b.afeOn = true) ∧ (ch < 8) ∧ (s.b.autoRange ch = true) ∧ (fits < s.b.range ch)) ∧
    (∃ (s : State) (ch fits : Nat), (s.b.afeOn = true) ∧ (ch < 8) ∧ (s.b.autoRange ch = false)) ∧
    (∃ (s : State) (ch cycles : Nat), (s.b.afeOn = true) ∧ (ch < 8) ∧ (s.b.autoRange ch = true) ∧ (s.b.range ch < 2) ∧ (max 10 (s.b.fld (F.AFE_CH_CFG_DOWN_CYC.at (4 * ch))) ≤ cycles)) ∧
    (∃ (s : State) (lane t : Nat), (s.b.flt.settle.getD lane none = some t) ∧ (s.b.since t settleTicks = true) ∧ (s.b.flt.rot = none)) ∧
    (∃ (s : State) (m cause : Nat), (s.b.afeOn = true) ∧ (m < 8) ∧ (s.b.faulty m = false) ∧ (s.b.flt.swapCh = none) ∧ (s.b.flt.rot = none) ∧ ((((s.b.setFault m).note 0x0603 m cause).faulty 8 || ((s.b.setFault m).note 0x0603 m cause).fld F.AFE_STAT_SPARE_PHASE == 8) = false)) ∧
    (∃ (s : State) (m cause : Nat), (s.b.afeOn = true) ∧ (m < 8) ∧ (s.b.faulty m = false) ∧ (s.b.flt.swapCh.isSome = true)) :=
  ⟨⟨tAfe fun b => (b.put (F.AFE_CH_CFG_AUTO.at 0) 1).put (F.AFE_CH_CFG_RANGE.at 0) 2, 0, 0, by decide +kernel⟩,
    ⟨tAfe fun b => b.put (F.AFE_CH_CFG_AUTO.at 0) 0, 0, 0, by decide +kernel⟩,
    ⟨tAfe fun b => (b.put (F.AFE_CH_CFG_AUTO.at 0) 1).put (F.AFE_CH_CFG_RANGE.at 0) 1, 0, 100000, by decide +kernel⟩,
    ⟨tAfe fun b => b.modFlt fun x => { x with settle := [some 0] }, 0, 0, by decide +kernel⟩,
    ⟨tAfe id, 3, 1, by decide +kernel⟩,
    ⟨tAfe fun b => b.modFlt fun x => { x with swapCh := some 2 }, 3, 1, by decide +kernel⟩⟩

theorem test_meets_RotatingCalibrationTakesEffect :
    (∃ (s : State) (ch : Nat), (s.b.mayRotate = true) ∧ (s.b.since s.b.flt.rotAt (s.b.fld F.FLT_CAL_CTRL_INTERVAL * tickS) = true) ∧ (s.b.flt.queued = none) ∧ (s.b.flt.inTurn = some ch)) ∧
    (∃ (s : State) (ch : Nat), (s.b.mayRotate = true) ∧ (s.b.since s.b.flt.rotAt (s.b.fld F.FLT_CAL_CTRL_INTERVAL * tickS) = true) ∧ (s.b.flt.queued = some ch) ∧ (s.b.flt.barred.contains ch = false)) ∧
    (∃ (s : State) (r : Rotation) (g o : Int), (s.b.flt.rot = some r) ∧ (r.next ≤ s.b.now) ∧ (r.swap = none)) ∧
    (∃ (s : State) (m : Nat) (r rest : TrimRamp), ((s.b.flt.ramps.find? fun y => y.modl == m) = some r) ∧ (r.nextAt ≤ s.b.now) ∧ (rest = { r with gainPpm := r.gainPpm - stepOf (s.b.fld F.FLT_CAL_CTRL_MAX_STEP) r.gainPpm, offsetUv := r.offsetUv - stepOf 20 r.offsetUv, nextAt := s.b.now + tickS })) ∧
    (∃ (s : State) (acc qch : Nat), (s.b.mayWrite s.key acc roleEng true = yOk) ∧ (qch < 8)) :=
  ⟨⟨tAfe fun b => b.modTim fun t => { t with mono := 100000 * tickS }, 0, by decide +kernel⟩,
    ⟨tAfe fun b => (b.modTim fun t => { t with mono := 100000 * tickS }).modFlt fun x => { x with queued := some 3 }, 3, by decide +kernel⟩,
    ⟨tAfe fun b => b.modFlt fun x => { x with rot := some ⟨0, 1, 5, true, 0, 0, none⟩ }, ⟨0, 1, 5, true, 0, 0, none⟩, 0, 0, by decide +kernel⟩,
    ⟨tAfe fun b => b.modFlt fun x => { x with ramps := [⟨3, 1000, 5, 0⟩] }, 3, _, _, by exact ⟨rfl, by decide +kernel, rfl⟩⟩,
    ⟨State.reset, accFw, 3, by decide +kernel⟩⟩

theorem test_meets_ThresholdUnitsAndLocalPmuTakeEffect :
    (∃ (s : State) (u at_ : Nat) (on : Bool) (value : W32), (s.b.afeOn = true) ∧ (u < 32) ∧ ((s.b.flt.unit u).cfg0.getLsbD 31 = true) ∧ ((s.b.flt.unit u).on = !on) ∧ (s.b.inL1 = false)) ∧
    (∃ (s : State) (acc u : Nat), (s.b.mayWrite s.key acc roleObs false = yOk)) ∧
    (∃ (s : State) (acc u : Nat) (w : W32 × W32 × W32) (b1 : Block), (s.b.mayWrite s.key acc roleEng true = yOk) ∧ (w = teWords (s.b.ards acc Reg.FLT_TE_CFG 3)) ∧ (bits w.1 23 20 ≠ 8) ∧ (w.1.getLsbD 31 = false) ∧ (b1 = s.b.aput acc F.FLT_TE_SEL_UNIT u)) ∧
    (∃ (s : State) (sl invalid srcErr : Nat) (vals : List W64) (lowV lowI : Bool) (b1 : Block), (s.b.afeOn = true) ∧ (lowV = s.b.belowPct (vals.getD 8 0) Reg.FLT_VNOM 10) ∧ (lowI = s.b.belowPct (vals.getD 9 0) Reg.FLT_INOM 10) ∧ (b1 = s.b.putFlag F.FLT_PMU_FREQ_SRC lowV)) ∧
    (∃ (s : State) (at_ invalid srcErr : Nat) (v1 freq dig0 dig1 : W64) (f : Q) (b1 : Block), (s.b.afeOn = true) ∧ (s.b.flag F.FLT_PMU_QC_EN = true) ∧ (singleQ (entSingle 2 freq) = some f) ∧ (b1 = s.b.lomEvaluate at_ (entAngle v1) f (s.b.belowPct v1 Reg.FLT_VNOM (s.b.fld F.ISL_BLOCK_V_DIP)))) ∧
    (∃ (s : State) (t : Nat), (s.b.flt.classAt = some t) ∧ (t ≤ s.b.tai)) :=
  ⟨⟨tAfe fun b => b.modFlt fun x => { x with units := modAt x.units 4 fun t => { t with cfg0 := 0x80000000 } }, 4, 0, true, 0, by decide +kernel⟩,
    ⟨State.reset, accFw, 5, by decide +kernel⟩,
    ⟨State.reset, accFw, 5, _, _, by exact ⟨by decide +kernel, rfl, by decide +kernel, by decide +kernel, rfl⟩⟩,
    ⟨tAfe id, 0, 0, 0, [], _, _, _, by exact ⟨by decide +kernel, rfl, rfl, rfl⟩⟩,
    ⟨tAfe fun b => b.put F.FLT_PMU_QC_EN 1, 0, 0, 0, 0, 0, 0, 0, _, _, by exact ⟨by decide +kernel, by decide +kernel, rfl, rfl⟩⟩,
    ⟨tAfe fun b => b.modFlt fun x => { x with classAt := some 0 }, 0, by decide +kernel⟩⟩

theorem test_meets_SelfTestAndCalibrationTakeEffect :
    (∃ (s : State) (h : Hdr) (blk level : Nat), (Ready s h 0x0C01 ⟨some roleMnt, false⟩) ∧ (level < 3) ∧ ((s.taken h 0x0C01).testAllowed level = true) ∧ (s.b.afeOn = true) ∧ (s.b.flt.test = none)) ∧
    (∃ (s : State) (acc level : Nat) (b1 : Block), (s.b.mayWrite s.key acc roleEng true = yOk) ∧ (level < 3) ∧ (b1 = s.b.put F.FLT_ST_CTRL_LEVEL level) ∧ (b1.testAllowed level = true) ∧ (b1.afeOn = true) ∧ (b1.flt.test = none)) ∧
    (∃ (s : State) (pass : Bool) (fc l t : Nat) (who : Option (Nat × Nat)), (s.b.flt.test = some (l, t, who)) ∧ (t ≤ s.b.now)) ∧
    (∃ (b : Block) (pass : Bool) (fc level t : Nat), (b.flt.test = some (level, t, none)) ∧ (level = 1)) ∧
    (∃ (s : State) (pass : Bool) (b1 : Block), (s.b.flag F.FLT_ST_CTRL_L0_EN = true) ∧ (s.b.afeOn = true) ∧ (s.b.testAllowed 0 = true) ∧ (s.b.flt.test = none) ∧ (s.b.since s.b.flt.l0At (max 1 (s.b.fld F.FLT_ST_CTRL_L0_PERIOD) * tickS) = true) ∧ (b1 = s.b.modFlt fun x => { x with l0At := s.b.now })) ∧
    (∃ (s : State) (h : Hdr) (ch : Nat), (Ready s h 0x0C02 ⟨some roleMnt, false⟩) ∧ (ch < 8) ∧ (s.b.topState = stRun ∨ s.b.topState = stWatch) ∧ (s.b.flt.cal = none)) ∧
    (∃ (s : State) (h : Hdr), (Ready s h 0x0C02 ⟨some roleMnt, false⟩) ∧ (s.b.topState = stMaint) ∧ (s.b.flt.cal = none)) ∧
    (∃ (s : State) (bad : Nat) (trims : List (Int × Int)) (c : CalRun) (t : Nat) (b1 : Block), (s.b.flt.cal = some c) ∧ (c.at? = some t) ∧ (t ≤ s.b.now) ∧ (c.ch = 255) ∧ (bad % 512 = 0) ∧ (b1 = (s.b.modFlt fun x => { x with cal := none }).fullTrims bad trims) ∧ (((List.range 9).filter bad.testBit) = [])) :=
  ⟨⟨(tAfe id).onB fun _ b => b.tIn 4, tH, 0, 2, by decide +kernel⟩,
    ⟨(tAfe id).onB fun _ b => b.tIn 4, accFw, 1, _, by exact ⟨by decide +kernel, by decide, rfl, by decide +kernel, by decide +kernel, by decide +kernel⟩⟩,
    ⟨tAfe fun b => b.modFlt fun x => { x with test := some (1, 5, none) }, true, 0, 1, 5, none, by decide +kernel⟩,
    ⟨Block.reset.modFlt fun x => { x with test := some (1, 5, none) }, true, 0, 1, 5, by decide +kernel⟩,
    ⟨(tAfe id).onB fun _ b => (b.put F.FLT_ST_CTRL_L0_EN 1).modTim fun t => { t with mono := 100000 * tickS }, true, _, by exact ⟨by decide +kernel, by decide +kernel, by decide +kernel, by decide +kernel, by decide +kernel, rfl⟩⟩,
    ⟨tAfe id, tH, 3, by decide +kernel⟩,
    ⟨(tAfe id).onB fun _ b => b.tIn 4, tH, by decide +kernel⟩,
    ⟨tAfe fun b => b.modFlt fun x => { x with cal := some ⟨255, some 5, (0, 7)⟩ }, 0, [], _, _, _, by exact ⟨rfl, rfl, by decide +kernel, rfl, rfl, rfl, by decide +kernel⟩⟩⟩

theorem test_meets_EnergyCommandsTakeEffect :
    (∃ (s : State) (c : LineCycle), (s.b.nrgOn = true) ∧ (s.b.flag F.NRG_STAT_TIME_LATCH = false)) ∧
    (∃ (s : State) (c : LineCycle), (s.b.nrgOn = true) ∧ (s.b.flag F.NRG_STAT_TIME_LATCH = true)) ∧
    (∃ (s : State), (s.b.nrgOn = true) ∧ (s.b.nrg.latchDue = true)) ∧
    (∃ (s : State), (s.b.nrgOn = true) ∧ (s.b.flag F.NRG_STAT_TIME_LATCH = false)) ∧
    (∃ (s : State) (c : LineCycle), (s.b.nrgOn = true) ∧ (s.b.flag F.NRG_STAT_TIME_LATCH = true)) ∧
    (∃ (s : State) (n : Nat) (b1 : Block) (p : Pulse), (n < 4) ∧ (b1 = s.b.pulseFlush n) ∧ (p = b1.nrg.pulses.getD n .reset) ∧ (p.highTo = none) ∧ (0 < p.queue) ∧ (p.lowTo ≤ b1.now)) ∧
    (∃ (s : State) (n t : Nat) (b1 : Block) (p : Pulse), (n < 4) ∧ (b1 = s.b.pulseFlush n) ∧ (p = b1.nrg.pulses.getD n .reset) ∧ (p.highTo = some t) ∧ (t ≤ b1.now)) ∧
    (∃ (s : State), (s.b.nrgOn = true) ∧ (s.b.since s.b.nrg.saveAt (clampNat 1 60 (s.b.fld F.NRG_SAVE_INTERVAL) * tickS) = true)) ∧
    (∃ (s : State) (h : Hdr), (Ready s h 0x0601 ⟨some roleObs, false⟩)) ∧
    (∃ (s : State) (h : Hdr), (Ready s h 0x0601 ⟨some roleMnt, false⟩) ∧ (s.b.topState = stMaint)) ∧
    (∃ (s : State) (h : Hdr) (out : Nat) (cfg k : W32), (Ready s h 0x0602 ⟨some roleEng, true⟩) ∧ (out < 4)) :=
  ⟨⟨tNrg id, tCycle, by decide +kernel⟩,
    ⟨tNrg fun b => b.put F.NRG_STAT_TIME_LATCH 1, tCycle, by decide +kernel⟩,
    ⟨tNrg fun b => b.modNrg fun x => { x with latchDue := true }, by decide +kernel⟩,
    ⟨tNrg id, by decide +kernel⟩,
    ⟨tNrg fun b => b.put F.NRG_STAT_TIME_LATCH 1, tCycle, by decide +kernel⟩,
    ⟨tNrg fun b => b.modPulse 1 fun p => { p with queue := 2 }, 1, _, _, by exact ⟨by decide, rfl, rfl, by decide +kernel, by decide +kernel, by decide +kernel⟩⟩,
    ⟨tNrg fun b => b.modPulse 1 fun p => { p with highTo := some 5 }, 1, 5, _, _, by exact ⟨by decide, rfl, rfl, by decide +kernel, by decide +kernel⟩⟩,
    ⟨tNrg fun b => b.modTim fun t => { t with mono := 100000 * tickS }, by decide +kernel⟩,
    ⟨tNrg id, tH, by decide +kernel⟩,
    ⟨(tNrg id).onB fun _ b => b.tIn 4, tH, by decide +kernel⟩,
    ⟨tNrg id, tH, 1, 0, 0, by decide +kernel⟩⟩

theorem test_meets_CycleEnergiesEnterTheAccumulators :
    (∃ (b : Block) (c : LineCycle) (i : Nat) (uses : List (PhaseUse × (Q × Q × Q) × Nat)) (u : List PhaseUse) (parts : List Q), (b.nrg.accs.length = 32) ∧ (i < 32) ∧ (uses = [c.a, c.b, c.c].zipIdx.map fun p => b.phaseUse p.2 p.1 c.tc) ∧ (u = uses.map fun x => x.1) ∧ (parts = (u.flatMap fun x => energyParts (b.flag F.NRG_CTRL_DIR_INV) x.ep x.eq x.es) ++ energyParts (b.flag F.NRG_CTRL_DIR_INV) (u.foldl (fun q x => q.add x.ep) Q.zero) (u.foldl (fun q x => q.add x.eq) Q.zero) (u.foldl (fun q x => q.add x.es) Q.zero))) :=
  ⟨Block.reset, tCycle, 0, _, _, _, by exact ⟨by decide +kernel, by decide, rfl, rfl, rfl⟩⟩

theorem test_meets_ScreeningAndTrackingCommandsTakeEffect :
    (∃ (s : State) (sl : Nat) (x : Slot) (vals : List (Nat × Q × W32)) (b1 : Block), (s.b.modOn = true) ∧ (s.b.slot sl = some x) ∧ (x.phase = 2) ∧ (s.b.level = 0) ∧ (b1 = s.b.modMod fun m => { m with screened := max m.screened sl, shedEp := false, resumeAt := if m.shedEp then some sl else m.resumeAt })) ∧
    (∃ (s : State) (sl : Nat) (x : Slot) (vals : List (Nat × Q × W32)), (s.b.modOn = true) ∧ (s.b.slot sl = some x) ∧ (x.phase = 2) ∧ (1 ≤ s.b.level)) ∧
    (∃ (s : State) (ch band ms : Nat) (ratio : Q), (s.b.bandOn band = true) ∧ ((s.b.cb ch band).hit = false) ∧ (s.b.restarting band = false) ∧ (ratio.lt (Q.ofNat 1) = false) ∧ (s.b.persist band ≤ ms)) ∧
    (∃ (s : State) (ch band ms : Nat) (ratio : Q), (s.b.bandOn band = true) ∧ ((s.b.cb ch band).hit = true) ∧ (s.b.restarting band = false) ∧ (ratio.lt ⟨4, 5⟩ = true) ∧ (s.b.persist band ≤ ms)) ∧
    (∃ (s : State) (ch band : Nat) (mu sigma : Q), (s.b.bandOn band = true) ∧ (([1, 2, 3, 4].any fun d => (s.b.cb ch d).hit) = false) ∧ ((s.b.mod.watches.any fun e => e.2.chans.contains ch && e.2.alarm) = false) ∧ (s.b.restarting band = false) ∧ (s.b.mod.shedEp = false)) ∧
    (∃ (s : State) (defDb : List Q) (new : Tab ChBand), (s.b.modOn = true) ∧ (new = s.b.mod.chans.map (s.b.adaptOne defDb))) ∧
    (∃ (s : State) (ctx t : Nat) (w : Watch), (s.b.watch ctx = some w) ∧ (w.quietFrom = some t) ∧ (w.host = false) ∧ (w.state = 2) ∧ (w.alarm = false) ∧ (s.b.since t (s.b.fld F.MOD_WATCH_CTRL_RETIRE_S * tickS) = true)) ∧
    (∃ (s : State) (ctx dropped : Nat) (w : Watch) (modes : List ModeEst), (s.b.watch ctx = some w) ∧ (s.b.modOn = true) ∧ (w.state = 1) ∧ (s.b.since w.fillFrom (w.winS * tickS) = true)) ∧
    (∃ (s : State) (ctx dropped : Nat) (w : Watch) (modes : List ModeEst), (s.b.watch ctx = some w) ∧ (s.b.modOn = true) ∧ (w.state = 2) ∧ (s.b.since w.updAt (w.upd * 50 * tickMs) = true)) ∧
    (∃ (b : Block) (ctx dropped : Nat) (w : Watch) (refill : Bool) (modes : List ModeEst), (b.level < 2) ∧ (w.band ≠ 4) ∧ (2 * dropped ≤ w.chans.length)) ∧
    (∃ (s : State) (rates : List (Nat × Q × W32)) (ctx mode : Nat) (who : Option (Nat × Nat)) (rest : List (Nat × Nat × Option (Nat × Nat))) (res : LocResult), (s.b.mod.locs = (ctx, mode, who) :: rest) ∧ (s.b.modOn = true) ∧ (s.b.level < 2) ∧ (res = s.b.locResult ctx mode rates)) ∧
    (∃ (b : Block) (ctx mode st : Nat) (p : Q) (rates : List (Nat × Q × W32)), (b.foundStation (b.injections (b.usable rates)) = some (st, p))) :=
  ⟨⟨tMod.onB fun _ b => b.modAln fun a => { a with slots := [{ tSlot with phase := 2 }] }, 20 * tickS, _, [], _, by exact ⟨by decide +kernel, rfl, rfl, by decide +kernel, rfl⟩⟩,
    ⟨tMod.onB fun _ b => (b.modAln fun a => { a with slots := [{ tSlot with phase := 2 }] }).put F.ALN_LDG_STAT_LEVEL 1, 20 * tickS, _, [], by exact ⟨by decide +kernel, rfl, rfl, by decide +kernel⟩⟩,
    ⟨tMod, 3, 1, 60000, Q.ofNat 2, by decide +kernel⟩,
    ⟨tMod.onB fun _ b => b.setCb 3 1 { b.cb 3 1 with hit := true }, 3, 1, 60000, Q.zero, by decide +kernel⟩,
    ⟨tMod, 3, 1, Q.zero, Q.zero, by decide +kernel⟩,
    ⟨tMod, [], _, by exact ⟨by decide +kernel, rfl⟩⟩,
    ⟨tMod.onB fun _ b => (b.setWatch 4 { b.newWatch false 1 [3] 4 30 5 30 30 with state := 2, quietFrom := some 0 }).modTim fun t => { t with mono := 100000 * tickS }, 4, 0, _, by exact ⟨rfl, rfl, rfl, rfl, by decide +kernel, by decide +kernel⟩⟩,
    ⟨tMod.onB fun _ b => b.setWatch 4 { b.newWatch false 1 [3] 4 5 5 30 30 with fillFrom := 0 }, 4, 0, _, [], by exact ⟨rfl, by decide +kernel, rfl, by decide +kernel⟩⟩,
    ⟨tMod.onB fun _ b => b.setWatch 4 { b.newWatch false 1 [3] 4 5 5 30 30 with state := 2, updAt := 0 }, 4, 0, _, [], by exact ⟨rfl, by decide +kernel, rfl, by decide +kernel⟩⟩,
    ⟨Block.reset, 0, 0, (Block.reset.newWatch true 1 [3] 4 30 5 30 30), false, [], by decide +kernel⟩,
    ⟨tMod.onB fun _ b => b.modMod fun m => { m with locs := [(3, 0, none)] }, [], 3, 0, none, [], _, by exact ⟨rfl, by decide +kernel, by decide +kernel, rfl⟩⟩,
    ⟨tMod.b.modMod fun m => { m with branches := [(0, ⟨0x80000000, 0, 0, 0x00050000, 0⟩)] }, 0, 0, 5, Q.ofNat 100000, [(0, Q.ofNat 100000, 0)], by decide +kernel⟩⟩

theorem test_meets_ModalHostCommandsTakeEffect :
    (∃ (s : State) (h : Hdr) (ctx mode : Nat), (Ready s h 0x0405 ⟨some roleOpr, false⟩) ∧ (s.b.hasMode ctx mode = true)) ∧
    (∃ (s : State) (acc ctx mode : Nat) (b1 : Block), (s.b.mayWrite s.key acc roleOpr false = yOk) ∧ (b1 = (s.b.aput acc F.MOD_LOC_SEL_CTX ctx).aput acc F.MOD_LOC_SEL_MODE mode) ∧ (b1.hasMode ctx mode = true)) ∧
    (∃ (s : State) (h : Hdr) (ctx band nch nmMax winS upd zetaAlarm zetaDrop : Nat) (chans : List Nat), (Ready s h 0x0401 ⟨some roleEng, true⟩) ∧ (watchParamsOk band nch nmMax winS upd zetaAlarm zetaDrop chans = true) ∧ (ctx < 128) ∧ (s.b.watch ctx = none)) ∧
    (∃ (s : State) (h : Hdr) (ctx : Nat), (Ready s h 0x0402 ⟨some roleEng, true⟩) ∧ ((s.b.watch ctx).isSome = true)) ∧
    (∃ (s : State) (h : Hdr) (ctx mode : Nat), (Ready s h 0x0403 ⟨some roleObs, false⟩) ∧ (ctx < 128) ∧ (mode < 8)) ∧
    (∃ (s : State) (h : Hdr) (br : Nat) (w0 w1 w2 w3 w4 : W32), (Ready s h 0x0404 ⟨some roleEng, true⟩) ∧ (br < 1024) ∧ (bits w3 1 0 ≠ 2)) ∧
    (∃ (s : State) (acc ctx : Nat) (b1 : Block) (r : WRes), (b1 = s.b.aput acc F.MOD_W_SEL_CTX ctx) ∧ (b1.mayWrite s.key acc roleEng true = yOk) ∧ (r = (b1.defineWatch (ctx % 128) (bits (b1.ard acc Reg.MOD_W_W) 6 4) (bits (b1.ard acc Reg.MOD_W_W) 21 16) (bits (b1.ard acc Reg.MOD_W_W) 27 24) (bits (b1.ard acc (Reg.MOD_W_W + 4)) 9 0) (bits (b1.ard acc (Reg.MOD_W_W + 4)) 25 16) (bits (b1.ard acc (Reg.MOD_W_W + 8)) 9 0) (bits (b1.ard acc (Reg.MOD_W_W + 8)) 25 16) ((List.range (min 32 (bits (b1.ard acc Reg.MOD_W_W) 21 16))).map fun i => bits (b1.ard acc (Reg.MOD_W_W + 4 * (8 + i))) 17 0)).1)) ∧
    (∃ (s : State) (acc ctx : Nat) (b1 : Block) (r : WRes), (b1 = s.b.aput acc F.MOD_W_SEL_CTX ctx) ∧ (b1.mayWrite s.key acc roleEng true = yOk) ∧ (r = b1.removeWatch (ctx % 128))) ∧
    (∃ (s : State) (acc br : Nat) (b1 : Block) (r : WRes), (b1 = s.b.aput acc F.MOD_BR_SEL_BR br) ∧ (b1.mayWrite s.key acc roleEng true = yOk) ∧ (r = b1.defineBranch (br % 1024) (b1.ard acc Reg.MOD_BR_W) (b1.ard acc (Reg.MOD_BR_W + 4)) (b1.ard acc (Reg.MOD_BR_W + 8)) (b1.ard acc (Reg.MOD_BR_W + 12)) (b1.ard acc (Reg.MOD_BR_W + 16)))) :=
  ⟨⟨tModed, tH, 4, 0, by decide +kernel⟩,
    ⟨tModed, accFw, 4, 0, _, by exact ⟨by decide +kernel, rfl, by decide +kernel⟩⟩,
    ⟨tMod, tH, 9, 1, 1, 4, 30, 20, 30, 30, [5], by decide +kernel⟩,
    ⟨tModed, tH, 4, by decide +kernel⟩,
    ⟨tModed, tH, 4, 0, by decide +kernel⟩,
    ⟨tMod, tH, 9, 0, 0, 0, 0, 0, by decide +kernel⟩,
    ⟨tMod, accFw, 9, _, _, by exact ⟨rfl, by decide +kernel, rfl⟩⟩,
    ⟨tMod, accFw, 9, _, _, by exact ⟨rfl, by decide +kernel, rfl⟩⟩,
    ⟨tMod, accFw, 9, _, _, by exact ⟨rfl, by decide +kernel, rfl⟩⟩⟩

theorem test_meets_IslandCommandsTakeEffect :
    (∃ (s : State) (run : Nat) (x : Slot), (s.b.atStage 1 = some x) ∧ (s.b.flag F.ISL_CTRL_EN = true) ∧ (s.b.topState ≠ stWatch)) ∧
    (∃ (s : State) (run : Nat) (x : Slot), (s.b.atStage 1 = some x) ∧ (s.b.flag F.ISL_CTRL_EN = false)) ∧
    (∃ (s : State) (run : Nat) (x : Slot) (b1 : Block), (s.b.atStage 1 = some x) ∧ (s.b.flag F.ISL_CTRL_EN = true) ∧ (s.b.topState = stWatch) ∧ (b1 = s.b.putFlag F.ISL_STAT_LOCAL_MODE true)) ∧
    (∃ (s : State) (m : GooseMsg) (n : Nat) (g : GooseSub), (m.ndsCom = false) ∧ (s.b.gooseFor m = some (n, g)) ∧ (m.confRev = g.confRev)) ∧
    (∃ (s : State) (m : GooseMsg), (m.ndsCom = false) ∧ (s.b.gooseFor m = none)) ∧
    (∃ (s : State) (n : Nat) (g : GooseSub), (tabGet s.b.isl.gooses n = some g) ∧ (g.alive = true) ∧ (g.liveTo ≤ s.b.now)) ∧
    (∃ (s : State) (value : Nat), (s.b.isl.lomVs.on = true) ∧ (s.b.since s.b.isl.lomVs.lastOn (s.b.fld F.ISL_LOM_HOLD * 100 * tickMs) = true)) ∧
    (∃ (s : State) (value : Nat), (s.b.isl.lomRocof.on = true) ∧ (s.b.since s.b.isl.lomRocof.lastOn (s.b.fld F.ISL_LOM_HOLD * 100 * tickMs) = true) ∧ (s.b.fld F.ISL_LOM_ROCOF_N ≤ s.b.isl.lomRocof.low)) ∧
    (∃ (s : State) (h : Hdr) (st : Nat) (w : List W32), (Ready s h 0x0501 ⟨some roleEng, true⟩) ∧ (w.length = 11) ∧ (st < 1024) ∧ (((stationOf w).en && !(stationOf w).reps.all ((s.taken h 0x0501).repOk st)) = false) ∧ ((s.b.islNext.apply (.station st (stationOf w))).channels.length ≤ 8192)) ∧
    (∃ (s : State) (h : Hdr) (area : Nat) (stations : List Nat), (Ready s h 0x0502 ⟨some roleEng, true⟩) ∧ (area < 64) ∧ (stations.all s.b.islNext.knows = true)) ∧
    (∃ (s : State) (h : Hdr) (n : Nat) (w : List W32), (Ready s h 0x0503 ⟨some roleEng, true⟩) ∧ (w.length = 3) ∧ (n < 4096) ∧ (bits (tieOf w).srcA 31 30 ≠ 3) ∧ (bits (tieOf w).srcB 31 30 ≠ 3) ∧ ((s.b.islNext.apply (.tie n (tieOf w))).channels.length ≤ 8192)) ∧
    (∃ (s : State) (h : Hdr) (n : Nat) (w : List W32), (Ready s h 0x0504 ⟨some roleEng, true⟩) ∧ (w.length = 3) ∧ (n < 256) ∧ ((s.b.islNext.apply (.goose n (gooseOf w))).channels.length ≤ 8192)) ∧
    (∃ (s : State) (h : Hdr) (i : Nat), (Ready s h 0x0505 ⟨some roleObs, false⟩) ∧ (i < 16)) ∧
    (∃ (s : State) (acc n : Nat) (b1 : Block) (r : WRes), (b1 = s.b.aput acc F.ISL_ST_SEL_IDX n) ∧ (b1.mayWrite s.key acc roleEng true = yOk) ∧ (r = b1.commitStation (n % 1024) (b1.ards acc Reg.ISL_ST_W 11))) ∧
    (∃ (s : State) (acc n : Nat) (b1 : Block) (r : WRes), (b1 = s.b.aput acc F.ISL_TIE_SEL_IDX n) ∧ (b1.mayWrite s.key acc roleEng true = yOk) ∧ (r = b1.commitTie (n % 4096) (b1.ards acc Reg.ISL_TIE_W 3))) ∧
    (∃ (s : State) (acc n : Nat) (b1 : Block) (r : WRes), (b1 = s.b.aput acc F.ISL_GS_SEL_IDX n) ∧ (b1.mayWrite s.key acc roleEng true = yOk) ∧ (r = b1.commitGoose (n % 256) (b1.ards acc Reg.ISL_GS_W 3))) :=
  ⟨⟨tIsl, 10, _, by exact ⟨rfl, by decide +kernel, by decide +kernel⟩⟩,
    ⟨tIsl.onB fun _ b => b.put F.ISL_CTRL_EN 0, 10, _, by exact ⟨rfl, by decide +kernel⟩⟩,
    ⟨tIsl.onB fun _ b => b.tIn 3, 10, _, _, by exact ⟨rfl, by decide +kernel, by decide +kernel, rfl⟩⟩,
    ⟨tIsl.onB fun _ b => b.modIsl fun x => { x with gooses := [(3, gooseOf [0x80000007, 0, 0])] }, tGoose, 3, _, by exact ⟨rfl, rfl, rfl⟩⟩,
    ⟨tIsl, tGoose, by decide +kernel⟩,
    ⟨tIsl.onB fun _ b => b.modIsl fun x => { x with gooses := [(3, { gooseOf [0x80000007, 0, 0] with alive := true })] }, 3, _, by exact ⟨rfl, rfl, by decide +kernel⟩⟩,
    ⟨tIsl.onB fun _ b => b.modIsl fun x => { x with lomVs := { x.lomVs with on := true, lastOn := 0 } }, 0, by decide +kernel⟩,
    ⟨tIsl.onB fun _ b => b.modIsl fun x => { x with lomRocof := { x.lomRocof with on := true, lastOn := 0, low := 100 } }, 0, by decide +kernel⟩,
    ⟨tIsl, tH, 9, List.replicate 11 0, by decide +kernel⟩,
    ⟨tIsl, tH, 9, [], by decide +kernel⟩,
    ⟨tIsl, tH, 9, [0, 0, 0], by decide +kernel⟩,
    ⟨tIsl, tH, 9, [0, 0, 0], by decide +kernel⟩,
    ⟨tIsl, tH, 4, by decide +kernel⟩,
    ⟨tIsl, accFw, 9, _, _, by exact ⟨rfl, by decide +kernel, rfl⟩⟩,
    ⟨tIsl, accFw, 9, _, _, by exact ⟨rfl, by decide +kernel, rfl⟩⟩,
    ⟨tIsl, accFw, 9, _, _, by exact ⟨rfl, by decide +kernel, rfl⟩⟩⟩

theorem test_meets_VectorShiftAboveItsThresholdAsserts :
    (∃ (b : Block) (t : Nat) (theta freq th4 fr4 : Q), (b.flag F.ISL_CTRL_LOM_EN = true) ∧ (b.flag F.FLT_PMU_QC_EN = true) ∧ (b.flag F.ISL_LOM_VS_EN = true) ∧ (b.isl.qc[3]? = some (th4, fr4)) ∧ (b.isl.lomBlockTo ≤ b.now) ∧ ((Q.norm (b.fld F.ISL_LOM_VS_THR) 10).lt (Q.abs (wrap180 ((theta.sub th4).sub (((Q.ofNat 360).mul (fr4.sub (Q.ofNat b.f0))).div (Q.ofNat b.f0))))) = true)) :=
  ⟨(tIsl.b.put F.FLT_PMU_QC_EN 1).modIsl fun x => { x with qc := List.replicate 4 (Q.zero, Q.ofNat 50) }, 0, Q.ofNat 90, Q.ofNat 50, Q.zero, Q.ofNat 50, by decide +kernel⟩

theorem test_meets_EvaluationEvidenceAndBellsTakeEffect :
    (∃ (s : State) (run : Nat) (x : Slot) (b1 : Block), (s.b.atStage 2 = some x) ∧ (b1 = (s.b.modGrd fun g => { g with used := s.b.usedFor x.s, asserted := [] }).bump Reg.GRD_CNT_EVAL) ∧ (s.b.grd.gsp.isSome = true) ∧ ((b1.evaluate x.s (s.b.usedFor x.s)).aln.stepLast ≠ some x.s)) ∧
    (∃ (s : State) (run : Nat) (x : Slot), (s.b.atStage 2 = some x) ∧ (s.b.grd.gsp = none) ∧ (s.b.aln.stepLast = none)) ∧
    (∃ (s : State) (e t : Nat), (1 ≤ e) ∧ (e ≤ 8) ∧ (s.b.guardWatches = true) ∧ (s.b.exempt e = false) ∧ ((onGrid s.b.cadence t || s.b.grd.sched.any (·.1 == t)) = true) ∧ ((((s.b.engine e).missS.map fun u => decide (u < t)).getD true) = true) ∧ (s.b.missed e t = true) ∧ (s.b.tdm.enNow = false)) ∧
    (∃ (s : State) (e : Nat) (g : GspPkg), (s.b.grd.gsp = some g) ∧ (s.b.guardWatches = true) ∧ (s.b.evTimeout ≤ (s.b.engine e).misses) ∧ (s.b.hitMask g e ≠ 0)) ∧
    (∃ (s : State) (h : Hdr) (mask : Nat), (Ready s h 0x0703 ⟨some roleOpr, false⟩)) ∧
    (∃ (s : State) (h : Hdr), (Ready s h 0x0702 ⟨some roleObs, false⟩)) ∧
    (∃ (s : State) (run : Nat) (x : Slot) (g : GspPkg) (b : Block) (f : List Byte × Block) (b1 : Block), (s.b.atStage 4 = some x) ∧ (b = s.b.finishStage x.s 4 run) ∧ (b.grd.gsp = some g) ∧ (b.sendsBells = true) ∧ (f = b.bellfFrame s.key g x run) ∧ (b1 = ((f.2.modGrd fun y => { y with bseq := b.nextBseq x.s }).bellfOut g.net f.1).bellfEvent (b.bellfBells g, b.grd.mask (·.fs)) f.1)) ∧
    (∃ (s : State) (run : Nat) (x : Slot) (g : GspPkg) (b : Block), (s.b.atStage 4 = some x) ∧ (b = s.b.finishStage x.s 4 run) ∧ (b.grd.gsp = some g) ∧ (b.sendsBells = false)) ∧
    (∃ (s : State) (g : GspPkg), (s.b.grd.gsp = some g) ∧ (s.b.grd.gooseData.isEmpty = false) ∧ (s.b.grd.gooseNext ≤ s.b.now) ∧ (s.b.active = true)) ∧
    (∃ (s : State), (s.b.top.rstRun = none)) ∧
    (∃ (s : State) (t : Nat) (b1 : Block), (s.b.grd.kickAt = some t) ∧ (s.b.since t (s.b.fld F.GRD_WDT_TMO * tickMs) = true) ∧ (b1 = (s.b.modGrd fun g => { g with kickAt := none, wdtStage := 1, wdtFired := true, wdtWait := true }).bump Reg.GRD_CNT_WDT1)) ∧
    (∃ (s : State) (t : Nat) (b1 : Block), (s.b.grd.wdtFrom = some t) ∧ (s.b.since t (5 * tickS) = true) ∧ (b1 = (s.b.modGrd fun g => { g with wdtFrom := none, wdtStage := 2, wdtFired := true }).bump Reg.GRD_CNT_WDT2)) :=
  ⟨⟨tGrd 2, 10, _, _, by exact ⟨rfl, rfl, by decide +kernel, by decide +kernel⟩⟩,
    ⟨(tGrd 2).onB fun _ b => b.modGrd fun g => { g with gsp := none }, 10, { tSlot with phase := 1, stage := 2, ends := [1, 2, 3, 4] }, by decide +kernel⟩,
    ⟨tGrd 2, 1, 0, by decide +kernel⟩,
    ⟨(tGrd 2).onB fun _ b => b.modGrd fun g => { g with engines := modAt g.engines 2 fun x => { x with misses := 3 } }, 2, tPkg, by exact ⟨rfl, by decide +kernel, by decide +kernel, by decide +kernel⟩⟩,
    ⟨tGrd 2, tH, 1, by decide +kernel⟩,
    ⟨tGrd 2, tH, by decide +kernel⟩,
    ⟨tGrd 4, 10, _, _, _, _, _, by exact ⟨rfl, rfl, rfl, by decide +kernel, rfl, rfl⟩⟩,
    ⟨(tGrd 4).onB fun _ b => b.modTdm fun t => { t with enNow := true }, 10, _, _, _, by exact ⟨rfl, rfl, rfl, by decide +kernel⟩⟩,
    ⟨(tGrd 2).onB fun _ b => b.modGrd fun g => { g with gooseData := [1, 0, 0, 0] }, _, by exact ⟨rfl, by decide +kernel, by decide +kernel, by decide +kernel⟩⟩,
    ⟨tGrd 2, by decide +kernel⟩,
    ⟨(tGrd 2).onB fun _ b => b.modGrd fun g => { g with kickAt := some 0 }, _, _, by exact ⟨rfl, by decide +kernel, rfl⟩⟩,
    ⟨(tGrd 2).onB fun _ b => b.modGrd fun g => { g with wdtFrom := some 0 }, _, _, by exact ⟨rfl, by decide +kernel, rfl⟩⟩⟩

theorem test_meets_SettingsPackagesAreSubmittedCheckedAndCommitted :
    (∃ (s : State) (h : Hdr) (offset total : Nat) (bytes all : List Byte), (Ready s h 0x0701 ⟨some roleGsb, false⟩) ∧ (1 ≤ bytes.length) ∧ (bytes.length ≤ 4088) ∧ (offset ≠ 0 → offset = ((s.taken h 0x0701).sess h.session).gspBytes.length ∧ total = ((s.taken h 0x0701).sess h.session).gspTotal total) ∧ (offset + bytes.length < total) ∧ (all = (if offset = 0 then [] else ((s.taken h 0x0701).sess h.session).gspBytes) ++ bytes)) ∧
    (∃ (s : State) (h : Hdr) (offset total : Nat) (bytes all : List Byte), (Ready s h 0x0701 ⟨some roleGsb, false⟩) ∧ (1 ≤ bytes.length) ∧ (bytes.length ≤ 4088) ∧ (offset ≠ 0 → offset = ((s.taken h 0x0701).sess h.session).gspBytes.length ∧ total = ((s.taken h 0x0701).sess h.session).gspTotal total) ∧ (offset + bytes.length = total) ∧ (all = (if offset = 0 then [] else ((s.taken h 0x0701).sess h.session).gspBytes) ++ bytes)) ∧
    (∃ (s : State) (body : GspPkg) (ok : Bool) (n tag : Nat) (bytes : List Byte) (rest : List (Nat × Nat × List Byte)) (b1 : Block), (s.b.grd.checking = (n, tag, bytes) :: rest) ∧ (s.b.grd.accepted = none) ∧ (b1 = s.b.modGrd fun g => { g with checking := rest }) ∧ (verdict s.key b1 (readPkg body bytes) bytes ok = .accept)) ∧
    (∃ (s : State) (body : GspPkg) (ok : Bool) (n tag : Nat) (bytes : List Byte) (rest : List (Nat × Nat × List Byte)) (b1 : Block), (s.b.grd.checking = (n, tag, bytes) :: rest) ∧ (s.b.grd.accepted = none) ∧ (b1 = s.b.modGrd fun g => { g with checking := rest }) ∧ (verdict s.key b1 (readPkg body bytes) bytes ok = .same)) ∧
    (∃ (s : State) (body : GspPkg) (ok : Bool) (n tag step status : Nat) (bytes : List Byte) (rest : List (Nat × Nat × List Byte)) (b1 : Block), (s.b.grd.checking = (n, tag, bytes) :: rest) ∧ (s.b.grd.accepted = none) ∧ (b1 = s.b.modGrd fun g => { g with checking := rest }) ∧ (verdict s.key b1 (readPkg body bytes) bytes ok = .reject step status)) ∧
    (∃ (s : State) (n tag : Nat) (p : GspPkg) (dig : Digest) (b1 : Block), (s.b.grd.accepted = some (n, tag, p, dig)) ∧ (b1 = (((s.b.storePkg p dig).takePkg p dig).bump Reg.GRD_CNT_GSP_ACC).note 0x0A01 p.version (dig.toNat >>> 352) s.b.grd.version)) :=
  ⟨⟨tGrd 2, tH, 0, 300, [1], _, by exact ⟨by decide +kernel, by decide, by decide, by decide, by decide, rfl⟩⟩,
    ⟨tGrd 2, tH, 0, 1, [1], _, by exact ⟨by decide +kernel, by decide, by decide, by decide, by decide, rfl⟩⟩,
    ⟨tGood, tPkg, true, 0, 7, tBytes, [], _, by exact ⟨rfl, rfl, rfl, tGood_verdict⟩⟩,
    ⟨tSame, tPkg, true, 0, 7, tBytes, [], _, by exact ⟨rfl, rfl, rfl, tSame_verdict⟩⟩,
    ⟨(tGrd 2).onB fun _ b => b.modGrd fun g => { g with checking := [(0, 7, [1])] }, tPkg, true, 0, 7, 1, yBadLength, [1], [], _, by exact ⟨rfl, rfl, rfl, by decide +kernel⟩⟩,
    ⟨(tGrd 2).onB fun _ b => b.modGrd fun g => { g with accepted := some (0, 7, tPkg, 9) }, _, _, _, _, _, by exact ⟨rfl, rfl⟩⟩⟩

theorem test_meets_BellSequenceNumbersOfR340 :
    (∃ (s : State) (run : Nat) (x : Slot), (s.b.atStage 4 = some x) ∧ (s.b.grd.gsp.isSome = true)) ∧
    (∃ (t u : Nat), (t + 260375 ≤ u)) :=
  ⟨⟨tGrd 4, 10, _, by exact ⟨rfl, rfl⟩⟩,
    ⟨0, 260375, by decide +kernel⟩⟩

theorem test_meets_BellAssertsAndDeassertsByItsTimers :
    (∃ (x : Bell) (e : BellEntry) (t : Nat) (l : List Nat), (x.trueFrom = none)) ∧
    (∃ (x : Bell) (e : BellEntry) (t : Nat) (l : List Nat), (x.falseFrom = none) ∧ (x.release = 0) ∧ (e.latch = false)) ∧
    (∃ (x : Bell) (e : BellEntry) (logic : Bool) (t : Nat), (e.pickup = 0) ∧ (e.dropout = 0) ∧ (e.latch = false) ∧ (x.trueFrom.getD t ≤ t) ∧ (x.falseFrom.getD t ≤ t)) :=
  ⟨⟨Bell.reset, noEntry, 0, [], by decide +kernel⟩,
    ⟨Bell.reset, noEntry, 0, [], by decide +kernel⟩,
    ⟨Bell.reset, noEntry, true, 0, by exact ⟨rfl, rfl, rfl, by decide, by decide⟩⟩⟩

theorem test_meets_HeartbeatsAndClaimsTakeEffect :
    (∃ (s : State) (run : Nat) (x : Slot), (s.b.atStage 3 = some x)) ∧
    (∃ (s : State), (s.b.tdm.enNow = true) ∧ ((s.b.tdm.hbSent == 0 || s.b.since s.b.tdm.hbSent (250 * tickUs)) = true)) ∧
    (∃ (s : State) (hb : Heartbeat) (b1 : Block), (s.b.tdm.enNow = true) ∧ (s.b.laneUp = true) ∧ (b1 = s.b.takeHeartbeat hb)) ∧
    (∃ (s : State), (s.b.tdm.enNow = true) ∧ (s.b.tdm.hbSeen = true) ∧ (s.b.since s.b.tdm.hbLast (s.b.fld F.TDM_TIMERS_HB_TMO * tickUs) = true)) ∧
    (∃ (s : State) (delta : Nat) (offset : Int) (short : Bool), (s.b.tdm.enNow = true) ∧ (s.b.laneUp = true) ∧ (short = decide (s.b.fld F.TDM_XCHG_LEAD * 1000 < 2 * delta + offset.natAbs + 50000))) ∧
    (∃ (s : State) (gaps : List Nat), (s.b.tdm.enNow = true) ∧ (gaps.length = 3) ∧ ((gaps.all fun g => decide (4000 ≤ g ∧ g ≤ 6000)) = true) ∧ (s.b.claims = false)) ∧
    (∃ (s : State) (gaps : List Nat) (b1 : Block), (s.b.tdm.enNow = true) ∧ (gaps.length = 3) ∧ ((gaps.all fun g => decide (4000 ≤ g ∧ g ≤ 6000)) = true) ∧ (b1 = ((s.b.put F.TDM_STAT_PCLAIM 1).modTdm fun t => { t with edgeAt := s.b.now }).modGrd fun g => { g with gateOpen := false }) ∧ (b1.claims = true) ∧ (b1.claimDelay = 0)) ∧
    (∃ (s : State) (gaps : List Nat) (b1 : Block), (s.b.tdm.enNow = true) ∧ (gaps.length = 3) ∧ ((gaps.all fun g => decide (4000 ≤ g ∧ g ≤ 6000)) = true) ∧ (b1 = ((s.b.put F.TDM_STAT_PCLAIM 1).modTdm fun t => { t with edgeAt := s.b.now }).modGrd fun g => { g with gateOpen := false }) ∧ (b1.claims = true) ∧ (b1.claimDelay ≠ 0)) ∧
    (∃ (s : State), (s.b.tdm.enNow = true) ∧ (s.b.partnerClaims = true) ∧ (s.b.since s.b.tdm.edgeAt (30 * tickUs) = true)) ∧
    (∃ (s : State) (b1 b2 : Block), (s.b.eligible = true) ∧ (s.b.claims = false) ∧ (s.b.partnerClaims = false) ∧ (s.b.tdm.lockTo = none) ∧ (s.b.since s.b.tdm.absentAt s.b.claimDelay = true) ∧ (b1 = ((s.b.put F.TDM_STAT_CLAIM 1).bump Reg.TDM_CNT_CLAIM).modTdm fun t => { t with claimAt := s.b.now, closedSince := 0, takeSent := false }) ∧ (b2 = if s.b.handedOver then b1.modRad fun r => { r with handFrom := some (sfnAt (s.b.tai + 2 * sfTicks)) } else b1)) ∧
    (∃ (s : State), (s.b.tdm.enNow = true) ∧ (s.b.claims = true) ∧ (s.b.partnerClaims = false) ∧ (s.b.since s.b.tdm.claimAt (50 * tickUs) = true)) ∧
    (∃ (s : State) (t : Nat), (s.b.tdm.lockTo = some t) ∧ (t ≤ s.b.now)) ∧
    (∃ (s : State), (s.b.tdm.katOwn ≠ 0) ∧ (s.b.tdm.katPart = 0) ∧ (s.b.since s.b.tdm.katAt (200 * tickMs) = true)) ∧
    (∃ (s : State) (pass : Bool), (s.b.fld F.TDM_STAT_KAT = 1)) :=
  ⟨⟨tGrd 3, 10, _, by rfl⟩,
    ⟨tTdm 4 id, by decide +kernel⟩,
    ⟨tTdm 4 id, ⟨0, 4, false, 5, true, 0⟩, _, by exact ⟨by decide +kernel, by decide +kernel, rfl⟩⟩,
    ⟨tTdm 4 id, by decide +kernel⟩,
    ⟨tTdm 4 id, 900, -5, _, by exact ⟨by decide +kernel, by decide +kernel, rfl⟩⟩,
    ⟨tTdm 4 id, [4000, 5000, 6000], by decide +kernel⟩,
    ⟨tTdm 4 fun b => b.tClaim.put F.TDM_STAT_PREFER 1, [4000, 5000, 6000], _, by exact ⟨by decide +kernel, by decide, by decide, rfl, by decide +kernel, by decide +kernel⟩⟩,
    ⟨tTdm 4 Block.tClaim, [4000, 5000, 6000], _, by exact ⟨by decide +kernel, by decide, by decide, rfl, by decide +kernel, by decide +kernel⟩⟩,
    ⟨tTdm 4 fun b => b.put F.TDM_STAT_PCLAIM 1, by decide +kernel⟩,
    ⟨tTdm 4 fun b => b.modGrd fun g => { g with gsp := some tPkg }, _, _, by exact ⟨by decide +kernel, by decide +kernel, by decide +kernel, by decide +kernel, by decide +kernel, rfl, rfl⟩⟩,
    ⟨tTdm 4 Block.tClaim, by decide +kernel⟩,
    ⟨tTdm 4 fun b => b.modTdm fun t => { t with lockTo := some 5 }, 5, by decide +kernel⟩,
    ⟨tTdm 4 fun b => b.modTdm fun t => { t with katOwn := 2 }, by decide +kernel⟩,
    ⟨tTdm 4 fun b => b.put F.TDM_STAT_KAT 1, true, by decide +kernel⟩⟩

theorem test_meets_SlotExchangeOfATandemTakesEffect :
    (∃ (s : State) (t d : Nat) (x : Slot), (s.b.stoker = true) ∧ (s.b.laneUp = true) ∧ (s.b.tai ≤ t + 200 * tickUs) ∧ (s.b.tooEarly t = false) ∧ ((s.b.openSlot t).slot t = some x) ∧ (x.phase = 0)) ∧
    (∃ (s : State) (t : Nat) (x : Slot), (s.b.slot t = some x) ∧ (s.b.stoker = true) ∧ (x.schedGot = false) ∧ (x.phase = 0) ∧ (t + 200 * tickUs ≤ s.b.tai)) ∧
    (∃ (s : State) (spoke t : Nat) (vals : List W64), (s.b.inExchange = true) ∧ (s.b.laneUp = true)) ∧
    (∃ (s : State) (n at_ : Nat) (msg : List Nat) (rest : List (Nat × Nat × List Nat)), (s.b.tdm.relays = (n, at_, msg) :: rest) ∧ (at_ + s.b.fld F.TDM_XCHG_LEAD * tickUs < s.b.now)) ∧
    (∃ (s : State) (t : Nat) (x : Slot) (b1 : Block), (s.b.slot t = some x) ∧ (s.b.inExchange = true) ∧ (x.cutSent = false) ∧ (x.phase = 0) ∧ (x.dl.isSome = true) ∧ (x.dl.getD 0 ≤ s.b.tai + s.b.leadUs * tickUs) ∧ (b1 = s.b.modSlot t fun x => { x with cutSent := true })) ∧
    (∃ (s : State) (t p : Nat) (x : Slot), (s.b.slot t = some x) ∧ (s.b.inExchange = true) ∧ (x.cutSent = false) ∧ (x.phase = 0) ∧ (x.dl.isSome = true) ∧ (s.b.tai + s.b.leadUs * tickUs < x.dl.getD 0) ∧ (p = s.b.tai + 60 * tickUs + Config.earlyLead) ∧ (s.b.mayCutEarly x p = true)) ∧
    (∃ (s : State) (t : Nat) (bitmap : List Nat) (p : Nat) (x : Slot), (s.b.slot t = some x) ∧ (s.b.inExchange = true) ∧ (s.b.laneUp = true) ∧ (x.phase = 0)) ∧
    (∃ (s : State) (t : Nat) (bitmap : List Nat) (p : Nat) (x : Slot), (s.b.slot t = some x) ∧ (s.b.inExchange = true) ∧ (s.b.laneUp = true) ∧ (x.phase = 0) ∧ (s.b.claims = false) ∧ (x.cutSent = false) ∧ (p + s.b.leadUs * tickUs ≤ x.dl.getD 0)) ∧
    (∃ (s : State) (t spoke : Nat) (x : Slot) (y : Spoke) (v : SpVer), (s.b.slot t = some x) ∧ (s.b.spoke spoke = some y) ∧ (y.cur = some v) ∧ (s.b.inExchange = true) ∧ (s.b.laneUp = true)) ∧
    (∃ (s : State) (t spoke : Nat) (vals : List W64) (x : Slot) (y : Spoke) (v : SpVer), (s.b.slot t = some x) ∧ (s.b.spoke spoke = some y) ∧ (y.cur = some v) ∧ (s.b.inExchange = true) ∧ (s.b.laneUp = true) ∧ (x.needOpen.contains spoke = true)) ∧
    (∃ (s : State) (t : Nat) (digest : W64) (inc : Bool), (s.b.inExchange = true) ∧ (s.b.laneUp = true) ∧ ((s.b.slot t).isSome = true)) ∧
    (∃ (s : State) (t : Nat) (x : Slot), (s.b.slot t = some x) ∧ (x.phase ≠ 0) ∧ (x.digPart = none) ∧ (x.c + tickMs ≤ s.b.tai)) ∧
    (∃ (s : State) (engine : Nat) (v d bl sh : Bool) (rseq slot tq : Nat) (items : BitVec 128), (s.b.borrows = true) ∧ (s.b.laneUp = true) ∧ (3 ≤ engine) ∧ (engine ≤ 8)) ∧
    (∃ (s : State) (slot : Nat), (s.b.tdm.enNow = true)) :=
  ⟨⟨tTdm 4 fun b => b.tOpenAt 5, 20 * tickS, 5, _, by exact ⟨by decide +kernel, by decide +kernel, by decide +kernel, by decide +kernel, rfl, by decide +kernel⟩⟩,
    ⟨tTdm 4 fun b => (b.tOpenAt 5).modTim fun u => { u with sec := 21 }, 20 * tickS, _, by exact ⟨rfl, by decide +kernel, by decide +kernel, by decide +kernel, by decide +kernel⟩⟩,
    ⟨tTdm 4 id, 5, 20 * tickS, [], by decide +kernel⟩,
    ⟨tTdm 4 fun b => b.modTdm fun t => { t with relays := [(2, 0, [])] }, 2, 0, [], [], by exact ⟨rfl, by decide +kernel⟩⟩,
    ⟨tTdm 4 fun b => b.tOpenAt 5, 20 * tickS, _, _, by exact ⟨rfl, by decide +kernel, by decide +kernel, by decide +kernel, by decide +kernel, by decide +kernel, rfl⟩⟩,
    ⟨tEarly, 20 * tickS, _, _, by exact ⟨rfl, by decide +kernel, by decide +kernel, by decide +kernel, by decide +kernel, tEarly_late, rfl, tEarly_may⟩⟩,
    ⟨tTdm 4 fun b => b.tOpenAt 5, 20 * tickS, [3, 1], 0, _, by exact ⟨rfl, by decide +kernel, by decide +kernel, by decide +kernel⟩⟩,
    ⟨tTdm 4 fun b => b.tOpenAt (30 * tickS), 20 * tickS, [], 5, _, by exact ⟨rfl, by decide +kernel, by decide +kernel, by decide +kernel, by decide +kernel, by decide +kernel, by decide +kernel⟩⟩,
    ⟨tTdm 4 fun b => (b.tOpenAt 5).setSpokes [{ tSpoke with cur := some tVer }], 20 * tickS, 5, _, _, _, by exact ⟨rfl, rfl, rfl, by decide +kernel, by decide +kernel⟩⟩,
    ⟨tTdm 4 fun b => (b.modAln fun a => { a with slots := [{ tSlot with needOpen := [5] }] }).setSpokes [{ tSpoke with cur := some tVer }], 20 * tickS, 5, [], _, _, _, by exact ⟨rfl, rfl, rfl, by decide +kernel, by decide +kernel, by decide +kernel⟩⟩,
    ⟨tTdm 4 Block.tClosedAt, 20 * tickS, 9, false, by decide +kernel⟩,
    ⟨tTdm 4 fun b => b.tClosedAt.modTim fun u => { u with sec := 21 }, 20 * tickS, _, by exact ⟨rfl, by decide +kernel, by decide +kernel, by decide +kernel⟩⟩,
    ⟨tTdm 4 id, 4, true, false, false, false, 1, 2, 0, 0, by decide +kernel⟩,
    ⟨tTdm 4 id, 9, by decide +kernel⟩⟩

theorem test_meets_CatchUpAndTakebackTakeEffect :
    (∃ (s : State), (s.b.mayCatchup = true) ∧ (s.b.claims = true)) ∧
    (∃ (s : State) (d : CatchupData), (s.b.tdmState = tdCatchup) ∧ (s.b.laneUp = true) ∧ (s.b.claims = false) ∧ (s.b.tdm.stage1 = false)) ∧
    (∃ (s : State) (d : CatchupData), (s.b.tdmState = tdCatchup) ∧ (s.b.laneUp = true) ∧ (s.b.claims = false) ∧ (s.b.tdm.stage1 = true)) ∧
    (∃ (s : State) (d : CatchupData), (s.b.tdmState = tdCatchup) ∧ (s.b.laneUp = true) ∧ (s.b.claims = true)) ∧
    (∃ (s : State), (s.b.tdmState = tdCatchup) ∧ (s.b.since s.b.tdm.catchAt (5 * tickS) = true)) ∧
    (∃ (s : State) (t : Nat), (s.b.tdm.retryAt = some t) ∧ (t ≤ s.b.now)) ∧
    (∃ (s : State), (s.b.tdmState = tdMatching) ∧ (s.b.tdm.compared = true) ∧ (s.b.since s.b.tdm.matchFrom (max 1 (s.b.fld F.TDM_TIMERS_HOLDOFF) * tickS) = true) ∧ (s.b.tdm.slowLeft = false)) ∧
    (∃ (s : State), (s.b.inExchange = true) ∧ (max 1 (s.b.fld F.TDM_XCHG_SLOW_N) ≤ s.b.tdm.incRun ∨ max 1 (s.b.fld F.TDM_XCHG_SLOW_N) ≤ s.b.tdm.pIncRun)) ∧
    (∃ (s : State), (s.b.mayHand = true) ∧ (s.b.laneUp = true)) ∧
    (∃ (s : State) (acc : Nat), (s.b.mayWrite s.key acc roleEng true = yOk)) ∧
    (∃ (s : State) (acc : Nat), (s.b.mayWrite s.key acc roleEng true ≠ yOk)) ∧
    (∃ (s : State) (h : Hdr), (Ready s h 0x0802 ⟨some roleEng, true⟩) ∧ ((s.taken h 0x0802).mayHand = true)) ∧
    (∃ (s : State) (h : Hdr), (Ready s h 0x0802 ⟨some roleEng, true⟩) ∧ ((s.taken h 0x0802).mayHand = false)) ∧
    (∃ (s : State) (h : Hdr), (Ready s h 0x0801 ⟨some roleObs, false⟩)) :=
  ⟨⟨tTdm 1 Block.tClaim, by decide +kernel⟩,
    ⟨tTdm 2 id, ⟨9, [], 1, 0, 5, [], [], [], []⟩, by decide +kernel⟩,
    ⟨tTdm 2 fun b => b.modTdm fun t => { t with stage1 := true }, ⟨9, [], 1, 0, 5, [], [], [], []⟩, by decide +kernel⟩,
    ⟨tTdm 2 Block.tClaim, ⟨9, [], 1, 0, 5, [], [], [], []⟩, by decide +kernel⟩,
    ⟨tTdm 2 id, by decide +kernel⟩,
    ⟨tTdm 1 fun b => b.modTdm fun t => { t with retryAt := some 5 }, 5, by decide +kernel⟩,
    ⟨tTdm 3 fun b => (b.put F.TDM_TIMERS_HOLDOFF 5).modTdm fun t => { t with compared := true }, by decide +kernel⟩,
    ⟨tTdm 4 fun b => b.modTdm fun t => { t with incRun := 200 }, by decide +kernel⟩,
    ⟨tTdm 4 fun b => b.tClaim.put F.TDM_STAT_PSTATE 4, by decide +kernel⟩,
    ⟨tTdm 4 id, accFw, by decide +kernel⟩,
    ⟨State.reset, 5, by decide +kernel⟩,
    ⟨tTdm 4 fun b => b.tClaim.put F.TDM_STAT_PSTATE 4, tH, by decide +kernel⟩,
    ⟨tTdm 3 id, tH, by decide +kernel⟩,
    ⟨tTdm 4 id, tH, by decide +kernel⟩⟩

theorem test_meets_RadioReceptionTakesEffect :
    (∃ (s : State) (busy : Bool) (b1 : Block), (s.b.radOn = true) ∧ ((s.b.timState == tmInit) = false) ∧ ((s.b.rad.started && s.b.rad.origin == s.b.tai / sfTicks * sfTicks) = false) ∧ (b1 = s.b.settleSuperframe.enterSuperframe (s.b.tai / sfTicks)) ∧ ((b1.modRad fun r => { r with dueNow := b1.dueSlots, failNow := b1.dueSlots }).radLead = true)) ∧
    (∃ (s : State) (busy : Bool) (b1 : Block), (s.b.radOn = true) ∧ ((s.b.timState == tmInit) = false) ∧ ((s.b.rad.started && s.b.rad.origin == s.b.tai / sfTicks * sfTicks) = false) ∧ (b1 = s.b.settleSuperframe.enterSuperframe (s.b.tai / sfTicks)) ∧ ((b1.modRad fun r => { r with dueNow := b1.dueSlots, failNow := b1.dueSlots }).radLead = false)) ∧
    (∃ (s : State) (slot : Nat) (busy : Bool), (s.b.radOn = true) ∧ (s.b.rad.started = true)) ∧
    (∃ (s : State) (slot : Nat) (f : RadFrame) (x : Bundle) (r : Option Nat × Block) (i : Nat), (s.b.radOn = true) ∧ (s.b.rad.started = true) ∧ (slot < 24) ∧ (r = s.b.radReceive s.key f false false (s.b.owner slot) fun i => s.b.owner slot == some i) ∧ (r.1 = some i)) ∧
    (∃ (s : State) (slot : Nat) (f : RadFrame) (ppm gear nch cap : Nat), (s.b.radOn = true) ∧ (s.b.rad.started = true) ∧ (s.b.top.started = true) ∧ (slot < 2) ∧ (s.b.radLead = true)) ∧
    (∃ (s : State) (slot : Nat) (f : RadFrame) (ppm gear nch cap : Nat), (s.b.radOn = true) ∧ (s.b.rad.started = true) ∧ (s.b.top.started = true) ∧ (slot < 2) ∧ (s.b.radLead = false) ∧ (f.fcsOk = true)) ∧
    (∃ (s : State) (slot : Nat) (f : RadFrame) (r : Option Nat × Block) (i : Nat), (s.b.radOn = true) ∧ (s.b.rad.started = true) ∧ (slot = 2 ∨ slot = 3) ∧ (s.b.radLead = true) ∧ (r = s.b.radReceive s.key f false false none fun _ => true) ∧ (r.1 = some i)) ∧
    (∃ (s : State) (slot : Nat) (f : RadFrame) (reason : Nat) (r : Option Nat × Block) (i : Nat), (s.b.radOn = true) ∧ (s.b.rad.started = true) ∧ (slot = 2 ∨ slot = 3) ∧ (s.b.radLead = true) ∧ (r = s.b.radReceive s.key f false false none fun _ => true) ∧ (r.1 = some i)) ∧
    (∃ (s : State) (slot : Nat) (f : RadFrame) (reason : Nat), (s.b.radOn = true) ∧ (s.b.rad.started = true) ∧ (slot = 2 ∨ slot = 3) ∧ (s.b.radLead = false) ∧ (f.fcsOk = true)) ∧
    (∃ (s : State) (slot : Nat) (f : RadFrame) (inner : List (RadFrame × RadBody)) (r : Option Nat × Block) (i : Nat) (b1 : Block), (s.b.radOn = true) ∧ (s.b.rad.started = true) ∧ (slot < 24) ∧ (r = s.b.radReceive s.key f false false (s.b.owner slot) fun i => s.b.owner slot == some i) ∧ (r.1 = some i) ∧ (b1 = (r.2.modRad fun u => { u with acknow := u.acknow ||| 1 <<< slot }).heardFrom i) ∧ ((b1.flag F.RAD_CTRL_RELAY_EN && (b1.assoc i).relayCap && b1.top.started) = true)) ∧
    (∃ (s : State) (n : Nat), (s.b.radOn = true) ∧ (s.b.rad.started = true) ∧ (s.b.radLead = true)) ∧
    (∃ (s : State) (n : Nat), (s.b.radOn = true) ∧ (s.b.rad.started = true) ∧ (s.b.radLead = false)) ∧
    (∃ (s : State) (x : Beacon), (s.b.radOn = true) ∧ (s.b.radLead = false)) ∧
    (∃ (s : State) (slot : Nat) (f : RadFrame) (x : Bundle) (ppm gear nch cap : Nat), (s.b.radOn = true) ∧ (s.b.rad.started = true) ∧ (s.b.tdm.enNow = true) ∧ (s.b.radLead = true)) ∧
    (∃ (s : State) (m : RadioMsg) (b1 : Block), (s.b.top.variant ≠ .n0) ∧ (s.b.tdm.enNow = true) ∧ (s.b.claims = false) ∧ (s.b.laneUp = true) ∧ (s.b.rad.lead = false) ∧ (b1 = s.b.modRad fun r => { r with capFc := some m.coordFc, capSfn := m.sfn })) :=
  ⟨⟨tRad fun b => b.modRad fun r => { r with origin := 0 }, false, _, by exact ⟨by decide +kernel, by decide +kernel, by decide +kernel, rfl, by decide +kernel⟩⟩,
    ⟨tListen id, false, _, by exact ⟨by decide +kernel, by decide +kernel, by decide +kernel, rfl, by decide +kernel⟩⟩,
    ⟨tRad id, 3, true, by decide +kernel⟩,
    ⟨tRad id, 3, tRadF, ⟨0, 0, []⟩, _, 0, by exact ⟨by decide +kernel, by decide +kernel, by decide, rfl, by decide +kernel⟩⟩,
    ⟨tRad fun b => b.modTop fun t => { t with started := true }, 0, tRadJ, 20, 0, 4, 0, by decide +kernel⟩,
    ⟨tListen fun b => b.modTop fun t => { t with started := true }, 0, tRadJ, 20, 0, 4, 0, by decide +kernel⟩,
    ⟨tRad id, 2, tRadF, _, 0, by exact ⟨by decide +kernel, by decide +kernel, by decide, by decide +kernel, rfl, by decide +kernel⟩⟩,
    ⟨tRad id, 2, tRadF, 1, _, 0, by exact ⟨by decide +kernel, by decide +kernel, by decide, by decide +kernel, rfl, by decide +kernel⟩⟩,
    ⟨tListen id, 2, tRadF, 1, by decide +kernel⟩,
    ⟨tRad fun b => b.modTop fun t => { t with started := true }, 3, tRadF, [], _, 0, _, by exact ⟨by decide +kernel, by decide +kernel, by decide, rfl, by decide +kernel, rfl, by decide +kernel⟩⟩,
    ⟨tRad id, 0, by decide +kernel⟩,
    ⟨tListen id, 0, by decide +kernel⟩,
    ⟨tListen id, ⟨5, 1, 0, false, 0⟩, by decide +kernel⟩,
    ⟨tListen fun b => b.tClaim.modRad fun r => { r with lead := true }, 5, tRadF, ⟨0, 0, []⟩, 20, 0, 4, 0, by decide +kernel⟩,
    ⟨tListen id, ⟨5, 0xFF, 9, []⟩, _, by exact ⟨by decide +kernel, by decide +kernel, by decide +kernel, by decide +kernel, by decide +kernel, rfl⟩⟩⟩

theorem test_meets_RadioMaintenanceTakesEffect :
    (∃ (s : State) (busy : Bool) (p : MapChange) (r : Bool × Block), ((s.b.radOn && s.b.rad.started && s.b.radLead && s.b.top.started) = true) ∧ (s.b.rad.mapPend = some p) ∧ (r = s.b.radSecured s.key Emit.radio (commandPsdu false 12) [0x03, 0xFFFF, s.b.fld F.RAD_STAT_MAP_VER, p.act % 256, p.map])) ∧
    (∃ (s : State) (busy : Bool) (d : Downlink) (r : Bool × Block), ((s.b.radOn && s.b.rad.started && s.b.radLead && s.b.top.started) = true) ∧ ((s.b.rad.downlink.find? fun d => !d.sent && decide (d.sends < 4)) = some d) ∧ (r = s.b.radSecured s.key Emit.radio (commandPsdu (d.cmd == 0x02) (1 + d.body.length)) ([d.cmd, shortOf d.entry, d.seqNo] ++ d.body)) ∧ (r.1 = true)) ∧
    (∃ (s : State) (i : Nat), ((s.b.radOn && s.b.rad.started && s.b.radLead) = true) ∧ ((s.b.assoc i).state ≠ 0) ∧ (s.b.since (s.b.assoc i).heardAt ((s.b.assoc i).sup * tickMs) = true)) ∧
    (∃ (s : State) (ch t pct : Nat) (b1 : Block), (tabGet s.b.rad.excised ch = some (t, pct)) ∧ ((s.b.radOn && s.b.radLead) = true) ∧ (s.b.rad.mapPend = none) ∧ (s.b.since t (s.b.fld F.RAD_EXC_HOLD * 10 * tickS) = true) ∧ ((s.b.mapAt Reg.RAD_MAP).testBit ch = true) ∧ ((s.b.mapAt Reg.RAD_MAP_EFF).testBit ch = false) ∧ (b1 = (s.b.modRad fun r => { r with excised := tabDel r.excised ch }).changeMap (s.b.mapAt Reg.RAD_MAP_EFF ||| 1 <<< ch) 0)) ∧
    (∃ (s : State), (s.b.radOn = true) ∧ (s.b.since s.b.rad.savedAt (60 * tickS) = true)) ∧
    (∃ (s : State), (4096 ≤ s.b.rad.sinceFc)) ∧
    (∃ (s : State), ((s.b.radOn && s.b.tdm.enNow && s.b.claims) = true) ∧ (s.b.rad.lead = false) ∧ (3 ≤ s.b.rad.missed) ∧ (s.b.partnerClaims = false)) ∧
    (∃ (s : State) (slot : Nat), (s.b.top.variant ≠ .n0)) ∧
    (∃ (s : State) (h : Hdr) (first count : Nat), (Ready s h 0x0901 ⟨some roleObs, false⟩) ∧ (s.b.top.variant ≠ .n0) ∧ (1 ≤ count) ∧ (first + count ≤ 256)) ∧
    (∃ (s : State) (h : Hdr) (i : Nat) (en : Bool) (eui gear : Nat) (r : WRes), (Ready s h 0x0902 ⟨some roleEng, true⟩) ∧ (r = (s.taken h 0x0902).setAssoc (i % 256) en (eui % 2 ^ 64) (gear % 4))) ∧
    (∃ (s : State) (h : Hdr) (i : Nat), (Ready s h 0x0903 ⟨some roleEng, true⟩) ∧ (s.b.top.variant ≠ .n0)) ∧
    (∃ (s : State) (h : Hdr) (map : Nat), (Ready s h 0x0904 ⟨some roleEng, true⟩) ∧ (s.b.top.variant ≠ .n0) ∧ (map &&& (s.taken h 0x0904).planMap = map) ∧ ((s.taken h 0x0904).mapFloor ≤ (mapList map).length)) ∧
    (∃ (s : State) (acc i : Nat) (b1 : Block) (r : WRes), (b1 = s.b.aput acc F.RAD_AS_SEL_IDX i) ∧ (b1.mayWrite s.key acc roleEng true = yOk) ∧ (r = b1.setAssoc (i % 256) ((b1.ard acc Reg.RAD_AS_W).getLsbD 31) ((b1.ard acc (Reg.RAD_AS_W + 4)).toNat * 2 ^ 32 + (b1.ard acc (Reg.RAD_AS_W + 8)).toNat) (bits (b1.ard acc (Reg.RAD_AS_W + 12)) 1 0))) ∧
    (∃ (s : State) (acc i : Nat) (b1 : Block) (r : WRes), (b1 = s.b.aput acc F.RAD_AS_SEL_IDX i) ∧ (b1.mayWrite s.key acc roleEng true = yOk) ∧ (r = b1.hostDrop (i % 256))) ∧
    (∃ (s : State) (acc : Nat) (v : W32) (b1 : Block), (s.b.mayWrite s.key acc roleEng true = yOk) ∧ (s.b.top.variant ≠ .n0) ∧ (s.b.fld F.RAD_ID_PAN_ID ≠ 0xFFFF) ∧ (b1 = s.b.wr Reg.RAD_CTRL (v &&& 0x39))) ∧
    (∃ (s : State) (acc : Nat) (v : W32), (s.b.mayWrite s.key acc roleEng true = yOk) ∧ (s.b.top.variant ≠ .n0) ∧ (s.b.fld F.RAD_ID_PAN_ID = 0xFFFF) ∧ (v.getLsbD 0 = true)) :=
  ⟨⟨tRad fun b => (b.modTop fun t => { t with started := true }).modRad fun r => { r with mapPend := some ⟨0xFF, 200⟩ }, false, _, _, by exact ⟨by decide +kernel, rfl, rfl⟩⟩,
    ⟨tRad fun b => ((b.modTop fun t => { t with started := true }).queueDown 0 6 [1]).put F.RAD_SEC_TX_IDX 1, false, ⟨0, 6, [1], 0, 0, false⟩, _, by exact ⟨by decide +kernel, by decide +kernel, rfl, by decide +kernel⟩⟩,
    ⟨tRad id, 0, by decide +kernel⟩,
    ⟨tRad fun b => (((b.put F.RAD_EXC_HOLD 1).wr Reg.RAD_MAP 0xF).wr Reg.RAD_MAP_EFF 7).modRad fun r => { r with excised := [(3, 0, 60)] }, 3, 0, 60, _, by exact ⟨by decide +kernel, by decide +kernel, by decide +kernel, by decide +kernel, by decide +kernel, by decide +kernel, rfl⟩⟩,
    ⟨tRad fun b => b.modTim fun t => { t with mono := 100 * tickS }, by decide +kernel⟩,
    ⟨tRad fun b => b.modRad fun r => { r with sinceFc := 4096 }, by decide +kernel⟩,
    ⟨tListen fun b => b.tClaim.modRad fun r => { r with missed := 3 }, by decide +kernel⟩,
    ⟨tRad id, 5, by decide +kernel⟩,
    ⟨tRad id, tH, 0, 2, by decide +kernel⟩,
    ⟨tRad id, tH, 5, true, 77, 1, _, by exact ⟨by decide +kernel, rfl⟩⟩,
    ⟨tRad id, tH, 0, by decide +kernel⟩,
    ⟨tRad id, tH, 2 ^ 60 - 1, by decide +kernel⟩,
    ⟨tRad id, accFw, 9, _, _, by exact ⟨rfl, by decide +kernel, rfl⟩⟩,
    ⟨tRad id, accFw, 9, _, _, by exact ⟨rfl, by decide +kernel, rfl⟩⟩,
    ⟨tRad id, accFw, 1, _, by exact ⟨by decide +kernel, by decide +kernel, by decide +kernel, rfl⟩⟩,
    ⟨tRad fun b => b.put F.RAD_ID_PAN_ID 0xFFFF, accFw, 1, by decide +kernel⟩⟩

theorem test_meets_SessionsAndTheSaddleTakeEffect :
    (∃ (s : State) (h : Hdr) (c r e : Nat) (t : Bool) (b1 : Block), (h.session < 4) ∧ ((s.b.sess h.session).state ≠ 1) ∧ (¬(s.b.topState = stKick ∧ h.session ≠ 0)) ∧ (helloParamsOk 1 c r e = true) ∧ (s.b.gspRoles h.session ≠ 0) ∧ (b1 = (s.b.openSession h.session (s.b.gspRoles h.session) c r e none 0).helloTake h.session h)) ∧
    (∃ (s : State) (h : Hdr) (c r e n proved granted : Nat) (u : HelloUdp), (s.b.udpSession u.ip u.port = none) ∧ (([4, 5, 6, 7].find? fun s' => (s.b.sess s').state == 0) = some n) ∧ (¬(s.b.topState = stKick ∧ u.mgt ≠ 0)) ∧ (helloParamsOk 1 c r e = true) ∧ (1 ≤ u.sigs.length) ∧ (u.sigs.length ≤ 5) ∧ (proved = provedRoles s.key u.sigs) ∧ (granted = s.b.gspRoles n &&& proved) ∧ (granted ≠ 0)) ∧
    (∃ (s : State) (h : Hdr) (b1 : Block) (pkt : List Byte), (Ready s h 0x0002 ⟨none, false⟩) ∧ (b1 = s.taken h 0x0002) ∧ (pkt = ycpPacket h.session flReply 0x0002 h.tag yOk (b1.creditByte h.session) 0 [])) ∧
    (∃ (s : State) (f : Nat), (f < 4)) ∧
    (∃ (s : State) (n : Nat), (4 ≤ n) ∧ (n < 8) ∧ ((s.b.sess n).state = 1) ∧ (s.b.since (s.b.sess n).lastAuth (s.b.fld F.HST_CTRL_UDP_TMO * tickS) = true)) ∧
    (∃ (s : State) (h : Hdr) (x : Session), (Ready s h 0x0003 ⟨none, false⟩) ∧ (x = (s.taken h 0x0003).sess h.session)) ∧
    (∃ (s : State) (h : Hdr) (lease : Nat) (force : Bool), (Ready s h 0x0004 ⟨some roleEng, false⟩) ∧ (10 ≤ lease) ∧ (lease ≤ 3600) ∧ ((s.taken h 0x0004).hst.holder = none ∨ (s.taken h 0x0004).hst.holder = some h.session)) ∧
    (∃ (s : State) (h : Hdr) (lease n : Nat), (Ready s h 0x0004 ⟨some roleEng, false⟩) ∧ (10 ≤ lease) ∧ (lease ≤ 3600) ∧ ((s.taken h 0x0004).hst.holder = some n) ∧ (n ≠ h.session) ∧ ((s.taken h 0x0004).hasRole s.key h.session roleMnt = true)) ∧
    (∃ (s : State) (h : Hdr) (lease n : Nat) (force : Bool), (Ready s h 0x0004 ⟨some roleEng, false⟩) ∧ (10 ≤ lease) ∧ (lease ≤ 3600) ∧ ((s.taken h 0x0004).hst.holder = some n) ∧ (n ≠ h.session) ∧ ((force && (s.taken h 0x0004).hasRole s.key h.session roleMnt) = false)) ∧
    (∃ (s : State) (h : Hdr), (Ready s h 0x0005 ⟨some roleEng, true⟩)) ∧
    (∃ (s : State), (s.b.hst.holder.isSome = true) ∧ (s.b.hst.leaseEnd ≤ s.b.now)) :=
  ⟨⟨tRun, ⟨1, 3⟩, 9, 9, 128, false, _, by exact ⟨by decide, by decide +kernel, by decide +kernel, by decide +kernel, by decide +kernel, rfl⟩⟩,
    ⟨tHello, ⟨0, 3⟩, 9, 9, 9, 4, _, _, ⟨1, 2, 0, 0, [(0, true)]⟩, by exact ⟨by decide +kernel, by decide +kernel, by decide +kernel, by decide +kernel, by decide, by decide, rfl, rfl, by decide +kernel⟩⟩,
    ⟨tRun, tH, _, _, by exact ⟨by decide +kernel, rfl, rfl⟩⟩,
    ⟨tRun, 0, by decide +kernel⟩,
    ⟨tUdp.onB fun _ b => (b.put F.HST_CTRL_UDP_TMO 1), 4, by decide +kernel⟩,
    ⟨tRun, tH, _, by exact ⟨by decide +kernel, rfl⟩⟩,
    ⟨tRun, tH, 3600, false, by decide +kernel⟩,
    ⟨tRun.onB fun _ b => b.modHst fun u => { u with holder := some 3 }, tH, 3600, 3, by decide +kernel⟩,
    ⟨tRun.onB fun _ b => b.modHst fun u => { u with holder := some 3 }, tH, 3600, 3, false, by decide +kernel⟩,
    ⟨tRun, tH, by decide +kernel⟩,
    ⟨tRun.onB fun _ b => b.modHst fun u => { u with leaseEnd := 0 }, by decide +kernel⟩⟩

theorem test_meets_PacketsAndPanniersTakeEffect :
    (∃ (s : State) (f : Nat) (v : W32), (f < 4) ∧ ((s.b.sess f).cmdFree ≠ 0)) ∧
    (∃ (s : State) (f : Nat) (v : W32), (f < 4) ∧ ((s.b.sess f).cmdFree = 0)) ∧
    (∃ (s : State) (f n : Nat) (pkt : List Byte), (f < 4) ∧ (1 ≤ n) ∧ (n ≤ 65) ∧ ((s.b.sess f).staged.length = n) ∧ (pkt = (s.b.sess f).staged.flatten) ∧ ((packetStatus f pkt fun len => cellsFor len == n) = yOk)) ∧
    (∃ (s : State) (f n : Nat) (pkt : List Byte), (f < 4) ∧ (1 ≤ n) ∧ ((s.b.sess f).staged.length ≠ n) ∧ (pkt = (s.b.sess f).staged.flatten)) ∧
    (∃ (s : State) (f n st : Nat) (pkt : List Byte), (f < 4) ∧ (1 ≤ n) ∧ (n ≤ 65) ∧ ((s.b.sess f).staged.length = n) ∧ (pkt = (s.b.sess f).staged.flatten) ∧ ((packetStatus f pkt fun len => cellsFor len == n) = st) ∧ (st ≠ yOk)) ∧
    (∃ (s : State) (d : Datagram) (n : Nat), ((if d.mgt = 0 then s.b.flag F.HST_CTRL_UDP_MGT0 else s.b.flag F.HST_CTRL_UDP_MGT1) = true) ∧ (d.dport = s.b.fld F.HST_CTRL_UDP_PORT) ∧ (s.b.udpSession d.ip d.port = some n) ∧ (pktNat d.pkt 6 2 ≠ 1) ∧ (d.mac = ycpMac (s.b.sess n).sessKey d.pkt d.counter) ∧ ((s.b.sess n).rxCtr < d.counter) ∧ (cellsFor (d.pkt.length - 20) ≤ (s.b.sess n).cmdFree) ∧ ((packetStatus n d.pkt fun len => d.pkt.length == 20 + len) = yOk)) ∧
    (∃ (s : State) (f p n : Nat), (f < 4)) ∧
    (∃ (s : State) (h : Hdr) (p n : Nat) (b1 b2 : Block), (Ready s h 0x0006 ⟨none, false⟩) ∧ (Ready s h 0x0008 ⟨none, false⟩) ∧ (4 ≤ h.session) ∧ (p ≤ 1) ∧ (b1 = (s.taken h 0x0006).modPan h.session p .setMark) ∧ (b2 = (s.taken h 0x0008).modPan h.session p (·.release n))) ∧
    (∃ (s : State) (h : Hdr) (p : Nat) (b1 b2 : Block), (Ready s h 0x0007 ⟨none, false⟩) ∧ (4 ≤ h.session) ∧ (p ≤ 1) ∧ (b1 = (s.taken h 0x0007).modPan h.session p .rewind) ∧ (b2 = b1.controlReply h.session 0x0007 h.tag (b1.pan h.session p).result [])) ∧
    (∃ (s : State) (h : Hdr) (p n : Nat), (h.session < 4) ∧ (Ready s h 0x0006 ⟨none, false⟩) ∧ (Ready s h 0x0007 ⟨none, false⟩) ∧ (Ready s h 0x0008 ⟨none, false⟩)) ∧
    (∃ (s : State) (h : Hdr) (tag : Nat) (x : Session), (Ready s h 0x0009 ⟨none, false⟩) ∧ (x = (s.taken h 0x0009).sess h.session)) ∧
    (∃ (s : State) (n tag op st : Nat) (pl : List Byte), (((s.b.sess n).pending.find? fun e => e.1 == tag) = some (tag, op)) ∧ (st ≠ yPending) ∧ (st ≠ yNotReady)) ∧
    (∃ (s : State) (n sub : Nat) (u : Sub) (b1 : Block) (pkt : List Byte), (((s.b.sess n).subs.find? fun u => u.num == sub && u.dropped != 0) = some u) ∧ (1 ≤ (s.b.sess n).evt.free) ∧ (pkt = ycpPacket n flEvent 0x0D0F u.num yOk (s.b.creditByte n) u.seqNo (beBytes 4 u.dropped)) ∧ (b1 = s.b.modSess n fun x => { x with subs := x.subs.map fun v => if v.num = u.num then { v with dropped := 0, seqNo := (v.seqNo + 1) % 65536 } else v })) ∧
    (∃ (s : State) (h : Hdr) (kind filter : Nat) (l : List Sub), (Ready s h 0x0D01 ⟨some roleObs, false⟩) ∧ (kind ≤ 4) ∧ (l = ((s.taken h 0x0D01).sess h.session).subs) ∧ (l.length < 16)) ∧
    (∃ (s : State) (h : Hdr) (sub : Nat), (Ready s h 0x0D02 ⟨some roleObs, false⟩) ∧ (((s.taken h 0x0D02).sess h.session).subs.any (fun u => u.num == sub) = true)) ∧
    (∃ (s : State) (h : Hdr), (Ready s h 0x0D03 ⟨some roleObs, false⟩)) ∧
    (∃ (s : State) (acc which : Nat) (v : W32) (b1 : Block), (s.b.mayWrite s.key acc roleEng true = yOk) ∧ (shareSum v + shareSum (s.b.rd (if which = 0 then Reg.HST_SHARE_B else Reg.HST_SHARE_A)) ≤ 100) ∧ (b1 = (s.b.wr (if which = 0 then Reg.HST_SHARE_A else Reg.HST_SHARE_B) v).put F.HST_STAT_SHARE_ERR 0)) ∧
    (∃ (s : State) (acc which : Nat) (v : W32), (s.b.mayWrite s.key acc roleEng true = yOk) ∧ (100 < shareSum v + shareSum (s.b.rd (if which = 0 then Reg.HST_SHARE_B else Reg.HST_SHARE_A)))) :=
  ⟨⟨tRun, 0, 5, by decide +kernel⟩,
    ⟨tRun.onB fun _ b => b.modSess 0 fun x => { x with cmdHeld := 72 }, 0, 5, by decide +kernel⟩,
    ⟨tRun.onB fun _ b => b.modSess 0 fun x => { x with staged := [tPkt 0 5] }, 0, 1, _, by exact ⟨by decide, by decide, by decide, by decide +kernel, rfl, by decide +kernel⟩⟩,
    ⟨tRun, 0, 1, _, by exact ⟨by decide, by decide, by decide +kernel, rfl⟩⟩,
    ⟨tRun.onB fun _ b => b.modSess 0 fun x => { x with staged := [[]] }, 0, 1, yBadParam, _, by exact ⟨by decide, by decide, by decide, by decide +kernel, rfl, by decide +kernel, by decide⟩⟩,
    ⟨tUdp, tDatagram, 4, by exact ⟨by decide +kernel, rfl, by decide +kernel, by decide +kernel, rfl, by decide +kernel, by decide +kernel, by decide +kernel⟩⟩,
    ⟨tRun, 0, 0, 1, by decide +kernel⟩,
    ⟨tUdp, tHU, 0, 1, _, _, by exact ⟨by decide +kernel, by decide +kernel, by decide, by decide, rfl, rfl⟩⟩,
    ⟨tUdp, tHU, 0, _, _, by exact ⟨by decide +kernel, by decide, by decide, rfl, rfl⟩⟩,
    ⟨tRun, tH, 0, 1, by decide +kernel⟩,
    ⟨tRun, tH, 9, _, by exact ⟨by decide +kernel, rfl⟩⟩,
    ⟨tRun.onB fun _ b => b.modSess 0 fun x => { x with pending := [(4, 0x0C01)] }, 0, 4, 0x0C01, 0, [], by decide +kernel⟩,
    ⟨tUdp.onB fun _ b => b.modSess 4 fun x => { x with subs := [⟨1, 0, 0, 5, 3⟩] }, 4, 1, _, _, _, by exact ⟨rfl, by decide +kernel, rfl, rfl⟩⟩,
    ⟨tRun, tH, 2, 0, _, by exact ⟨by decide +kernel, by decide, rfl, by decide +kernel⟩⟩,
    ⟨tRun.onB fun _ b => b.modSess 0 fun x => { x with subs := [⟨1, 0, 0, 5, 3⟩] }, tH, 1, by decide +kernel⟩,
    ⟨tRun, tH, by decide +kernel⟩,
    ⟨tRun.onB fun _ b => (b.wr Reg.HST_SHARE_A 0).wr Reg.HST_SHARE_B 0, accFw, 0, 10, _, by exact ⟨by decide +kernel, by decide +kernel, rfl⟩⟩,
    ⟨tRun, accFw, 0, 0xFFFFFFFF, by decide +kernel⟩⟩

theorem test_meets_PannierPointersFollowR439 :
    (∃ (p : Pannier) (n : Nat) (target : W32), ((p.rp - p.fp).toNat < 2 ^ 31) ∧ (n < 2 ^ 31) ∧ (∀ m, p.mark = some m → (m - p.fp).toNat ≤ (p.rp - p.fp).toNat) ∧ (target = if n = 0 then p.rp else if (p.fp + BitVec.ofNat 32 n - p.rp).toInt ≤ 0 then p.fp + BitVec.ofNat 32 n else p.rp)) :=
  ⟨Pannier.empty, 0, _, by exact ⟨by decide +kernel, by decide +kernel, fun m h => (by cases h), rfl⟩⟩

theorem test_meets_KeyCommandsTakeEffect :
    (∃ (s : State) (tries : List Bool) (n : Nat) (c : Nat) (k1 : Key), (s.key.duk = none) ∧ (s.b.top.rstRun = none) ∧ (s.b.top.started = false) ∧ (k1 = s.key.enrolled) ∧ ((k1.helperA || k1.helperB) = true) ∧ ((tries.take 3).contains true = true) ∧ (n = (tries.take 3).findIdx id + 1)) ∧
    (∃ (s : State) (tries : List Bool) (c : Nat) (k1 : Key), (s.key.duk = none) ∧ (s.b.top.rstRun = none) ∧ (s.b.top.started = false) ∧ (k1 = s.key.enrolled) ∧ (((k1.helperA || k1.helperB) && (tries.take 3).contains true) = false)) ∧
    (∃ (s : State) (h : Hdr) (slot i mode engine alg : Nat) (c : KeyContent) (kb kb2 : Key × Block) (x : KeySlot), (Ready s h 0x0A02 (keyGenReq slot mode)) ∧ (s.key.lcs ≠ 4) ∧ (mode ≤ 4) ∧ (s.key.genSlot slot = some i) ∧ (s.key.genRefusal i mode engine alg = yOk) ∧ (contentFits s.key mode c = true) ∧ (kb = vacate i mode c s.key (s.taken h 0x0A02)) ∧ ((kb.1.keep i).genKey i mode engine alg h.session kb.2.tim.sec c = some x) ∧ (kb2 = keyLoaded { kb.1.keep i with draws := (kb.1.keep i).draws + 1 } kb.2 i x)) ∧
    (∃ (s : State) (h : Hdr) (slot i mode engine alg : Nat) (c : KeyContent) (kb : Key × Block), (Ready s h 0x0A02 (keyGenReq slot mode)) ∧ (s.key.lcs ≠ 4) ∧ (mode ≤ 4) ∧ (s.key.genSlot slot = some i) ∧ (s.key.genRefusal i mode engine alg = yOk) ∧ (contentFits s.key mode c = true) ∧ (kb = vacate i mode c s.key (s.taken h 0x0A02)) ∧ ((kb.1.keep i).genKey i mode engine alg h.session kb.2.tim.sec c = none)) ∧
    (∃ (s : State) (h : Hdr) (slot i engine alg : Nat) (c : KeyContent) (kb : Key × Block), (Ready s h 0x0A02 (keyGenReq slot 5)) ∧ (s.key.lcs ≠ 4) ∧ (s.key.genSlot slot = some i) ∧ (s.key.genRefusal i 5 engine alg = yOk) ∧ (kb = vacate i 5 c s.key (s.taken h 0x0A02))) ∧
    (∃ (s : State) (h : Hdr) (slot i mode engine alg : Nat) (c : KeyContent) (kb : Key × Block), (Ready s h 0x0A02 (keyGenReq slot mode)) ∧ (s.key.lcs ≠ 4) ∧ (mode ≤ 5) ∧ (s.key.genSlot slot = some i) ∧ (s.key.genRefusal i mode engine alg = yOk) ∧ (contentFits s.key mode c = true) ∧ (kb = vacate i mode c s.key (s.taken h 0x0A02))) ∧
    (∃ (s : State) (h : Hdr) (slot i mode engine alg : Nat) (c : KeyContent) (t : Bool), (Ready s h 0x0A02 (keyGenReq slot mode)) ∧ (s.key.genSlot slot = some i) ∧ (mode ≤ 5) ∧ (s.key.lcs = 4 ∨ s.key.genRefusal i mode engine alg ≠ yOk)) ∧
    (∃ (s : State) (h : Hdr) (slot : Nat) (nonce : BitVec 256), (Ready s h 0x0A03 ⟨some roleObs, false⟩) ∧ (slot < 64) ∧ ((s.key.slot slot).state ≠ 0)) ∧
    (∃ (s : State) (h : Hdr) (nonce : BitVec 256), (Ready s h 0x0A01 ⟨some roleObs, false⟩)) ∧
    (∃ (s : State) (h : Hdr) (slot : Nat) (nonce : BitVec 256), (Ready s h 0x0A03 ⟨some roleObs, false⟩) ∧ (Ready s h 0x0A01 ⟨some roleObs, false⟩) ∧ (slot < 64) ∧ ((s.key.slot slot).state ≠ 0)) ∧
    (∃ (s : State) (acc slot : Nat) (x : KeySlot), (s.b.mayWrite s.key acc roleObs false = yOk) ∧ (x = s.key.slot (slot % 64))) :=
  ⟨⟨State.reset, [false, true], 2, 5, _, by exact ⟨rfl, by decide +kernel, by decide +kernel, rfl, by decide +kernel, by decide, by decide⟩⟩,
    ⟨State.reset, [false, false, false], 5, _, by exact ⟨rfl, by decide +kernel, by decide +kernel, rfl, by decide +kernel⟩⟩,
    ⟨tRun, tH, 14, 14, 2, 32, 4, .pub 5, _, _, _, by exact ⟨by decide +kernel, by decide +kernel, by decide, by decide +kernel, by decide +kernel, by decide, rfl, rfl, rfl⟩⟩,
    ⟨{ tRun with key := { Key.reset with slots := modAt Key.reset.slots 23 fun x => { x with state := 1, engine := 32 } } }, tH, 6, 6, 3, 2, 0, .wrapped 23 0 none 0, _, by exact ⟨by decide +kernel, by decide +kernel, by decide, by decide +kernel, by decide +kernel, by decide +kernel, rfl, rfl⟩⟩,
    ⟨tKeyed, tH, 3, 3, 8, 4, .none, _, by exact ⟨by decide +kernel, by decide +kernel, by decide +kernel, by decide +kernel, rfl⟩⟩,
    ⟨tRun, tH, 14, 14, 2, 32, 4, .pub 5, _, by exact ⟨by decide +kernel, by decide +kernel, by decide, by decide +kernel, by decide +kernel, by decide, rfl⟩⟩,
    ⟨tRun, tH, 0, 0, 0, 1, 0, .none, false, by decide +kernel⟩,
    ⟨tKeyed, tH, 3, 0, by decide +kernel⟩,
    ⟨tKeyed, tH, 0, by decide +kernel⟩,
    ⟨tKeyed, tH, 3, 0, by decide +kernel⟩,
    ⟨tKeyed, accFw, 3, _, by exact ⟨by decide +kernel, rfl⟩⟩⟩

theorem test_meets_TamperEventsLatchWithholdAndAreAcknowledged :
    (∃ (s : State) (src : Nat) (b1 : Block), (s.b.tamperWatched src = true) ∧ (s.key.live.testBit src = false) ∧ (s.key.armed.testBit src = true) ∧ (b1 = (s.b.bump Reg.KEY_CNT_TAMPER).secDown)) ∧
    (∃ (k : Key) (src i : Nat), (i < 64) ∧ (k.slots.length = 64) ∧ (k.withheld = false)) ∧
    (∃ (s : State), (s.key.meshFails = 0)) ∧
    (∃ (s : State), (1 ≤ s.key.meshFails)) ∧
    (∃ (s : State) (src out : Nat), (src < 8)) ∧
    (∃ (s : State) (h : Hdr) (tseq : Nat) (ok : Bool), (Ready s h 0x0A04 ⟨some roleOpr, false⟩)) :=
  ⟨⟨tRun, 7, _, by exact ⟨by decide +kernel, by decide +kernel, by decide +kernel, rfl⟩⟩,
    ⟨Key.reset, 7, 10, by decide +kernel⟩,
    ⟨tRun, by decide +kernel⟩,
    ⟨{ tRun with key := { Key.reset with meshFails := 1 } }, by decide +kernel⟩,
    ⟨tRun, 3, 20, by decide +kernel⟩,
    ⟨tKeyed, tH, 0, true, by decide +kernel⟩⟩

theorem test_meets_RecorderAcceptsCommitsSealsAndMarks :
    (∃ (s : State) (r : Rec) (rest : List Rec), (s.b.log.offered = r :: rest) ∧ ((s.b.pfail && r.src == 1) = false)) ∧
    (∃ (s : State) (r : Rec) (rest : List Rec), (s.b.log.offered = r :: rest) ∧ (s.b.pfail = true) ∧ (r.src = 1)) ∧
    (∃ (s : State) (r : LogRec) (rest : List LogRec), (s.b.log.queue = r :: rest)) ∧
    (∃ (s : State), (s.b.log.offered = []) ∧ (s.b.log.queue = [])) ∧
    (∃ (s : State), (s.b.dropDue = true)) ∧
    (∃ (s : State), (s.b.dropDue = false)) ∧
    (∃ (s : State), (s.b.markDue = true)) ∧
    (∃ (s : State), (s.b.markDue = false)) ∧
    (∃ (s : State), (s.b.sealDue s.key = true)) ∧
    (∃ (s : State), (s.b.sealDue s.key = false)) ∧
    (∃ (s : State), (s.b.log.opsecSaved + 60 ≤ s.b.opsec)) ∧
    (∃ (s : State), (s.b.opsec < s.b.log.opsecSaved + 60)) :=
  ⟨⟨tRec id, tRecOf 2 0x0702, [], by decide +kernel⟩,
    ⟨(tRec fun b => (b.putFlag F.PWR_STAT_PFAIL true).modLog fun l => { l with offered := [tRecOf 1 0x0702] }), tRecOf 1 0x0702, [], by decide +kernel⟩,
    ⟨(tRec fun b => b.modLog fun l => { l with queue := [tQueued] }), tQueued, [], by decide +kernel⟩,
    ⟨State.reset, by decide +kernel⟩,
    ⟨tRec fun b => b.modLog fun l => { l with dropped := 3 }, by decide +kernel⟩,
    ⟨State.reset, by decide +kernel⟩,
    ⟨tRun, by decide +kernel⟩,
    ⟨State.reset, by decide +kernel⟩,
    ⟨{ tRec (fun b => b.modLog fun l => { l with chainDue := true }) with key := tSealKey }, by decide +kernel⟩,
    ⟨State.reset, by decide +kernel⟩,
    ⟨tRec fun b => b.modLog fun l => { l with opsec := 60 }, by decide +kernel⟩,
    ⟨State.reset, by decide +kernel⟩⟩

theorem test_meets_LogReadVerifyAndClearTakeEffect :
    (∃ (s : State) (h : Hdr) (first count : Nat) (l : List LogRec), (Ready s h 0x0B01 ⟨some roleObs, false⟩) ∧ (1 ≤ count) ∧ (count ≤ 128) ∧ (s.b.log.range count first = some l)) ∧
    (∃ (s : State) (h : Hdr) (first count : Nat), (Ready s h 0x0B01 ⟨some roleObs, false⟩) ∧ (count < 1 ∨ 128 < count ∨ s.b.log.range count first = none)) ∧
    (∃ (s : State) (acc : Nat), (s.b.mayWrite s.key acc roleEng true = yOk)) ∧
    (∃ (s : State) (acc : Nat), (s.b.mayWrite s.key acc roleEng true ≠ yOk)) ∧
    (∃ (s : State) (h : Hdr) (clrNo newSize newFixed : Nat), (Ready s h 0x0B02 ⟨some roleMnt, false⟩) ∧ (logSizesOk newSize newFixed = true) ∧ ((s.key.slot 3).state ≠ 0) ∧ (clrNo = s.b.log.clrCnt)) ∧
    (∃ (s : State) (h : Hdr) (clrNo newSize newFixed : Nat) (sigOk : Bool) (st : Nat), (Ready s h 0x0B02 ⟨some roleMnt, false⟩) ∧ (st = (if logSizesOk newSize newFixed = false then yBadParam else if (s.key.slot 3).state = 0 then yDenied else if sigOk = false then yAuthFail else if clrNo ≠ s.b.log.clrCnt then yDenied else yOk)) ∧ (st ≠ yOk)) :=
  ⟨⟨(tRec fun b => b.modLog fun l => { l with queue := [tQueued], rnumNext := 1 }), tH, 0, 1, [tQueued], by decide +kernel⟩,
    ⟨tRec id, tH, 0, 1, by decide +kernel⟩,
    ⟨tRec id, 4, by decide +kernel⟩,
    ⟨tRec id, 5, by decide +kernel⟩,
    ⟨{ tRec id with key := { Key.reset with slots := modAt Key.reset.slots 3 fun x => { x with state := 1 } } }, tH, 0, 2048, 1024, by decide +kernel⟩,
    ⟨tRec id, tH, 0, 100, 0, true, yBadParam, by decide +kernel⟩⟩

theorem test_meets_RecordsTakeTheirNumbersInOrder :
    (∃ (s : State) (r : Rec) (rest : List Rec) (op : Bool) (x : LogRec), (s.b.log.offered = r :: rest) ∧ (s.b.pfail = false) ∧ (s.b.log.dropped = 0) ∧ (s.b.sealDue s.key = false) ∧ (s.b.log.queue.length < 64) ∧ (s.b.log.full = false) ∧ (s.b.log.size ≠ 65536) ∧ (r.code ≠ 0x0F04) ∧ (op = (r.code != 0x0F03 && s.b.tformNow r.src)) ∧ (x.rnum = s.b.log.rnumNext) ∧ (x.code = r.code) ∧ (x.src = r.src) ∧ (x.flags = 128 * op.toNat + 64 * r.aon.toNat + 32 * (decide (s.b.log.rnumNext < s.b.log.fixed)).toNat) ∧ (x.time = if op then (s.b.opsec % 2 ^ 40) * 2 ^ 24 + s.b.log.pcc else s.b.log.seq) ∧ (x.p0 = r.p0) ∧ (x.p1 = r.p1) ∧ (x.p2 = r.p2) ∧ (x.p3 = r.p3) ∧ (x.crc = crc32c x.head)) :=
  ⟨tRec id, tRecOf 2 0x0702, [], false, { rnum := 0, code := 0x0702, src := 2, flags := 32, time := 0, p0 := 1, p1 := 2, p2 := 3, p3 := 4, crc := crc32c (beBytes 2 0x0702 ++ beBytes 1 2 ++ beBytes 1 32 ++ beBytes 8 0 ++ wordBytes [1, 2, 3, 4]) }, by decide +kernel⟩

theorem test_meets_SupplyAndTemperatureEventsTakeEffect :
    (∃ (s : State) (vin vstore : Nat) (part : LineCycle), (s.b.failsAt vin = true) ∧ (s.b.pfail = false)) ∧
    (∃ (s : State) (vin vstore : Nat) (part : LineCycle), (s.b.failsAt vin = true) ∧ (s.b.pfail = true)) ∧
    (∃ (s : State) (vin vstore goodUs : Nat), (s.b.recovers vin goodUs = true)) ∧
    (∃ (s : State) (vin vstore : Nat), (s.b.top.disconnected = true) ∧ (vin ≤ 6200)) ∧
    (∃ (s : State) (vin vstore : Nat), (s.b.pfail = true) ∧ (s.b.top.disconnected = false) ∧ (560 ≤ vin) ∧ (vstore ≤ vin)) ∧
    (∃ (s : State) (vin vstore goodUs : Nat) (part : LineCycle), (s.b.failsAt vin = false) ∧ (s.b.pfail = false) ∧ (s.b.top.disconnected = false)) ∧
    (∃ (s : State) (acc : Nat) (value : W32), (s.b.mayWrite s.key acc roleEng false = yOk) ∧ (clampNat 58 500 (bits value 9 0) + 10 ≤ min 550 (bits value 25 16))) ∧
    (∃ (s : State) (acc : Nat) (value : W32), (s.b.mayWrite s.key acc roleEng false ≠ yOk)) ∧
    (∃ (s : State) (t : Int), (s.b.top.loaded = true) ∧ (t ≤ 1250 ∨ s.b.within s.b.top.overTick (60 * tickS) = true)) ∧
    (∃ (s : State) (t : Int), (s.b.top.loaded = true) ∧ (1250 < t) ∧ (s.b.within s.b.top.overTick (60 * tickS) = false)) ∧
    (∃ (s : State) (t : Int), (s.b.top.loaded = false)) :=
  ⟨⟨tRun, 500, 4000, tCycle, by decide +kernel⟩,
    ⟨(tRun.onB fun _ b => b.putFlag F.PWR_STAT_PFAIL true), 7000, 3000, tCycle, by decide +kernel⟩,
    ⟨(tRun.onB fun _ b => b.putFlag F.PWR_STAT_PFAIL true), 4800, 3000, 1000, by decide +kernel⟩,
    ⟨(tRun.onB fun _ b => b.modTop fun t => { t with disconnected := true }), 6200, 4000, by decide +kernel⟩,
    ⟨(tRun.onB fun _ b => b.putFlag F.PWR_STAT_PFAIL true), 1000, 1000, by decide +kernel⟩,
    ⟨tRun, 4800, 4000, 0, tCycle, by decide +kernel⟩,
    ⟨tRun, 12, 0x0069003A, by decide +kernel⟩,
    ⟨tRun, 5, 0, by decide +kernel⟩,
    ⟨(tRun.onB fun _ b => b.modTop fun t => { t with loaded := true }), 250, by decide +kernel⟩,
    ⟨(tRun.onB fun _ b => b.modTop fun t => { t with loaded := true }), 1251, by decide +kernel⟩,
    ⟨State.reset, 1300, by decide +kernel⟩⟩

theorem test_meets_ResetSourcesAndTheirEndTakeEffect :
    (∃ (s : State) (rail : Bool) (vin vstore : Nat), (rail = true ∨ (vstore < 800 ∧ (vin < 560 ∨ s.b.top.disconnected = true)))) ∧
    (∃ (s : State) (vin vstore samples : Nat), (800 ≤ vstore ∨ (560 ≤ vin ∧ s.b.top.disconnected = false)) ∧ (samples < 3 ∨ s.b.top.resetNLow = true)) ∧
    (∃ (s : State) (samples : Nat), (3 ≤ samples) ∧ (s.b.top.resetNLow = false)) ∧
    (∃ (s : State) (lostUs off : Nat), (10 < lostUs ∨ 200 < off)) ∧
    (∃ (s : State) (lostUs off : Nat), (lostUs ≤ 10) ∧ (off ≤ 200)) ∧
    (∃ (s : State) (acc : Nat), (s.b.mayWrite s.key acc roleMnt false = yOk)) ∧
    (∃ (s : State) (acc : Nat), (s.b.mayWrite s.key acc roleMnt false ≠ yOk)) ∧
    (∃ (s : State) (h : Hdr) (reach : Nat), (Ready s h 0x0C04 ⟨some roleMnt, false⟩) ∧ (reach < 2)) ∧
    (∃ (s : State) (h : Hdr) (reach : Nat), (Ready s h 0x0C04 ⟨some roleMnt, false⟩) ∧ (2 ≤ reach)) ∧
    (∃ (s : State) (r : ResetRun), (s.b.top.rstRun = some r) ∧ (s.b.since r.lastAssert (stretch r.reach) = true)) ∧
    (∃ (s : State) (r : ResetRun), (s.b.top.rstRun = some r) ∧ (s.b.since r.lastAssert (stretch r.reach) = true)) ∧
    (∃ (s : State) (r : ResetRun) (held : Nat), (s.b.top.rstRun = some r) ∧ (s.b.since r.lastAssert (stretch r.reach) = false ∨ heldOthers held ≠ 0)) :=
  ⟨⟨tRun, false, 0, 700, by decide +kernel⟩,
    ⟨tRun, 0, 800, 2, by decide +kernel⟩,
    ⟨tRun, 3, by decide +kernel⟩,
    ⟨tRun, 11, 0, by decide +kernel⟩,
    ⟨tRun, 10, 200, by decide +kernel⟩,
    ⟨tRun, 12, by decide +kernel⟩,
    ⟨tRun, 5, by decide +kernel⟩,
    ⟨tRun, tH, 1, by decide +kernel⟩,
    ⟨tRun, tH, 2, by decide +kernel⟩,
    ⟨(tRun.onB fun _ b => b.modTop fun t => { t with rstRun := some ⟨1, 4, 0, true, false⟩ }), ⟨1, 4, 0, true, false⟩, by decide +kernel⟩,
    ⟨(tRun.onB fun _ b => b.modTop fun t => { t with rstRun := some ⟨1, 4, 0, true, false⟩ }), ⟨1, 4, 0, true, false⟩, by decide +kernel⟩,
    ⟨(tRun.onB fun _ b => b.modTop fun t => { t with rstRun := some ⟨1, 4, 0, true, false⟩ }), ⟨1, 4, 0, true, false⟩, 0x40, by decide +kernel⟩⟩

theorem test_meets_TheStepsOfAStartTakeEffect :
    (∃ (s : State) (refin : Bool), (s.b.top.rstRun = none) ∧ (s.b.top.loaded = false) ∧ (s.b.top.started = false)) ∧
    (∃ (s : State) (f : BootFind), (s.b.top.rstRun = none) ∧ (s.b.top.loaded = true) ∧ (s.b.top.started = false) ∧ (s.b.fld F.RST_CAUSE_LAST_REACH = 2) ∧ (s.b.top.dramFw = true)) ∧
    (∃ (s : State) (f : BootFind), (s.b.top.rstRun = none) ∧ (s.b.top.loaded = true) ∧ (s.b.top.started = false) ∧ (s.b.fld F.RST_CAUSE_LAST_REACH ≠ 2 ∨ s.b.top.dramFw = false) ∧ (s.key.duk.isSome = true ∨ s.key.pufFail = true)) ∧
    (∃ (s : State) (refin : Bool) (f : BootFind), (s.b.top.started = true) ∧ (s.b.topState ≠ stStart)) ∧
    (∃ (s : State), (s.b.topState = stStart) ∧ (s.b.top.started = true) ∧ (s.b.top.rstRun = none)) ∧
    (∃ (s : State), (s.b.top.runDone = false) ∧ (60 * tickS ≤ s.b.runTicks) ∧ (s.b.flag F.TOP_FW_RECOVERY = false)) ∧
    (∃ (s : State), (s.b.runTicks < 60 * tickS ∨ s.b.top.runDone = true)) ∧
    (∃ (s : State) (acc : Nat), (s.b.mayWrite s.key acc roleMnt false = yOk)) ∧
    (∃ (s : State) (acc : Nat), (s.b.mayWrite s.key acc roleMnt false ≠ yOk)) ∧
    (∃ (s : State) (h : Hdr) (offset total : Nat) (bytes : List Byte) (c : FwContent), (Ready s h 0x0C05 ⟨some roleMnt, false⟩) ∧ (s.b.topState ≠ stWatch) ∧ (fwLast (s.b.sess h.session).fwStage offset total bytes = true)) ∧
    (∃ (s : State) (h : Hdr) (offset total : Nat) (bytes : List Byte) (c : FwContent), (Ready s h 0x0C05 ⟨some roleMnt, false⟩) ∧ (s.b.topState = stWatch ∨ fwLast (s.b.sess h.session).fwStage offset total bytes = false)) ∧
    (∃ (s : State) (h : Hdr) (target : Nat), (Ready s h 0x0C03 ⟨some roleMnt, false⟩) ∧ (s.b.topState = stMaint) ∧ (target = s.key.lcs + 1) ∧ (target ≤ 4) ∧ ((s.key.slot 3).state ≠ 0)) ∧
    (∃ (s : State) (h : Hdr) (target : Nat) (sigOk tampered : Bool), (Ready s h 0x0C03 ⟨some roleMnt, false⟩) ∧ (s.b.topState ≠ stMaint ∨ target ≠ s.key.lcs + 1 ∨ 4 < target)) ∧
    (∃ (s : State) (acc : Nat) (value : W32), (s.b.mayWrite s.key acc roleEng true = yOk) ∧ (s.b.topState = stMaint)) ∧
    (∃ (s : State) (acc : Nat) (value : W32), (s.b.mayWrite s.key acc roleEng true = yOk) ∧ (s.b.topState ≠ stMaint)) ∧
    (∃ (s : State) (acc : Nat) (value : W32), (s.b.mayWrite s.key acc roleEng true ≠ yOk)) :=
  ⟨⟨State.reset, true, by decide +kernel⟩,
    ⟨(tRun.onB fun _ b => (b.put F.RST_CAUSE_LAST_REACH 2).modTop fun t => { t with loaded := true, dramFw := true }), tFind, by decide +kernel⟩,
    ⟨{ State.reset.onB (fun _ b => b.modTop fun t => { t with loaded := true }) with key := { Key.reset with pufFail := true } }, tFind, by decide +kernel⟩,
    ⟨(tRun.onB fun _ b => b.modTop fun t => { t with started := true }), true, tFind, by decide +kernel⟩,
    ⟨State.reset.onB fun _ b => b.modTop fun t => { t with started := true }, by decide +kernel⟩,
    ⟨tRun.onB fun _ b => b.modTop fun t => { t with runAcc := 60 * tickS }, by decide +kernel⟩,
    ⟨tRun, by decide +kernel⟩,
    ⟨tRun, 4, by decide +kernel⟩,
    ⟨tRun, 5, by decide +kernel⟩,
    ⟨tRun, tH, 0, 4, [1, 2, 3, 4], ⟨4, true, true, true, 3, true, true, true⟩, by decide +kernel⟩,
    ⟨tRun, tH, 0, 8, [1, 2, 3, 4], ⟨4, true, true, true, 3, true, true, true⟩, by decide +kernel⟩,
    ⟨{ tIn 4 id with key := { Key.reset with slots := modAt Key.reset.slots 3 fun x => { x with state := 1 } } }, tH, 1, by decide +kernel⟩,
    ⟨tRun, tH, 2, true, false, by decide +kernel⟩,
    ⟨tIn 4 id, 4, 1, by decide +kernel⟩,
    ⟨tRun, 4, 1, by decide +kernel⟩,
    ⟨tRun, 5, 1, by decide +kernel⟩⟩

theorem test_meets_ClocksAndDeviceStatesTakeEffect :
    (∃ (s : State) (b1 : Block), (b1 = s.b.put F.CLK_STAT_REFIN_OK 0) ∧ (b1.fld F.CLK_STAT_REF_ACTIVE = 1)) ∧
    (∃ (s : State) (b1 : Block), (b1 = s.b.put F.CLK_STAT_REFIN_OK 0) ∧ (b1.fld F.CLK_STAT_REF_ACTIVE ≠ 1)) ∧
    (∃ (s : State) (refin : Bool), (s.b.fld F.CLK_STAT_REF_ACTIVE = 0)) ∧
    (∃ (s : State) (refin : Bool), (s.b.fld F.CLK_STAT_REF_ACTIVE ≠ 0)) ∧
    (∃ (s : State) (hz : Nat), (hz < 20000 ∨ 45000 < hz) ∧ ((s.b.put F.CLK_AON_HZ_HZ (min 65535 hz)).flag F.CLK_STAT_AON_BAD = false)) ∧
    (∃ (s : State) (hz : Nat), (20000 ≤ hz) ∧ (hz ≤ 45000)) ∧
    (∃ (s : State) (acc : Nat) (value : W32) (refin : Bool) (b1 : Block), (s.b.mayWrite s.key acc roleEng false = yOk) ∧ (b1 = ((s.b.put F.CLK_CTRL_REF_SEL (bits value 1 1)).put F.CLK_CTRL_REF_AUTO (bits value 0 0)).putFlag F.CLK_STAT_REFIN_OK refin)) ∧
    (∃ (s : State) (acc : Nat) (value : W32) (refin : Bool), (s.b.mayWrite s.key acc roleEng false ≠ yOk)) ∧
    (∃ (s : State), (s.b.top.refTo.isSome = true)) ∧
    (∃ (s : State), (s.b.top.refTo = none)) ∧
    (∃ (s : State) (vin lowMs : Nat), (s.b.topState = stRun ∨ s.b.topState = stMaint) ∧ (s.b.flag F.PWR_CTRL_WATCH_AUTO = true) ∧ (vin < s.b.watchThr) ∧ (100 ≤ lowMs)) ∧
    (∃ (s : State) (vin highMs : Nat), (s.b.topState = stWatch) ∧ (s.b.fld F.TOP_STATE_WATCH_CAUSE = 1) ∧ (s.b.watchThr + s.b.watchHys ≤ vin) ∧ (1000 * max 1 (s.b.fld F.PWR_WATCH_DWELL) ≤ highMs)) ∧
    (∃ (s : State) (vin lowMs highMs : Nat), (s.b.topState = stStart ∨ s.b.topState = stKick)) ∧
    (∃ (s : State) (h : Hdr) (target vin : Nat), (Ready s h 0x0C06 ⟨some roleMnt, false⟩) ∧ (s.b.stateAllowed target vin = true)) ∧
    (∃ (s : State) (h : Hdr) (target vin : Nat), (Ready s h 0x0C06 ⟨some roleMnt, false⟩) ∧ (s.b.stateAllowed target vin = false)) :=
  ⟨⟨(tRun.onB fun _ b => b.put F.CLK_STAT_REF_ACTIVE 1), _, by exact ⟨rfl, by decide +kernel⟩⟩,
    ⟨tRun, _, by exact ⟨rfl, by decide +kernel⟩⟩,
    ⟨tRun, true, by decide +kernel⟩,
    ⟨(tRun.onB fun _ b => b.put F.CLK_STAT_REF_ACTIVE 1), true, by decide +kernel⟩,
    ⟨tRun, 19999, by decide +kernel⟩,
    ⟨tRun, 32000, by decide +kernel⟩,
    ⟨tRun, 12, 2, true, _, by exact ⟨by decide +kernel, rfl⟩⟩,
    ⟨tRun, 5, 2, true, by decide +kernel⟩,
    ⟨tRun.onB fun _ b => b.modTop fun t => { t with refTo := some (1, 0) }, by decide +kernel⟩,
    ⟨tRun, by decide +kernel⟩,
    ⟨(tRun.onB fun _ b => b.put F.PWR_CTRL_WATCH_AUTO 1), 1000, 100, by decide +kernel⟩,
    ⟨(tIn 3 fun b => b.put F.TOP_STATE_WATCH_CAUSE 1), 4800, 20000, by decide +kernel⟩,
    ⟨State.reset, 1000, 100, 100, by decide +kernel⟩,
    ⟨tRun, tH, 4, 4800, by decide +kernel⟩,
    ⟨tRun, tH, 2, 4800, by decide +kernel⟩⟩

theorem test_meets_RegisterAccessesTakeEffect :
    (∃ (s : State) (acc addr : Nat) (value : W32), (addr % 4 = 0) ∧ (s.b.fnAnswers acc = true)) ∧
    (∃ (s : State) (acc addr : Nat) (value : W32) (d : RegDesc), (addr % 4 = 0) ∧ (s.b.fnAnswers acc = true) ∧ (regAt addr = some d) ∧ (s.b.radOff addr = false) ∧ (d.role = .eng ∨ d.role = .engS ∨ d.role = .opr ∨ d.role = .mnt ∨ d.role = .mntS) ∧ (s.b.mayWrite s.key acc d.role.need.1 d.role.need.2 = yOk) ∧ (d.writable ≠ 0) ∧ (addr ≠ Reg.RST_CTRL) ∧ (isWindow addr = false)) ∧
    (∃ (s : State) (acc addr : Nat) (value : W32) (d : RegDesc), (addr % 4 = 0) ∧ (s.b.fnAnswers acc = true) ∧ (regAt addr = some d) ∧ (s.b.radOff addr = false) ∧ (d.role ≠ .none) ∧ (d.role ≠ .gw) ∧ (d.role ≠ .pan) ∧ (s.b.mayWrite s.key acc d.role.need.1 d.role.need.2 ≠ yOk)) ∧
    (∃ (s : State) (acc addr size : Nat) (value : W32), (size ≠ 4 ∨ addr % 4 ≠ 0 ∨ s.b.fnAnswers acc = false)) ∧
    (∃ (s : State) (acc addr : Nat), (acc < 13) ∧ (4 ≤ acc ∨ s.b.fnAnswers acc = true)) ∧
    (∃ (s : State) (h : Hdr) (addr : Nat), (Ready s h 0x0101 ⟨some roleObs, false⟩) ∧ (addrOk addr = true)) ∧
    (∃ (s : State) (h : Hdr) (addr count : Nat), (Ready s h 0x0103 ⟨some roleObs, false⟩) ∧ (1 ≤ count) ∧ (count ≤ 1024) ∧ (((List.range count).all fun i => addrOk (addr + 4 * i)) = true)) ∧
    (∃ (s : State) (h : Hdr) (addr count : Nat), (Ready s h 0x0101 ⟨some roleObs, false⟩) ∧ (Ready s h 0x0103 ⟨some roleObs, false⟩) ∧ (addrOk addr = false) ∧ (count = 0 ∨ 1024 < count ∨ ((List.range count).all fun i => addrOk (addr + 4 * i)) = false)) ∧
    (∃ (s : State) (h : Hdr) (addr : Nat) (value mask : W32), (Ready s h 0x0102 ⟨none, false⟩) ∧ (addr % 4 = 0) ∧ (addr ≠ Reg.RST_CTRL ∨ bits (value &&& mask) 1 0 = 0)) ∧
    (∃ (s : State) (h : Hdr) (value mask : W32), (Ready s h 0x0102 ⟨none, false⟩) ∧ (bits (value &&& mask) 1 0 ≠ 0) ∧ ((s.taken h 0x0102).mayWrite s.key (accOf h.session) roleMnt false = yOk)) ∧
    (∃ (s : State) (h : Hdr) (addr : Nat) (value mask : W32), (Ready s h 0x0102 ⟨none, false⟩) ∧ (addr % 4 ≠ 0)) :=
  ⟨⟨tRun, 0, 0x20014, 0x00200020, by decide +kernel⟩,
    ⟨tRun, 0, 0x20014, 0x00200020, ⟨0x20014, 1, 0x4, .engS, [⟨31, 16, .clamp 10 65535⟩, ⟨9, 0, .clamp 1 500⟩]⟩, by decide +kernel⟩,
    ⟨tRun, 1, 0x20014, 0, ⟨0x20014, 1, 0x4, .engS, [⟨31, 16, .clamp 10 65535⟩, ⟨9, 0, .clamp 1 500⟩]⟩, by decide +kernel⟩,
    ⟨tRun, 0, 0x20014, 2, 1, by decide +kernel⟩,
    ⟨tRun, 12, 0x20040, by decide +kernel⟩,
    ⟨tRun, tH, 0x20014, by decide +kernel⟩,
    ⟨tRun, tH, 0x20000, 3, by decide +kernel⟩,
    ⟨tRun, tH, 0x20002, 1, by decide +kernel⟩,
    ⟨tRun, tH, 0x20014, 0x00200020, 0xFFFFFFFF, by decide +kernel⟩,
    ⟨tRun, tH, 2, 2, by decide +kernel⟩,
    ⟨tRun, tH, 0x20016, 0, 0, by decide +kernel⟩⟩

theorem test_meets_GuardRegistersAreNotWritten :
    (∃ (s : State) (acc addr size : Nat) (value : W32) (d : RegDesc), (regAt addr = some d) ∧ (d.role = .gw)) ∧
    (∃ (s : State) (h : Hdr) (addr : Nat) (value mask : W32) (d : RegDesc), (Ready s h 0x0102 ⟨none, false⟩) ∧ (addr % 4 = 0) ∧ (regAt addr = some d) ∧ (d.role = .gw) ∧ (addr ≠ grdGap)) :=
  ⟨⟨tRun, 0, 0xA0000, 4, 1, ⟨0xA0000, 3, 0x4, .gw, []⟩, by decide +kernel⟩,
    ⟨tRun, tH, 0xA0044, 1, 1, ⟨0xA0040, 4, 0x4, .gw, []⟩, by decide +kernel⟩⟩

theorem test_meets_WatchThresholdStaysAboveThePfailThreshold :
    (∃ (s : State) (acc : Nat) (value : W32), (s.b.mayWrite s.key acc roleEng false = yOk) ∧ (s.b.fnAnswers acc = true) ∧ (min 550 (bits value 25 16) < clampNat 58 500 (bits value 9 0) + 10)) ∧
    (∃ (s : State) (h : Hdr) (value mask new : W32), (Ready s h 0x0102 ⟨none, false⟩) ∧ ((s.taken h 0x0102).mayWrite s.key (accOf h.session) roleEng false = yOk) ∧ (mask &&& 0x03FF03FF ≠ 0) ∧ (new = (s.b.rd Reg.PWR_THR &&& ~~~mask) ||| (value &&& mask)) ∧ (min 550 (if mask &&& 0x03FF0000 = 0 then bits (s.b.rd Reg.PWR_THR) 25 16 else bits new 25 16) < clampNat 58 500 (if mask &&& 0x000003FF = 0 then bits (s.b.rd Reg.PWR_THR) 9 0 else bits new 9 0) + 10)) :=
  ⟨⟨tRun, 0, 0x0043003A, by decide +kernel⟩,
    ⟨tRun, tH, 0x00430000, 0xFFFF0000, _, by exact ⟨by decide +kernel, by decide +kernel, by decide, rfl, by decide +kernel⟩⟩⟩

theorem test_meets_LedgerSharesThatDoNotFitAreRefused :
    (∃ (s : State) (acc which : Nat) (value a c : W32), (s.b.mayWrite s.key acc roleEng true = yOk) ∧ (which = 0 ∨ which = 1) ∧ (a = if which = 0 then value else s.b.rd Reg.ALN_LDG_SHARE_A) ∧ (c = if which = 0 then s.b.rd Reg.ALN_LDG_SHARE_B else value &&& 0xFFFF) ∧ (100 < bits a 7 0 + bits a 15 8 + bits a 23 16 + bits a 31 24 + bits c 7 0 ∨ bits c 7 0 < bits c 15 8 ∨ bits c 15 8 < 2)) ∧
    (∃ (s : State) (acc which : Nat) (value new a c : W32) (d : RegDesc), (s.b.fnAnswers acc = true) ∧ (s.b.mayWrite s.key acc roleEng true = yOk) ∧ (which = 0 ∨ which = 1) ∧ (regAt (Reg.ALN_LDG_SHARE_A + 4 * which) = some d) ∧ (new = d.merge (s.b.rd (Reg.ALN_LDG_SHARE_A + 4 * which)) value 0xFFFFFFFF) ∧ (a = if which = 0 then new else s.b.rd Reg.ALN_LDG_SHARE_A) ∧ (c = if which = 0 then s.b.rd Reg.ALN_LDG_SHARE_B else new &&& 0xFFFF) ∧ (100 < bits a 7 0 + bits a 15 8 + bits a 23 16 + bits a 31 24 + bits c 7 0 ∨ bits c 7 0 < bits c 15 8 ∨ bits c 15 8 < 2)) ∧
    (∃ (s : State) (h : Hdr) (which : Nat) (value mask new a c : W32) (d : RegDesc), (Ready s h 0x0102 ⟨none, false⟩) ∧ ((s.taken h 0x0102).mayWrite s.key (accOf h.session) roleEng true = yOk) ∧ (which = 0 ∨ which = 1) ∧ (regAt (Reg.ALN_LDG_SHARE_A + 4 * which) = some d) ∧ (mask &&& d.writable ≠ 0) ∧ (new = d.merge (s.b.rd (Reg.ALN_LDG_SHARE_A + 4 * which)) value mask) ∧ (a = if which = 0 then new else s.b.rd Reg.ALN_LDG_SHARE_A) ∧ (c = if which = 0 then s.b.rd Reg.ALN_LDG_SHARE_B else new &&& 0xFFFF) ∧ (100 < bits a 7 0 + bits a 15 8 + bits a 23 16 + bits a 31 24 + bits c 7 0 ∨ bits c 7 0 < bits c 15 8 ∨ bits c 15 8 < 2)) :=
  ⟨⟨tRun, 0, 1, 0x0105, _, _, by exact ⟨by decide +kernel, by decide, rfl, rfl, by decide +kernel⟩⟩,
    ⟨tRun, 0, 0, 0x20202020, _, _, _, ⟨0x50C0C, 1, 0x4, .engS, [⟨31, 24, .rw⟩, ⟨23, 16, .rw⟩, ⟨15, 8, .rw⟩, ⟨7, 0, .rw⟩]⟩, by exact ⟨by decide +kernel, by decide +kernel, by decide, by decide, rfl, rfl, rfl, by decide +kernel⟩⟩,
    ⟨tRun, tH, 1, 0x100, 0xFF00, _, _, _, ⟨0x50C10, 1, 0x4, .engS, [⟨15, 8, .rw⟩, ⟨7, 0, .rw⟩]⟩, by exact ⟨by decide +kernel, by decide +kernel, by decide, by decide, by decide, rfl, rfl, rfl, by decide +kernel⟩⟩⟩

theorem test_meets_HoppingVisitsEveryChannelOfTheMap :
    (∃ (n : Nat), (0 < n) ∧ (n ≤ 72)) ∧
    (∃ (m sfn : Nat), (mapList m ≠ [])) ∧
    (∃ (m start c : Nat), (c ∈ mapList m)) :=
  ⟨⟨50, by decide +kernel⟩,
    ⟨0x3FF, 7, by decide +kernel⟩,
    ⟨0x3FF, 5, 3, by decide +kernel⟩⟩

theorem test_meets_PowerFailSavesTheQueueAndTheSeconds :
    (∃ (s : State) (vin vstore : Nat) (part : LineCycle), (s.b.failsAt vin = true) ∧ (s.b.pfail = false)) :=
  ⟨tRun, 500, 4000, tCycle, by decide +kernel⟩

theorem test_meets_AResetKeepsWhatItsReachKeeps :
    (∃ (s : State) (vin vstore : Nat), (s.b.top.rstRun = none)) ∧
    (∃ (s : State) (point : Nat), (s.b.top.rstRun = none)) :=
  ⟨⟨tRun, 1000, 4000, by decide +kernel⟩,
    ⟨tRun, 3, by decide +kernel⟩⟩


/-! ### Well-formedness: a term that each check refuses -/

theorem test_wf_accessor : (Instr.registerWrite 13 0x10204 4 0).wellFormed = false ∧ (Instr.registerWrite 12 0x10204 4 0).wellFormed = true := by decide
theorem test_wf_field : (Instr.registerWrite 0 (2 ^ 32) 4 0).wellFormed = false ∧ (Instr.registerWrite 0 (2 ^ 32 - 4) 4 0).wellFormed = true := by decide
theorem test_wf_count : (Instr.ledgerShareWrite 0 2 0).wellFormed = false ∧ (Instr.ledgerShareWrite 0 1 0).wellFormed = true := by decide
theorem test_wf_port : (Instr.linkDown 7).wellFormed = false ∧ (Instr.linkDown 6).wellFormed = true := by decide
theorem test_wf_session : (Instr.bye ⟨8, 0⟩).wellFormed = false ∧ (Instr.bye ⟨7, 0⟩).wellFormed = true := by decide
theorem test_wf_tag : (Instr.bye ⟨0, 65536⟩).wellFormed = false := by decide
theorem test_wf_via : viaOk (.reg 4) = false ∧ viaOk (.reg 3) = true ∧ viaOk (.ycp ⟨8, 0⟩) = false := by decide

/-! ### Worked examples of the spec -/

/-- R546 and the register index: ALN_WAIT_MAX reads 9C40h at 0005_0010h after reset, TDM_XCHG 012C_0008h at 000B_0008h. -/
theorem test_reset_reads :
    (State.reset.b.readReg State.reset.key 0 0x50010).1 = 0x9C40 ∧ (State.reset.b.readReg State.reset.key 0 0xB0008).1 = 0x012C0008 := by
  decide +kernel

/-- R492: of 4,096 positions with 1,024 fixed, at RNUM_NEXT 5,001 the oldest record held is 1,929, and 1,900 is not held. -/
def tLog : Log := { Log.reset with size := 4096, fixed := 1024, rnumNext := 5001 }
theorem test_log_oldest : tLog.oldest = 1929 ∧ tLog.held 1023 = true ∧ tLog.held 1900 = false ∧ tLog.held 1929 = true ∧ tLog.held 5001 = false := by decide

/-- R490: past FFFF_FFFFh numbering goes on at LOG_FIXED. -/
theorem test_log_wraps : tLog.succ 0xFFFFFFFF = 1024 ∧ tLog.succ 5000 = 5001 := by decide

/-- R393: 50 channels give STRIDE 7, 70 give 11. -/
theorem test_stride : stride 50 = 7 ∧ stride 70 = 11 := by decide

/-- R533 and R565: WATCH_THR 6.7 V with PFAIL_THR 5.8 V is refused; 6.8 V is taken. -/
theorem test_thresholds : ((powerThresholdW 12 0x0043003A tRun.key tRun.b).status = yBadParam) ∧ ((powerThresholdW 12 0x0044003A tRun.key tRun.b).status = yOk) := by
  decide +kernel

/-- R505: on 20,000 Hz no CLK_FAIL, below it one. -/
theorem test_aon : (ckAonBad 20000 tRun.b).flag F.CLK_STAT_AON_BAD = false ∧ (ckAonBad 19999 tRun.b).flag F.CLK_STAT_AON_BAD = true := by decide +kernel

/-- Nothing of the operation table is spelled by a word. -/
theorem test_no_words : decodeTableWord 32 0 = none ∧ (tRun.withFetchWord 32 0).pending = [] := by decide +kernel

end
end

/-!
SUPPORT. The steps of a start, register accesses, GW registers and the values after reset: what each meaning does in each of its
cases, and the statements settled from these.
-/
namespace Sys2Proof.Machine

/-! ### A meaning run on a state -/

section
variable {s : State}

theorem State.onB_congr {f g : Key → Block → Block} (h : f s.key s.b = g s.key s.b) : s.onB f = s.onB g := by
  simp only [State.onB, h]

theorem State.onB_eq_self {f : Key → Block → Block} (h : f s.key s.b = s.b) : s.onB f = s := by
  simp only [State.onB, h]

theorem State.onKB_congr {f g : Key → Block → Key × Block} (h : f s.key s.b = g s.key s.b) : s.onKB f = s.onKB g := by
  simp only [State.onKB, h]

theorem State.onKB_eq_self {f : Key → Block → Key × Block} (h : f s.key s.b = (s.key, s.b)) : s.onKB f = s := by
  simp only [State.onKB, h]

theorem State.onKB_eq_onB {f : Key → Block → Key × Block} {g : Key → Block → Block} (h : f s.key s.b = (s.key, g s.key s.b)) :
    s.onKB f = s.onB g := by
  simp only [State.onKB, State.onB, h]

/-! ### A ready command as a state -/

variable {h : Hdr} {op : Nat} {q : YReq}

/-- A ready command whose body answers a status with a payload and changes the block by a function, as a step of the state. -/
theorem Ready.onB_answer (r : Ready s h op q) {m : Key → Block → Block} {body : Block → YRes} (st : Nat) (pl : List Byte)
    (f : Block → Block) (hm : m s.key s.b = s.b.ycp s.key h op q body)
    (hb : body (s.taken h op) = ⟨st, pl, f (s.taken h op)⟩) : s.onB m = s.answer h op st pl f := by
  simp only [State.onB, hm, r.answer body st pl f hb]
  rfl

/-- A ready command that works on the key block too, as a step of the state. -/
theorem Ready.onKB_answerK (r : Ready s h op q) {m : Key → Block → Key × Block} {body : Key → Block → KRes} (st : Nat)
    (pl : List Byte) (k : Key) (b : Block) (hm : m s.key s.b = s.b.ycpK s.key h op q body)
    (hb : body s.key (s.taken h op) = ⟨st, pl, k, b⟩) : s.onKB m = s.answerK h op st pl k b := by
  simp only [State.onKB, hm, r.ycpK, hb]
  rfl

/-- A ready command that answers PENDING first, its own check passed: the final reply comes after its work (R431). -/
theorem Ready.onB_late (r : Ready s h op q) {m : Key → Block → Block} {check : Block → Nat} {act : Block → YRes}
    (hm : m s.key s.b = s.b.ycpBack s.key h op q check act) (hc : check (s.taken h op) = yOk) : s.onB m = s.late h op act := by
  simp [State.onB, hm, Block.ycpBack, r.precheck, hc, State.late]

end

/-! ### Options and trims, firmware, RUN -/

section
variable {b : Block} {k : Key}

theorem optionTrimLoad_of_reset_ended (refin : Bool) (hr : b.top.rstRun = none) (hl : b.top.loaded = false)
    (hs : b.top.started = false) : optionTrimLoad refin b = b.loadItems refin := by
  simp [optionTrimLoad, hr, hl, hs]

theorem optionTrimLoad_of_started (refin : Bool) (hs : b.top.started = true) : optionTrimLoad refin b = b := by
  simp [optionTrimLoad, hs]

theorem firmwareStart_of_reachC (f : BootFind) (hr : b.top.rstRun = none) (hl : b.top.loaded = true) (hs : b.top.started = false)
    (hc : b.fld F.RST_CAUSE_LAST_REACH = 2) (hd : b.top.dramFw = true) : firmwareStart f k b = (k, b.resumeFw) := by
  simp [firmwareStart, hr, hl, hs, hc, hd]

theorem firmwareStart_of_reachAB (f : BootFind) (hr : b.top.rstRun = none) (hl : b.top.loaded = true) (hs : b.top.started = false)
    (hc : b.fld F.RST_CAUSE_LAST_REACH ≠ 2 ∨ b.top.dramFw = false) (hk : k.duk.isSome = true ∨ k.pufFail = true) :
    firmwareStart f k b = bootFw f k b := by
  have hresume : ¬(b.fld F.RST_CAUSE_LAST_REACH = 2 ∧ b.top.dramFw = true) := by
    rintro ⟨h1, h2⟩
    rcases hc with hc | hc
    · exact hc h1
    · simp [hc] at h2
  have hduk : (k.duk.isNone && !k.pufFail) = false := by
    rcases hk with hk | hk
    · simp [Option.isNone_eq_false_iff.mpr hk]
    · simp [hk]
  simp [firmwareStart, hr, hl, hs, hresume, hduk]

theorem firmwareStart_of_started (f : BootFind) (hs : b.top.started = true) : firmwareStart f k b = (k, b) := by
  simp [firmwareStart, hs]

theorem startComplete_of_started (ht : b.topState = stStart) (hs : b.top.started = true) (hr : b.top.rstRun = none) :
    startComplete b = b.comeUp := by
  simp [startComplete, ht, hs, hr]

theorem startComplete_of_not_start (ht : b.topState ≠ stStart) : startComplete b = b := by
  simp [startComplete, ht]

/-! ### The failed-start counter (R517, R518) -/

theorem runSLimit_of_due (hd : b.top.runDone = false) (ht : 60 * tickS ≤ b.runTicks) (hf : b.flag F.TOP_FW_RECOVERY = false) :
    runSLimit b = (b.modTop fun t => { t with runDone := true, mramFsc := 0 }).raiseFloor := by
  have hf' : (b.modTop fun t => { t with runDone := true, mramFsc := 0 }).flag F.TOP_FW_RECOVERY = false := hf
  simp [runSLimit, hd, Nat.not_lt.mpr ht, hf']

theorem runSLimit_of_not_due (h : b.runTicks < 60 * tickS ∨ b.top.runDone = true) : runSLimit b = b := by
  rcases h with h | h <;> simp [runSLimit, h]

theorem fscClearW_of_allowed (acc : Nat) (h : b.mayWrite k acc roleMnt false = yOk) :
    fscClearW acc k b = ⟨yOk, b.modTop fun t => { t with mramFsc := 0 }⟩ := by
  simp [fscClearW, h]

theorem fscClearW_of_denied (acc : Nat) (h : b.mayWrite k acc roleMnt false ≠ yOk) :
    fscClearW acc k b = wErr b acc (b.mayWrite k acc roleMnt false) := by
  simp [fscClearW, h]

/-! ### FW_UPDATE (R515) -/

theorem fwUpdate_of_last (h : Hdr) (offset total : Nat) (bytes : List Byte) (c : FwContent) (ht : b.topState ≠ stWatch)
    (hl : fwLast (b.sess h.session).fwStage offset total bytes = true) :
    fwUpdate h offset total bytes c k b = b.ycpBack k h 0x0C05 ⟨some roleMnt, false⟩ (fun _ => yOk) fun b =>
      (b.modSess h.session fun x => { x with fwStage := none }).fwFinish total c :=
  if_pos ⟨ht, hl⟩

theorem fwUpdate_of_not_last (h : Hdr) (offset total : Nat) (bytes : List Byte) (c : FwContent)
    (hl : b.topState = stWatch ∨ fwLast (b.sess h.session).fwStage offset total bytes = false) :
    fwUpdate h offset total bytes c k b = b.ycp k h 0x0C05 ⟨some roleMnt, false⟩ (fwKeep h.session offset total bytes) := by
  refine if_neg ?_
  rintro ⟨ht, hf⟩
  rcases hl with hl | hl
  · exact ht hl
  · simp [hl] at hf

/-! ### LIFECYCLE (R470, R471) -/

theorem lifecycleCheck_of_next {target : Nat} (hm : b.topState = stMaint) (ht : target = k.lcs + 1) (h4 : target ≤ 4)
    (h3 : (k.slot 3).state ≠ 0) : lifecycleCheck target true false k b = yOk := by
  simp [lifecycleCheck, hm, ht, h3]
  omega

theorem lifecycleCheck_of_refused {target : Nat} (sigOk tampered : Bool) (h : b.topState ≠ stMaint ∨ target ≠ k.lcs + 1 ∨ 4 < target) :
    lifecycleCheck target sigOk tampered k b = if b.topState ≠ stMaint then yDenied else yBadParam := by
  by_cases hm : b.topState = stMaint
  · have ht : target ≠ k.lcs + 1 ∨ 4 < target := h.resolve_left fun hn => hn hm
    simp [lifecycleCheck, hm, ht]
  · simp [lifecycleCheck, hm]

/-- A ready LIFECYCLE whose own checks pass. -/
theorem Ready.lifecycle_accepted {s : State} {h : Hdr} (r : Ready s h 0x0C03 ⟨some roleMnt, false⟩) (target : Nat)
    (sigOk tampered : Bool) (hc : lifecycleCheck target sigOk tampered s.key (s.taken h 0x0C03) = yOk) :
    lifecycle h target sigOk tampered s.key s.b = lifecycleAct h target s.key (s.taken h 0x0C03) := by
  simp [lifecycle, r.precheck, hc]

/-- A ready LIFECYCLE that fails a check which touches no key is answered its status. -/
theorem Ready.lifecycle_refused {s : State} {h : Hdr} (r : Ready s h 0x0C03 ⟨some roleMnt, false⟩) (target : Nat)
    (sigOk tampered : Bool) (st : Nat) (hc : lifecycleCheck target sigOk tampered s.key (s.taken h 0x0C03) = st)
    (hst : st = yDenied ∨ st = yBadParam) :
    lifecycle h target sigOk tampered s.key s.b = (s.key, (s.taken h 0x0C03).ycpReply h 0x0C03 st []) := by
  rcases hst with rfl | rfl <;> simp [lifecycle, r.precheck, hc]

/-! ### TOP_NOMF (R6) -/

theorem topNomfW_of_denied (acc : Nat) (value : W32) (h : b.mayWrite k acc roleEng true ≠ yOk) :
    topNomfW acc value k b = wErr b acc (b.mayWrite k acc roleEng true) := by
  simp [topNomfW, h]

theorem topNomfW_of_not_maint (acc : Nat) (value : W32) (h : b.mayWrite k acc roleEng true = yOk) (hm : b.topState ≠ stMaint) :
    topNomfW acc value k b = ⟨yDenied, b⟩ := by
  simp [topNomfW, h, hm]

theorem topNomfW_of_maint (acc : Nat) (value : W32) (h : b.mayWrite k acc roleEng true = yOk) (hm : b.topState = stMaint) :
    topNomfW acc value k b =
      ⟨yOk, (b.put F.TOP_NOMF_SEL (bits value 0 0)).modTop fun t => { t with mramNomf := some (bits value 0 0) }⟩ := by
  simp [topNomfW, h, hm]

end

/-- Settles O50: each step of a start by the case of its meaning that its guard selects. -/
theorem theStepsOfAStartTakeEffect : Obligations.TheStepsOfAStartTakeEffect := by
  unfold Obligations.TheStepsOfAStartTakeEffect
  refine ⟨?load, ?resume, ?boot, ?misplaced, ?complete, ?limit, ?noLimit, ?clear, ?clearDenied, ?fwLast, ?fwKeep, ?lifecycle,
    ?lifecycleRefused, ?nomf, ?nomfState, ?nomfDenied⟩
  case load =>
    intro s refin hr hl hs
    exact congrArg Host.Outcome.next (State.onB_congr (optionTrimLoad_of_reset_ended refin hr hl hs))
  case resume =>
    intro s f hr hl hs hc hd
    exact congrArg Host.Outcome.next (State.onKB_eq_onB (firmwareStart_of_reachC f hr hl hs hc hd))
  case boot =>
    intro s f hr hl hs hc hk
    exact congrArg Host.Outcome.next (State.onKB_congr (firmwareStart_of_reachAB f hr hl hs hc hk))
  case misplaced =>
    intro s refin f hs ht
    exact ⟨congrArg Host.Outcome.next (State.onB_eq_self (optionTrimLoad_of_started refin hs)),
      congrArg Host.Outcome.next (State.onKB_eq_self (firmwareStart_of_started f hs)),
      congrArg Host.Outcome.next (State.onB_eq_self (startComplete_of_not_start ht))⟩
  case complete =>
    intro s ht hs hr
    exact congrArg Host.Outcome.next (State.onB_congr (startComplete_of_started ht hs hr))
  case limit =>
    intro s hd ht hf
    exact congrArg Host.Outcome.next (State.onB_congr (runSLimit_of_due hd ht hf))
  case noLimit =>
    intro s h
    exact congrArg Host.Outcome.next (State.onB_eq_self (runSLimit_of_not_due h))
  case clear =>
    intro s acc h
    exact congrArg Host.Outcome.next (State.onB_congr (congrArg WRes.b (fscClearW_of_allowed acc h)))
  case clearDenied =>
    intro s acc h
    exact congrArg Host.Outcome.next (State.onB_congr (congrArg WRes.b (fscClearW_of_denied acc h)))
  case fwLast =>
    intro s h offset total bytes c r ht hl
    exact congrArg Host.Outcome.next (r.onB_late (fwUpdate_of_last h offset total bytes c ht hl) rfl)
  case fwKeep =>
    intro s h offset total bytes c r hl
    exact congrArg Host.Outcome.next (r.onB_answer _ _ _ (fwUpdate_of_not_last h offset total bytes c hl) rfl)
  case lifecycle =>
    intro s h target r hm ht h4 h3
    have hc : lifecycleCheck target true false s.key (s.taken h 0x0C03) = yOk :=
      lifecycleCheck_of_next (by simpa using hm) ht h4 h3
    exact congrArg Host.Outcome.next (State.onKB_congr (r.lifecycle_accepted target true false hc))
  case lifecycleRefused =>
    intro s h target sigOk tampered r hn
    have hc : lifecycleCheck target sigOk tampered s.key (s.taken h 0x0C03) = if s.b.topState ≠ stMaint then yDenied else yBadParam := by
      simpa using lifecycleCheck_of_refused (b := s.taken h 0x0C03) sigOk tampered (by simpa using hn)
    exact congrArg Host.Outcome.next (State.onKB_eq_onB
      (g := fun _ _ => (s.taken h 0x0C03).ycpReply h 0x0C03 (if s.b.topState ≠ stMaint then yDenied else yBadParam) [])
      (r.lifecycle_refused target sigOk tampered _ hc (ite_eq_or_eq _ _ _)))
  case nomf =>
    intro s acc value h hm
    exact congrArg Host.Outcome.next (State.onB_congr (congrArg WRes.b (topNomfW_of_maint acc value h hm)))
  case nomfState =>
    intro s acc value h hm
    exact congrArg Host.Outcome.next (State.onB_eq_self (congrArg WRes.b (topNomfW_of_not_maint acc value h hm)))
  case nomfDenied =>
    intro s acc value h
    exact congrArg Host.Outcome.next (State.onB_congr (congrArg WRes.b (topNomfW_of_denied acc value h)))

/-! ### A write by the role of its register -/

section
variable {k : Key} {b : Block} {acc addr : Nat} {value mask : W32} {d : RegDesc}

/-- R564: a write without the role or the saddle is refused; the three inequalities leave the arm of the match that checks it. -/
theorem hostWrite_of_denied (hd : regAt addr = some d) (hr : b.radOff addr = false) (hn : d.role ≠ .none) (hg : d.role ≠ .gw)
    (hp : d.role ≠ .pan) (hm : b.mayWrite k acc d.role.need.1 d.role.need.2 ≠ yOk) :
    hostWrite acc addr value mask k b = (wErr b acc (b.mayWrite k acc d.role.need.1 d.role.need.2)).withKey k := by
  simp [hostWrite, hd, hr, hm]

/-- R10, R565: an allowed write that selects a writable field of a register which is no window and requests no reset acts by its
block, on the value merged field by field. -/
theorem hostWrite_of_allowed (hd : regAt addr = some d) (hr : b.radOff addr = false) (hn : d.role ≠ .none) (hg : d.role ≠ .gw)
    (hp : d.role ≠ .pan) (hm : b.mayWrite k acc d.role.need.1 d.role.need.2 = yOk) (hw : mask &&& d.writable ≠ 0)
    (ha : addr ≠ Reg.RST_CTRL) (hwin : isWindow addr = false) :
    hostWrite acc addr value mask k b =
      (blockWrite ⟨acc, addr, b.rd addr, d.merge (b.rd addr) value mask, mask, value &&& mask⟩ k b).withKey k := by
  have hsel : ¬mask &&& d.writable = 0#32 := hw
  simp [hostWrite, hd, hr, hm, hsel, ha, hwin]

/-- An allowed write of all 32 bits. -/
theorem hostWrite_of_allowed_whole (hd : regAt addr = some d) (hr : b.radOff addr = false) (hn : d.role ≠ .none) (hg : d.role ≠ .gw)
    (hp : d.role ≠ .pan) (hm : b.mayWrite k acc d.role.need.1 d.role.need.2 = yOk) (hw : d.writable ≠ 0)
    (ha : addr ≠ Reg.RST_CTRL) (hwin : isWindow addr = false) :
    hostWrite acc addr value 0xFFFFFFFF k b =
      (blockWrite ⟨acc, addr, b.rd addr, d.merge (b.rd addr) value 0xFFFFFFFF, 0xFFFFFFFF, value⟩ k b).withKey k := by
  have hsel : (0xFFFFFFFF : W32) &&& d.writable = d.writable := BitVec.allOnes_and
  have hones : value &&& 0xFFFFFFFF = value := BitVec.and_allOnes
  rw [hostWrite_of_allowed hd hr hn hg hp hm (by rwa [hsel]) ha hwin, hones]

/-- R11: a write of a GW register keeps the key block and the block. -/
theorem hostWrite_of_gw_keeps (hd : regAt addr = some d) (hg : d.role = .gw) :
    (hostWrite acc addr value mask k b).k = k ∧ (hostWrite acc addr value mask k b).b = b := by
  simp only [hostWrite, hd, hg]
  split <;> exact ⟨rfl, rfl⟩

/-- No register of RAD is a GW register. -/
theorem role_ne_gw_of_mem_regMapRad : ∀ d ∈ regMapRad, d.role ≠ .gw := by decide

/-- The GW registers lie outside RAD, so that an N0 has them too. -/
theorem radOff_of_gw (b : Block) (hd : regAt addr = some d) (hg : d.role = .gw) : b.radOff addr = false := by
  have hmem : d ∈ regMapOf addr := List.mem_of_find?_eq_some hd
  have hne : addr / 0x10000 ≠ 12 := by
    intro h
    simp only [regMapOf, h] at hmem
    exact role_ne_gw_of_mem_regMapRad d hmem hg
  simp [Block.radOff, hne]

/-- R11: the write of a GW register is answered GUARD_ONLY. -/
theorem hostWrite_of_gw (hd : regAt addr = some d) (hg : d.role = .gw) (ha : addr ≠ grdGap) :
    hostWrite acc addr value mask k b = ⟨yGuardOnly, k, b⟩ := by
  simp [hostWrite, hd, hg, radOff_of_gw b hd hg, ha]

/-! ### REGISTER_WRITE and the RL groups -/

theorem registerWrite_of_word (ha : addr % 4 = 0) (hf : b.fnAnswers acc = true) :
    registerWrite acc addr 4 value k b =
      ((hostWrite acc addr value 0xFFFFFFFF k b).k, (hostWrite acc addr value 0xFFFFFFFF k b).b) := by
  simp [registerWrite, ha, hf]

theorem registerWrite_of_no_access {size : Nat} (h : size ≠ 4 ∨ addr % 4 ≠ 0 ∨ b.fnAnswers acc = false) :
    registerWrite acc addr size value k b = (k, b) :=
  if_pos (by simpa using h)

/-- A write of 4 aligned bytes whose result leaves the key block as it is. -/
theorem registerWrite_of_withKey {r : WRes} (ha : addr % 4 = 0) (hf : b.fnAnswers acc = true)
    (hw : hostWrite acc addr value 0xFFFFFFFF k b = r.withKey k) : registerWrite acc addr 4 value k b = (k, r.b) := by
  rw [registerWrite_of_word ha hf, hw]
  rfl

theorem registerWrite_of_gw {size : Nat} (hd : regAt addr = some d) (hg : d.role = .gw) :
    registerWrite acc addr size value k b = (k, b) := by
  obtain ⟨hk, hb⟩ := hostWrite_of_gw_keeps (acc := acc) (value := value) (mask := 0xFFFFFFFF#32) (k := k) (b := b) hd hg
  simp [registerWrite, hk, hb]

theorem rlGroupLatch_of_answers (hacc : acc < 13) (hf : 4 ≤ acc ∨ b.fnAnswers acc = true) :
    rlGroupLatch acc addr b = b.latch acc addr := by
  refine if_neg ?_
  rintro (h | h)
  · omega
  · simp only [Bool.and_eq_true, decide_eq_true_eq, Bool.not_eq_true'] at h
    rcases hf with hf | hf
    · omega
    · simp [hf] at h

end

/-! ### REG_READ, REG_READ_BLOCK and REG_WRITE -/

section
variable {s : State} {h : Hdr} {addr : Nat} {value mask : W32}

theorem Ready.regRead_ok (r : Ready s h 0x0101 ⟨some roleObs, false⟩) (ha : addrOk addr = true) :
    s.onB (regRead h addr) =
      s.answer h 0x0101 yOk (wordBytes [((s.taken h 0x0101).readReg s.key (accOf h.session) addr).1])
        fun b => (b.readReg s.key (accOf h.session) addr).2 :=
  r.onB_answer _ _ _ rfl (by simp [ha])

theorem Ready.regRead_badParam (r : Ready s h 0x0101 ⟨some roleObs, false⟩) (ha : addrOk addr = false) :
    s.onB (regRead h addr) = s.answer h 0x0101 yBadParam [] id :=
  r.onB_answer _ _ _ rfl (by simp [ha, yErr])

theorem Ready.regReadBlock_ok {count : Nat} (r : Ready s h 0x0103 ⟨some roleObs, false⟩) (h1 : 1 ≤ count) (h2 : count ≤ 1024)
    (ha : ((List.range count).all fun i => addrOk (addr + 4 * i)) = true) :
    s.onB (regReadBlock h addr count) =
      s.answer h 0x0103 yOk (wordBytes (Block.readRegs s.key (accOf h.session) addr count (s.taken h 0x0103)).1)
        fun b => (Block.readRegs s.key (accOf h.session) addr count b).2 := by
  have hok : ¬(count = 0 ∨ 1024 < count ∨ (!(List.range count).all fun i => addrOk (addr + 4 * i)) = true) := by
    rw [ha]
    simp
    omega
  exact r.onB_answer _ _ _ rfl (if_neg hok)

theorem Ready.regReadBlock_badParam {count : Nat} (r : Ready s h 0x0103 ⟨some roleObs, false⟩)
    (hn : count = 0 ∨ 1024 < count ∨ ((List.range count).all fun i => addrOk (addr + 4 * i)) = false) :
    s.onB (regReadBlock h addr count) = s.answer h 0x0103 yBadParam [] id := by
  have hbad : count = 0 ∨ 1024 < count ∨ (!(List.range count).all fun i => addrOk (addr + 4 * i)) = true :=
    hn.imp_right (Or.imp_right fun hf => by rw [hf]; rfl)
  exact r.onB_answer _ _ _ rfl (if_pos hbad)

theorem regWrite_of_no_reset {k : Key} {b : Block} (hn : addr ≠ Reg.RST_CTRL ∨ bits (value &&& mask) 1 0 = 0) :
    regWrite h addr value mask k b = b.ycpK k h 0x0102 ⟨none, false⟩ (regWriteBody (accOf h.session) addr value mask) := by
  refine if_neg ?_
  rintro ⟨ha, hb⟩
  exact hn.elim (· ha) hb

theorem regWriteBody_of_aligned {k : Key} {b : Block} {acc : Nat} (ha : addr % 4 = 0) :
    regWriteBody acc addr value mask k b =
      ⟨(hostWrite acc addr value mask k b).status, [], (hostWrite acc addr value mask k b).k, (hostWrite acc addr value mask k b).b⟩ := by
  simp [regWriteBody, ha]

theorem regWriteBody_of_misaligned {k : Key} {b : Block} {acc : Nat} (ha : addr % 4 ≠ 0) :
    regWriteBody acc addr value mask k b = ⟨yBadParam, [], k, b⟩ :=
  if_pos ha

/-- A REG_WRITE that requests no reset answers what the write answers. -/
theorem Ready.regWrite_ok (r : Ready s h 0x0102 ⟨none, false⟩) (ha : addr % 4 = 0)
    (hn : addr ≠ Reg.RST_CTRL ∨ bits (value &&& mask) 1 0 = 0) :
    s.onKB (regWrite h addr value mask) =
      s.answerK h 0x0102 (hostWrite (accOf h.session) addr value mask s.key (s.taken h 0x0102)).status []
        (hostWrite (accOf h.session) addr value mask s.key (s.taken h 0x0102)).k
        (hostWrite (accOf h.session) addr value mask s.key (s.taken h 0x0102)).b :=
  r.onKB_answerK _ _ _ _ (regWrite_of_no_reset hn) (regWriteBody_of_aligned ha)

theorem Ready.regWrite_misaligned (r : Ready s h 0x0102 ⟨none, false⟩) (ha : addr % 4 ≠ 0) :
    s.onKB (regWrite h addr value mask) = s.answer h 0x0102 yBadParam [] id := by
  have hn : addr ≠ Reg.RST_CTRL := by
    rintro rfl
    exact ha rfl
  exact r.onKB_answerK _ _ _ _ (regWrite_of_no_reset (.inl hn)) (regWriteBody_of_misaligned ha)

/-- R506: a REG_WRITE that requests a reset replies OK before the write acts. -/
theorem Ready.regWrite_reset (r : Ready s h 0x0102 ⟨none, false⟩) (hb : bits (value &&& mask) 1 0 ≠ 0)
    (hm : (s.taken h 0x0102).mayWrite s.key (accOf h.session) roleMnt false = yOk) :
    regWrite h Reg.RST_CTRL value mask s.key s.b =
      ((hostWrite (accOf h.session) Reg.RST_CTRL value mask s.key ((s.taken h 0x0102).lastReply h 0x0102)).k,
       (hostWrite (accOf h.session) Reg.RST_CTRL value mask s.key ((s.taken h 0x0102).lastReply h 0x0102)).b) := by
  simp [regWrite, hb, regWriteReset, r.precheck, hm]

/-- R11: a REG_WRITE of a GW register. -/
theorem Ready.regWrite_gw {d : RegDesc} (r : Ready s h 0x0102 ⟨none, false⟩) (ha : addr % 4 = 0) (hd : regAt addr = some d)
    (hg : d.role = .gw) (hgap : addr ≠ grdGap) : s.onKB (regWrite h addr value mask) = s.answer h 0x0102 yGuardOnly [] id := by
  have hn : addr ≠ Reg.RST_CTRL := by
    rintro rfl
    obtain rfl : (⟨0x10004, 1, 0x4, .mnt, [⟨1, 1, .sc⟩, ⟨0, 0, .sc⟩]⟩ : RegDesc) = d := Option.some.inj hd
    cases hg
  rw [r.regWrite_ok ha (.inl hn), hostWrite_of_gw hd hg hgap]
  rfl

end

/-- Settles O52: writes by the role of their register, reads and replies by the lemmas of the commands. -/
theorem registerAccessesTakeEffect : Obligations.RegisterAccessesTakeEffect := by
  unfold Obligations.RegisterAccessesTakeEffect
  refine ⟨?write, ?block, ?denied, ?noAccess, ?latch, ?read, ?readBlock, ?noRegister, ?regWrite, ?regWriteReset, ?misaligned⟩
  case write =>
    intro s acc addr value ha hf
    exact congrArg Host.Outcome.next (State.onKB_congr (registerWrite_of_word ha hf))
  case block =>
    intro s acc addr value d ha hf hd hr hrole hm hw hrst hwin
    obtain ⟨hn, hg, hp⟩ : d.role ≠ .none ∧ d.role ≠ .gw ∧ d.role ≠ .pan := by
      rcases hrole with h | h | h | h | h <;> simp [h]
    exact congrArg Host.Outcome.next (State.onKB_eq_onB (registerWrite_of_withKey ha hf
      (hostWrite_of_allowed_whole hd hr hn hg hp hm hw hrst hwin)))
  case denied =>
    intro s acc addr value d ha hf hd hr hn hg hp hm
    exact congrArg Host.Outcome.next
      (State.onKB_eq_onB (registerWrite_of_withKey ha hf (hostWrite_of_denied hd hr hn hg hp hm)))
  case noAccess =>
    intro s acc addr size value h
    exact congrArg Host.Outcome.next (State.onKB_eq_self (registerWrite_of_no_access h))
  case latch =>
    intro s acc addr hacc hf
    exact congrArg Host.Outcome.next (State.onB_congr (rlGroupLatch_of_answers hacc hf))
  case read =>
    intro s h addr r ha
    exact congrArg Host.Outcome.next (r.regRead_ok ha)
  case readBlock =>
    intro s h addr count r h1 h2 ha
    exact congrArg Host.Outcome.next (r.regReadBlock_ok h1 h2 ha)
  case noRegister =>
    intro s h addr count r r' ha hn
    exact ⟨congrArg Host.Outcome.next (r.regRead_badParam ha), congrArg Host.Outcome.next (r'.regReadBlock_badParam hn)⟩
  case regWrite =>
    intro s h addr value mask r ha hn
    exact congrArg Host.Outcome.next (r.regWrite_ok ha hn)
  case regWriteReset =>
    intro s h value mask r hb hm
    exact congrArg Host.Outcome.next (State.onKB_congr (r.regWrite_reset hb hm))
  case misaligned =>
    intro s h addr value mask r ha
    exact congrArg Host.Outcome.next (r.regWrite_misaligned ha)

/-- Settles O53: a write of a GW register keeps the block and is answered GUARD_ONLY (R11). -/
theorem guardRegistersAreNotWritten : Obligations.GuardRegistersAreNotWritten := by
  unfold Obligations.GuardRegistersAreNotWritten
  constructor
  · intro s acc addr size value d hd hg
    exact congrArg Host.Outcome.next (State.onKB_eq_self (registerWrite_of_gw hd hg))
  · intro s h addr value mask d r ha hd hg hgap
    exact congrArg Host.Outcome.next (r.regWrite_gw ha hd hg hgap)

/-! ### Sessions, key slots and registers after reset -/

@[simp] theorem State.reset_sess (n : Nat) : State.reset.b.sess n = .closed :=
  (List.getD_eq_getElem?_getD ..).trans (List.getElem?_getD_replicate_default_eq _ _ _)

@[simp] theorem State.reset_slot (i : Nat) : State.reset.key.slot i = .empty :=
  (List.getD_eq_getElem?_getD ..).trans (List.getElem?_getD_replicate_default_eq _ _ _)

theorem State.reset_rd (a : Nat) : State.reset.b.rd a = regReset.get a := rfl

theorem State.reset_fld (f : Fld) : State.reset.b.fld f = bits (regReset.get f.addr) f.hi f.lo := rfl

/-- Settles O59: the structures of the block by their reset values, the registers by the Reset column. -/
theorem resetGivesTheValuesOfTheResetColumn : Obligations.ResetGivesTheValuesOfTheResetColumn := by
  unfold Obligations.ResetGivesTheValuesOfTheResetColumn
  simp only [Block.topState, State.reset_rd, State.reset_fld, State.reset_sess, State.reset_slot]
  refine ⟨rfl, ?_, fun _ _ => rfl, rfl, fun _ _ => rfl, rfl, ?_, ?_, ?_, ?_, ?_, ?_, ?_, ?_, ?_, ?_⟩
  all_goals decide

end Sys2Proof.Machine

/-!
SUPPORT. Frames of the elementary updates; the cycle ledger: what each of its commands does and leaves as it is, and the statements
settled from these.
-/
namespace Sys2Proof.Machine

theorem State.onB_eq_putB {s : State} {b : Block} {f : Key → Block → Block} (h : f s.key s.b = b) : s.onB f = s.putB b := by
  simp only [State.onB, h]

/-! ### Frames: what each elementary update keeps -/

theorem Part.same_trans {p : Part} {s t u : State} (h : p.same s t) (h' : p.same t u) : p.same s u := by
  cases p <;> exact Eq.trans h' h

section
variable {parts : List Part} {regs : List Nat} {s : State} {b b' : Block}

theorem Kept.refl (parts : List Part) (regs : List Nat) (s : State) : Kept parts regs s (s.putB s.b) :=
  ⟨rfl, fun p _ => by cases p <;> rfl, fun _ _ => rfl⟩

/-- An update that changes no part and no register but listed ones. -/
theorem Kept.update (h : Kept parts regs s (s.putB b)) (hp : ∀ p, p ∉ parts → p.same (s.putB b) (s.putB b'))
    (hr : ∀ a, a ∉ regs → b'.rd a = b.rd a) : Kept parts regs s (s.putB b') := by
  obtain ⟨hq, hparts, hregs⟩ := h
  exact ⟨hq, fun p hn => Part.same_trans (hparts p hn) (hp p hn), fun a ha => (hr a ha).trans (hregs a ha)⟩

/-- A write of a listed register. -/
theorem Kept.wr (h : Kept parts regs s (s.putB b)) {a : Nat} (ha : a ∈ regs) (v : W32) : Kept parts regs s (s.putB (b.wr a v)) :=
  h.update (fun p _ => by cases p <;> rfl) fun x hx => by
    have hne : x ≠ a := fun he => hx (he ▸ ha)
    simp [hne]

theorem Kept.put (h : Kept parts regs s (s.putB b)) {f : Fld} (hf : f.addr ∈ regs) (n : Nat) : Kept parts regs s (s.putB (b.put f n)) :=
  h.wr hf _

theorem Kept.bump (h : Kept parts regs s (s.putB b)) {a : Nat} (ha : a ∈ regs) : Kept parts regs s (s.putB (b.bump a)) :=
  h.wr ha _

theorem Kept.modLdg (h : Kept parts regs s (s.putB b)) (hl : .ldg ∈ parts) (f : Ldg → Ldg) : Kept parts regs s (s.putB (b.modLdg f)) :=
  h.update (fun p hn => by cases p <;> simp_all [Part.same]) fun _ _ => rfl

theorem Kept.modSlot (h : Kept parts regs s (s.putB b)) (hl : .aln ∈ parts) (n : Nat) (f : Slot → Slot) :
    Kept parts regs s (s.putB (b.modSlot n f)) :=
  h.update (fun p hn => by cases p <;> simp_all [Part.same]) fun _ _ => rfl

/-- A record offered to the recorder. -/
theorem Kept.note (h : Kept parts regs s (s.putB b)) (hl : .log ∈ parts) (code p0 p1 p2 p3 : Nat) :
    Kept parts regs s (s.putB (b.note code p0 p1 p2 p3)) :=
  h.update (fun p hn => by cases p <;> simp_all [Part.same]) fun _ _ => rfl

end

/-! ### Fields beside a written register -/

theorem Block.fld_wr_ne (b : Block) {a : Nat} (v : W32) {g : Fld} (h : g.addr ≠ a) : (b.wr a v).fld g = b.fld g := by
  simp [Block.fld, h]

theorem Block.fld_bump_ne (b : Block) {a : Nat} {g : Fld} (h : g.addr ≠ a) : (b.bump a).fld g = b.fld g :=
  b.fld_wr_ne _ h

theorem Block.rd_bump_ne (b : Block) {a c : Nat} (h : c ≠ a) : (b.bump a).rd c = b.rd c :=
  b.rd_bumpBy_ne a 1 c h

theorem bits_lt (v : W32) (hi lo : Nat) : bits v hi lo < 2 ^ (hi + 1 - lo) :=
  Nat.mod_lt _ (Nat.two_pow_pos _)

/-! ### Shares that do not fit (R28) -/

theorem sharesOk_eq_false_iff (a c : W32) :
    sharesOk a c = false ↔
      100 < bits a 7 0 + bits a 15 8 + bits a 23 16 + bits a 31 24 + bits c 7 0 ∨ bits c 7 0 < bits c 15 8 ∨ bits c 15 8 < 2 := by
  simp only [sharesOk, decide_eq_false_iff_not]
  omega

section
variable {k : Key} {b : Block} {acc which : Nat} {value mask a c : W32} {d : RegDesc}

/-- R28, R41: an allowed write leaves the shares `a` and `c`. Where they do not fit, both registers stay and SHARE_ERR is set;
otherwise both are written and wait for the next close. -/
theorem ledgerShareW_of_allowed (hm : b.mayWrite k acc roleEng true = yOk)
    (ha : a = if which = 0 then value else b.rd Reg.ALN_LDG_SHARE_A)
    (hc : c = if which = 0 then b.rd Reg.ALN_LDG_SHARE_B else value &&& 0xFFFF) :
    ledgerShareW acc which value k b =
      if !sharesOk a c then ⟨yBadParam, b.put F.ALN_LDG_STAT_SHARE_ERR 1⟩
      else ⟨yOk, (((b.wr Reg.ALN_LDG_SHARE_A a).wr Reg.ALN_LDG_SHARE_B c).put F.ALN_LDG_STAT_SHARE_ERR 0).modLdg
        fun u => { u with pendA := some a, pendB := some c }⟩ := by
  subst ha hc
  exact if_neg (not_not_intro hm)

theorem ledgerShareW_of_not_ok (hm : b.mayWrite k acc roleEng true = yOk)
    (ha : a = if which = 0 then value else b.rd Reg.ALN_LDG_SHARE_A)
    (hc : c = if which = 0 then b.rd Reg.ALN_LDG_SHARE_B else value &&& 0xFFFF) (hn : sharesOk a c = false) :
    ledgerShareW acc which value k b = ⟨yBadParam, b.put F.ALN_LDG_STAT_SHARE_ERR 1⟩ :=
  (ledgerShareW_of_allowed hm ha hc).trans (if_pos (by simp [hn]))

/-- A write of a share register needs ENGINEER and the saddle and has writable fields. -/
theorem role_writable_of_share (hw : which = 0 ∨ which = 1) (hd : regAt (Reg.ALN_LDG_SHARE_A + 4 * which) = some d) :
    d.role = .engS ∧ d.writable ≠ 0 := by
  rcases hw with rfl | rfl
  · obtain rfl : (⟨0x50C0C, 1, 0x4, .engS, [⟨31, 24, .rw⟩, ⟨23, 16, .rw⟩, ⟨15, 8, .rw⟩, ⟨7, 0, .rw⟩]⟩ : RegDesc) = d :=
      Option.some.inj hd
    decide
  · obtain rfl : (⟨0x50C10, 1, 0x4, .engS, [⟨15, 8, .rw⟩, ⟨7, 0, .rw⟩]⟩ : RegDesc) = d := Option.some.inj hd
    decide

theorem share_addr_bounds (hw : which = 0 ∨ which = 1) :
    (Reg.ALN_LDG_SHARE_A + 4 * which) / 0x10000 = 5 ∧ (Reg.ALN_LDG_SHARE_A + 4 * which) % 4 = 0 ∧
      Reg.RST_CTRL < Reg.ALN_LDG_SHARE_A + 4 * which ∧ Reg.ALN_LDG_SHARE_A + 4 * which < Reg.HST_S_CNT_CMD := by
  rcases hw with rfl | rfl <;> decide

theorem blockWrite_of_aln {w : RegW} (h : w.addr / 0x10000 = 5) : blockWrite w k b = writeAln w k b := by
  simp [blockWrite, h]

theorem writeAln_of_shareA {w : RegW} (h : w.addr = Reg.ALN_LDG_SHARE_A) : writeAln w k b = ledgerShareW w.acc 0 w.new k b := by
  simp [writeAln, h]

theorem writeAln_of_shareB {w : RegW} (h : w.addr = Reg.ALN_LDG_SHARE_B) : writeAln w k b = ledgerShareW w.acc 1 w.new k b := by
  simp [writeAln, h]

theorem blockWrite_share (hw : which = 0 ∨ which = 1) (old new ones : W32) :
    blockWrite ⟨acc, Reg.ALN_LDG_SHARE_A + 4 * which, old, new, mask, ones⟩ k b = ledgerShareW acc which new k b := by
  obtain ⟨hblock, -⟩ := share_addr_bounds hw
  rw [blockWrite_of_aln hblock]
  rcases hw with rfl | rfl
  · exact writeAln_of_shareA rfl
  · exact writeAln_of_shareB rfl

/-- R28 for a write of a share register under any mask that selects a field of it. -/
theorem hostWrite_share_of_not_ok (hw : which = 0 ∨ which = 1) (hd : regAt (Reg.ALN_LDG_SHARE_A + 4 * which) = some d)
    (hm : b.mayWrite k acc roleEng true = yOk) (hsel : mask &&& d.writable ≠ 0) {new : W32}
    (hnew : new = d.merge (b.rd (Reg.ALN_LDG_SHARE_A + 4 * which)) value mask)
    (ha : a = if which = 0 then new else b.rd Reg.ALN_LDG_SHARE_A)
    (hc : c = if which = 0 then b.rd Reg.ALN_LDG_SHARE_B else new &&& 0xFFFF) (hn : sharesOk a c = false) :
    hostWrite acc (Reg.ALN_LDG_SHARE_A + 4 * which) value mask k b = ⟨yBadParam, k, b.put F.ALN_LDG_STAT_SHARE_ERR 1⟩ := by
  obtain ⟨hrole, -⟩ := role_writable_of_share hw hd
  have hrad : b.radOff (Reg.ALN_LDG_SHARE_A + 4 * which) = false := by rcases hw with rfl | rfl <;> rfl
  obtain ⟨-, -, hrst, -⟩ := share_addr_bounds hw
  have hwin : isWindow (Reg.ALN_LDG_SHARE_A + 4 * which) = false := by rcases hw with rfl | rfl <;> rfl
  rw [hostWrite_of_allowed hd hrad (by simp [hrole]) (by simp [hrole]) (by simp [hrole]) (by rwa [hrole]) hsel hrst.ne' hwin,
    blockWrite_share hw, ← hnew, ledgerShareW_of_not_ok hm ha hc hn]
  rfl

end

/-- Settles O55: the three write paths reach `ledgerShareW`, which refuses shares that do not fit. -/
theorem ledgerSharesThatDoNotFitAreRefused : Obligations.LedgerSharesThatDoNotFitAreRefused := by
  unfold Obligations.LedgerSharesThatDoNotFitAreRefused
  refine ⟨?command, ?register, ?ycp⟩
  case command =>
    intro s acc which value a c hm _ ha hc hn
    exact congrArg Host.Outcome.next
      (State.onB_congr (congrArg WRes.b (ledgerShareW_of_not_ok hm ha hc ((sharesOk_eq_false_iff a c).mpr hn))))
  case register =>
    intro s acc which value new a c d hf hm hw hd hnew ha hc hn
    obtain ⟨-, hal, -, -⟩ := share_addr_bounds hw
    have hsel : (0xFFFFFFFF : W32) &&& d.writable ≠ 0 := BitVec.allOnes_and.trans_ne (role_writable_of_share hw hd).2
    have hwrite := hostWrite_share_of_not_ok hw hd hm hsel hnew ha hc ((sharesOk_eq_false_iff a c).mpr hn)
    exact congrArg Host.Outcome.next (State.onKB_eq_onB ((registerWrite_of_word hal hf).trans (by rw [hwrite])))
  case ycp =>
    intro s h which value mask new a c d r hm hw hd hsel hnew ha hc hn
    obtain ⟨-, hal, hrst, hcnt⟩ := share_addr_bounds hw
    have hrd : ∀ x, x < Reg.HST_S_CNT_CMD → s.b.rd x = (s.taken h 0x0102).rd x := fun x hx =>
      (Block.ycpTake_rd_ne s.key h 0x0102 s.b x (Nat.lt_of_lt_of_le hx (Nat.le_add_right _ _)).ne).symm
    rw [hrd _ hcnt] at hnew
    rw [hrd _ (by decide)] at ha hc
    have hwrite := hostWrite_share_of_not_ok hw hd hm hsel hnew ha hc ((sharesOk_eq_false_iff a c).mpr hn)
    refine congrArg Host.Outcome.next ((r.regWrite_ok hal (.inl hrst.ne')).trans ?_)
    rw [hwrite]
    rfl

/-! ### The ledger's commands (R30 to R38) -/

section
variable {k : Key} {b : Block}

/-- The counter of a fixed stage lies behind ALN_LDG_OVR and ALN_LDG_STAT. -/
theorem cntStage_addr_gt (cls : Nat) :
    Reg.ALN_LDG_OVR < Reg.ALN_LDG_CNT_STAGE + 4 * cls ∧ Reg.ALN_LDG_STAT < Reg.ALN_LDG_CNT_STAGE + 4 * cls :=
  ⟨Nat.lt_add_right _ (by decide), Nat.lt_add_right _ (by decide)⟩

/-- R30: the overrun of a fixed stage noted in its slot and in ALN_LDG_OVR, and counted. -/
def Block.countOverrun (b : Block) (cls : Nat) (x : Slot) : Block :=
  ((b.modSlot x.s fun y => { y with ovr := x.ovr ||| (1 <<< cls), ovrDue := y.ovrDue.erase cls }).wr Reg.ALN_LDG_OVR
    (b.rd Reg.ALN_LDG_OVR ||| BitVec.ofNat 32 (1 <<< cls))).bump (Reg.ALN_LDG_CNT_STAGE + 4 * cls)

theorem Block.countOverrun_level (b : Block) (cls : Nat) (x : Slot) : (b.countOverrun cls x).level = b.level := by
  rw [countOverrun, level, fld_bump_ne _ (cntStage_addr_gt cls).2.ne, fld_wr_ne _ _ (by decide)]
  rfl

/-- R30, R31, R34: a fixed stage that overran, below the last level, in a slot not yet marked for a raise. -/
theorem ledgerOverrun_of_due {cls : Nat} {x : Slot} (hc : cls < 5)
    (hx : (b.aln.slots.find? fun x => x.ovrDue.contains cls) = some x) (hl : b.level ≠ 19) (hr : b.ldg.raiseSlot ≠ some x.s) :
    ledgerOverrun cls b =
      (((b.countOverrun cls x).put F.ALN_LDG_STAT_CLEAN_SLOTS 0).modLdg fun u => { u with raise := true, raiseSlot := some x.s }).note
        0x0501 (x.ovr ||| (1 <<< cls)) (lt32 x.c) (x.ends.foldl max 0) 0 := by
  have hlevel : (b.countOverrun cls x).level ≠ 19 := by rwa [b.countOverrun_level]
  have hraise : ((b.countOverrun cls x).put F.ALN_LDG_STAT_CLEAN_SLOTS 0).ldg.raiseSlot ≠ some x.s := hr
  simp only [Block.countOverrun] at hlevel hraise
  simp only [ledgerOverrun, Block.countOverrun, hc, decide_true, if_true, hx, Block.modSlot_rd, hlevel, decide_false, if_false, hraise,
    Bool.not_true, Bool.false_and, Bool.false_eq_true, Bool.toNat_false]

/-- R35: one step down outside PIN. -/
theorem ledgerRestore_of_due (hs : b.fld F.ALN_LDG_CTRL_RESTORE_SLOTS ≤ b.fld F.ALN_LDG_STAT_CLEAN_SLOTS) (hm : b.shedMode ≠ 1)
    (hd : b.levelDown b.level < b.level) :
    ledgerRestore b =
      (((b.put F.ALN_LDG_STAT_LEVEL (b.levelDown b.level)).put F.ALN_LDG_STAT_CLEAN_SLOTS 0).put F.ALN_LDG_STAT_SATURATED 0).note 0x0503
        (b.levelDown b.level) (lt32 b.aln.lastC) := by
  simp [ledgerRestore, hm, Nat.not_lt.mpr hs, Nat.not_le.mpr hd]

theorem Block.rd_clearWorst (b : Block) (i : Nat) (hi : i < 5) : b.clearWorst.rd (Reg.ALN_LDG_WORST_ + 4 * i) = 0 := by
  interval_cases i <;> simp [Block.clearWorst, Block.wrWords]

theorem worstClrW_of_allowed (acc : Nat) (hm : b.mayWrite k acc roleEng true = yOk) : worstClrW acc k b = ⟨yOk, b.clearWorst⟩ := by
  simp [worstClrW, hm]

/-- R37: a mode inside the envelope, without WORST_CLR. -/
theorem shedModeSetW_of_allowed (acc : Nat) {value : W32} (hm : b.mayWrite k acc roleEng true = yOk) (h3 : bits value 1 0 < 3)
    (he : b.shedForbidden (bits value 1 0) (min 19 (bits value 8 4)) = false) (hw : value.getLsbD 31 = false) :
    shedModeSetW acc value k b =
      ⟨yOk, (((b.put F.ALN_LDG_CTRL_SHED_MODE (bits value 1 0)).put F.ALN_LDG_CTRL_PIN_LEVEL (min 19 (bits value 8 4))).put
        F.ALN_LDG_CTRL_RESTORE_SLOTS (max 16 (bits value 27 16))).put F.ALN_LDG_STAT_ENVELOPE_HOLD 0⟩ := by
  have hclr : value[31] = false := by simpa using hw
  simp [shedModeSetW, hm, h3.ne, he, hclr]

end

/-- Settles O7: each command's equation gives the registers it writes, the frame laws give the rest. -/
theorem ledgerCommandsTakeEffect : Obligations.LedgerCommandsTakeEffect := by
  unfold Obligations.LedgerCommandsTakeEffect
  refine ⟨?overrun, ?restore, ?worst, ?mode, ?share⟩
  case overrun =>
    intro s cls x hc hx hl hr
    obtain ⟨hovr, hstat⟩ := cntStage_addr_gt cls
    refine ⟨_, congrArg Host.Outcome.next (State.onB_eq_putB (ledgerOverrun_of_due hc hx hl hr)), ?ovr, ?cnt, ?clean, rfl, rfl, ?kept⟩
    case ovr => simp [Block.countOverrun, Block.rd_put_ne, Block.rd_bump_ne, hovr.ne]
    case cnt => simp [Block.countOverrun, Block.rd_put_ne, Block.rd_bump, hstat.ne', hovr.ne']
    case clean => simp [Block.fld_put]
    case kept =>
      have hcounted : Kept [.ldg, .aln, .log] [Reg.ALN_LDG_OVR, Reg.ALN_LDG_CNT_STAGE + 4 * cls, Reg.ALN_LDG_STAT] s
          (s.putB (s.b.countOverrun cls x)) :=
        (((Kept.refl _ _ s).modSlot (by decide) _ _).wr (by simp) _).bump (by simp)
      exact ((hcounted.put (by simp) _).modLdg (by decide) _).note (by decide) _ _ _ _ _
  case restore =>
    intro s hs hm hd
    refine ⟨_, congrArg Host.Outcome.next (State.onB_eq_putB (ledgerRestore_of_due hs hm hd)), ?level, ?clean, rfl, ?kept⟩
    case level =>
      have hlt : s.b.levelDown (s.b.fld F.ALN_LDG_STAT_LEVEL) < 32 := hd.trans (bits_lt _ _ _)
      simp [Block.level, Block.fld_put_disj, Block.fld_put, hlt]
    case clean => simp [Block.fld_put_disj, Block.fld_put]
    case kept =>
      exact ((((Kept.refl _ _ s).put (by simp) _).put (by simp) _).put (by simp) _).note (by decide) _ _ _ _ _
  case worst =>
    intro s acc hm
    refine ⟨_, congrArg Host.Outcome.next (State.onB_eq_putB (congrArg WRes.b (worstClrW_of_allowed acc hm))), ?zero, ?kept⟩
    case zero => exact s.b.rd_clearWorst
    case kept =>
      exact (((((Kept.refl _ _ s).wr (by decide) _).wr (by decide) _).wr (by decide) _).wr (by decide) _).wr (by decide) _
  case mode =>
    intro s acc value hm h3 he hw
    refine ⟨_, congrArg Host.Outcome.next (State.onB_eq_putB (congrArg WRes.b (shedModeSetW_of_allowed acc hm h3 he hw))), ?mode, ?pin,
      ?slots, ?hold, ?kept⟩
    case mode =>
      have hlt : bits value 1 0 < 4 := bits_lt value 1 0
      simp [hlt, Block.shedMode, Block.fld_put_disj, Block.fld_put]
    case pin => simp [Block.fld_put_disj, Block.fld_put]
    case slots =>
      have hlt : bits value 27 16 < 4096 := bits_lt value 27 16
      simp [hlt, Block.fld_put_disj, Block.fld_put]
    case hold => simp [Block.fld_put]
    case kept => exact ((((Kept.refl _ _ s).put (by simp) _).put (by simp) _).put (by simp) _).put (by simp) _
  case share =>
    intro s acc value hm hok
    have hw := (ledgerShareW_of_allowed (which := 0) (value := value) hm rfl rfl).trans (if_neg (by simp [hok]))
    refine ⟨_, congrArg Host.Outcome.next (State.onB_eq_putB (congrArg WRes.b hw)), ?shareA, ?shareB, ?err, rfl, ?kept⟩
    case shareA => simp [Block.rd_put_ne]
    case shareB => simp [Block.rd_put_ne]
    case err => simp [Block.fld_put]
    case kept => exact ((((Kept.refl _ _ s).wr (by simp) _).wr (by simp) _).put (by simp) _).modLdg (by decide) _

end Sys2Proof.Machine

/-!
SUPPORT. The guard partition: what each of its commands does in the cases the statements name, and the statement settled from these.
-/
namespace Sys2Proof.Machine

section
variable {k : Key} {b : Block} {run : Nat} {x : Slot} {g : GspPkg}

/-! ### GUARD_EVALUATION (R15, R23) -/

/-- R23: the block with the records that the evaluation of slot `s` takes, the evaluation counted. -/
abbrev Block.evalStart (b : Block) (s : Nat) : Block :=
  (b.modGrd fun g => { g with used := b.usedFor s, asserted := [] }).bump Reg.GRD_CNT_EVAL

theorem guardEvaluation_of_package (hx : b.atStage 2 = some x) (hg : b.grd.gsp.isSome = true)
    (hs : ((b.evalStart x.s).evaluate x.s (b.usedFor x.s)).aln.stepLast ≠ some x.s) :
    guardEvaluation run b =
      (((b.evalStart x.s).evaluate x.s (b.usedFor x.s)).modGrd fun g => { g with lastS := x.s }).finishStage x.s 2 run := by
  simp [guardEvaluation, hx, hg, hs]

theorem guardEvaluation_of_no_package (hx : b.atStage 2 = some x) (hg : b.grd.gsp = none) (hs : b.aln.stepLast = none) :
    guardEvaluation run b = ((b.evalStart x.s).modGrd fun g => { g with lastS := x.s }).finishStage x.s 2 run := by
  simp [guardEvaluation, hx, hg, hs]

/-! ### Missing evidence and fail-safe (R333, R334) -/

theorem evidenceMiss_of_missed {e t : Nat} (h1 : 1 ≤ e) (h8 : e ≤ 8) (hw : b.guardWatches = true) (he : b.exempt e = false)
    (hg : (onGrid b.cadence t || b.grd.sched.any (·.1 == t)) = true)
    (hl : ((b.engine e).missS.map fun u => decide (u < t)).getD true = true) (hm : b.missed e t = true) (ht : b.tdm.enNow = false) :
    evidenceMiss e t b =
      (b.modGrd fun g => { g with engines := modAt g.engines e fun x => { x with misses := min 255 (x.misses + 1), missS := some t } }).bump
        Reg.GRD_CNT_MISS := by
  rw [evidenceMiss, if_neg (by rw [hw, he, hg, hl, hm]; simp; omega)]
  simp [ht]

theorem failsafeEntry_of_timeout {e : Nat} (hg : b.grd.gsp = some g) (hw : b.guardWatches = true)
    (ht : b.evTimeout ≤ (b.engine e).misses) (hh : b.hitMask g e ≠ 0) :
    failsafeEntry e b =
      (((((b.modGrd fun x => { x with bells := b.hitBells g e }).bump Reg.GRD_CNT_FAILSAFE).noteBells b.grd.bells (b.hitBells g e)
        (lt32 b.tai) 1).note 0x0A04 (b.hitMask g e) e 1).settleGuard 1) := by
  simp [failsafeEntry, hg, hw, Nat.not_lt.mpr ht, hh]

/-! ### Network bells (R340 to R345) -/

/-- R340 to R342: the BELLF of a unit that sends, from the block `b'` whose frame stage has ended. -/
theorem bellfSend_of_sender {b' : Block} {f : List Byte × Block} (hx : b.atStage 4 = some x) (hb : b' = b.finishStage x.s 4 run)
    (hg : b'.grd.gsp = some g) (hs : b'.sendsBells = true) (hf : f = b'.bellfFrame k g x run) :
    bellfSend run k b =
      (((((f.2.modGrd fun y => { y with bseq := b'.nextBseq x.s }).bellfOut g.net f.1).bellfEvent
        (b'.bellfBells g, b'.grd.mask (·.fs)) f.1).modGrd fun y =>
          { y with breach := decide (x.dl.getD x.c + tickMs < x.departs run),
                   lastBells := some (b'.bellfBells g, b'.grd.mask (·.fs)) }).bellfBreach (x.departs run) (x.dl.getD x.c)) := by
  subst hf
  subst hb
  simp [bellfSend, hx, hg, hs]

theorem bellfSend_of_silent {b' : Block} (hx : b.atStage 4 = some x) (hb : b' = b.finishStage x.s 4 run) (hg : b'.grd.gsp = some g)
    (hs : b'.sendsBells = false) : bellfSend run k b = b'.modGrd fun y => { y with bseq := b'.nextBseq x.s } := by
  subst hb
  simp [bellfSend, hx, hg, hs]

theorem gooseRetransmit_of_due (hg : b.grd.gsp = some g) (hd : b.grd.gooseData.isEmpty = false) (hn : b.grd.gooseNext ≤ b.now)
    (ha : b.active = true) :
    gooseRetransmit b =
      (b.modGrd fun x => { x with sqNum := wrap1 x.sqNum }).gooseSend g (b.grd.gooseOff + gooseInterval g.net.gooseT0 b.grd.gooseOff) := by
  simp [gooseRetransmit, hg, hd, Nat.not_lt.mpr hn, ha]

/-! ### The firmware watchdog (R318) -/

theorem firmwareKick_of_reset_ended (hr : b.top.rstRun = none) :
    firmwareKick b = b.modGrd fun g => { g with kickAt := some b.now, wdtStage := 0, wdtFrom := none, wdtWait := false } := by
  simp [firmwareKick, hr]

theorem watchdogStage1_of_timeout {t : Nat} (hk : b.grd.kickAt = some t) (ht : b.since t (b.fld F.GRD_WDT_TMO * tickMs) = true) :
    watchdogStage1 k b =
      assertReset srcSwr false false k
        (((b.modGrd fun g => { g with kickAt := none, wdtStage := 1, wdtFired := true, wdtWait := true }).bump Reg.GRD_CNT_WDT1).note
          0x0A05 1 (b.fld F.GRD_WDT_TMO)).settleGuard := by
  simp [watchdogStage1, hk, ht]

theorem watchdogStage2_of_timeout {t : Nat} (hf : b.grd.wdtFrom = some t) (ht : b.since t (5 * tickS) = true) {b1 : Block}
    (h1 : b1 = (b.modGrd fun g => { g with wdtFrom := none, wdtStage := 2, wdtFired := true }).bump Reg.GRD_CNT_WDT2) :
    watchdogStage2 k b = assertReset srcWdt false false k (b1.note 0x0A05 2 (b1.fld F.GRD_WDT_TMO)) := by
  simp [watchdogStage2, hf, ht, h1]

end

/-- Settles O31: each command by the case of its meaning that its guard selects. -/
theorem evaluationEvidenceAndBellsTakeEffect : Obligations.EvaluationEvidenceAndBellsTakeEffect := by
  unfold Obligations.EvaluationEvidenceAndBellsTakeEffect
  refine ⟨?package, ?noPackage, ?miss, ?failsafe, ?bellReset, ?status, ?sender, ?silent, ?goose, ?kick, ?stage1, ?stage2⟩
  case package =>
    intro s run x b1 hx h1 hg hs
    rw [h1] at hs ⊢
    exact congrArg Host.Outcome.next (State.onB_eq_putB (guardEvaluation_of_package hx hg hs))
  case noPackage =>
    intro s run x hx hg hs
    exact congrArg Host.Outcome.next (State.onB_eq_putB (guardEvaluation_of_no_package hx hg hs))
  case miss =>
    intro s e t h1 h8 hw he hg hl hm ht
    exact congrArg Host.Outcome.next (State.onB_eq_putB (evidenceMiss_of_missed h1 h8 hw he hg hl hm ht))
  case failsafe =>
    intro s e g hg hw ht hh
    exact congrArg Host.Outcome.next (State.onB_eq_putB (failsafeEntry_of_timeout hg hw ht hh))
  case bellReset =>
    intro s h mask r
    exact congrArg Host.Outcome.next (r.onB_answer _ _ _ rfl rfl)
  case status =>
    intro s h r
    exact congrArg Host.Outcome.next (r.onB_answer _ _ _ rfl rfl)
  case sender =>
    intro s run x g b f b1 hx hb hg hs hf h1
    rw [h1]
    exact congrArg Host.Outcome.next (State.onB_eq_putB (bellfSend_of_sender hx hb hg hs hf))
  case silent =>
    intro s run x g b hx hb hg hs
    exact congrArg Host.Outcome.next (State.onB_eq_putB (bellfSend_of_silent hx hb hg hs))
  case goose =>
    intro s g hg hd hn ha
    exact congrArg Host.Outcome.next (State.onB_eq_putB (gooseRetransmit_of_due hg hd hn ha))
  case kick =>
    intro s hr
    exact congrArg Host.Outcome.next (State.onB_eq_putB (firmwareKick_of_reset_ended hr))
  case stage1 =>
    intro s t b1 hk ht h1
    rw [h1]
    exact congrArg Host.Outcome.next (State.onKB_congr (watchdogStage1_of_timeout hk ht))
  case stage2 =>
    intro s t b1 hf ht h1
    exact congrArg Host.Outcome.next (State.onKB_congr (watchdogStage2_of_timeout hf ht h1))

end Sys2Proof.Machine

/-!
SUPPORT. The time base: what each of its commands does in the cases the statements name, and the statements settled from these.
-/
namespace Sys2Proof.Machine

/-! ### Frames of the time base, of a sent frame and of a signal -/

section
variable {parts : List Part} {regs : List Nat} {s : State} {b : Block}

theorem Kept.modTim (h : Kept parts regs s (s.putB b)) (hl : .tim ∈ parts) (f : Tim → Tim) : Kept parts regs s (s.putB (b.modTim f)) :=
  h.update (fun p hn => by cases p <;> simp_all [Part.same]) fun _ _ => rfl

theorem Kept.cntPort (h : Kept parts regs s (s.putB b)) (hl : .ports ∈ parts) (p c n : Nat) :
    Kept parts regs s (s.putB (b.cntPort p c n)) :=
  h.update (fun q hn => by cases q <;> simp_all [Part.same]) fun _ _ => rfl

theorem Kept.emit (h : Kept parts regs s (s.putB b)) (hl : .tx ∈ parts) (port kind : Nat) (body : List Nat) :
    Kept parts regs s (s.putB (b.emit port kind body)) :=
  h.update (fun q hn => by cases q <;> simp_all [Part.same]) fun _ _ => rfl

/-- A frame given to a port changes its counters and the output alone, whether it is sent, too long or the port is down. -/
theorem Kept.send (h : Kept parts regs s (s.putB b)) (hp : .ports ∈ parts) (ht : .tx ∈ parts) (p kind len : Nat) (body : List Nat) :
    Kept parts regs s (s.putB (b.send p kind len body)) := by
  unfold Block.send
  split
  · exact h
  · split
    · exact h.cntPort hp _ _ _
    · exact ((h.cntPort hp _ _ _).cntPort hp _ _ _).emit ht _ _ _

end

section
variable {b : Block} {k : Key}

/-! ### Frames sent (R88, R93) -/

/-- A port that is up sends a frame within MAC_MAXLEN and counts it. -/
theorem Block.send_of_up {p len : Nat} (hu : b.portUp p = true) (hl : len ≤ (b.rd (Reg.MAC_MAXLEN + 0x1000 * p)).toNat) (kind : Nat)
    (body : List Nat) : b.send p kind len body = ((b.cntPort p cntTxFrames 1).cntPort p cntTxOctets len).emit p kind body := by
  simp [Block.send, hu, Nat.not_lt.mpr hl]

theorem Block.send_tx {p len : Nat} (hu : b.portUp p = true) (hl : len ≤ (b.rd (Reg.MAC_MAXLEN + 0x1000 * p)).toNat) (kind : Nat)
    (body : List Nat) : (b.send p kind len body).tx = ⟨p, kind, body⟩ :: b.tx := by
  simp [Block.send_of_up hu hl]

theorem Block.send_tim (p kind len : Nat) (body : List Nat) : (b.send p kind len body).tim = b.tim := by
  unfold Block.send
  split
  · rfl
  · split <;> rfl

theorem Block.rd_bump_ofNat (b : Block) (a : Nat) : (b.bump a).rd a = BitVec.ofNat 32 (min 0xFFFFFFFF ((b.rd a).toNat + 1)) := by
  simp [Block.bump, Block.bumpBy]

/-! ### Events of the sources (R51, R56 to R58, R62, R77) -/

theorem ptpSyncReceive_of_other {src n : Nat} (origin arrival : Nat) (h6 : src < 6) (ha : (b.src src).announced = some n)
    (hs : b.timSrc ≠ src) :
    ptpSyncReceive src (b.fld F.TIM_CTRL_DOMAIN) origin arrival b =
      b.sample src ((((origin + b.tim.pdelay.getD src 0 : Nat) : Int) - ((arrival : Int) - b.rxLat src)) / 2) := by
  simp [ptpSyncReceive, Nat.not_le.mpr h6, ha, hs]

theorem ptpAnnounceReceive_of_other {src : Nat} (bound : Nat) (utcOfs : Option Nat) (leap61 leap59 : Bool) (h6 : src < 6)
    (hs : b.timSrc ≠ src) :
    ptpAnnounceReceive src (b.fld F.TIM_CTRL_DOMAIN) bound utcOfs leap61 leap59 b =
      (b.modSrc src fun x => { x with announced := some bound, eSrc := bound }).rankSources := by
  have hsel : (b.modSrc src fun x => { x with announced := some bound, eSrc := bound }).timSrc ≠ src := hs
  simp [ptpAnnounceReceive, Nat.not_le.mpr h6, hsel]

theorem pdelayReqReceive_of_port {port : Nat} (seq turn : Nat) (h6 : port < 6) :
    pdelayReqReceive port seq turn b = b.send port Emit.ptp 72 [3, seq, turn + (b.txLat port + b.rxLat port) * 0x8000] :=
  if_pos h6

theorem pdelayRespReceive_of_open {port t1 : Nat} (arrival turn : Nat) (hq : b.tim.pdelayReq[port]? = some (some t1)) :
    pdelayRespReceive port arrival turn b =
      (b.modTim fun t => { t with pdelay := t.pdelay.set port ((arrival - b.rxLat port - t1 - turn) / 2),
                                  pdelayReq := t.pdelayReq.set port none }).bump Reg.TIM_CNT_PDELAY := by
  simp [pdelayRespReceive, hq]

theorem ppsInEdge_of_armed (stamp : Nat) {st : Int} (hst : st = (stamp : Int) - b.fld F.TIM_PPS_DLY_IN_DLY)
    (ha : b.tim.todArmed = true) :
    ppsInEdge stamp b =
      (((b.modSrc 6 fun x => { x with eSrc := b.fld F.TIM_SRC_ACC_PPS_ACC }).modTim fun t =>
        { (t.jump ((((b.rd Reg.TIM_TOD_SEC_LO).toNat + 4294967296 * b.fld F.TIM_TOD_SEC_HI_SEC_HI : Nat) -
            ((st / 2 + toSecond st) / 1000000000 : Int)) * 1000000000)) with todArmed := false }).sample 6 (toSecond st)) := by
  subst hst
  exact if_pos ha

theorem irigbFrameReceive_of_good (utc stamp bound : Nat) (leapDel : Bool) :
    irigbFrameReceive true utc stamp bound false leapDel b =
      (b.modSrc 7 fun x => { x with eSrc := max (b.fld F.TIM_SRC_ACC_IRIG_ACC) bound }).sample 7
        (((utc + b.fld F.TIM_UTC_UTC_OFS * 1000000000 : Nat) : Int) - stamp) := by
  simp [irigbFrameReceive]

theorem irigbFrameReceive_of_bad (utc stamp bound : Nat) (leapPend leapDel : Bool) :
    irigbFrameReceive false utc stamp bound leapPend leapDel b = b.bump Reg.TIM_CNT_IRIG_ERR := by
  simp [irigbFrameReceive]

theorem ppsInEdgeMissing_of_valid (hv : (b.src 6).valid = true) : ppsInEdgeMissing b = b.bump Reg.TIM_CNT_PPS_MISS :=
  if_pos hv

/-! ### Loss, switch, lock and step (R59, R63, R65) -/

/-- R59, R63: no usable source is left. -/
theorem Block.dropSrc_of_none (reason : Nat) (ht : b.timState = tmAcquire ∨ b.timState = tmLocked)
    (hu : b.srcUsable b.timSrc = false) (hb : b.bestSrc b.srcUsable = none) : b.dropSrc reason = b.loseSrc := by
  rcases ht with ht | ht <;> simp [Block.dropSrc, ht, hu, hb]

/-- R63: lost before the first lock. -/
theorem Block.loseSrc_of_never_locked (ht : b.timState = tmAcquire) (hl : b.tim.lockedOnce = false) :
    b.loseSrc = ((b.setTimState tmInit).put F.TIM_STAT_SRC 0xF).setErr 0xFFFFFFFF := by
  simp [Block.loseSrc, ht, hl]

theorem sourceLoss_of_never_locked (ht : b.timState = tmAcquire) (hu : b.srcUsable b.timSrc = false)
    (hb : b.bestSrc b.srcUsable = none) (hl : b.tim.lockedOnce = false) :
    sourceLoss b = (((b.setTimState tmInit).put F.TIM_STAT_SRC 0xF).setErr 0xFFFFFFFF).rankSources := by
  rw [sourceLoss, Block.dropSrc_of_none 0 (.inl ht) hu hb, Block.loseSrc_of_never_locked ht hl]

theorem swHoldExpiry_of_held {j : Nat} (ht : b.timState = tmAcquire ∨ b.timState = tmLocked)
    (hb : b.bestSrc b.srcHeld = some j) : swHoldExpiry b = b.switchSrc j 1 := by
  rcases ht with ht | ht <;> simp [swHoldExpiry, ht, hb]

theorem timeLock_of_good {b' : Block} (ht : b.timState = tmAcquire) (hg : b.fld F.TIM_SERVO_LOCK_CNT ≤ b.tim.nGood)
    (hb : b' = Block.trackErr ((b.setTimState tmLocked).modTim fun t =>
      { t with lockedOnce := true, lockTai := some (t.lockTai.getD (t.sec + (if t.ns = 0 then 1 else 2))), exitBound := 0 })) :
    timeLock b = b'.note 0x0201 b'.timSrc b'.devClass := by
  subst hb
  simp [timeLock, ht, Nat.not_lt.mpr hg]

/-- R65, R156: a step that ALN has released, no slot closed for it. -/
theorem timeStep_of_released {m : Int} (hd : b.tim.stepDue = some m)
    (hr : (b.aln.slots.any fun x => x.phase == 0 || (x.stepClose && decide (x.stage < 3))) = false)
    (hn : b.aln.stepLast.isNone = true) :
    timeStep b = Block.trackErr (((Block.islRestart ((((b.stepRecord.modTim fun t => t.jump m).modTim fun t =>
      { t with stepDue := none, stepRun := [], last8 := [], stepAt := some t.mono,
               lockTai := t.lockTai.map fun x => if x ≤ t.sec then 0 else x }).modAln fun u =>
      { u with lastS := none, lastD := 0, lastC := 0, stepLast := none }).modGrd fun u => { u with restart := true })).bump
      Reg.TIM_CNT_STEP).note 0x0203 (satS32 m) (lt32 b.tai)) := by
  simp only [timeStep, hd, hr, hn, Bool.false_eq_true, if_false, if_true]

theorem errEstUpdate_of_freewheel (ht : b.timState = tmFree) : errEstUpdate b = b.setErr b.freeBound :=
  if_pos ht

/-! ### TOD_LOAD, the source pin and leap seconds (R57, R60, R74) -/

theorem todLoadW_of_allowed (acc : Nat) (hm : b.mayWrite k acc roleEng true = yOk) :
    todLoadW acc k b = ⟨yOk, b.modTim fun t => { t with todArmed := true }⟩ := by
  simp [todLoadW, hm]

/-- R60, R81: no pin, or one that the envelope allows. -/
theorem sourcePinWriteW_of_allowed (acc : Nat) {value : W32} (hm : b.mayWrite k acc roleEng true = yOk)
    (he : (value.getLsbD 4 && !b.srcAllowed (min 7 (bits value 3 0))) = false) :
    sourcePinWriteW acc value k b = ⟨yOk, Block.rankSources (Block.dropSrc ((((b.wr Reg.TIM_SRC_CTRL
      ((value &&& 0xFF000010) ||| BitVec.ofNat 32 (2 ^ 18 * clampNat 1 60 (bits value 23 18) + 2 ^ 8 * max 1 (bits value 15 8) +
        min 7 (bits value 3 0)))).putFlag F.TIM_STAT_PINNED (value.getLsbD 4)).put F.TIM_STAT_ENVELOPE_HOLD 0))
      (if value.getLsbD 4 then 2 else 0))⟩ := by
  simp only [sourcePinWriteW, hm, he, ne_eq, not_true_eq_false, Bool.false_eq_true, if_false]

/-- R74: TIM_UTC_OFS after the leap second pending. -/
def Block.utcOfsAfterLeap (b : Block) : Nat :=
  if b.flag F.TIM_UTC_LEAP_DIR then b.fld F.TIM_UTC_UTC_OFS - 1 else min 255 (b.fld F.TIM_UTC_UTC_OFS + 1)

theorem Block.utcOfsAfterLeap_lt (b : Block) : b.utcOfsAfterLeap < 256 := by
  have hlt : b.fld F.TIM_UTC_UTC_OFS < 256 := bits_lt _ 7 0
  unfold Block.utcOfsAfterLeap
  split <;> omega

theorem leapApply_of_due (hd : b.leapDue = true) :
    leapApply b =
      ((((b.put F.TIM_UTC_UTC_OFS b.utcOfsAfterLeap).put F.TIM_UTC_LEAP_PEND 0).modTim fun t =>
        { t with leapAt := some (t.sec * tickS) }).bump Reg.TIM_CNT_LEAP).note 0x0206 b.utcOfsAfterLeap
        (b.flag F.TIM_UTC_LEAP_DIR).toNat := by
  simp only [leapApply, hd, Bool.not_true, Bool.false_eq_true, if_false, Block.utcOfsAfterLeap]

/-! ### Outputs (R51, R53, R55, R71, R77, R84) -/

theorem ppsOutPulse_of_enabled (he : b.flag F.TIM_PPS_OUT_EN = true) (ht : b.timState ≠ tmInit)
    (hc : b.devClass ≤ b.fld F.TIM_PPS_OUT_SQUELCH_TQ) :
    ppsOutPulse b =
      (b.modTim fun t => { t with ppsOut := some (t.mono + b.fld F.TIM_PPS_OUT_WIDTH * tickUs) }).emit 9 Emit.land [0, 1] := by
  simp [ppsOutPulse, he, ht, Nat.not_lt.mpr hc]

/-- R53: a NET port that does not carry the selected source. -/
theorem Block.isMaster_of_other {port : Nat} (h4 : port < 4) (hs : b.timSrc ≠ port) : b.isMaster port = true := by
  simp [Block.isMaster, h4, hs]

theorem ptpSyncSend_of_master {port : Nat} (phase : Nat) (hm : b.isMaster port = true) :
    ptpSyncSend port phase b = b.send port Emit.ptp 64 [0, (b.stamp phase + b.txLat port) / 2000000000,
      (b.stamp phase + b.txLat port) / 2 % 1000000000, (b.stamp phase + b.txLat port) % 2 * 0x8000 + b.tim.frac >>> 16] := by
  simp [ptpSyncSend, hm]

theorem pdelayReqSend_of_port {port : Nat} (phase : Nat) (h6 : port < 6) :
    pdelayReqSend port phase b =
      (b.modTim fun t => { t with pdelayReq := t.pdelayReq.set port (some (b.stamp phase + b.txLat port)) }).send port Emit.ptp 72 [2] := by
  simp [pdelayReqSend, Nat.not_le.mpr h6]

theorem announceSend_of_master {port : Nat} (hm : b.isMaster port = true) :
    announceSend port b = b.send port Emit.ptp 82 (if b.isGm then [11, b.clockClass] else [11]) := by
  simp [announceSend, hm]

end

/-- Settles O8: the servo's register writes leave the time base as the equations of R62 have set it. -/
theorem servoFollowsItsEquations : Obligations.ServoFollowsItsEquations := by
  unfold Obligations.ServoFollowsItsEquations
  intro b e
  simp only [Block.servo, Block.put_tim, Block.modTim_tim, and_self]

/-- Settles O9: each event by the case of its meaning that its guard selects. -/
theorem timeSourceEventsTakeEffect : Obligations.TimeSourceEventsTakeEffect := by
  unfold Obligations.TimeSourceEventsTakeEffect
  refine ⟨?sync, ?announce, ?pdelayReq, ?pdelayResp, ?e2e, ?pps, ?irig, ?missing⟩
  case sync =>
    intro s src origin arrival n h6 ha hs
    exact congrArg Host.Outcome.next (State.onB_eq_putB (ptpSyncReceive_of_other origin arrival h6 ha hs))
  case announce =>
    intro s src bound h6 hs
    exact congrArg Host.Outcome.next (State.onB_eq_putB (ptpAnnounceReceive_of_other bound none false false h6 hs))
  case pdelayReq =>
    intro s port seq turn h6 hu hl
    exact ⟨_, congrArg Host.Outcome.next (State.onB_eq_putB (pdelayReqReceive_of_port seq turn h6)), Block.send_tx hu hl _ _,
      (Kept.refl _ _ s).send (by decide) (by decide) _ _ _ _⟩
  case pdelayResp =>
    intro s port arrival turn t1 hq
    exact ⟨_, congrArg Host.Outcome.next (State.onB_eq_putB (pdelayRespReceive_of_open arrival turn hq)), rfl,
      Block.rd_bump_ofNat _ _, ((Kept.refl _ _ s).modTim (by decide) _).bump (by decide)⟩
  case e2e =>
    intro s
    exact ⟨_, congrArg Host.Outcome.next (State.onB_eq_putB rfl), Block.rd_bump_ofNat _ _, (Kept.refl _ _ s).bump (by decide)⟩
  case pps =>
    intro s stamp ha
    exact congrArg Host.Outcome.next (State.onB_eq_putB (ppsInEdge_of_armed stamp rfl ha))
  case irig =>
    intro s utc stamp bound
    exact ⟨congrArg Host.Outcome.next (State.onB_eq_putB (irigbFrameReceive_of_good utc stamp bound false)),
      congrArg Host.Outcome.next (State.onB_eq_putB (irigbFrameReceive_of_bad utc stamp bound false false))⟩
  case missing =>
    intro s hv
    exact congrArg Host.Outcome.next (State.onB_eq_putB (ppsInEdgeMissing_of_valid hv))

/-- Settles O10: each transition by the case of its meaning that its guard selects. -/
theorem timeBaseTransitionsTakeEffect : Obligations.TimeBaseTransitionsTakeEffect := by
  unfold Obligations.TimeBaseTransitionsTakeEffect
  refine ⟨?loss, ?switch, ?lock, ?step, ?free, ?load, ?pin, ?leap⟩
  case loss =>
    intro s ht hu hb hl
    exact congrArg Host.Outcome.next (State.onB_eq_putB (sourceLoss_of_never_locked ht hu hb hl))
  case switch =>
    intro s k ht hb
    exact congrArg Host.Outcome.next (State.onB_eq_putB (swHoldExpiry_of_held (.inr ht) hb))
  case lock =>
    intro s ht hg
    exact ⟨_, rfl, congrArg Host.Outcome.next (State.onB_eq_putB (timeLock_of_good ht hg rfl))⟩
  case step =>
    intro s m hd hr hn
    exact congrArg Host.Outcome.next (State.onB_eq_putB (timeStep_of_released hd hr hn))
  case free =>
    intro s ht
    exact congrArg Host.Outcome.next (State.onB_eq_putB (errEstUpdate_of_freewheel ht))
  case load =>
    intro s acc hm
    exact congrArg Host.Outcome.next (State.onB_eq_putB (congrArg WRes.b (todLoadW_of_allowed acc hm)))
  case pin =>
    intro s acc value hm he
    exact congrArg Host.Outcome.next (State.onB_eq_putB (congrArg WRes.b (sourcePinWriteW_of_allowed acc hm he)))
  case leap =>
    intro s hd
    refine ⟨_, congrArg Host.Outcome.next (State.onB_eq_putB (leapApply_of_due hd)), ?pend, ?offset, rfl, ?count, ?kept⟩
    case pend => simp [Block.fld_bump_ne, Block.fld_put]
    case offset =>
      change _ = s.b.utcOfsAfterLeap
      simp [Block.fld_bump_ne, Block.fld_put_disj, Block.fld_put, Nat.mod_eq_of_lt s.b.utcOfsAfterLeap_lt]
    case count => simp [Block.rd_bump_ofNat, Block.rd_put_ne]
    case kept =>
      exact (((((Kept.refl _ _ s).put (by simp) _).put (by simp) _).modTim (by decide) _).bump (by simp)).note (by decide) _ _ _ _ _

/-- Settles O11: each output by the case of its meaning that its guard selects; a frame sent
changes its port and the output alone. The evidence clause is its meaning unfolded. -/
theorem timeOutputsTakeEffect : Obligations.TimeOutputsTakeEffect := by
  unfold Obligations.TimeOutputsTakeEffect
  refine ⟨?pps, ?sync, ?pdelay, ?announce, ?evidence⟩
  case pps =>
    intro s he ht hc
    exact ⟨_, congrArg Host.Outcome.next (State.onB_eq_putB (ppsOutPulse_of_enabled he ht hc)), rfl, rfl,
      ((Kept.refl _ _ s).modTim (by decide) _).emit (by decide) _ _ _⟩
  case sync =>
    intro s port phase h4 hs hu hl
    exact ⟨_, congrArg Host.Outcome.next (State.onB_eq_putB (ptpSyncSend_of_master phase (Block.isMaster_of_other h4 hs))),
      Block.send_tx hu hl _ _, (Kept.refl _ _ s).send (by decide) (by decide) _ _ _ _⟩
  case pdelay =>
    intro s port phase h6 hu hl
    exact ⟨_, congrArg Host.Outcome.next (State.onB_eq_putB (pdelayReqSend_of_port phase h6)), Block.send_tim _ _ _ _,
      Block.send_tx (b := s.b.modTim _) hu hl _ _, ((Kept.refl _ _ s).modTim (by decide) _).send (by decide) (by decide) _ _ _ _⟩
  case announce =>
    intro s port h4 hs hu hl
    exact ⟨_, congrArg Host.Outcome.next (State.onB_eq_putB (announceSend_of_master (Block.isMaster_of_other h4 hs))),
      Block.send_tx hu hl _ _, (Kept.refl _ _ s).send (by decide) (by decide) _ _ _ _⟩
  case evidence =>
    intro s slot
    exact congrArg Host.Outcome.next (State.onB_eq_putB rfl)

end Sys2Proof.Machine

/-!
SUPPORT. The network ports: what each of their commands does in the cases the statements name, and the statements settled from these.
-/
namespace Sys2Proof.Machine

section
variable {k : Key} {b : Block} {p : Nat} {f : RxFrame}

/-! ### FRAME_RECEIVE (R90, R91, R94, R105, R107) -/

theorem frameReceive_of_runt (h7 : p < 7) (hu : b.portUp p = true) (hl : f.length < 64) :
    frameReceive p f k b = b.cntPort p cntRunt 1 := by
  rw [frameReceive, if_neg (by simp [h7, hu]), if_pos (Nat.le_of_lt_succ hl)]

theorem frameReceive_of_oversize (h7 : p < 7) (hu : b.portUp p = true) (hl : 64 ≤ f.length)
    (hm : b.fld (atPort F.MAC_MAXLEN_LEN p) < f.length) : frameReceive p f k b = b.cntPort p cntOversize 1 := by
  rw [frameReceive, if_neg (by simp [h7, hu]), if_neg (Nat.not_le.mpr hl), if_pos hm]

theorem frameReceive_of_bad_fcs (h7 : p < 7) (hu : b.portUp p = true) (hl : 64 ≤ f.length)
    (hm : f.length ≤ b.fld (atPort F.MAC_MAXLEN_LEN p)) (hf : f.fcsOk = false) :
    frameReceive p f k b = b.cntPort p cntFcs 1 := by
  rw [frameReceive, if_neg (by simp [h7, hu]), if_neg (Nat.not_le.mpr hl), if_neg (Nat.not_lt.mpr hm), if_pos (by simp [hf])]

/-- A good frame is counted with its octets; what MACsec lets pass is a second PRP copy or meets the sender filter. -/
theorem frameReceive_of_passed {b' : Block} (h7 : p < 7) (hu : b.portUp p = true) (hl : 64 ≤ f.length)
    (hm : f.length ≤ b.fld (atPort F.MAC_MAXLEN_LEN p)) (hf : f.fcsOk = true)
    (hs : Block.macsec k ((b.cntPort p cntRxFrames 1).cntPort p cntRxOctets f.length) p f = (b', true)) :
    frameReceive p f k b =
      if b'.isDuplicate p f then b'.cntPort p cntPrpDup 1 else (b'.rememberCopy p f).admitFrame p f := by
  rw [frameReceive, if_neg (by simp [h7, hu]), if_neg (Nat.not_le.mpr hl), if_neg (Nat.not_lt.mpr hm), if_neg (by simp [hf])]
  simp [hs]

/-- R105: what is no fragment is pooled where its sender is known and entered as a stranger's where not. -/
theorem Block.admitFrame_of_whole (b : Block) (p : Nat) (hc : ∀ id first adm, f.cls ≠ .fragment id first adm) :
    b.admitFrame p f = if b.knows p f then (b.toPool p (framePrio b p f) f.length f.drained).1 else b.stranger p f := by
  unfold Block.admitFrame
  split
  case h_1 id first adm he => exact absurd he (hc id first adm)
  case h_2 => rfl

theorem reassemblyTimeout_of_old {id : Nat} (ho : ((b.port p).frags.filter fun e => e.1 == id && b.since e.2 tickS) ≠ []) :
    reassemblyTimeout p id b =
      (b.cntPort p cntStranger ((b.port p).frags.filter fun e => e.1 == id && b.since e.2 tickS).length).modPort p fun x =>
        { x with frags := x.frags.filter fun e => !(e.1 == id && b.since e.2 tickS) } :=
  if_neg (by rwa [List.isEmpty_iff])

theorem prpSupervisionSend_of_net {net : Nat} (hn : net < 2) :
    prpSupervisionSend net b = (b.send (2 * net) Emit.prpSup 64 [net]).send (2 * net + 1) Emit.prpSup 64 [net] :=
  if_neg (Nat.not_le.mpr hn)

/-! ### Pause (R95 to R98) -/

theorem pauseRepeat_of_due {prio : Nat} (hp : (b.port p).pausing.getD prio false = true)
    (hw : b.loWm p prio < (b.port p).pools.getD prio 0)
    (hd : b.since ((b.port p).pauseAt.getD prio 0) (quantaTicks p (b.fld (atPort F.MAC_STAT_RATE p)) 0x8000) = true) :
    pauseRepeat p prio b =
      (b.modPort p fun x => { x with pauseAt := x.pauseAt.set prio b.now }).sendPause p (if b.linkMode p then 8 else prio) 0xFFFF := by
  rw [pauseRepeat, if_neg (by simp only [hp, hd, Nat.not_le.mpr hw]; decide)]

/-- The fill of a pool, the first step of PAUSE_END. -/
abbrev Block.setPool (b : Block) (p prio fill : Nat) : Block := b.modPort p fun x => { x with pools := x.pools.set prio fill }

/-- R95: under PFC a pool at LO_WM or below ends the pause of its own priority. -/
theorem pauseEnd_of_drained {prio fill : Nat} (hp : ((b.setPool p prio fill).port p).pausing.getD prio false = true)
    (hw : fill ≤ b.loWm p prio) (hm : b.linkMode p = false) :
    pauseEnd p prio fill b =
      ((((b.setPool p prio fill).modPort p fun x => { x with pausing := x.pausing.set prio false }).sendPause p prio 0).showPausing p) := by
  have hlow : ¬(b.setPool p prio fill).loWm p prio < fill := Nat.not_lt.mpr hw
  have hpfc : ((b.setPool p prio fill).modPort p fun x => { x with pausing := x.pausing.set prio false }).linkMode p = false := hm
  rw [pauseEnd, if_neg (by simp only [hp, hlow]; decide)]
  simp only [hpfc, Bool.not_false, if_true]

/-- The priorities below `n` that a pause of priority `i` names and a mask obeys. -/
theorem filter_range_two_pow {i n : Nat} (hi : i < n) (obey : Nat) :
    ((List.range n).filter fun j => (2 ^ i).testBit j && obey.testBit j) = if obey.testBit i then [i] else [] := by
  have hone : ((List.range n).filter fun j => (2 ^ i).testBit j) = [i] := by
    have hbit : (fun j => (2 ^ i).testBit j) = (· == i) := by
      funext j
      simp [Nat.testBit_two_pow, eq_comm, beq_eq_decide]
    rw [hbit, List.filter_beq, List.count_eq_one_of_mem List.nodup_range (List.mem_range.mpr hi), List.replicate_one]
  have hand : (fun j => (2 ^ i).testBit j && obey.testBit j) = fun j => obey.testBit j && (2 ^ i).testBit j :=
    funext fun j => Bool.and_comm _ _
  rw [hand, ← List.filter_filter, hone, List.filter_singleton, Bool.cond_eq_ite]

/-- R97: a pause of one priority below 7 is counted and, where OBEY_EN obeys it, holds that priority for its quanta. -/
theorem pauseReceive_of_priority {i : Nat} (quanta : Nat) (h6 : p < 6) (hu : b.portUp p = true) (hi : i < 7) :
    pauseReceive p false (2 ^ i) quanta b =
      if (b.fld (atPort F.MAC_PFC_OBEY_EN p)).testBit i then
        (b.cntPort p cntPauseRx 1).holdPrio p i (quantaTicks p (b.fld (atPort F.MAC_STAT_RATE p)) ((quanta >>> (16 * i)) % 65536))
      else b.cntPort p cntPauseRx 1 := by
  have h7 : (2 ^ i).testBit 7 = false := by simp [hi.ne]
  rw [pauseReceive, if_neg (by simp [hu]; omega)]
  simp only [Bool.false_or, h7, Bool.false_and, Bool.false_eq_true, if_false, Block.cntPort_fld, filter_range_two_pow hi]
  split
  · rfl
  · rfl

theorem pauseExpiry_of_run_out {prio : Nat} (h0 : 0 < (b.port p).heldTo.getD prio 0)
    (hn : (b.port p).heldTo.getD prio 0 ≤ b.now) : pauseExpiry p prio b = b.holdPrio p prio 0 :=
  if_neg (by omega)

theorem watermarkWriteW_of_fitting {acc pool hi lo : Nat} (hm : b.mayWrite k acc roleEng true = yOk) (h6 : p < 6) (h8 : pool < 8)
    (hl : lo < hi) (hk : hi ≤ poolKib p) :
    watermarkWriteW acc p pool hi lo k b =
      ⟨yOk, b.wr (Reg.MAC_POOL0_WM + 0x1000 * p + 4 * pool) (BitVec.ofNat 32 (hi * 65536 + lo))⟩ := by
  rw [watermarkWriteW, if_neg (not_not_intro hm), if_neg (by omega), if_neg (by omega)]

theorem watermarkWriteW_of_out_of_range {acc pool hi lo : Nat} (hm : b.mayWrite k acc roleEng true = yOk) (h6 : p < 6) (h8 : pool < 8)
    (hr : hi ≤ lo ∨ poolKib p < hi) :
    watermarkWriteW acc p pool hi lo k b = ⟨yBadParam, b.put (atPort F.MAC_STAT_CFG_ERR p) 1⟩ := by
  rw [watermarkWriteW, if_neg (not_not_intro hm), if_neg (by omega), if_pos hr]

/-! ### Links and rate step-down (R89, R99 to R103) -/

/-- R99: the second's load is below LOW_UTIL of the next lower rate. -/
abbrev Block.belowLowUtil (b : Block) (p oct : Nat) : Prop :=
  b.fld (atPort F.MAC_STAT_RATE p) < 3 ∧
    oct * 10 < b.fld (atPort F.MAC_STEP_LOW_UTIL p) * rateOctets (b.fld (atPort F.MAC_STAT_RATE p) + 1)

/-- The port at the end of a measured second: the dwell counted on or restarted, the crossing of HI_WM forgotten. -/
abbrev Block.endSecond (b : Block) (p oct : Nat) : Block :=
  b.modPort p fun x => { x with dwell := (if b.belowLowUtil p oct then (b.port p).dwell + 1 else 0), hiCross := false }

/-- R100: a second above HIGH_UTIL at a lowered rate begins a step up. -/
theorem utilisationMeasure_of_above {rx tx : Nat} (hs : b.stepPort p = true) (hu : b.portUp p = true)
    (hr : (b.port p).reneg = none) (hc : 0 < b.fld (atPort F.MAC_STAT_RATE p))
    (ha : b.fld (atPort F.MAC_STEP_HIGH_UTIL p) * rateOctets (b.fld (atPort F.MAC_STAT_RATE p)) < max rx tx * 10)
    (hf : (b.endSecond p (max rx tx)).stepFree p = true) :
    utilisationMeasure p rx tx b =
      (b.endSecond p (max rx tx)).renegotiate p (b.fld (atPort F.MAC_STAT_RATE p) - 1)
        ((max rx tx * 1000 + rateOctets (b.fld (atPort F.MAC_STAT_RATE p)) / 2) / rateOctets (b.fld (atPort F.MAC_STAT_RATE p))) := by
  rw [utilisationMeasure, if_neg (by simp [hs, hu, hr])]
  simp only [hc, ha, decide_true, Bool.true_or, and_self, if_true, decide_eq_true_eq, hf]

/-- R89: a NET port (it has no MACsec) with no renegotiation pending links at a supported rate. -/
theorem linkUp_of_supported {rate : Nat} (h4 : p < 4) (ho : b.portOn p = true) (he : b.flag (atPort F.MAC_CTRL_EN p) = true)
    (hl : b.flag (atPort F.MAC_STAT_LINK p) = false) (hs : b.rateSupported p rate = true) (hr : (b.port p).reneg = none) :
    linkUp p rate true k b =
      ((((b.put (atPort F.MAC_STAT_LINK p) 1).put (atPort F.MAC_STAT_RATE p) rate).putFlag (atPort F.MAC_STAT_SEC_UP p) false).modPort p
        fun x => { x with dwell := 0, steadyAt := b.now, reneg := none }).note 0x0301 p 1 rate := by
  have hsec : (decide (4 ≤ p) && k.usable (secSlot p)) = false := by simp [h4]
  rw [linkUp, if_neg (by simp [ho, he, hl]; omega), if_neg (by simp [hs])]
  simp only [hr, hsec]
  rfl

theorem linkDown_of_no_step (h7 : p < 7) (hl : b.flag (atPort F.MAC_STAT_LINK p) = true)
    (hr : (if p < 4 then ((b.dropLink p).port (mate p)).reneg else none) = none) : linkDown p b = b.dropLink p := by
  rw [linkDown, if_neg (by simp [hl, h7])]
  simp only [hr]

theorem netStepFail_of_late {r : Reneg} (hr : (b.port p).reneg = some r) (hd : r.deadline ≤ b.now) :
    netStepFail p b =
      ((((b.advertise p ((List.range 4).filter (· ≤ b.stepFloor p))).put (atPort F.MAC_STEP_STAT_BUSY p) 0).put
        (atPort F.MAC_STEP_STAT_FAIL p) 1).modPort p fun x => { x with reneg := none }).note 0x0303 p r.toRate := by
  simp only [netStepFail, hr, Nat.not_lt.mpr hd, if_false]

/-! ### The stranger table's clear and the snapshot (R106, R109) -/

theorem strangerClearW_of_allowed (acc p : Nat) (hm : b.mayWrite k acc roleOpr false = yOk) :
    strangerClearW acc p k b = ⟨yOk, b.modPort p fun x => { x with strangers := [] }⟩ :=
  if_neg (not_not_intro hm)

/-- The chosen ports' counters in their banks, MAC_SNAP_CTRL as written. -/
abbrev Block.snapPorts (b : Block) (ports : Nat) (clr : Bool) : Block :=
  ((List.range 7).filter ports.testBit).foldl (fun b p => b.snapPort clr p)
    ((b.put F.MAC_SNAP_CTRL_PORTS ports).putFlag F.MAC_SNAP_CTRL_CLR_ON_SNAP clr)

/-- The instant of a snapshot in MAC_SNAP_LT. -/
abbrev Block.stampSnap (b : Block) : Block :=
  (b.wr Reg.MAC_SNAP_LT_LO (BitVec.ofNat 32 (b.tai % 2 ^ 48))).wr Reg.MAC_SNAP_LT_HI (BitVec.ofNat 32 (b.tai % 2 ^ 48 / 2 ^ 32))

theorem snapshotW_of_allowed (acc ports : Nat) (clr : Bool) (hm : b.mayWrite k acc roleOpr false = yOk) :
    snapshotW acc ports clr k b =
      ⟨yOk, (b.snapPorts ports clr).stampSnap.wr Reg.MAC_SNAP_SEQ ((b.snapPorts ports clr).stampSnap.rd Reg.MAC_SNAP_SEQ + 1)⟩ :=
  if_neg (not_not_intro hm)

end

/-- Settles O16: each frame by the first check it fails, the rest by the case of its meaning that its guard selects. -/
theorem receivedFramesMeetTheirChecksInOrder : Obligations.ReceivedFramesMeetTheirChecksInOrder := by
  unfold Obligations.ReceivedFramesMeetTheirChecksInOrder
  refine ⟨?runt, ?oversize, ?fcs, ?passed, ?whole, ?timeout, ?supervision⟩
  case runt =>
    intro s p f h7 hu hl
    exact congrArg Host.Outcome.next (State.onB_eq_putB (frameReceive_of_runt h7 hu hl))
  case oversize =>
    intro s p f h7 hu hl hm
    exact congrArg Host.Outcome.next (State.onB_eq_putB (frameReceive_of_oversize h7 hu hl hm))
  case fcs =>
    intro s p f h7 hu hl hm hf
    exact congrArg Host.Outcome.next (State.onB_eq_putB (frameReceive_of_bad_fcs h7 hu hl hm hf))
  case passed =>
    intro s p f b1 h7 hu hl hm hf hs
    exact congrArg Host.Outcome.next (State.onB_eq_putB (frameReceive_of_passed h7 hu hl hm hf hs))
  case whole =>
    intro b p _ f hc
    exact b.admitFrame_of_whole p hc
  case timeout =>
    intro s p id ho
    exact congrArg Host.Outcome.next (State.onB_eq_putB (reassemblyTimeout_of_old ho))
  case supervision =>
    intro s net hn
    exact congrArg Host.Outcome.next (State.onB_eq_putB (prpSupervisionSend_of_net hn))

/-- Settles O17: each pause command by the case of its meaning that its guard selects. -/
theorem pauseCommandsTakeEffect : Obligations.PauseCommandsTakeEffect := by
  unfold Obligations.PauseCommandsTakeEffect
  refine ⟨?again, ?drained, ?receive, ?expiry, ?fitting, ?outOfRange⟩
  case again =>
    intro s p prio hp hw hd
    exact congrArg Host.Outcome.next (State.onB_eq_putB (pauseRepeat_of_due hp hw hd))
  case drained =>
    intro s p prio fill b1 hp hw hm h1 hsame
    rw [h1]
    exact congrArg Host.Outcome.next (State.onB_eq_putB (pauseEnd_of_drained (by rwa [hsame]) hw hm))
  case receive =>
    intro s p i quanta h6 hu hi
    exact congrArg Host.Outcome.next (State.onB_eq_putB (pauseReceive_of_priority quanta h6 hu hi))
  case expiry =>
    intro s p prio h0 hn
    exact congrArg Host.Outcome.next (State.onB_eq_putB (pauseExpiry_of_run_out h0 hn))
  case fitting =>
    intro s acc p pool hi lo hm h6 h8 hl hk
    exact congrArg Host.Outcome.next (State.onB_eq_putB (congrArg WRes.b (watermarkWriteW_of_fitting hm h6 h8 hl hk)))
  case outOfRange =>
    intro s acc p pool hi lo hm h6 h8 hr
    exact congrArg Host.Outcome.next (State.onB_eq_putB (congrArg WRes.b (watermarkWriteW_of_out_of_range hm h6 h8 hr)))

/-- Settles O18: each event of a link and each command by the case of its meaning that its guard selects. -/
theorem linkAndRateCommandsTakeEffect : Obligations.LinkAndRateCommandsTakeEffect := by
  unfold Obligations.LinkAndRateCommandsTakeEffect
  refine ⟨?stepUp, ?up, ?down, ?fail, ?clear, ?snapshot⟩
  case stepUp =>
    intro s p rx tx b1 hs hu hr hc ha hf h1 hfree
    subst h1
    exact congrArg Host.Outcome.next (State.onB_eq_putB (utilisationMeasure_of_above hs hu hr hc ha (hfree.trans hf)))
  case up =>
    intro s p rate h4 ho he hl hs hr
    exact congrArg Host.Outcome.next (State.onB_eq_putB (linkUp_of_supported h4 ho he hl hs hr))
  case down =>
    intro s p h7 hl hr hsame
    exact congrArg Host.Outcome.next (State.onB_eq_putB (linkDown_of_no_step h7 hl (by rwa [hsame])))
  case fail =>
    intro s p r hr hd
    exact congrArg Host.Outcome.next (State.onB_eq_putB (netStepFail_of_late hr hd))
  case clear =>
    intro s acc p hm
    exact congrArg Host.Outcome.next (State.onB_eq_putB (congrArg WRes.b (strangerClearW_of_allowed acc p hm)))
  case snapshot =>
    intro s acc ports clr b1 hm h1
    rw [h1]
    exact congrArg Host.Outcome.next (State.onB_eq_putB (congrArg WRes.b (snapshotW_of_allowed acc ports clr hm)))

end Sys2Proof.Machine

/-!
SUPPORT. Spokes: what each of their commands does in the cases the statements name, and the statements settled from these.
-/
namespace Sys2Proof.Machine

@[simp] theorem Block.ycpTake_spoke (k : Key) (h : Hdr) (op : Nat) (b : Block) (n : Nat) : (b.ycpTake k h op).spoke n = b.spoke n := by
  simp [Block.spoke]

section
variable {k : Key} {b : Block} {n : Nat} {x : Spoke}

/-! ### C37.118 data frames (R121, R124) -/

/-- The spokes that a data frame's source and port name (R124 check 1). -/
abbrev Block.dataSpokes (b : Block) (src : NetSrc) : List Spoke :=
  b.ing.spokes.filter fun x => x.type == 1 && x.fromSrc src && x.dataPort == src.dport

section
variable {d : C37Data}

theorem c37DataFrame_of_tcp (ht : d.tcp = true) : c37DataFrame d b = b.bump Reg.ING_CNT_TCP_DATA :=
  if_pos ht

theorem c37DataFrame_of_no_spoke (ht : d.tcp = false) (hc : b.dataSpokes d.src = []) :
    c37DataFrame d b = b.bump Reg.ING_CNT_NO_SPOKE := by
  rw [c37DataFrame, if_neg (by simp [ht]), if_pos (List.isEmpty_iff.mpr hc)]

/-- R124: a data frame that passes the checks of source, sync, version, length and CRC goes to each spoke of its IDCODE. -/
theorem c37DataFrame_of_good (ht : d.tcp = false) (hs : d.sync = 0xAA) (hf : d.ftype = 0) (hv : d.version = 1 ∨ d.version = 2)
    (hl : d.frameSize = d.len) (hc : d.crcOk = true) (hi : ((b.dataSpokes d.src).filter fun x => x.idcode == d.idcode) ≠ []) :
    c37DataFrame d b = ((b.dataSpokes d.src).filter fun x => x.idcode == d.idcode).foldl (fun b x => b.c37Block x d) b := by
  have hsrc : b.dataSpokes d.src ≠ [] := fun h => hi (by rw [h]; rfl)
  have hkind : ¬(d.sync = 0xAA ∧ [1, 2, 3, 5].contains d.ftype = true) := by simp [hf]
  have hsync : ¬(d.sync ≠ 0xAA ∨ d.ftype ≠ 0 ∨ (!(d.version == 1 || d.version == 2)) = true) := by
    simpa [hs, hf] using or_iff_not_imp_left.mp hv
  rw [c37DataFrame, if_neg (by simp [ht])]
  simp only [List.isEmpty_iff]
  rw [if_neg hsrc, if_neg hkind, if_neg hsync, if_neg (not_not_intro hl), if_neg (by simp [hc]), if_neg hi]

end

/-! ### Configuration and header frames (R120, R121, R123) -/

/-- A configuration or header frame's source and port name the spoke: by its data port or its command port. -/
abbrev Spoke.c37Peer (x : Spoke) (src : NetSrc) : Bool :=
  x.type == 1 && x.fromSrc src && (x.dataPort == src.dport || x.cmdPort == src.dport)

theorem c37ConfigFrame_of_known {src : NetSrc} {kind : Nat} (idcode : Nat) (cfg : Option CfgFrame) (hk : kind = 2 ∨ kind = 3)
    (hc : (b.ing.spokes.filter (·.c37Peer src)) ≠ []) :
    c37ConfigFrame src idcode kind cfg b =
      ((b.ing.spokes.filter (·.c37Peer src)).filter fun x => x.idcode == idcode && x.state != 5).foldl
        (fun b x => b.cfgFor x.num cfg) b := by
  rw [c37ConfigFrame, if_neg (by omega)]
  exact if_neg (by rwa [List.isEmpty_iff])

theorem c37HeaderFrame_of_known {src : NetSrc} (idcode : Nat) (text : List Byte) (hc : b.ing.spokes.any (·.c37Peer src) = true) :
    c37HeaderFrame src idcode text b =
      b.setSpokes (b.ing.spokes.map fun x => if x.c37Peer src && x.idcode == idcode then { x with header := text.take 1024 } else x) :=
  if_neg (by rw [hc]; decide)

/-! ### Configuration requests and silence (R120, R567) -/

theorem cfgRequestTimeout_of_cfg3 (hx : b.spoke n = some x) (hk : x.reqKind = 3) (hd : b.since x.reqAt (2 * tickS) = true) :
    cfgRequestTimeout n b = b.requestCfg n 2 := by
  simp [cfgRequestTimeout, hx, hk, hd]

theorem cfgRequestTimeout_of_cfg2 (hx : b.spoke n = some x) (hk : x.reqKind = 2) (hd : b.since x.reqAt (2 * tickS) = true)
    (ht : x.tries + 1 < max 1 (b.fld F.ING_CTRL_CFG_TRIES)) :
    cfgRequestTimeout n b = (b.modSpoke n fun x => { x with tries := x.tries + 1 }).requestCfg n 3 := by
  simp only [cfgRequestTimeout, hx]
  rw [if_neg (by simp [hk, hd]), if_neg (by omega), if_pos ht]

theorem cfgRetry_of_due (hx : b.spoke n = some x) (ht : x.type = 1) (hs : x.state = 1 ∨ x.state = 4) (hk : x.reqKind = 0)
    (hd : b.since x.retryAt (10 * tickS) = true) :
    cfgRetry n b = (b.modSpoke n fun x => { x with retryAt := b.now }).fetchCfg n := by
  have hwants : (x.state == 1 || x.state == 4 || ((x.state == 2 || x.state == 3) && x.changeDue)) = true := by
    rcases hs with hs | hs <;> simp [hs]
  simp only [cfgRetry, hx]
  exact if_neg (by simp [ht, hwants, hk, hd])

theorem spokeSilent_of_unheard (hx : b.spoke n = some x) (hs : x.state = 2) (hd : b.since x.heardAt (x.silentTmo * tickMs) = true) :
    spokeSilent n b =
      (b.modSpoke n fun x => { x with state := 3, silentAt := b.now, critWhy := 4 }).note 0x0405 n (lt32 x.lastArr) := by
  simp [spokeSilent, hx, hs, hd]

/-! ### SV frames (R129 to R132) -/

section
variable {f : SvFrame}

/-- The spoke of an SV frame, by APPID and svID (R130). -/
abbrev Block.svSpoke (b : Block) (f : SvFrame) : Option Spoke :=
  b.ing.spokes.find? fun x => x.type == 2 && x.idcode == f.appid && x.svidHash == crc32c f.svid

theorem svFrame_of_no_spoke (hx : b.svSpoke f = none) : svFrame f b = b.bump Reg.ING_CNT_SV_REJ := by
  simp only [svFrame, hx]

/-- The first frame after a definition gives the spoke its configuration revision. -/
abbrev Block.learnConf (b : Block) (x : Spoke) (v : SpVer) (f : SvFrame) : Block :=
  if v.conf = 0 then b.modSpoke x.num fun x => { x with cur := some { v with conf := f.confRev } } else b

/-- The sample gaps of an SV frame kept and counted (R132). -/
abbrev Block.countGap (b : Block) (n : Nat) (g : Spoke × Nat) : Block :=
  (b.modSpoke n fun x => { x with svMiss := g.1.svMiss, svGapTo := g.1.svGapTo }).cntSpoke n spSampleGap g.2

theorem svFrame_of_good {v : SpVer} {g : Spoke × Nat} (hx : b.svSpoke f = some x) (hv : x.cur = some v) (hi : f.inScope = true)
    (hp : f.src.port = 1) (hm : f.sim = false) (hs : x.state = 2) (hc : v.conf = 0 ∨ v.conf = f.confRev)
    (hg : g = x.svGap f (tickS / (b.learnConf x v f).f0)) :
    svFrame f b =
      (f.out.filter fun o => decide (g.1.svGapTo < o.1)).foldl (fun b o =>
        b.takeReport x.num true ⟨o.1, f.arrival / 8, (f.arrival : Int) - ((o.1 * 8 : Nat) : Int), 0,
          if f.synch = 2 then min 4 (f.declared.getD 1) else 4, 0, o.2, true⟩) ((b.learnConf x v f).countGap x.num g) := by
  subst hg
  simp only [svFrame, hx, hv]
  rw [if_neg (by simp [hi, hp, hm, hs]; omega)]
  simp only [hm, Bool.false_eq_true, if_false]

end

/-! ### Definition and removal (R115 to R120) -/

section
variable {words : List W32} {svid : List Byte}

/-- A new C37.118 spoke in its place by number, WAIT_CFG and recorded, its configuration asked for (R120). -/
abbrev Block.startC37 (b : Block) (n : Nat) (x : Spoke) : Block :=
  (((b.setSpokes ((b.ing.spokes.filter fun y => decide (y.num < n)) ++ [x] ++ b.ing.spokes.filter fun y => decide (n < y.num))).modSpoke n
    fun x => { x with state := 1 }).note 0x0401 n 1 0).fetchCfg n

/-- The number of C37.118 spokes has no limit of its own (R115). -/
theorem Block.kindFull_c37 (b : Block) : b.kindFull 1 = false := rfl

theorem Block.defineSpoke_of_c37 (hw : ctxOk (mergeCtx ctxDefaults words) = true)
    (ht : (Spoke.fresh n (mergeCtx ctxDefaults words) svid).type = 1) :
    b.defineSpoke n words svid = (yOk, b.startC37 n (Spoke.fresh n (mergeCtx ctxDefaults words) svid)) := by
  simp only [Block.defineSpoke, hw, ht, b.kindFull_c37, Bool.not_true, Bool.false_eq_true, if_false, if_true]

/-- R118, R139: a FREE number with a MODE other than 0, which no envelope holds, is defined. -/
theorem Block.setSpoke_of_free (session : Nat) (hn : n < 4096) (hm : bits (words.getD 14 0) 1 0 ≠ 0) (hx : b.spoke n = none) :
    b.setSpoke n session words svid = b.defineSpoke n words svid := by
  rw [Block.setSpoke, if_neg (Nat.not_le.mpr hn), if_neg (fun h => hm h.1)]
  simp only [hx]

end

/-- R119, R120: a spoke's managed PMU is stopped, what it has in later slots is taken back, and its removal begins and is recorded. -/
abbrev Block.beginRemove (b : Block) (n : Nat) (x : Spoke) : Block :=
  (((b.commandPmu x 1).takeBack x).modSpoke n fun x => { x with state := 5, removeAt := b.tai, critWhy := 4, reqKind := 0 }).note
    0x0402 n x.ver

section
variable {s : State} {h : Hdr}

theorem Ready.spokeDefine_done {words : List W32} {svid : List Byte} {b1 : Block} (r : Ready s h 0x0201 ⟨some roleEng, true⟩)
    (hl : svid.length ≤ 64) (hb : (s.taken h 0x0201).setSpoke n h.session words svid = (yOk, b1)) :
    s.onB (spokeDefine h n words svid) = s.answer h 0x0201 yOk (beBytes 1 (((b1.spoke n).map Spoke.ver).getD 0)) fun _ => b1 :=
  r.onB_answer _ _ _ rfl (by simp [Nat.not_lt.mpr hl, hb])

theorem Ready.spokeRemove_done (r : Ready s h 0x0202 ⟨some roleEng, true⟩) (hx : s.b.spoke n = some x) (hs : x.state ≠ 5) :
    s.onB (spokeRemove h n) = s.answer h 0x0202 yOk [] (·.beginRemove n x) :=
  r.onB_answer _ _ _ rfl (by simp [hx, hs, yDone])

theorem Ready.spokeStatus_done (r : Ready s h 0x0203 ⟨some roleObs, false⟩) (opt : Nat) (hn : n < 4096) :
    s.onB (spokeStatus h n opt) =
      s.answer h 0x0203 yOk (wordBytes ((s.taken h 0x0203).ctxWords n)
        ++ (if opt % 2 = 1 then wordBytes ((s.taken h 0x0203).histWords n) else [])
        ++ (if opt / 2 % 2 = 1 then (((s.taken h 0x0203).spoke n).map Spoke.header).getD [] else [])) id :=
  r.onB_answer _ _ _ rfl (if_neg (Nat.not_le.mpr hn))

end

/-! ### Windows (R146 to R149, R570) -/

section
variable {acc : Nat}

theorem spokeContextLoadW_of_allowed (n : Nat) (hm : b.mayWrite k acc roleObs false = yOk) :
    spokeContextLoadW acc n k b =
      ⟨yOk, ((b.aput acc F.ING_CTX_SEL_SPOKE (n % 4096)).awrs acc Reg.ING_CTX_W (b.ctxWords (n % 4096))).awrs acc Reg.ING_HIST_B
        (b.histWords (n % 4096))⟩ :=
  if_neg (not_not_intro hm)

theorem Block.winAct_of_allowed (err : Fld) (act : Block → WRes) (hm : b.mayWrite k acc roleEng true = yOk) :
    b.winAct k acc err act = ⟨(act b).status, (act b).b.aput acc err (errCode (act b).status)⟩ := by
  rw [Block.winAct, if_neg (not_not_intro hm)]

/-- A commit of a spoke's window tells its result in ERR, 4 where the spoke is busy. -/
theorem spokeContextCommitW_of_allowed {st : Nat} {b1 b2 : Block} (h1 : b1 = b.aput acc F.ING_CTX_SEL_SPOKE (n % 4096))
    (hm : b1.mayWrite k acc roleEng true = yOk)
    (hs : b1.setSpoke (n % 4096) ((sessionOf acc).getD 0xFF) (b1.ards acc Reg.ING_CTX_W 18) [] = (st, b2)) :
    spokeContextCommitW acc n k b =
      ⟨st, if st = yBusy then (b2.aput acc F.ING_CTX_SEL_ERR (errCode st)).aput acc F.ING_CTX_SEL_ERR 4
        else b2.aput acc F.ING_CTX_SEL_ERR (errCode st)⟩ := by
  rw [spokeContextCommitW, ← h1, Block.winAct_of_allowed _ _ hm, hs]

theorem channelDescLoadW_of_allowed {b1 : Block} {ch : Nat} (hm : b.mayWrite k acc roleObs false = yOk)
    (h1 : b1 = (b.aput acc F.ING_CH_SEL_SPOKE (n % 4096)).aput acc F.ING_CH_SEL_CH (ch % 64)) :
    channelDescLoadW acc n ch k b = ⟨yOk, b1.awrs acc Reg.ING_CH_DESC (b1.descWords (n % 4096) (ch % 64))⟩ := by
  subst h1
  exact if_neg (not_not_intro hm)

end

/-! ### The work of each second (R135, R136) -/

theorem histDecay_of_due (hd : b.since b.ing.decayAt (clampNat 1 3600 (b.fld F.ING_CTRL_HIST_DECAY) * tickS) = true) :
    histDecay b =
      b.modIng fun _ => { spokes := b.ing.spokes.map fun x => { x with hist := x.hist.map (· / 2), latMax := none }, decayAt := b.now } :=
  if_neg (by simp [hd])

end

/-- Settles O19: each frame and request by the case of its meaning that its guard selects. -/
theorem c37FramesAndRequestsTakeEffect : Obligations.C37FramesAndRequestsTakeEffect := by
  unfold Obligations.C37FramesAndRequestsTakeEffect
  refine ⟨?refused, ?data, ?config, ?header, ?cfg3, ?cfg2, ?retry, ?silent, ?svRefused, ?sv⟩
  case refused =>
    intro s d
    exact ⟨fun ht => congrArg Host.Outcome.next (State.onB_eq_putB (c37DataFrame_of_tcp ht)),
      fun ht hc => congrArg Host.Outcome.next (State.onB_eq_putB (c37DataFrame_of_no_spoke ht hc))⟩
  case data =>
    intro s d cands ht hcands hs hf hv hl hc hi
    subst hcands
    exact congrArg Host.Outcome.next (State.onB_eq_putB (c37DataFrame_of_good ht hs hf hv hl hc hi))
  case config =>
    intro s src idcode kind cfg cands hk hcands hc
    subst hcands
    exact congrArg Host.Outcome.next (State.onB_eq_putB (c37ConfigFrame_of_known idcode cfg hk hc))
  case header =>
    intro s src idcode text hc
    exact congrArg Host.Outcome.next (State.onB_eq_putB (c37HeaderFrame_of_known idcode text hc))
  case cfg3 =>
    intro s n x hx hk hd
    exact congrArg Host.Outcome.next (State.onB_eq_putB (cfgRequestTimeout_of_cfg3 hx hk hd))
  case cfg2 =>
    intro s n x hx hk hd ht
    exact congrArg Host.Outcome.next (State.onB_eq_putB (cfgRequestTimeout_of_cfg2 hx hk hd ht))
  case retry =>
    intro s n x hx ht hs hk hd
    exact congrArg Host.Outcome.next (State.onB_eq_putB (cfgRetry_of_due hx ht hs hk hd))
  case silent =>
    intro s n x hx hs hd
    exact congrArg Host.Outcome.next (State.onB_eq_putB (spokeSilent_of_unheard hx hs hd))
  case svRefused =>
    intro s f hx
    exact congrArg Host.Outcome.next (State.onB_eq_putB (svFrame_of_no_spoke hx))
  case sv =>
    intro s f x v b1 b2 g hx hv hi hp hm hs hc h1 hg h2
    subst h1 h2
    exact congrArg Host.Outcome.next (State.onB_eq_putB (svFrame_of_good hx hv hi hp hm hs hc hg))

/-- Settles O20: each command and event by the case of its meaning that its guard selects. -/
theorem spokeCommandsTakeEffect : Obligations.SpokeCommandsTakeEffect := by
  unfold Obligations.SpokeCommandsTakeEffect
  refine ⟨?define, ?remove, ?status, ?load, ?commit, ?desc, ?decay, ?second⟩
  case define =>
    intro s h n words svid b1 r hl hn hm hx hw ht h1
    have hset : (s.taken h 0x0201).setSpoke n h.session words svid = (yOk, b1) := by
      rw [h1, Block.setSpoke_of_free h.session hn hm (by simpa using hx), Block.defineSpoke_of_c37 hw ht]
    exact congrArg Host.Outcome.next (r.spokeDefine_done hl hset)
  case remove =>
    intro s h n x r hx hs
    exact congrArg Host.Outcome.next (r.spokeRemove_done hx hs)
  case status =>
    intro s h n opt r hn
    exact congrArg Host.Outcome.next (r.spokeStatus_done opt hn)
  case load =>
    intro s acc n hm
    exact congrArg Host.Outcome.next (State.onB_eq_putB (congrArg WRes.b (spokeContextLoadW_of_allowed n hm)))
  case commit =>
    intro s acc n st b1 b2 h1 hm hs
    exact congrArg Host.Outcome.next (State.onB_eq_putB (congrArg WRes.b (spokeContextCommitW_of_allowed h1 hm hs)))
  case desc =>
    intro s acc n ch b1 hm h1
    exact congrArg Host.Outcome.next (State.onB_eq_putB (congrArg WRes.b (channelDescLoadW_of_allowed hm h1)))
  case decay =>
    intro s hd
    exact congrArg Host.Outcome.next (State.onB_eq_putB (histDecay_of_due hd))
  case second =>
    intro s b1 b2 h1 h2
    subst h1 h2
    exact congrArg Host.Outcome.next (State.onB_eq_putB rfl)

end Sys2Proof.Machine

/-!
SUPPORT. Peloton alignment: what the commands of slots, the wait budget and the cadence do in the cases the statements name, and the
statements settled from these.
-/
namespace Sys2Proof.Machine

section
variable {k : Key} {b : Block} {sl : Nat} {x : Slot}

/-! ### A slot opens (R161, R163, R168, R172) -/

/-- A slot whose time has come is in the ring: rows before it that never opened and rows the ring no longer keeps are let go. -/
abbrev Block.enterSlot (b : Block) (sl : Nat) : Block :=
  (Block.dropStore (b.modAln fun a =>
    { a with slots := a.slots.filter fun x => !(x.phase == 0 && x.dl.isNone && decide (x.s < sl)) })).openSlot sl

/-- The slot's budget shown, and the fast-lane frames of slots 16 and more before it let go (R163, R174). -/
abbrev Block.showBudget (b : Block) (sl code : Nat) (q : SlotBudget) : Block :=
  (b.waitNow q).modAln fun a =>
    { a with slots := a.slots.map fun x => if x.s ≤ slotBefore (cadenceOf code) sl 16 then { x with frame := none } else x }

/-- The fields fixed at S, with the deadline 1 ms or more after the last one (R172). -/
abbrev Block.fixAtS (b : Block) (sl code : Nat) (q : SlotBudget) : Block :=
  b.modSlot sl fun x => x.start b q code (max (sl + q.w * tickUs) (b.aln.lastD + tickMs))

/-- The deadline of a slot held. -/
abbrev Block.deadline (b : Block) (sl : Nat) : Nat := ((b.slot sl).bind Slot.dl).getD 0

/-- HELD and PREDICTED values of every spoke enter the slot that has just started (R120, R142). -/
abbrev Block.enterHeld (b : Block) (sl : Nat) : Block := b.ing.spokes.foldl (fun b x => b.holdInto sl x) b

/-- The schedule joins the guard's list. -/
abbrev Block.listSched (b : Block) (sl d : Nat) : Block := b.modGrd fun u => { u with sched := ((sl, d) :: b.grd.sched).take 256 }

/-- The slot opens at its S where slots run, no step waits, and it lies on the grid after the last one. -/
theorem slotStart_of_due {b1 b3 b6 : Block} {q : SlotBudget} {d : Nat} (hr : b.slotsRun = true) (ht : b.tim.stepDue = none)
    (hs : sl ≤ b.tai) (hg : onGrid (cadenceOf (b.codeAt sl)) sl = true) (hf : b.follows sl = true) (h1 : b1 = b.enterSlot sl)
    (hq : q = b1.slotBudget (b.codeAt sl)) (h3 : b3 = (b1.showBudget sl (b.codeAt sl) q).fixAtS sl (b.codeAt sl) q)
    (hd : d = b3.deadline sl)
    (h6 : b6 = ((b3.modAln fun a => { a with lastS := some sl, lastD := d }).enterHeld sl).listSched sl d) :
    slotStart sl b = if b6.leadsSlots then b6.tdmSend [2, sl, d] else b6 := by
  subst h1 hq h3 hd h6
  exact if_neg (by simp [hr, ht, hs, hg, hf])

/-! ### A slot closes (R164 to R166, R171) -/

/-- The row read, the fields of the slot fixed at C, and the union of a tandem frozen (R164, R362). -/
abbrev Block.closeRow (b : Block) (sl miss : Nat) (reads : DramReads) (early step : Bool) : Block :=
  ((b.dramReads sl reads).modSlot sl fun x => x.close (b.dramReads sl reads) miss early step).freezeUnion sl

/-- An early close is counted. -/
abbrev Block.countEarly (b : Block) (early : Bool) : Block := if early then b.bump Reg.ALN_CNT_EARLY_CLOSE else b

/-- A close that misses a critical spoke is counted and raises the budget (R171). -/
abbrev Block.countMiss (b : Block) (miss : Nat) : Block := if miss = 0 then b else b.missBump

/-- The slot owes the frames of the output sets due at it (R181, R182). -/
abbrev Block.oweFrames (b : Block) (sl : Nat) : Block := b.modSlot sl fun x => { x with due := b.framesDue sl x.code }

/-- The run of INCOMPLETE slots goes on or ends. -/
abbrev Block.runIncomplete (b : Block) (inc : Bool) : Block :=
  b.modTdm fun u => { u with lastInc := inc, incRun := if inc then b.tdm.incRun + 1 else 0 }

theorem slotClose_of_closable {run miss : Nat} {reads : DramReads} {b4 : Block} {early step inc prevOvr : Bool} (hx : b.slot sl = some x)
    (hr : b.slotsRun = true) (hc : b.closable x = true) (hs : step = b.tim.stepDue.isSome)
    (he : early = (x.early || (!step && decide (b.tai < x.dl.getD 0)))) (hm : miss = b.members.countP fun n => !x.bitmap.contains n)
    (ho : prevOvr = ((b.closedBefore sl).map fun p => p.ovr != 0).getD false)
    (h4 : b4 = (((((b.closeRow sl miss reads early step).countEarly early).countMiss miss).closeEffects sl step).fastFill sl).oweFrames sl)
    (hi : inc = ((b4.slot sl).map Slot.incomplete).getD false) :
    slotClose sl run reads b = ((b4.runIncomplete inc).postAln sl (!b.members.isEmpty) prevOvr).finishStage sl 0 run := by
  subst hs he hm ho h4 hi
  simp only [slotClose, hx]
  exact if_neg (by simp [hr, hc])

/-! ### After the close (R165, R179) -/

theorem dramRowFill_of_closed (reads : DramReads) (hx : b.slot sl = some x) (hp : x.phase ≠ 0) :
    dramRowFill sl reads b = (b.dramReads sl reads).fillRow sl := by
  simp only [dramRowFill, hx]
  exact if_neg hp

/-- The settle notice of a row that had amendments, with the next number of the unit (R177). -/
abbrev Block.noticeSettle (b : Block) (sl amends : Nat) : Block :=
  if amends = 0 then b
  else (b.modAln fun a => { a with aseq := (a.aseq + 1) % 2 ^ 32 }).event 0 noticeAdmits (settleNotice b.aln.aseq sl amends)

/-- A filled row past its late horizon, or closed for a step, settles. -/
theorem rowSettle_of_due (hx : b.slot sl = some x) (hp : x.phase = 1) (hf : x.fillDone = true)
    (hd : (x.stepClose || decide (x.dl.getD 0 + x.hzn ≤ b.tai)) = true) :
    rowSettle sl b = Block.dropOld ((b.modSlot sl fun x => { x with phase := 2 }).noticeSettle sl x.amends) := by
  simp only [rowSettle, hx]
  exact if_neg (by rw [hd]; simp [hp, hf])

/-- A row that settles owes its final amendment frames while it is still held (R185). -/
theorem rowSettles_of_closed (hx : b.slot sl = some x) (hp : x.phase = 1) :
    rowSettles sl b =
      if ((rowSettle sl b).slot sl).map Slot.phase = some 2 then (rowSettle sl b).finalAmends sl else rowSettle sl b := by
  simp [rowSettles, hx, hp]

/-! ### The wait budget (R170, R173) -/

/-- R170: the budget rises at once to its target, and falls by its distance from it shifted by DECAY_SH. -/
abbrev Block.budgetTowards (b : Block) (w target : Nat) : Nat :=
  if w ≤ target then target else w - (w - target) >>> clampNat 1 8 (b.fld F.ALN_WAIT_CTRL_DECAY_SH)

theorem waitBudgetUpdate_of_members {target w : Nat} (hm : b.ing.spokes.any (·.member) = true)
    (ht : target = b.largestP99 * (100 + b.fld F.ALN_WAIT_CTRL_MARGIN_PCT) / 100 + 100 * b.fld F.ALN_WAIT_CTRL_MARGIN_ABS)
    (hw : w = if b.aln.wSet then b.aln.w else b.waitMax) :
    waitBudgetUpdate b = b.modAln fun a => { a with w := clampNat b.waitMin b.waitMax (b.budgetTowards w target), wSet := true } := by
  subst ht hw
  simp only [waitBudgetUpdate, hm, if_true]

/-- Without a critical set the first update takes the maximum. -/
theorem waitBudgetUpdate_of_no_member (hm : b.ing.spokes.any (·.member) = false) (hw : b.aln.wSet = false) :
    waitBudgetUpdate b = b.modAln fun a => { a with w := clampNat b.waitMin b.waitMax b.waitMax, wSet := true } := by
  simp only [waitBudgetUpdate, hm, hw, Bool.false_eq_true, if_false, le_refl, if_true]

/-- The value a limit takes (R173). -/
abbrev waitLimitOf (value : W32) : Nat := clampNat 500 250000 (bits value 17 0)

section
variable {acc : Nat} {value : W32}

theorem waitLimitW_of_minimum (hm : b.mayWrite k acc roleEng true = yOk) (hv : waitLimitOf value ≤ b.waitMax) :
    waitLimitW acc 0 value k b = ⟨yOk, (b.put F.ALN_WAIT_MIN_MIN (waitLimitOf value)).put F.ALN_WAIT_MAX_MAX b.waitMax⟩ := by
  rw [waitLimitW, if_neg (not_not_intro hm)]
  exact if_neg (Nat.not_lt.mpr hv)

theorem waitLimitW_of_maximum (hm : b.mayWrite k acc roleEng true = yOk) (hv : b.waitMin ≤ waitLimitOf value) :
    waitLimitW acc 1 value k b = ⟨yOk, (b.put F.ALN_WAIT_MIN_MIN b.waitMin).put F.ALN_WAIT_MAX_MAX (waitLimitOf value)⟩ := by
  rw [waitLimitW, if_neg (not_not_intro hm)]
  exact if_neg (Nat.not_lt.mpr hv)

theorem waitLimitW_of_crossed (hm : b.mayWrite k acc roleEng true = yOk) (hv : b.waitMax < waitLimitOf value) :
    waitLimitW acc 0 value k b = ⟨yBadParam, b.put F.ALN_STAT_CFG_ERR 1⟩ := by
  rw [waitLimitW, if_neg (not_not_intro hm)]
  exact if_pos hv

end

/-! ### The cadence (R153, R155, R301) -/

@[simp] theorem Block.ycpTake_tai (k : Key) (h : Hdr) (op : Nat) (b : Block) : (b.ycpTake k h op).tai = b.tai := by
  simp [Block.tai]

/-- The first top of a TAI second at least 2 s ahead. -/
abbrev Block.cadenceTop (b : Block) : Nat := (b.tai + 2 * tickS + tickS - 1) / tickS

/-- A cadence written, and pending from second `t`. -/
abbrev Block.pendCadence (b : Block) (code t : Nat) : Block :=
  ((b.put F.ALN_CADENCE_CODE code).modAln fun a => { a with cadPend := a.cadPend ++ [(code, t)] }).put F.ALN_CADENCE_PEND 1

theorem Block.requestCadence_of_fitting {code : Nat} (ht : b.topState = stRun ∨ b.topState = stMaint) (hc : code < 14)
    (hf : b.cadenceFits (cadenceOf code) = true) : b.requestCadence code = (yOk, b.cadenceTop, b.pendCadence code b.cadenceTop) := by
  rw [Block.requestCadence, if_neg (by omega), if_neg (by omega), if_neg (by simp [hf])]
  rfl

theorem Ready.cadenceSet_done {s : State} {h : Hdr} {code : Nat} (r : Ready s h 0x0301 ⟨some roleEng, true⟩)
    (ht : s.b.topState = stRun ∨ s.b.topState = stMaint) (hc : code < 14) (hf : (s.taken h 0x0301).cadenceFits (cadenceOf code) = true) :
    s.onB (cadenceSet h code) = s.answer h 0x0301 yOk (beBytes 6 s.b.cadenceTop) (·.pendCadence code s.b.cadenceTop) := by
  have htop : (s.taken h 0x0301).cadenceTop = s.b.cadenceTop := by rw [Block.cadenceTop, Block.ycpTake_tai]
  have hreq := Block.requestCadence_of_fitting (by simpa using ht) hc hf
  rw [htop] at hreq
  exact r.onB_answer _ _ _ rfl (by simp only [hreq, if_true])

theorem cadenceCodeW_of_fitting {acc code : Nat} (hm : b.mayWrite k acc roleEng true = yOk)
    (ht : b.topState = stRun ∨ b.topState = stMaint) (hc : code < 14) (hf : b.cadenceFits (cadenceOf code) = true) :
    cadenceCodeW acc code k b = ⟨yOk, b.pendCadence code b.cadenceTop⟩ := by
  have hmod : code % 16 = code := Nat.mod_eq_of_lt (by omega)
  rw [cadenceCodeW, if_neg (not_not_intro hm), hmod, Block.requestCadence_of_fitting ht hc hf]
  rfl

/-- The first pending cadence becomes active (R153). -/
abbrev Block.activateCadence (b : Block) (code : Nat) (rest : List (Nat × Nat)) : Block :=
  ((b.modAln fun a => { a with cadPend := rest }).put F.ALN_CADENCE_ACTIVE code).putFlag F.ALN_CADENCE_PEND (!rest.isEmpty)

/-- The local, partner and sampled-value spokes report at the cadence (R129, R218). -/
abbrev Block.reportAt (b : Block) (code : Nat) : Block :=
  b.setSpokes (b.ing.spokes.map fun x =>
    if x.type = 2 ∨ x.type = 4 ∨ x.type = 5 then { x with cur := x.cur.map fun v => { v with fs8 := 8 * cadenceOf code } } else x)

theorem cadenceApply_of_due {code t : Nat} {rest : List (Nat × Nat)} (hp : b.aln.cadPend = (code, t) :: rest) (ht : t * tickS ≤ b.tai) :
    cadenceApply b =
      (((b.activateCadence code rest).reportAt code).islRestart.note 0x0506 (b.fld F.ALN_CADENCE_ACTIVE) code (t % 2 ^ 32)).suspendOuts := by
  simp only [cadenceApply, hp]
  exact if_neg (Nat.not_lt.mpr ht)

end

/-- Settles O12: each event of a slot by the case of its meaning that its guard selects. -/
theorem slotsOpenCloseFillAndSettle : Obligations.SlotsOpenCloseFillAndSettle := by
  unfold Obligations.SlotsOpenCloseFillAndSettle
  refine ⟨?start, ?close, ?fill, ?settle⟩
  case start =>
    intro s sl code b1 b2 b3 b4 b5 b6 q d hr ht hs hcode hg hf h1 hq h2 h3 hd h4 h5 h6
    subst hcode h2 h4 h5
    exact congrArg Host.Outcome.next (State.onB_eq_putB (slotStart_of_due hr ht hs hg hf h1 hq h3 hd h6))
  case close =>
    intro s sl run reads x b1 b2 b3 b4 early step inc prevOvr miss hx hr hc hs he hm ho h1 h2 h3 h4 hi
    subst h1 h2 h3
    exact congrArg Host.Outcome.next (State.onB_eq_putB (slotClose_of_closable hx hr hc hs he hm ho h4 hi))
  case fill =>
    intro s sl reads x hx hp
    exact congrArg Host.Outcome.next (State.onB_eq_putB (dramRowFill_of_closed reads hx hp))
  case settle =>
    intro s sl x b1 b2 hx hp hf hd h1 h2
    have hsettle : rowSettle sl s.b = b2 := by
      subst h1 h2
      exact rowSettle_of_due hx hp hf hd
    rw [← hsettle]
    exact congrArg Host.Outcome.next (State.onB_eq_putB (rowSettles_of_closed hx hp))

/-- Settles O13: each command of the wait budget and the cadence by the case of its meaning that its guard selects. -/
theorem waitBudgetAndCadenceCommandsTakeEffect : Obligations.WaitBudgetAndCadenceCommandsTakeEffect := by
  unfold Obligations.WaitBudgetAndCadenceCommandsTakeEffect
  refine ⟨?update, ?first, ?minimum, ?maximum, ?crossed, ?set, ?write, ?apply⟩
  case update =>
    intro s target w w' hm ht hw hw'
    subst hw'
    exact congrArg Host.Outcome.next (State.onB_eq_putB (waitBudgetUpdate_of_members hm ht hw))
  case first =>
    intro s hm hw
    exact congrArg Host.Outcome.next (State.onB_eq_putB (waitBudgetUpdate_of_no_member hm hw))
  case minimum =>
    intro s acc value hm hv
    exact congrArg Host.Outcome.next (State.onB_eq_putB (congrArg WRes.b (waitLimitW_of_minimum hm hv)))
  case maximum =>
    intro s acc value hm hv
    exact congrArg Host.Outcome.next (State.onB_eq_putB (congrArg WRes.b (waitLimitW_of_maximum hm hv)))
  case crossed =>
    intro s acc value hm hv
    exact congrArg Host.Outcome.next (State.onB_eq_putB (congrArg WRes.b (waitLimitW_of_crossed hm hv)))
  case set =>
    intro s h code r ht hc hf
    exact congrArg Host.Outcome.next (r.cadenceSet_done ht hc hf)
  case write =>
    intro s acc code hm ht hc hf
    exact congrArg Host.Outcome.next (State.onB_eq_putB (congrArg WRes.b (cadenceCodeW_of_fitting hm ht hc hf)))
  case apply =>
    intro s code t rest b1 b2 hp ht h1 h2
    subst h1 h2
    exact congrArg Host.Outcome.next (State.onB_eq_putB (cadenceApply_of_due hp ht))

end Sys2Proof.Machine

/-!
SUPPORT. What is built from rows: what the commands of output sets, capture bays and host row reads do in the cases the statements
name, and the statements settled from these.
-/
namespace Sys2Proof.Machine

/-! ### What taking a packet leaves as it is -/

@[simp] theorem Block.ycpTake_f0 (k : Key) (h : Hdr) (op : Nat) (b : Block) : (b.ycpTake k h op).f0 = b.f0 := by
  have hflag : (b.ycpTake k h op).fld F.TOP_NOMF_ACTIVE = b.fld F.TOP_NOMF_ACTIVE := Block.ycpTake_fld k h op b _ _ _ (by decide)
  simp [Block.f0, Block.flag, hflag]

@[simp] theorem Block.ycpTake_cadence (k : Key) (h : Hdr) (op : Nat) (b : Block) : (b.ycpTake k h op).cadence = b.cadence :=
  congrArg cadenceOf (Block.ycpTake_fld k h op b _ _ _ (by decide))

@[simp] theorem Block.ycpTake_out (k : Key) (h : Hdr) (op : Nat) (b : Block) (i : Nat) : (b.ycpTake k h op).out i = b.out i := by
  simp [Block.out]

@[simp] theorem Block.ycpTake_bay (k : Key) (h : Hdr) (op : Nat) (b : Block) (i : Nat) : (b.ycpTake k h op).bay i = b.bay i := by
  simp [Block.bay]

@[simp] theorem Block.ycpTake_bayFor (k : Key) (h : Hdr) (op : Nat) (b : Block) (bay : Nat) :
    (b.ycpTake k h op).bayFor bay = b.bayFor bay := by
  simp [Block.bayFor]

theorem Block.out_modOut {b : Block} {i : Nat} (h : i < b.aln.outs.length) (f : OutSet → OutSet) : (b.modOut i f).out i = f (b.out i) :=
  (getD_modAt b.aln.outs i i f .free h).trans (if_pos rfl)

section
variable {k : Key} {b : Block} {x y : Slot} {sl set : Nat}

/-! ### Frames of output sets (R181, R182, R185) -/

/-- The row filled for a frame of the set, which the slot then owes no more. -/
abbrev Block.frameRow (b : Block) (set sl : Nat) : Block := (b.fillRow sl).modSlot sl fun x => { x with due := x.due.filter (· != set) }

theorem outsetDataFrame_of_owed (hx : b.slot sl = some x) (hd : x.due.contains set = true) (hs : 5 ≤ x.stage)
    (hy : (b.frameRow set sl).slot sl = some y) (ho : ((b.frameRow set sl).out set).state = 2) :
    outsetDataFrame set sl b =
      (b.frameRow set sl).sendFrame ((b.frameRow set sl).out set) y ((b.frameRow set sl).out set).dataPort := by
  simp only [outsetDataFrame, hx]
  rw [if_neg (by simp [Nat.not_lt.mpr hs, List.contains_iff_mem.mp hd])]
  simp only [hy]
  exact if_pos ho

/-- The row filled for an amendment frame of the set, which is owed no more; its instant is kept until the row settles. -/
abbrev Block.amendRow (b : Block) (set sl : Nat) (x : Slot) : Block :=
  (b.fillRow sl).modOut set fun o =>
    { o with amendDue := o.amendDue.filter (· != sl), amendAt := if x.phase = 2 then tabDel o.amendAt sl else tabSet o.amendAt sl b.now }

theorem outsetAmendFrame_of_due (hx : b.slot sl = some x) (hd : (b.out set).amendDue.contains sl = true)
    (hp : (b.out set).amendPort ≠ 0) (hs : (b.out set).state = 2) (hsh : b.isShed set = false) (hf : b.amendFree set sl x = true)
    (hy : (b.amendRow set sl x).slot sl = some y) :
    outsetAmendFrame set sl b = (b.amendRow set sl x).sendFrame (b.out set) y (b.out set).amendPort := by
  simp only [outsetAmendFrame, hx]
  rw [if_neg (by simp [hp, hs, hsh, hf, List.contains_iff_mem.mp hd])]
  simp only [hy]

/-! ### Definitions of output sets (R180, R184) -/

/-- A complete definition into a FREE set is in force at once: STATE 2 where it starts by itself, else 1. -/
theorem Block.defineOut_of_free {i : Nat} {words : List W32} {entries : List OutEntry} {o : OutSet} (hfree : (b.out i).state = 0)
    (ho : o = OutSet.ofWords words entries (rateExt b.f0 (b.cadence / max 1 (bits (words.getD 2 0) 23 16))))
    (hl : outListOk o = true) (hr : outRateOk b.cadence (bits (words.getD 2 0) 23 16) = true) (hp : o.port ≤ 3) :
    b.defineOut i words entries = (yOk, b.modOut i fun _ => { o with state := if o.autostart then 2 else 1 }) := by
  subst ho
  rw [Block.defineOut, if_neg (by simp only [hl, hr, decide_eq_false (Nat.not_lt.mpr hp)]; decide), if_pos hfree]

/-- The parts a session has sent of a definition are let go. -/
abbrev Block.dropStage (b : Block) (session : Nat) : Block := b.modSess session fun x => { x with outStage := none }

section
variable {s : State} {h : Hdr} {words : List W32} {entries : List OutEntry}

theorem Ready.outsetDefine_done {o : OutSet} (r : Ready s h 0x0302 ⟨some roleEng, true⟩) (h16 : set < 16)
    (hfree : (s.b.out set).state = 0)
    (ho : o = OutSet.ofWords words entries (rateExt s.b.f0 (s.b.cadence / max 1 (bits (words.getD 2 0) 23 16))))
    (hl : outListOk o = true) (hr : outRateOk s.b.cadence (bits (words.getD 2 0) 23 16) = true) (hp : o.port ≤ 3)
    (hn : s.b.aln.outs.length = 16) :
    s.onB (outsetDefine h set 0 true words entries) =
      s.answer h 0x0302 yOk (beBytes 1 (if o.autostart then 2 else 1)) fun b =>
        (b.dropStage h.session).modOut set fun _ => { o with state := if o.autostart then 2 else 1 } := by
  have hout : ((s.taken h 0x0302).dropStage h.session).out set = s.b.out set := Block.ycpTake_out ..
  have hf0 : ((s.taken h 0x0302).dropStage h.session).f0 = s.b.f0 := Block.ycpTake_f0 ..
  have hcad : ((s.taken h 0x0302).dropStage h.session).cadence = s.b.cadence := Block.ycpTake_cadence ..
  rw [← hout] at hfree
  rw [← hf0, ← hcad] at ho
  rw [← hcad] at hr
  have hdef := Block.defineOut_of_free hfree ho hl hr hp
  refine r.onB_answer _ _ _ rfl ?_
  simp only [Nat.not_le.mpr h16, if_false, if_true, Bool.not_true, Bool.false_eq_true, hdef]
  rw [Block.out_modOut (by simp [hn, h16])]

theorem Ready.outsetDefine_staged (r : Ready s h 0x0302 ⟨some roleEng, true⟩) (h16 : set < 16) :
    s.onB (outsetDefine h set 0 false words entries) =
      s.answer h 0x0302 yOk [] (·.modSess h.session fun x => { x with outStage := some ⟨set, 1, words, entries⟩ }) :=
  r.onB_answer _ _ _ rfl (if_neg (Nat.not_le.mpr h16))

end

/-- A redefinition whose second has come, in force: started where it starts by itself or the set ran; the change shows for 60 s. -/
abbrev Block.redefineOut (b : Block) (i : Nat) (o : OutSet) : Block :=
  (b.modAln fun a => { a with outPend := a.outPend.set i none }).modOut i fun old =>
    { o with state := if o.autostart || old.state == 2 then 2 else 1, cfgcnt := (old.cfgcnt + 1) % 65536, cfg2Ref := old.cfg2Ref,
             changedUntil := b.now + 60 * tickS }

theorem outsetRedefineApply_of_due {i t : Nat} {o : OutSet} (hp : b.aln.outPend.getD i none = some (t, o)) (ht : t ≤ b.tai)
    (hr : outRateOk b.cadence o.div = true) : outsetRedefineApply i b = b.redefineOut i o := by
  have hrate : outRateOk (b.modAln fun a => { a with outPend := a.outPend.set i none }).cadence o.div = true := hr
  simp only [outsetRedefineApply, hp]
  rw [if_neg (Nat.not_lt.mpr ht)]
  simp only [hrate, if_true, Bool.not_true, Bool.false_eq_true, if_false]
  rfl

/-! ### Commands of C37.118 to an output set (R183, R184) -/

section
variable {src : NetSrc} {idcode i : Nat} {o : OutSet}

/-- The set a command frame names by command port, IDCODE and network. -/
abbrev Block.commandedOut (b : Block) (src : NetSrc) (idcode : Nat) : Option (OutSet × Nat) :=
  b.aln.outs.zipIdx.find? fun e => e.1.state != 0 && e.1.cmdPort == src.dport && e.1.idcode == idcode && e.1.port == src.port

theorem outsetCommandFrame_stop (hf : b.commandedOut src idcode = some (o, i)) :
    outsetCommandFrame src idcode 1 b = b.modOut i fun o => if o.state = 2 then { o with state := 1 } else o := by
  simp only [outsetCommandFrame, hf, if_true]

theorem outsetCommandFrame_start (hf : b.commandedOut src idcode = some (o, i)) :
    outsetCommandFrame src idcode 2 b = b.modOut i fun o => if outRateOk b.cadence o.div then { o with state := 2 } else o := by
  simp only [outsetCommandFrame, hf, OfNat.ofNat_ne_one, if_false, if_true]

theorem outsetCommandFrame_cfg3 (hf : b.commandedOut src idcode = some (o, i)) :
    outsetCommandFrame src idcode 6 b = b.sendCfg o 3 (b.cfg2Size o) := by
  simp only [outsetCommandFrame, hf]
  rfl

end

/-! ### Windows of output sets and bays (R194, R195, R570) -/

theorem outsetWindowLoadW_of_allowed {acc : Nat} (set : Nat) (hm : b.mayWrite k acc roleObs false = yOk) :
    outsetWindowLoadW acc set k b = ⟨yOk, (b.aput acc F.ALN_OUT_SEL_SET set).awrs acc Reg.ALN_OUT_W (b.outWords (set % 16))⟩ :=
  if_neg (not_not_intro hm)

theorem captureWindowLoadW_of_allowed {acc : Nat} (bay : Nat) (hm : b.mayWrite k acc roleObs false = yOk) :
    captureWindowLoadW acc bay k b = ⟨yOk, (b.aput acc F.ALN_CAP_SEL_BAY bay).awrs acc Reg.ALN_CAP_W (b.bayWords (bay % 8))⟩ :=
  if_neg (not_not_intro hm)

/-! ### Capture bays (R187 to R190) -/

theorem captureReleaseW_of_allowed {acc : Nat} (bay : Nat) (hm : b.mayWrite k acc roleEng true = yOk) :
    captureReleaseW acc bay k b = ⟨yOk, b.releaseBay (bay % 8)⟩ :=
  if_neg (not_not_intro hm)

theorem captureTrigger_of_armed {i : Nat} (hx : b.slot sl = some x) (ht : b.triggers (b.bay i) x = true) (hs : (b.bay i).state = 1) :
    captureTrigger i sl b = (b.modBay i fun y => { y with state := 2, trigS := sl }).note 0x0508 i (lt32 sl) (b.bay i).trigger := by
  simp [captureTrigger, hx, ht, hs]

theorem captureTrigger_of_triggered {i : Nat} (hx : b.slot sl = some x) (ht : b.triggers (b.bay i) x = true) (hs : (b.bay i).state = 2)
    (hn : (b.bay i).trigS ≠ sl) : captureTrigger i sl b = b.bump Reg.ALN_CNT_CAP_RETRIG := by
  simp [captureTrigger, hx, ht, hs, hn]

/-- The row a copy takes next into bay `i`: the first one held from the bay's newest to the end of its window. -/
abbrev Block.nextRow (b : Block) (i : Nat) : Option Slot :=
  b.aln.slots.find? fun x => decide ((b.bay i).from_ ≤ x.s ∧ x.s ≤ (b.bay i).window.2)

/-- A settled row of the window that fits goes into the bay, which is signed where no further row comes. -/
theorem captureRowCopy_of_settled {i : Nat} {reads : DramReads} {z : Slot} {b1 b2 b3 : Block} {row : List Byte}
    (hs : (b.bay i).state = 2) (h1 : b1 = b.missRows i (b.lostRows (b.bay i))) (hx : b1.nextRow i = some x) (hp : x.phase = 2)
    (h2 : b2 = b1.dramReads x.s reads) (hz : z = (b2.slot x.s).getD x) (hrow : row = b2.rowBytes z (granules z.active))
    (hfit : (b1.bay i).used + (row.length - 64) ≤ (b1.bay i).sizeMib * 2 ^ 20)
    (h3 : b3 = b2.modBay i fun y => { y with rows := tabSet y.rows z.s (some row) }) :
    captureRowCopy i reads k b = if b3.bayDone (b3.bay i) then b3.freezeBay k i else b3 := by
  subst h1 h2 hz hrow h3
  rw [captureRowCopy, if_neg (not_not_intro hs)]
  simp only [hx]
  rw [if_neg (not_not_intro hp), if_neg (Nat.not_lt.mpr hfit)]

section
variable {s : State} {h : Hdr} {bay : Nat}

/-- R187: a bay armed by a guard trigger reserves its size of the pool. -/
theorem Ready.captureArm_done {pre post i : Nat} (r : Ready s h 0x0303 ⟨some roleEng, true⟩) (hb : bay < 8 ∨ bay = 0xFF)
    (hpre : pre ≤ 600000) (hpost : post ≤ 600000) (mask : Nat) (hi : s.b.bayFor bay = some i)
    (hfit : (s.taken h 0x0303).bayMib pre post ≤ (s.taken h 0x0303).poolFree) :
    s.onB (captureArm h bay pre post 1 mask 0 0 false) =
      s.answer h 0x0303 yOk (beBytes 1 i ++ beBytes 2 ((s.taken h 0x0303).bayMib pre post)) fun b =>
        b.modBay i fun _ =>
          { Bay.free with state := 1, trigger := 1, mask := mask % 256, pre := pre, post := post, timeAt := 0, sizeMib := b.bayMib pre post } := by
  have hi' : (s.taken h 0x0303).bayFor bay = some i := by simpa using hi
  refine r.onB_answer _ _ _ rfl ?_
  dsimp only
  rw [if_neg (by simp only [Bool.false_eq_true, or_false]; omega), if_neg Bool.false_ne_true, if_neg (by omega)]
  simp only [hi']
  exact if_neg (Nat.not_lt.mpr hfit)

theorem Ready.captureArm_release (r : Ready s h 0x0303 ⟨some roleEng, true⟩) (hb : bay < 8) (pre post trigger mask sec ns : Nat) :
    s.onB (captureArm h bay pre post trigger mask sec ns true) =
      s.answer h 0x0303 yOk (beBytes 1 bay ++ beBytes 2 0) (·.releaseBay bay) :=
  r.onB_answer _ _ _ rfl (if_neg (by omega))

/-! ### CAPTURE_READ and ROW_READ (R443) -/

/-- The rows asked for of a bay. -/
abbrev Block.bayRows (b : Block) (bay first rows : Nat) : List Byte := (slice (b.bay bay).rows first rows).flatMap bayRow

theorem captureReadBody_of_bay {first rows : Nat} (hb : bay < 8) (hl : (b.bayRows bay first rows).length ≤ 2 ^ 24) :
    captureReadBody bay first rows b = ⟨yOk, b.bayRows bay first rows, b⟩ := by
  rw [captureReadBody, if_neg (Nat.not_le.mpr hb)]
  exact if_neg (Nat.not_lt.mpr hl)

theorem Ready.captureRead_done {first rows : Nat} (r : Ready s h 0x0304 ⟨some roleObs, false⟩) (hb : bay < 8)
    (hl : (s.b.bayRows bay first rows).length ≤ 2 ^ 24) :
    captureRead h bay first rows s.key s.b = (s.answer h 0x0304 yOk (s.b.bayRows bay first rows) id).b.markRead h bay := by
  have hrows : (s.taken h 0x0304).bayRows bay first rows = s.b.bayRows bay first rows := by rw [Block.bayRows, Block.ycpTake_bay]
  have hbody := captureReadBody_of_bay hb (hrows ▸ hl)
  rw [captureRead, r.precheck, if_pos rfl, r.answer _ yOk _ id hbody, hrows]

theorem Ready.rowRead_done {slot first grans : Nat} {reads : DramReads} {b1 : Block} (r : Ready s h 0x0305 ⟨some roleObs, false⟩)
    (hx : (s.b.aln.slots.find? fun x => x.s % 2 ^ 48 == slot) = some x) (h1 : b1 = ((s.taken h 0x0305).dramReads x.s reads).fillRow x.s)
    (hy : y = (b1.slot x.s).getD x) (hg : first + grans ≤ (granules (b1.rowRuns y)).length) :
    s.onB (rowRead h slot first grans reads) =
      s.answer h 0x0305 yOk (b1.rowBytes y (slice (granules (b1.rowRuns y)) first grans)) fun b => (b.dramReads x.s reads).fillRow x.s := by
  subst h1 hy
  refine r.onB_answer _ _ _ rfl ?_
  simp only [Block.ycpTake_aln, hx]
  exact if_neg (Nat.not_lt.mpr hg)

end

end

/-- Settles O14: each frame and command of an output set by the case of its meaning that its guard selects. -/
theorem outputSetCommandsTakeEffect : Obligations.OutputSetCommandsTakeEffect := by
  unfold Obligations.OutputSetCommandsTakeEffect
  refine ⟨?data, ?amend, ?define, ?part, ?command, ?redefine, ?load⟩
  case data =>
    intro s set sl x y b1 hx hd hs h1 hy ho
    subst h1
    exact congrArg Host.Outcome.next (State.onB_eq_putB (outsetDataFrame_of_owed hx hd hs hy ho))
  case amend =>
    intro s set sl x y b1 hx hd hp hs hsh hf h1 hy
    subst h1
    exact congrArg Host.Outcome.next (State.onB_eq_putB (outsetAmendFrame_of_due hx hd hp hs hsh hf hy))
  case define =>
    intro s h set words entries o r h16 hfree ho hl hr hp hn
    exact congrArg Host.Outcome.next (r.outsetDefine_done h16 hfree ho hl hr hp hn)
  case part =>
    intro s h set words entries r h16
    exact congrArg Host.Outcome.next (r.outsetDefine_staged h16)
  case command =>
    intro s src idcode i o hf
    exact ⟨congrArg Host.Outcome.next (State.onB_eq_putB (outsetCommandFrame_stop hf)),
      congrArg Host.Outcome.next (State.onB_eq_putB (outsetCommandFrame_start hf)),
      congrArg Host.Outcome.next (State.onB_eq_putB (outsetCommandFrame_cfg3 hf))⟩
  case redefine =>
    intro s i t o hp ht hr
    exact congrArg Host.Outcome.next (State.onB_eq_putB (outsetRedefineApply_of_due hp ht hr))
  case load =>
    intro s acc set hm
    exact congrArg Host.Outcome.next (State.onB_eq_putB (congrArg WRes.b (outsetWindowLoadW_of_allowed set hm)))

/-- Settles O15: each command of a capture bay and the read of a row by the case of its meaning that its guard selects. -/
theorem captureAndRowReadCommandsTakeEffect : Obligations.CaptureAndRowReadCommandsTakeEffect := by
  unfold Obligations.CaptureAndRowReadCommandsTakeEffect
  refine ⟨?arm, ?disarm, ?trigger, ?retrigger, ?copy, ?release, ?load, ?read, ?row⟩
  case arm =>
    intro s h bay pre post mask i r hb hpre hpost hi hfit
    exact congrArg Host.Outcome.next (r.captureArm_done hb hpre hpost mask hi hfit)
  case disarm =>
    intro s h bay pre post trigger mask sec ns r hb
    exact congrArg Host.Outcome.next (r.captureArm_release hb pre post trigger mask sec ns)
  case trigger =>
    intro s i sl x hx ht hs
    exact congrArg Host.Outcome.next (State.onB_eq_putB (captureTrigger_of_armed hx ht hs))
  case retrigger =>
    intro s i sl x hx ht hs hn
    exact congrArg Host.Outcome.next (State.onB_eq_putB (captureTrigger_of_triggered hx ht hs hn))
  case copy =>
    intro s i reads x z b1 b2 b3 row hs h1 hx hp h2 hz hrow hfit h3
    exact congrArg Host.Outcome.next (State.onB_eq_putB (captureRowCopy_of_settled hs h1 hx hp h2 hz hrow hfit h3))
  case release =>
    intro s acc bay hm
    have hfree : (captureReleaseW acc bay s.key s.b).b = s.b.releaseBay (bay % 8) := by rw [captureReleaseW_of_allowed bay hm]
    exact congrArg Host.Outcome.next (State.onB_eq_putB hfree)
  case load =>
    intro s acc bay hm
    exact congrArg Host.Outcome.next (State.onB_eq_putB (congrArg WRes.b (captureWindowLoadW_of_allowed bay hm)))
  case read =>
    intro s h bay first rows r hb hl
    exact congrArg Host.Outcome.next (State.onB_eq_putB (r.captureRead_done hb hl))
  case row =>
    intro s h slot first grans reads x y b1 r hx h1 hy hg
    exact congrArg Host.Outcome.next (r.rowRead_done hx h1 hy hg)

end Sys2Proof.Machine

/-!
SUPPORT. The local front end: what its commands do in the cases the statements name, and the statements settled from these.
-/
namespace Sys2Proof.Machine

section
variable {b : Block} {k : Key} {ch : Nat}

/-! ### Ranges and settling (R200, R201, R207) -/

theorem overloadDetect_of_lowered {fits : Nat} (hon : b.afeOn = true) (h8 : ch < 8) (ha : b.autoRange ch = true)
    (hf : fits < b.range ch) : overloadDetect ch fits false b = (b.lowerTo ch fits (b.range ch)).rangeSettle ch := by
  have hrun : (!b.afeOn || decide (8 ≤ ch)) = false := by simp [hon, h8]
  simp only [overloadDetect, hrun, ha, hf, Bool.false_eq_true, false_and, and_self, if_true, if_false]

theorem overloadDetect_of_manual_clip (fits : Nat) (hon : b.afeOn = true) (h8 : ch < 8) (ha : b.autoRange ch = false) :
    overloadDetect ch fits true b = (b.modFlt fun x => { x with clipSeen := true }).bump Reg.AFE_CNT_CLIP := by
  have hrun : (!b.afeOn || decide (8 ≤ ch)) = false := by simp [hon, h8]
  simp only [overloadDetect, hrun, ha, Bool.false_eq_true, false_and, Bool.not_false, or_true, and_self, if_true, if_false]

theorem rangeUp_of_quiet {cycles : Nat} (hon : b.afeOn = true) (h8 : ch < 8) (ha : b.autoRange ch = true) (hr : b.range ch < 2)
    (hc : max 10 (b.fld (F.AFE_CH_CFG_DOWN_CYC.at (4 * ch))) ≤ cycles) :
    rangeUp ch cycles b = (b.setRange ch (b.range ch + 1)).rangeSettle ch := by
  have hlow : decide (cycles < max 10 (b.fld (F.AFE_CH_CFG_DOWN_CYC.at (4 * ch)))) = false := decide_eq_false (Nat.not_lt.mpr hc)
  exact if_neg (by simp only [hon, ha, hlow, decide_eq_false (Nat.not_le.mpr h8), decide_eq_false (Nat.not_le.mpr hr)]; decide)

theorem settleEnd_of_due {lane t : Nat} (hl : b.flt.settle.getD lane none = some t) (hd : b.since t settleTicks = true)
    (hr : b.flt.rot = none) :
    settleEnd lane b = b.modFlt fun x => { x with settle := x.settle.set lane none, settleSeen := true } := by
  simp only [settleEnd, hl, hd, Bool.not_true, Bool.false_eq_true, if_false, Block.modFlt_flt, hr]

/-! ### A modulator fails (R208, R209) -/

/-- The modulator is marked faulty and the fault recorded. -/
abbrev Block.markFault (b : Block) (m cause : Nat) : Block := (b.setFault m).note 0x0603 m cause

section
variable {m : Nat}

theorem modulatorFault_of_spare_idle {cause : Nat} (hon : b.afeOn = true) (h8 : m < 8) (hf : b.faulty m = false)
    (hs : b.flt.swapCh = none) (hr : b.flt.rot = none)
    (hi : ((b.markFault m cause).faulty 8 || (b.markFault m cause).fld F.AFE_STAT_SPARE_PHASE == 8) = false) :
    modulatorFault m cause b = (b.markFault m cause).swapIn m := by
  have hs' : (b.markFault m cause).flt.swapCh = none := hs
  have hr' : (b.markFault m cause).flt.rot = none := hr
  rw [modulatorFault, if_neg (by simp [hon, hf, Nat.lt_succ_of_lt h8])]
  dsimp only
  rw [if_neg h8.ne, if_neg (by simp only [hs', Option.isSome_none, Bool.false_or, hi]; decide)]
  simp only [hr']

theorem modulatorFault_of_spare_used (cause : Nat) (hon : b.afeOn = true) (h8 : m < 8) (hf : b.faulty m = false)
    (hs : b.flt.swapCh.isSome = true) : modulatorFault m cause b = b.markFault m cause := by
  have hs' : (b.markFault m cause).flt.swapCh.isSome = true := hs
  rw [modulatorFault, if_neg (by simp [hon, hf, Nat.lt_succ_of_lt h8])]
  dsimp only
  rw [if_neg h8.ne, if_pos (by rw [hs']; rfl)]

end

/-! ### Rotating calibration (R210, R211, R213, R223) -/

theorem rotationStart_of_turn (hm : b.mayRotate = true) (hd : b.since b.flt.rotAt (b.fld F.FLT_CAL_CTRL_INTERVAL * tickS) = true)
    (hq : b.flt.queued = none) (hn : b.flt.inTurn = some ch) :
    rotationStart b = (b.modFlt fun x => { x with rot := some ⟨ch, 1, b.now + 450 * tickMs, true, 0, 0, none⟩, rotAt := b.now,
                                                  queued := none, nextCh := (ch + 1) % 8 }).spareStat 1 0xF := by
  rw [rotationStart, if_neg (by simp [hm, hd])]
  simp [hq, hn]

theorem rotationStart_of_queued (hm : b.mayRotate = true) (hd : b.since b.flt.rotAt (b.fld F.FLT_CAL_CTRL_INTERVAL * tickS) = true)
    (hq : b.flt.queued = some ch) (hb : b.flt.barred.contains ch = false) :
    rotationStart b = (b.modFlt fun x => { x with rot := some ⟨ch, 1, b.now + 450 * tickMs, true, 0, 0, none⟩, rotAt := b.now,
                                                  queued := none }).spareStat 1 0xF := by
  have hq' : (b.flt.queued.filter fun c => !b.flt.barred.contains c) = some ch := by
    rw [hq, Option.filter_some, hb]
    rfl
  rw [rotationStart, if_neg (by simp [hm, hd])]
  simp only [hq']
  rfl

/-- A rotation past the time of its phase goes on, where no failed modulator waits for its spare. -/
theorem Rotation.not_held {r : Rotation} (hn : r.next ≤ b.now) (hs : r.swap = none) : ¬(b.now < r.next ∨ r.swap.isSome = true) := by
  rw [hs]
  exact fun h => h.elim (Nat.not_lt.mpr hn) Bool.false_ne_true

section
variable {r : Rotation} {g o : Int} (hr : b.flt.rot = some r) (hn : r.next ≤ b.now) (hs : r.swap = none)
include hr hn hs

theorem rotationPhaseAdvance_of_selfCal_good (hp : r.phase = 1) :
    rotationPhaseAdvance true g o b = (b.modTrims (·.adjust 8 g o)).rotTo 2 0xF 2 r := by
  simp only [rotationPhaseAdvance, hr, Rotation.not_held hn hs, hp, if_false, if_true]

theorem rotationPhaseAdvance_of_selfCal_bad (hp : r.phase = 1) :
    rotationPhaseAdvance false g o b = ((b.modFlt fun x => { x with rot := none }).spareStat 0 0xF).calFail 8 1 := by
  simp only [rotationPhaseAdvance, hr, Rotation.not_held hn hs, hp, if_false, Bool.false_eq_true]

theorem rotationPhaseAdvance_of_track (ok : Bool) (hp : r.phase = 2) :
    rotationPhaseAdvance ok g o b = b.rotTo 3 0xF 200 r := by
  simp only [rotationPhaseAdvance, hr, Rotation.not_held hn hs, hp, if_false]

theorem rotationPhaseAdvance_of_match (ok : Bool) (hp : r.phase = 3) :
    rotationPhaseAdvance ok g o b = b.rotTo 4 r.ch 452 r := by
  simp only [rotationPhaseAdvance, hr, Rotation.not_held hn hs, hp, if_false]

theorem rotationPhaseAdvance_of_carry_good (hp : r.phase = 4) :
    rotationPhaseAdvance true g o b = b.rotTo 5 r.ch 2 { r with gainPpm := g, offsetUv := o } := by
  simp only [rotationPhaseAdvance, hr, Rotation.not_held hn hs, hp, if_false, if_true]

theorem rotationPhaseAdvance_of_carry_bad (hp : r.phase = 4) :
    rotationPhaseAdvance false g o b = (b.calFail r.ch 4).rotTo 5 r.ch 2 { r with ok := false } := by
  simp only [rotationPhaseAdvance, hr, Rotation.not_held hn hs, hp, if_false, Bool.false_eq_true]

theorem rotationPhaseAdvance_of_return (ok : Bool) (hp : r.phase = 5) :
    rotationPhaseAdvance ok g o b = b.rotTo 6 r.ch 200 r := by
  simp only [rotationPhaseAdvance, hr, Rotation.not_held hn hs, hp, if_false]

theorem rotationPhaseAdvance_of_matchBack (ok : Bool) (hp : r.phase = 6) :
    rotationPhaseAdvance ok g o b = b.endRot r := by
  simp only [rotationPhaseAdvance, hr, Rotation.not_held hn hs, hp, if_false]

end

/-- What one limited step leaves of a ramp is due a second later, and nothing left ends it. -/
theorem trimStep_of_due {m : Nat} {r rest : TrimRamp} (hr : (b.flt.ramps.find? fun y => y.modl == m) = some r) (hn : r.nextAt ≤ b.now)
    (hrest : rest = { r with gainPpm := r.gainPpm - stepOf (b.fld F.FLT_CAL_CTRL_MAX_STEP) r.gainPpm,
                             offsetUv := r.offsetUv - stepOf 20 r.offsetUv, nextAt := b.now + tickS }) :
    trimStep m b = ((b.modFlt fun x => { x with ramps := x.ramps.filter (fun y => y.modl != m) ++
                                                 (if rest.gainPpm = 0 ∧ rest.offsetUv = 0 then [] else [rest]) }).modTrims
      fun t => t.adjust m (stepOf (b.fld F.FLT_CAL_CTRL_MAX_STEP) r.gainPpm) (stepOf 20 r.offsetUv)).saveTrims := by
  subst hrest
  simp only [trimStep, hr]
  exact if_neg (Nat.not_lt.mpr hn)

theorem calQueueW_of_channel {acc : Nat} (hm : b.mayWrite k acc roleEng true = yOk) (h8 : ch < 8) :
    calQueueW acc ch k b = ⟨yOk, (b.put F.FLT_CAL_CTRL_QCH ch).modFlt fun x => { x with queued := some ch }⟩ := by
  rw [calQueueW, if_neg (not_not_intro hm)]
  simp only [h8, if_true]

/-! ### Threshold units and their window (R214, R215, R228) -/

theorem thresholdTransition_of_changed {u : Nat} {on : Bool} (at_ : Nat) (value : W32) (hon : b.afeOn = true) (h32 : u < 32)
    (he : (b.flt.unit u).cfg0.getLsbD 31 = true) (hs : (b.flt.unit u).on = !on) (hl : b.inL1 = false) :
    thresholdTransition u on at_ value b =
      ((b.modFlt fun x => { x with units := modAt x.units u fun t => { t with on := on, seen := true } }).teState u on).teRecord
        u on at_ value := by
  rw [thresholdTransition]
  exact if_neg (by simp [hon, h32, he, hs, hl])

theorem teLoadW_of_allowed {acc : Nat} (u : Nat) (hm : b.mayWrite k acc roleObs false = yOk) :
    teLoadW acc u k b = ⟨yOk, (b.aput acc F.FLT_TE_SEL_UNIT u).awrs acc Reg.FLT_TE_CFG
      [(b.flt.unit (u % 32)).cfg0, (b.flt.unit (u % 32)).cfg1, (b.flt.unit (u % 32)).cfg2]⟩ :=
  if_neg (not_not_intro hm)

theorem teCommitW_of_off {acc u : Nat} {w : W32 × W32 × W32} (hm : b.mayWrite k acc roleEng true = yOk)
    (hw : w = teWords (b.ards acc Reg.FLT_TE_CFG 3)) (hop : bits w.1 23 20 ≠ 8) (hoff : w.1.getLsbD 31 = false) :
    teCommitW acc u k b = ⟨yOk, ((b.aput acc F.FLT_TE_SEL_UNIT u).modFlt fun x =>
      { x with units := modAt x.units (u % 32) fun t =>
        { t with cfg0 := w.1, cfg1 := w.2.1, cfg2 := w.2.2, on := false } }).teState (u % 32) false⟩ := by
  rw [teCommitW, if_neg (not_not_intro hm)]
  simp only [← hw]
  rw [if_neg hop]
  simp only [hoff, Bool.and_false, Bool.false_eq_true, if_false]

/-! ### The local PMU (R216 to R221) -/

theorem estimatorReport_of_running (sl : Nat) (vals : List W64) (invalid srcErr : Nat) {lowV lowI : Bool} (hon : b.afeOn = true)
    (hV : lowV = b.belowPct (vals.getD 8 0) Reg.FLT_VNOM 10) (hI : lowI = b.belowPct (vals.getD 9 0) Reg.FLT_INOM 10) :
    estimatorReport sl vals invalid srcErr b =
      (b.putFlag F.FLT_PMU_FREQ_SRC lowV).localWrite sl false ((List.range 14).map fun i =>
        if lowV ∧ lowI ∧ 12 ≤ i then 0
        else (b.putFlag F.FLT_PMU_FREQ_SRC lowV).localEntry i (invalid.testBit i) (srcErr.testBit i) (vals.getD i 0)) := by
  subst hV hI
  exact if_neg (by simp [hon])

theorem qcPhasorDelivery_of_enabled {at_ invalid srcErr : Nat} {v1 freq dig0 dig1 : W64} {f : Q} {b1 : Block} (hon : b.afeOn = true)
    (hq : b.flag F.FLT_PMU_QC_EN = true) (hf : singleQ (entSingle 2 freq) = some f)
    (h1 : b1 = b.lomEvaluate at_ (entAngle v1) f (b.belowPct v1 Reg.FLT_VNOM (b.fld F.ISL_BLOCK_V_DIP))) :
    qcPhasorDelivery at_ v1 freq dig0 dig1 invalid srcErr b =
      (b1.slotsIn at_ (at_ + tickS / (4 * b1.f0) - 1)).foldl (fun b sl =>
        b.localWrite sl true (List.replicate 14 0 ++ ([qcRotate v1 f (sl - at_), freq, dig0, dig1].zipIdx.map fun p =>
          b.localEntry (14 + p.2) (invalid.testBit p.2) (srcErr.testBit p.2) p.1))) b1 := by
  subst h1
  rw [qcPhasorDelivery, if_neg (by simp [hon, hq])]
  simp only [hf]

theorem pmuClassApply_of_due {t : Nat} (hc : b.flt.classAt = some t) (ht : t ≤ b.tai) :
    pmuClassApply b = b.modFlt fun x => { x with classNow := b.fld F.FLT_PMU_CLASS, classAt := none } := by
  simp only [pmuClassApply, hc]
  exact if_neg (Nat.not_lt.mpr ht)

/-! ### Self-test (R222, R224, R229) -/

@[simp] theorem Block.ycpTake_afeOn (k : Key) (h : Hdr) (op : Nat) (b : Block) : (b.ycpTake k h op).afeOn = b.afeOn := by
  have hen : (b.ycpTake k h op).fld F.AFE_CTRL_EN = b.fld F.AFE_CTRL_EN := Block.ycpTake_fld k h op b _ _ _ (by decide)
  simp [Block.afeOn, Block.flag, hen]

/-- A level the state allows starts where the front end is on and no test runs. -/
theorem Block.requestTest_of_allowed {level : Nat} (who : Option (Nat × Nat)) (h3 : level < 3) (ha : b.testAllowed level = true)
    (hon : b.afeOn = true) (ht : b.flt.test = none) : b.requestTest level who = (yPending, b.startTest level who) := by
  rw [Block.requestTest, if_neg (Nat.not_le.mpr h3), if_neg (by simp [ha, hon]), if_neg (by simp [ht])]

theorem Ready.selftest_started {s : State} {h : Hdr} {level : Nat} (r : Ready s h 0x0C01 ⟨some roleMnt, false⟩) (blk : Nat)
    (h3 : level < 3) (ha : (s.taken h 0x0C01).testAllowed level = true) (hon : s.b.afeOn = true) (ht : s.b.flt.test = none) :
    s.onB (selftest h blk level) = s.answer h 0x0C01 yPending [] (·.startTest level (some (h.session, h.tag))) := by
  have hreq := Block.requestTest_of_allowed (some (h.session, h.tag)) h3 ha (by simpa using hon) (by simpa using ht)
  exact r.onB_answer _ _ _ rfl (by simp only [hreq])

theorem selftestRequestW_of_allowed {acc level : Nat} {b1 : Block} (hm : b.mayWrite k acc roleEng true = yOk) (h3 : level < 3)
    (h1 : b1 = b.put F.FLT_ST_CTRL_LEVEL level) (ha : b1.testAllowed level = true) (hon : b1.afeOn = true) (ht : b1.flt.test = none) :
    selftestRequestW acc level k b = ⟨yOk, b1.startTest level none⟩ := by
  rw [selftestRequestW, if_neg (not_not_intro hm)]
  simp only [if_neg h3.ne, ← h1, Block.requestTest_of_allowed none h3 ha hon ht, if_true]

theorem selftestComplete_of_due {l t : Nat} {who : Option (Nat × Nat)} (pass : Bool) (fc : Nat) (ht : b.flt.test = some (l, t, who))
    (hn : t ≤ b.now) : selftestComplete pass fc b = b.endTest pass fc := by
  simp only [selftestComplete, ht]
  exact if_neg (Nat.not_lt.mpr hn)

/-- No host waits for an L1 started through the register: its end writes the result and sends no reply. -/
theorem Block.endTest_of_l1 {t : Nat} (pass : Bool) (fc : Nat) (ht : b.flt.test = some (1, t, none)) :
    b.endTest pass fc = Block.testStat ((b.modFlt fun x => { x with test := none }).put F.FLT_ST_STAT_BUSY 0) 1 pass fc := by
  simp only [Block.endTest, ht, OfNat.one_ne_ofNat, one_ne_zero, if_false]

section
variable (hen : b.flag F.FLT_ST_CTRL_L0_EN = true) (hon : b.afeOn = true) (ha : b.testAllowed 0 = true) (ht : b.flt.test = none)
  (hd : b.since b.flt.l0At (max 1 (b.fld F.FLT_ST_CTRL_L0_PERIOD) * tickS) = true)
include hen hon ha ht hd

/-- No guard of L0_PERIODIC holds a replay that is due, with slack or without. -/
theorem l0_not_held : (!b.flag F.FLT_ST_CTRL_L0_EN || !b.afeOn || !b.testAllowed 0 || b.flt.test.isSome ||
    !b.since b.flt.l0At (max 1 (b.fld F.FLT_ST_CTRL_L0_PERIOD) * tickS)) = false := by
  simp only [hen, hon, ha, ht, hd]
  rfl

theorem l0Periodic_of_no_slack (pass : Bool) :
    l0Periodic false pass b = (b.modFlt fun x => { x with l0At := b.now }).bump Reg.FLT_CNT_L0_SKIP := by
  simp only [l0Periodic, l0_not_held hen hon ha ht hd, Bool.false_eq_true, if_false, Bool.not_false, if_true]

theorem l0Periodic_of_pass : l0Periodic true true b = (b.modFlt fun x => { x with l0At := b.now }).l0Result true := by
  simp only [l0Periodic, l0_not_held hen hon ha ht hd, Bool.false_eq_true, if_false, Bool.not_true, if_true]

theorem l0Periodic_of_fail {b1 : Block} (h1 : b1 = (b.modFlt fun x => { x with l0At := b.now }).l0Result false) :
    l0Periodic true false b = b1.testStat 0 false (b1.fld F.FLT_ST_STAT_FAIL_CODE) := by
  simp only [l0Periodic, l0_not_held hen hon ha ht hd, ← h1, Bool.false_eq_true, if_false, Bool.not_true]

end

/-! ### Immediate calibration (R223, R522) -/

@[simp] theorem Block.abortRot_now (b : Block) : b.abortRot.now = b.now := by
  unfold Block.abortRot
  split <;> rfl

section
variable {s : State} {h : Hdr}

theorem Ready.calibrate_channel (r : Ready s h 0x0C02 ⟨some roleMnt, false⟩) (h8 : ch < 8)
    (ht : s.b.topState = stRun ∨ s.b.topState = stWatch) (hc : s.b.flt.cal = none) :
    s.onB (calibrate h ch) = s.answer h 0x0C02 yPending [] fun b =>
      b.modFlt fun x => { x with queued := some ch, cal := some ⟨ch, none, (h.session, h.tag)⟩ } := by
  have hone : (ch == 255) = false := beq_false_of_ne (by omega)
  refine r.onB_answer _ _ _ rfl ?_
  simp only [hone, Block.ycpTake_topState, Block.ycpTake_flt, hc]
  rw [if_neg (by simpa [or_iff_not_imp_left] using ht), if_neg (by simpa using h8)]
  rfl

theorem Ready.calibrate_all (r : Ready s h 0x0C02 ⟨some roleMnt, false⟩) (ht : s.b.topState = stMaint) (hc : s.b.flt.cal = none) :
    s.onB (calibrate h 255) = s.answer h 0x0C02 yPending [] fun b =>
      b.abortRot.modFlt fun x => { x with cal := some ⟨255, some (b.abortRot.now + 452 * tickMs), (h.session, h.tag)⟩ } := by
  refine r.onB_answer _ _ _ rfl ?_
  simp only [Block.ycpTake_topState, Block.ycpTake_flt, ht, hc, Block.abortRot_now]
  rfl

end

/-- A full calibration with no failed modulator adopts the trims and answers its host FLT_CAL_STAT. -/
theorem calibrationComplete_of_sound {bad t : Nat} {trims : List (Int × Int)} {c : CalRun} {b1 : Block} (hc : b.flt.cal = some c)
    (hat : c.at? = some t) (hn : t ≤ b.now) (hfull : c.ch = 255) (hbad : bad % 512 = 0)
    (h1 : b1 = (b.modFlt fun x => { x with cal := none }).fullTrims bad trims) (hnone : (List.range 9).filter bad.testBit = []) :
    calibrationComplete bad trims b = b1.finish c.who.1 c.who.2 0x0C02 yOk (beBytes 4 (b1.rd Reg.FLT_CAL_STAT).toNat) := by
  have hok : (bad % 512 != 0) = false := by simp [hbad]
  simp only [calibrationComplete, hc, hat]
  rw [if_neg (Nat.not_lt.mpr hn)]
  simp only [hok, hfull, hnone, List.foldl_nil, ne_eq, not_true, Bool.and_false, Bool.false_eq_true, and_false, or_self, if_false, ← h1]

end

/-- Settles O21: each event of the ranges, lanes and modulators by the case of its meaning that its guard selects. -/
theorem rangesSettlingAndFaultsTakeEffect : Obligations.RangesSettlingAndFaultsTakeEffect := by
  unfold Obligations.RangesSettlingAndFaultsTakeEffect
  refine ⟨?lower, ?clip, ?up, ?settled, ?fault, ?spareUsed⟩
  case lower =>
    intro s ch fits hon h8 ha hf
    exact congrArg Host.Outcome.next (State.onB_eq_putB (overloadDetect_of_lowered hon h8 ha hf))
  case clip =>
    intro s ch fits hon h8 ha
    exact congrArg Host.Outcome.next (State.onB_eq_putB (overloadDetect_of_manual_clip fits hon h8 ha))
  case up =>
    intro s ch cycles hon h8 ha hr hc
    exact congrArg Host.Outcome.next (State.onB_eq_putB (rangeUp_of_quiet hon h8 ha hr hc))
  case settled =>
    intro s lane t hl hd hr
    exact congrArg Host.Outcome.next (State.onB_eq_putB (settleEnd_of_due hl hd hr))
  case fault =>
    intro s m cause hon h8 hf hs hr hi
    exact congrArg Host.Outcome.next (State.onB_eq_putB (modulatorFault_of_spare_idle hon h8 hf hs hr hi))
  case spareUsed =>
    intro s m cause hon h8 hf hs
    exact congrArg Host.Outcome.next (State.onB_eq_putB (modulatorFault_of_spare_used cause hon h8 hf hs))

/-- Settles O22: each step of a rotation by the phase it leaves, the ramps and the queue by the case that their guard selects. -/
theorem rotatingCalibrationTakesEffect : Obligations.RotatingCalibrationTakesEffect := by
  unfold Obligations.RotatingCalibrationTakesEffect
  refine ⟨?turn, ?queued, ?phase, ?ramp, ?queue⟩
  case turn =>
    intro s ch hm hd hq hn
    exact congrArg Host.Outcome.next (State.onB_eq_putB (rotationStart_of_turn hm hd hq hn))
  case queued =>
    intro s ch hm hd hq hb
    exact congrArg Host.Outcome.next (State.onB_eq_putB (rotationStart_of_queued hm hd hq hb))
  case phase =>
    intro s r g o hr hn hs
    exact ⟨fun hp => ⟨congrArg Host.Outcome.next (State.onB_eq_putB (rotationPhaseAdvance_of_selfCal_good hr hn hs hp)),
        congrArg Host.Outcome.next (State.onB_eq_putB (rotationPhaseAdvance_of_selfCal_bad hr hn hs hp))⟩,
      fun hp => congrArg Host.Outcome.next (State.onB_eq_putB (rotationPhaseAdvance_of_track hr hn hs true hp)),
      fun hp => congrArg Host.Outcome.next (State.onB_eq_putB (rotationPhaseAdvance_of_match hr hn hs true hp)),
      fun hp => ⟨congrArg Host.Outcome.next (State.onB_eq_putB (rotationPhaseAdvance_of_carry_good hr hn hs hp)),
        congrArg Host.Outcome.next (State.onB_eq_putB (rotationPhaseAdvance_of_carry_bad hr hn hs hp))⟩,
      fun hp => congrArg Host.Outcome.next (State.onB_eq_putB (rotationPhaseAdvance_of_return hr hn hs true hp)),
      fun hp => congrArg Host.Outcome.next (State.onB_eq_putB (rotationPhaseAdvance_of_matchBack hr hn hs true hp))⟩
  case ramp =>
    intro s m r rest hr hn hrest
    exact congrArg Host.Outcome.next (State.onB_eq_putB (trimStep_of_due hr hn hrest))
  case queue =>
    intro s acc qch hm h8
    exact congrArg Host.Outcome.next (State.onB_eq_putB (congrArg WRes.b (calQueueW_of_channel hm h8)))

/-- Settles O23: each event of the threshold units and the local PMU by the case of its meaning that its guard selects. -/
theorem thresholdUnitsAndLocalPmuTakeEffect : Obligations.ThresholdUnitsAndLocalPmuTakeEffect := by
  unfold Obligations.ThresholdUnitsAndLocalPmuTakeEffect
  refine ⟨?transition, ?load, ?commit, ?evidence, ?partF, ?partQ, ?pmuClass⟩
  case transition =>
    intro s u at_ on value hon h32 he hs hl
    exact congrArg Host.Outcome.next (State.onB_eq_putB (thresholdTransition_of_changed at_ value hon h32 he hs hl))
  case load =>
    intro s acc u hm
    exact congrArg Host.Outcome.next (State.onB_eq_putB (congrArg WRes.b (teLoadW_of_allowed u hm)))
  case commit =>
    intro s acc u w b1 hm hw hop hoff h1
    subst h1
    exact congrArg Host.Outcome.next (State.onB_eq_putB (congrArg WRes.b (teCommitW_of_off hm hw hop hoff)))
  case evidence =>
    intro s sl
    exact congrArg Host.Outcome.next (State.onB_eq_putB rfl)
  case partF =>
    intro s sl invalid srcErr vals lowV lowI b1 hon hV hI h1
    subst h1
    exact congrArg Host.Outcome.next (State.onB_eq_putB (estimatorReport_of_running sl vals invalid srcErr hon hV hI))
  case partQ =>
    intro s at_ invalid srcErr v1 freq dig0 dig1 f b1 hon hq hf h1
    exact congrArg Host.Outcome.next (State.onB_eq_putB (qcPhasorDelivery_of_enabled hon hq hf h1))
  case pmuClass =>
    intro s t hc ht
    exact congrArg Host.Outcome.next (State.onB_eq_putB (pmuClassApply_of_due hc ht))

/-- Settles O24: each command of a test and of a calibration by the case of its meaning that its guard selects. -/
theorem selfTestAndCalibrationTakeEffect : Obligations.SelfTestAndCalibrationTakeEffect := by
  unfold Obligations.SelfTestAndCalibrationTakeEffect
  refine ⟨?test, ?request, ?complete, ?ends, ?periodic, ?one, ?all, ?calibrated⟩
  case test =>
    intro s h blk level r h3 ha hon ht
    exact congrArg Host.Outcome.next (r.selftest_started blk h3 ha hon ht)
  case request =>
    intro s acc level b1 hm h3 h1 ha hon ht
    exact congrArg Host.Outcome.next (State.onB_eq_putB (congrArg WRes.b (selftestRequestW_of_allowed hm h3 h1 ha hon ht)))
  case complete =>
    intro s pass fc l t who ht hn
    exact congrArg Host.Outcome.next (State.onB_eq_putB (selftestComplete_of_due pass fc ht hn))
  case ends =>
    intro b pass fc level t ht hl
    subst hl
    exact Block.endTest_of_l1 pass fc ht
  case periodic =>
    intro s pass b1 hen hon ha ht hd h1
    subst h1
    exact ⟨congrArg Host.Outcome.next (State.onB_eq_putB (l0Periodic_of_no_slack hen hon ha ht hd pass)),
      congrArg Host.Outcome.next (State.onB_eq_putB (l0Periodic_of_pass hen hon ha ht hd)),
      congrArg Host.Outcome.next (State.onB_eq_putB (l0Periodic_of_fail hen hon ha ht hd rfl))⟩
  case one =>
    intro s h ch r h8 ht hc
    exact congrArg Host.Outcome.next (r.calibrate_channel h8 ht hc)
  case all =>
    intro s h r ht hc
    exact congrArg Host.Outcome.next (r.calibrate_all ht hc)
  case calibrated =>
    intro s bad trims c t b1 hc hat hn hfull hbad h1 hnone
    exact congrArg Host.Outcome.next (State.onB_eq_putB (calibrationComplete_of_sound hc hat hn hfull hbad h1 hnone))

end Sys2Proof.Machine

/-!
SUPPORT. Tie-line energy: what a cycle leaves in the accumulators, what the commands of the block do in the cases the statements name,
and the statements settled from these.
-/
namespace Sys2Proof.Machine

section
variable {b : Block}

/-! ### Words written in a row -/

@[simp] theorem Block.wrWords_nrg (b : Block) (a : Nat) (ws : List W32) : (b.wrWords a ws).nrg = b.nrg := by
  induction ws generalizing b a with
  | nil => rfl
  | cons w ws ih => exact ih (b.wr a w) (a + 4)

/-- Words written from `a` on leave every register behind the last of them. -/
theorem Block.rd_wrWords_above (b : Block) {a c : Nat} {ws : List W32} (h : a + 4 * ws.length ≤ c) :
    (b.wrWords a ws).rd c = b.rd c := by
  induction ws generalizing b a with
  | nil => rfl
  | cons w ws ih =>
    rw [List.length_cons] at h
    have hne : c ≠ a := by omega
    exact (ih (b.wr a w) (by omega)).trans (by simp [hne])

/-! ### Pulses keep the accumulators (R247) -/

@[simp] theorem Block.pulseFlush_accs (b : Block) (n : Nat) : (b.pulseFlush n).nrg.accs = b.nrg.accs := by
  unfold Block.pulseFlush
  dsimp only
  split <;> rfl

@[simp] theorem Block.pulseCount_accs (b : Block) (n : Nat) : (b.pulseCount n).nrg.accs = b.nrg.accs := by
  unfold Block.pulseCount
  extract_lets _ _ _ _ _ _ _ _ counted
  have hcounted : counted.nrg.accs = b.nrg.accs := b.pulseFlush_accs n
  split
  · exact hcounted
  · exact hcounted

theorem Block.foldl_pulseCount_accs (b : Block) (l : List Nat) : (l.foldl (fun b n => b.pulseCount n) b).nrg.accs = b.nrg.accs := by
  induction l generalizing b with
  | nil => rfl
  | cons n l ih => exact (ih (b.pulseCount n)).trans (b.pulseCount_accs n)

/-! ### A cycle's energies (R234, R237, R241) -/

/-- The 32 energies of a cycle: eight of each phase, then eight of the total. -/
def Block.cycleParts (b : Block) (c : LineCycle) : List Q :=
  let u := (b.phaseUses c).map (·.1)
  let inv := b.flag F.NRG_CTRL_DIR_INV
  (u.flatMap fun x => energyParts inv x.ep x.eq x.es) ++ energyParts inv (sumUses u (·.ep)) (sumUses u (·.eq)) (sumUses u (·.es))

theorem Block.cycleParts_length (b : Block) (c : LineCycle) : (b.cycleParts c).length = 32 := rfl

/-- The unit of an accumulator: the register LSB times 2^-32 (R241). -/
def Block.accUnit (b : Block) : Q := (nrgLsb (b.rd Reg.NRG_PFS) b.nrg.lsbSh).mul (Q.pow2 (-32))

theorem Block.accsAfter_eq (b : Block) (c : LineCycle) :
    b.accsAfter c = List.zipWith (addEnergy b.accUnit) b.nrg.accs (b.cycleParts c) :=
  List.map_zip_eq_zipWith

theorem Block.addCycle_accs (b : Block) (c : LineCycle) : (b.addCycle c).nrg.accs = b.accsAfter c := by
  unfold Block.addCycle
  dsimp only
  rw [Block.foldl_pulseCount_accs]
  split <;> rfl

/-- Each of the 32 accumulators takes the energy of its own place. -/
theorem Block.accsAfter_getD {c : LineCycle} {i : Nat} (hn : b.nrg.accs.length = 32) (hi : i < 32) :
    (b.accsAfter c).getD i 0 = addEnergy b.accUnit (b.nrg.accs.getD i 0) ((b.cycleParts c).getD i Q.zero) := by
  have hacc : i < b.nrg.accs.length := hn ▸ hi
  have hpart : i < (b.cycleParts c).length := b.cycleParts_length c ▸ hi
  simp [Block.accsAfter_eq, hacc, hpart]

end

/-- Settles O26: the pulses keep the accumulators, and `accsAfter` adds the 32 energies of the cycle place by place. -/
theorem cycleEnergiesEnterTheAccumulators : Obligations.CycleEnergiesEnterTheAccumulators := by
  unfold Obligations.CycleEnergiesEnterTheAccumulators
  intro b c i uses u parts hn hi huses hu hparts
  subst huses hu hparts
  rw [Block.addCycle_accs]
  exact Block.accsAfter_getD hn hi

section
variable {b : Block}

/-! ### Cycles and the time fallback (R233, R244) -/

theorem lineCycleEnd_of_running (c : LineCycle) (hon : b.nrgOn = true) (ht : b.flag F.NRG_STAT_TIME_LATCH = false) :
    lineCycleEnd c b = b.addCycle c :=
  if_neg (by simp [hon, ht])

theorem timeFallbackCycleEnd_of_fallback (c : LineCycle) (hon : b.nrgOn = true) (ht : b.flag F.NRG_STAT_TIME_LATCH = true) :
    timeFallbackCycleEnd c b = (b.addCycle c).modNrg fun x => { x with perTime := true } :=
  if_neg (by simp [hon, ht])

theorem nrgTimeLatch_of_running (hon : b.nrgOn = true) (ht : b.flag F.NRG_STAT_TIME_LATCH = false) :
    nrgTimeLatch b = ((b.put F.NRG_STAT_TIME_LATCH 1).modNrg fun x => { x with cycles := 0 }).note 0x0703 1 (lt32 b.tai) :=
  if_neg (by simp [hon, ht])

/-- The cycle that ends the fallback counted, its latch period marked, and the fallback over. -/
abbrev Block.leaveFallback (b : Block) (c : LineCycle) : Block :=
  ((b.addCycle c).modNrg fun x => { x with perTime := true }).put F.NRG_STAT_TIME_LATCH 0

theorem timeLatchReturn_of_fallback (c : LineCycle) (hon : b.nrgOn = true) (ht : b.flag F.NRG_STAT_TIME_LATCH = true) :
    timeLatchReturn c b = (b.leaveFallback c).latchEnergy.note 0x0703 0 (lt32 (b.leaveFallback c).tai) :=
  if_neg (by simp [hon, ht])

/-! ### Latching (R243) -/

theorem energyLatch_of_due (hon : b.nrgOn = true) (hd : b.nrg.latchDue = true) : energyLatch b = b.latchEnergy :=
  if_neg (by simp [hon, hd])

theorem Nrg.pairs_length (x : Nrg) : x.pairs.length = 64 := rfl

/-- A latch counts once: the registers it writes before lie below the counter. -/
theorem Block.latchEnergy_count (b : Block) :
    b.latchEnergy.rd Reg.NRG_CNT_LATCH = BitVec.ofNat 32 (min 0xFFFFFFFF ((b.rd Reg.NRG_CNT_LATCH).toNat + 1)) := by
  have hpairs : Reg.NRG_LAT_ + 4 * b.nrg.pairs.length ≤ Reg.NRG_CNT_LATCH := by rw [Nrg.pairs_length]; decide
  have htime : Reg.NRG_LAT_T_LO + 4 * 3 ≤ Reg.NRG_CNT_LATCH := by decide
  unfold Block.latchEnergy
  rw [Block.modNrg_rd, Block.rd_bump_ofNat, Block.rd_wrWords_above _ hpairs, Block.rd_wrWords_above _ htime, Block.rd_wr,
    if_neg (by decide)]

/-- A latch begins the next latch period and keeps the rest of the energy block. -/
theorem Block.latchEnergy_nrg (b : Block) :
    b.latchEnergy.nrg = { b.nrg with latchDue := false, cycles := 0, latchN := b.latchEnergy.nrg.latchN, perTime := false,
                                     perSubst := false, perNoload := 0 } := by
  unfold Block.latchEnergy
  rw [Block.modNrg_nrg, Block.bump_nrg, Block.wrWords_nrg, Block.wrWords_nrg, Block.wr_nrg]

/-! ### Pulse outputs (R247) -/

section
variable {b1 : Block} {p : Pulse} {n : Nat}

theorem pulseOutput_of_waiting (h4 : n < 4) (h1 : b1 = b.pulseFlush n) (hp : p = b1.nrg.pulses.getD n .reset) (hh : p.highTo = none)
    (hq : 0 < p.queue) (hl : p.lowTo ≤ b1.now) :
    pulseOutput n b =
      (((b1.modPulse n fun p =>
          { p with queue := p.queue - 1, highTo := some (b1.now + max 10 (b1.fld (F.PUL_CFG_WIDTH.at (8 * n))) * tickMs) }).put
        F.PUL_STAT_LEVEL (b1.fld F.PUL_STAT_LEVEL ||| (1 <<< n))).bump (Reg.PUL_CNT_ + 4 * n)).emit 9 Emit.land [n, 1] := by
  have hidle : ¬(p.queue = 0 ∨ b1.now < p.lowTo) := by omega
  rw [pulseOutput, if_neg (Nat.not_le.mpr h4)]
  simp only [← h1, ← hp, hh]
  exact if_neg hidle

theorem pulseOutput_of_ended {t : Nat} (h4 : n < 4) (h1 : b1 = b.pulseFlush n) (hp : p = b1.nrg.pulses.getD n .reset)
    (hh : p.highTo = some t) (ht : t ≤ b1.now) :
    pulseOutput n b =
      ((b1.modPulse n fun p => { p with highTo := none, lowTo := t + max 10 (b1.fld (F.PUL_CFG_WIDTH.at (8 * n))) * tickMs }).put
        F.PUL_STAT_LEVEL (b1.fld F.PUL_STAT_LEVEL &&& (0xF - (1 <<< n)))).emit 9 Emit.land [n, 0] := by
  rw [pulseOutput, if_neg (Nat.not_le.mpr h4)]
  simp only [← h1, ← hp, hh]
  exact if_neg (Nat.not_lt.mpr ht)

end

/-! ### Saves and the commands of a session (R242, R245, R247, R248) -/

theorem energySave_of_due (hon : b.nrgOn = true)
    (hd : b.since b.nrg.saveAt (clampNat 1 60 (b.fld F.NRG_SAVE_INTERVAL) * tickS) = true) :
    energySave b = b.saveEnergy 1 b.nrg.accs :=
  if_neg (by simp [hon, hd])

section
variable {s : State} {h : Hdr}

theorem Ready.energyRead_kept (r : Ready s h 0x0601 ⟨some roleObs, false⟩) :
    s.onB (energyRead h false) =
      s.answer h 0x0601 yOk (wordBytes (s.taken h 0x0601).nrgGroup) fun b => b.nrgCopy (accOf h.session) :=
  r.onB_answer _ _ _ rfl (if_neg (by simp))

theorem Ready.energyRead_cleared (r : Ready s h 0x0601 ⟨some roleMnt, false⟩) (hm : s.b.topState = stMaint) :
    s.onB (energyRead h true) =
      s.answer h 0x0601 yOk (wordBytes (s.taken h 0x0601).nrgGroup) fun b => (b.nrgCopy (accOf h.session)).zeroEnergy :=
  r.onB_answer _ _ _ rfl (if_neg (by simp [hm]))

theorem Ready.pulseAssign_done {out : Nat} (r : Ready s h 0x0602 ⟨some roleEng, true⟩) (cfg k : W32) (h4 : out < 4) :
    s.onB (pulseAssign h out cfg k) = s.answer h 0x0602 yOk [] fun b => (b.pulseFlush out).setPulse out cfg k :=
  r.onB_answer _ _ _ rfl (if_neg (Nat.not_le.mpr h4))

end

end

/-- Settles O25: each command of the energy block by the case of its meaning that its guard selects. -/
theorem energyCommandsTakeEffect : Obligations.EnergyCommandsTakeEffect := by
  unfold Obligations.EnergyCommandsTakeEffect
  refine ⟨?cycle, ?fallbackCycle, ?latch, ?timeLatch, ?leaves, ?rises, ?falls, ?evidence, ?save, ?read, ?clear, ?assign⟩
  case cycle =>
    intro s c hon ht
    exact congrArg Host.Outcome.next (State.onB_eq_putB (lineCycleEnd_of_running c hon ht))
  case fallbackCycle =>
    intro s c hon ht
    exact congrArg Host.Outcome.next (State.onB_eq_putB (timeFallbackCycleEnd_of_fallback c hon ht))
  case latch =>
    intro s hon hd
    exact ⟨_, congrArg Host.Outcome.next (State.onB_eq_putB (energyLatch_of_due hon hd)), s.b.latchEnergy_count, rfl,
      s.b.latchEnergy_nrg, rfl, rfl⟩
  case timeLatch =>
    intro s hon ht
    exact congrArg Host.Outcome.next (State.onB_eq_putB (nrgTimeLatch_of_running hon ht))
  case leaves =>
    intro s c hon ht
    exact congrArg Host.Outcome.next (State.onB_eq_putB (timeLatchReturn_of_fallback c hon ht))
  case rises =>
    intro s n b1 p h4 h1 hp hh hq hl
    exact congrArg Host.Outcome.next (State.onB_eq_putB (pulseOutput_of_waiting h4 h1 hp hh hq hl))
  case falls =>
    intro s n t b1 p h4 h1 hp hh ht
    exact congrArg Host.Outcome.next (State.onB_eq_putB (pulseOutput_of_ended h4 h1 hp hh ht))
  case evidence =>
    intro s sl
    exact congrArg Host.Outcome.next (State.onB_eq_putB rfl)
  case save =>
    intro s hon hd
    exact congrArg Host.Outcome.next (State.onB_eq_putB (energySave_of_due hon hd))
  case read =>
    intro s h r
    exact congrArg Host.Outcome.next r.energyRead_kept
  case clear =>
    intro s h r hm
    exact congrArg Host.Outcome.next (r.energyRead_cleared hm)
  case assign =>
    intro s h out cfg k r h4
    exact congrArg Host.Outcome.next (r.pulseAssign_done cfg k h4)

end Sys2Proof.Machine

/-!
SUPPORT. Oscillation screening, modal tracking and source location: what the commands of the block do in the cases the statements
name, and the statements settled from these.
-/
namespace Sys2Proof.Machine

section
variable {b : Block}

/-! ### Screening (R263, R265) -/

/-- Screening has reached slot `sl`, and a shed gap that was open ends there (R265). -/
abbrev Block.screenedTo (b : Block) (sl : Nat) : Block :=
  b.modMod fun m => { m with screened := max m.screened sl, shedEp := false, resumeAt := if m.shedEp then some sl else m.resumeAt }

section
variable {sl : Nat} {x : Slot} (hon : b.modOn = true) (hx : b.slot sl = some x) (hp : x.phase = 2) (vals : List (Nat × Q × W32))
include hon hx hp

/-- A settled row is screened by the level: in full, or B4 alone and a shed gap. -/
theorem screeningUpdate_of_settled :
    screeningUpdate sl vals b =
      if 1 ≤ b.level then (vals.foldl (fun b v => b.screenOne true v) b.shedGap).trackRatios
      else (vals.foldl (fun b v => b.screenOne false v) (b.screenedTo sl)).trackRatios := by
  have hrun : ¬(!b.modOn) = true := by simp [hon]
  rw [screeningUpdate, if_neg hrun]
  simp only [hx]
  exact if_neg (not_not_intro hp)

theorem screeningUpdate_of_full_level (hl : b.level = 0) :
    screeningUpdate sl vals b = (vals.foldl (fun b v => b.screenOne false v) (b.screenedTo sl)).trackRatios :=
  (screeningUpdate_of_settled hon hx hp vals).trans (if_neg (by omega))

theorem screeningUpdate_of_shed (hl : 1 ≤ b.level) :
    screeningUpdate sl vals b = (vals.foldl (fun b v => b.screenOne true v) b.shedGap).trackRatios :=
  (screeningUpdate_of_settled hon hx hp vals).trans (if_pos hl)

end

section
variable {ch band ms : Nat} {ratio : Q} (hon : b.bandOn band = true) (hr : b.restarting band = false)
include hon hr

theorem screeningHit_of_lasting (hh : (b.cb ch band).hit = false) (h1 : ratio.lt (Q.ofNat 1) = false) (hms : b.persist band ≤ ms) :
    screeningHit ch band ratio ms b =
      (((b.setCb ch band { b.cb ch band with hit := true, ratio := ratio }).bump Reg.MOD_CNT_HIT).hitRecord ch band ratio).spawnWatch
        ch band ratio :=
  if_neg (by simp [hon, hr, hh, h1, hms])

theorem hitClear_of_lasting (hh : (b.cb ch band).hit = true) (h8 : ratio.lt ⟨4, 5⟩ = true) (hms : b.persist band ≤ ms) :
    hitClear ch band ratio ms b = b.setCb ch band { b.cb ch band with hit := false, ratio := ratio } :=
  if_neg (by simp [hon, hr, hh, h8, hms])

/-! ### Learning and thresholds (R266, R267) -/

theorem learningSample_of_undisturbed (mu sigma : Q) (hh : ([1, 2, 3, 4].any fun d => (b.cb ch d).hit) = false)
    (ha : (b.mod.watches.any fun e => e.2.chans.contains ch && e.2.alarm) = false) (hs : b.mod.shedEp = false) :
    learningSample ch band mu sigma b =
      b.setCb ch band { b.cb ch band with mu := mu, sigma := sigma, samples := (b.cb ch band).samples + 1 } := by
  rw [learningSample, hon, hh, ha, hr, hs]
  rfl

end

theorem thresholdUpdate_of_on {new : Tab ChBand} {defDb : List Q} (hon : b.modOn = true) (hnew : new = b.mod.chans.map (b.adaptOne defDb)) :
    thresholdUpdate defDb b =
      (b.modMod fun m => { m with chans := new, saved := new.map fun e => (e.1, e.2.learntOnly) }).note 0x0808
        ((List.zip b.mod.chans new).countP fun p => p.1.2.thrDb != p.2.2.thrDb) (new.countP fun e => e.2.clamped)
        (new.countP fun e => e.2.learned) := by
  subst hnew
  exact if_neg (by simp [hon])

/-! ### Watches and identification (R268, R270, R272, R273) -/

section
variable {ctx dropped : Nat} {w : Watch} {modes : List ModeEst} (hw : b.watch ctx = some w)

section
include hw

theorem modWatchRetire_of_quiet {t : Nat} (hq : w.quietFrom = some t) (hh : w.host = false) (hs : w.state = 2) (ha : w.alarm = false)
    (hd : b.since t (b.fld F.MOD_WATCH_CTRL_RETIRE_S * tickS) = true) : modWatchRetire ctx b = b.dropWatch ctx 0 := by
  simp only [modWatchRetire, hw, hq]
  exact if_neg (by simp [hh, hs, ha, hd])

theorem watchWindowFilled_of_full (hon : b.modOn = true) (hs : w.state = 1) (hd : b.since w.fillFrom (w.winS * tickS) = true) :
    watchWindowFilled ctx modes dropped b = b.updateWatch ctx w true modes dropped := by
  simp only [watchWindowFilled, hw]
  exact if_neg (by simp [hon, hs, hd])

theorem identificationUpdate_of_due (hon : b.modOn = true) (hs : w.state = 2)
    (hd : b.since w.updAt (w.upd * 50 * tickMs) = true) :
    identificationUpdate ctx modes dropped b = b.updateWatch ctx w false modes dropped := by
  simp only [identificationUpdate, hw]
  exact if_neg (by simp [hon, hs, hd])

end

theorem Block.updateWatch_of_present (refill : Bool) (hl : b.level < 2) (h4 : w.band ≠ 4) (hd : 2 * dropped ≤ w.chans.length) :
    b.updateWatch ctx w refill modes dropped = (b.modMod fun m => { m with modalShed := false }).identify ctx w refill modes := by
  have hkept : b.modalShedNow w.band = false := by simp [Block.modalShedNow, hl]
  rw [Block.updateWatch, hkept, if_neg Bool.false_ne_true]
  dsimp only
  rw [if_neg h4, if_neg (Nat.not_lt.mpr hd)]

end

/-! ### Source location (R277, R278) -/

section
variable {rates : List (Nat × Q × W32)} {ctx mode : Nat} {who : Option (Nat × Nat)}

theorem sourceLocation_of_request {rest : List (Nat × Nat × Option (Nat × Nat))} (hreq : b.mod.locs = (ctx, mode, who) :: rest)
    (hon : b.modOn = true) (hl : b.level < 2) :
    sourceLocation rates b =
      (if (b.locResult ctx mode rates).conf = 0 then b.free.2 else b).endLocation (b.locResult ctx mode rates) (b.locNet rates) who := by
  simp only [sourceLocation, hreq]
  exact if_neg (by simp [hon, hl])

/-- A station found has confidence 1 or 2. -/
theorem locConf_some_ne_zero (inj : Tab Q) (found : Nat × Q) : locConf inj (some found) ≠ 0 := by
  rw [locConf]
  split
  · exact one_ne_zero
  · exact two_ne_zero

section
variable {st : Nat} {p : Q} (hf : b.foundStation (b.injections (b.usable rates)) = some (st, p))
include hf

theorem Block.locResult_station (ctx mode : Nat) : (b.locResult ctx mode rates).station = st := by
  simp only [Block.locResult, hf, Option.map_some, Option.getD_some]

theorem Block.locResult_conf_ne_zero (ctx mode : Nat) : (b.locResult ctx mode rates).conf ≠ 0 := by
  simp only [Block.locResult, hf]
  exact locConf_some_ne_zero _ _

theorem Block.locNet_of_found : b.locNet rates = qField p 1 := by
  simp only [Block.locNet, hf, Option.map_some, Option.getD_some]

end

end

/-! ### Evidence (R279, R280) -/

theorem modEvidencePost_of_not_watch (sl : Nat) (ht : b.topState ≠ stWatch) : modEvidencePost sl b = b.postMod b.modItems :=
  if_neg ht

theorem modEvidencePost_of_watch (sl : Nat) (ht : b.topState = stWatch) : modEvidencePost sl b = b :=
  if_pos ht

end

/-- Settles O27: each event of the oscillation block by the case of its meaning that its guard selects. -/
theorem screeningAndTrackingCommandsTakeEffect : Obligations.ScreeningAndTrackingCommandsTakeEffect := by
  unfold Obligations.ScreeningAndTrackingCommandsTakeEffect
  refine ⟨?screened, ?shed, ?hit, ?clear, ?sample, ?thresholds, ?retire, ?filled, ?due, ?update, ?location, ?found, ?evidence⟩
  case screened =>
    intro s sl x vals b1 hon hx hp hl h1
    subst h1
    exact congrArg Host.Outcome.next (State.onB_eq_putB (screeningUpdate_of_full_level hon hx hp vals hl))
  case shed =>
    intro s sl x vals hon hx hp hl
    exact congrArg Host.Outcome.next (State.onB_eq_putB (screeningUpdate_of_shed hon hx hp vals hl))
  case hit =>
    intro s ch band ms ratio hon hh hr h1 hms
    exact congrArg Host.Outcome.next (State.onB_eq_putB (screeningHit_of_lasting hon hr hh h1 hms))
  case clear =>
    intro s ch band ms ratio hon hh hr h8 hms
    exact congrArg Host.Outcome.next (State.onB_eq_putB (hitClear_of_lasting hon hr hh h8 hms))
  case sample =>
    intro s ch band mu sigma hon hh ha hr hs
    exact congrArg Host.Outcome.next (State.onB_eq_putB (learningSample_of_undisturbed hon hr mu sigma hh ha hs))
  case thresholds =>
    intro s defDb new hon hnew
    exact congrArg Host.Outcome.next (State.onB_eq_putB (thresholdUpdate_of_on hon hnew))
  case retire =>
    intro s ctx t w hw hq hh hs ha hd
    exact congrArg Host.Outcome.next (State.onB_eq_putB (modWatchRetire_of_quiet hw hq hh hs ha hd))
  case filled =>
    intro s ctx dropped w modes hw hon hs hd
    exact congrArg Host.Outcome.next (State.onB_eq_putB (watchWindowFilled_of_full hw hon hs hd))
  case due =>
    intro s ctx dropped w modes hw hon hs hd
    exact congrArg Host.Outcome.next (State.onB_eq_putB (identificationUpdate_of_due hw hon hs hd))
  case update =>
    intro b ctx dropped w refill modes hl h4 hd
    exact Block.updateWatch_of_present refill hl h4 hd
  case location =>
    intro s rates ctx mode who rest res hreq hon hl hres
    subst hres
    exact congrArg Host.Outcome.next (State.onB_eq_putB (sourceLocation_of_request hreq hon hl))
  case found =>
    intro b ctx mode st p rates hf
    exact ⟨Block.locResult_station hf ctx mode, Block.locResult_conf_ne_zero hf ctx mode, Block.locNet_of_found hf⟩
  case evidence =>
    intro s sl
    exact ⟨fun ht => congrArg Host.Outcome.next (State.onB_eq_putB (modEvidencePost_of_not_watch sl ht)),
      fun ht => congrArg Host.Outcome.next (State.onB_eq_self (modEvidencePost_of_watch sl ht))⟩

section
variable {b : Block} {k : Key} {ctx mode : Nat}

/-! ### What taking a packet leaves of the modal tracker -/

@[simp] theorem Block.ycpTake_watch (k : Key) (h : Hdr) (op : Nat) (b : Block) (n : Nat) : (b.ycpTake k h op).watch n = b.watch n := by
  rw [Block.watch, Block.ycpTake_mod, Block.watch]

@[simp] theorem Block.ycpTake_hasMode (k : Key) (h : Hdr) (op : Nat) (b : Block) (n m : Nat) :
    (b.ycpTake k h op).hasMode n m = b.hasMode n m := by
  rw [Block.hasMode, Block.ycpTake_watch, Block.hasMode]

/-! ### Definitions of the host (R268, R269, R270, R287) -/

section
variable {band nch nmMax winS upd zetaAlarm zetaDrop : Nat} {chans : List Nat}

theorem Block.hostCtx_of_free (hc : ctx < 128) (hw : b.watch ctx = none) : b.hostCtx ctx = some (ctx, b) := by
  rw [Block.hostCtx, if_neg (by omega)]
  simp only [hw]

theorem Block.defineWatch_of_free (hp : watchParamsOk band nch nmMax winS upd zetaAlarm zetaDrop chans = true) (hc : ctx < 128)
    (hw : b.watch ctx = none) :
    b.defineWatch ctx band nch nmMax winS upd zetaAlarm zetaDrop chans =
      (⟨yOk, b.setWatch ctx (b.newWatch true band chans nmMax winS upd zetaAlarm zetaDrop)⟩, ctx) := by
  rw [Block.defineWatch, if_neg (by simp [hp, hc]), Block.hostCtx_of_free hc hw]

end

theorem Block.removeWatch_of_tracked (hw : (b.watch ctx).isSome = true) : b.removeWatch ctx = ⟨yOk, b.dropWatch ctx 2⟩ :=
  if_neg (by simp [Option.isNone_iff_eq_none, Option.isSome_iff_ne_none.mp hw])

/-- R287: the defined fields of the five words of a branch are kept. -/
abbrev Block.keepBranch (b : Block) (br : Nat) (w0 w1 w2 w3 w4 : W32) : Block :=
  b.modMod fun m =>
    { m with branches := tabSet m.branches br ⟨w0 &&& 0x8003FFFF, w1 &&& 0x3FFFF, w2, w3 &&& 0x03FF0003, w4 &&& 0x3FF⟩ }

theorem Block.defineBranch_of_known {br : Nat} {w3 : W32} (w0 w1 w2 w4 : W32) (hbr : br < 1024) (hk : bits w3 1 0 ≠ 2) :
    b.defineBranch br w0 w1 w2 w3 w4 = ⟨yOk, b.keepBranch br w0 w1 w2 w3 w4⟩ :=
  if_neg (not_or_intro (Nat.not_le.mpr hbr) hk)

/-! ### Commands of a session (R268, R277, R287, R445) -/

section
variable {s : State} {h : Hdr}

theorem Ready.locate_queued (r : Ready s h 0x0405 ⟨some roleOpr, false⟩) (hm : s.b.hasMode ctx mode = true) :
    s.onB (locate h ctx mode) = s.answer h 0x0405 yPending [] (·.askLocation ctx mode (some (h.session, h.tag))) :=
  r.onB_answer _ _ _ rfl (if_neg (by simp [hm]))

theorem Ready.watchDefine_done {band nch nmMax winS upd zetaAlarm zetaDrop : Nat} {chans : List Nat}
    (r : Ready s h 0x0401 ⟨some roleEng, true⟩) (hp : watchParamsOk band nch nmMax winS upd zetaAlarm zetaDrop chans = true)
    (hc : ctx < 128) (hw : s.b.watch ctx = none) :
    s.onB (watchDefine h ctx band nch nmMax winS upd zetaAlarm zetaDrop chans) = s.answer h 0x0401 yOk (beBytes 1 ctx) fun b =>
      b.setWatch ctx (b.newWatch true band chans nmMax winS upd zetaAlarm zetaDrop) := by
  have hdef := Block.defineWatch_of_free (b := s.taken h 0x0401) hp hc (by rw [Block.ycpTake_watch, hw])
  exact r.onB_answer _ _ _ rfl (by simp only [hdef, WRes.toY, if_true])

theorem Ready.watchRemove_done (r : Ready s h 0x0402 ⟨some roleEng, true⟩) (hw : (s.b.watch ctx).isSome = true) :
    s.onB (watchRemove h ctx) = s.answer h 0x0402 yOk [] (·.dropWatch ctx 2) := by
  have hrem := Block.removeWatch_of_tracked (b := s.taken h 0x0402) (by rw [Block.ycpTake_watch, hw])
  exact r.onB_answer _ _ _ rfl (by simp only [hrem, WRes.toY, if_true])

/-- R445: one entry asked for is returned and latched into the session's copy. -/
theorem Ready.modeReport_one (r : Ready s h 0x0403 ⟨some roleObs, false⟩) (hc : ctx < 128) (hm : mode < 8) :
    s.onB (modeReport h ctx mode) = s.answer h 0x0403 yOk (wordBytes ((s.taken h 0x0403).modeGroup ctx mode)) fun b =>
      b.awrs (accOf h.session) Reg.MOD_M_ (b.modeGroup ctx mode) := by
  have hrange : ¬(128 ≤ ctx ∨ (8 ≤ mode ∧ mode ≠ 0xFF)) := by omega
  have hone : ¬mode = 0xFF := by omega
  refine r.onB_answer _ _ _ rfl ?_
  rw [if_neg hrange]
  simp only [if_neg hone, List.map_cons, List.map_nil, List.flatMap_singleton, List.foldl_cons, List.foldl_nil]

theorem Ready.branchDefine_done {br : Nat} {w3 : W32} (r : Ready s h 0x0404 ⟨some roleEng, true⟩) (w0 w1 w2 w4 : W32) (hbr : br < 1024)
    (hk : bits w3 1 0 ≠ 2) :
    s.onB (branchDefine h br w0 w1 w2 w3 w4) = s.answer h 0x0404 yOk [] (·.keepBranch br w0 w1 w2 w3 w4) :=
  r.onB_answer _ _ _ rfl (by rw [Block.defineBranch_of_known w0 w1 w2 w4 hbr hk]; rfl)

end

/-! ### Windows (R277, R284, R286, R287, R570) -/

section
variable {acc : Nat} {b1 : Block}

theorem locateRequestW_of_mode (hm : b.mayWrite k acc roleOpr false = yOk)
    (h1 : b1 = (b.aput acc F.MOD_LOC_SEL_CTX ctx).aput acc F.MOD_LOC_SEL_MODE mode) (hh : b1.hasMode ctx mode = true) :
    locateRequestW acc ctx mode k b = ⟨yOk, b1.askLocation ctx mode none⟩ := by
  rw [locateRequestW, if_neg (not_not_intro hm)]
  simp only [← h1, hh, if_true]

/-- The four bands' RMS and thresholds of a channel, then its flags (R286). -/
def Block.channelWords (b : Block) (ch : Nat) : List W32 :=
  let bit (base : Nat) (p : Nat → Bool) := ([1, 2, 3, 4].filter p).map (base - 1 + ·)
  ([1, 2, 3, 4].flatMap fun d => [(b.cb ch d).rms, b.thrWord ch d]) ++
    [BitVec.ofNat 32 (maskOf (bit 0 (fun d => (b.cb ch d).hit) ++ bit 4 (fun d => (b.cb ch d).learned) ++
      bit 8 (fun d => (b.cb ch d).clamped) ++ bit 12 (fun d => b.restarting d)))]

theorem channelWindowLoad_eq (acc ch : Nat) (b : Block) :
    channelWindowLoad acc ch b =
      (b.aput acc F.MOD_CH_SEL_CH (ch % 2 ^ 18)).awrs acc Reg.MOD_CH_ (b.channelWords (ch % 2 ^ 18)) := rfl

theorem Block.channelWords_length (b : Block) (ch : Nat) : (b.channelWords ch).length = 9 := rfl

theorem Block.channelWords_band {d : Nat} (b : Block) (ch : Nat) (hd : d < 4) :
    (b.channelWords ch).getD (2 * d) 0 = (b.cb ch (d + 1)).rms ∧ (b.channelWords ch).getD (2 * d + 1) 0 = b.thrWord ch (d + 1) := by
  match d, hd with
  | 0, _ | 1, _ | 2, _ | 3, _ => exact ⟨rfl, rfl⟩

/-- A window's action writes what it did and tells its result in ERR, once the accessor may act. -/
theorem Block.winAct_b {r : WRes} (err : Fld) (act : Block → WRes) (hm : b.mayWrite k acc roleEng true = yOk) (hr : r = act b) :
    (b.winAct k acc err act).b = r.b.aput acc err (errCode r.status) := by
  rw [Block.winAct_of_allowed err act hm, hr]

end

end

/-- Settles O28: each command of the host by the case of its meaning that its guard selects, the windows through `winAct`. -/
theorem modalHostCommandsTakeEffect : Obligations.ModalHostCommandsTakeEffect := by
  unfold Obligations.ModalHostCommandsTakeEffect
  refine ⟨?locate, ?request, ?define, ?remove, ?report, ?branch, ?loads, ?commit, ?drop, ?branchCommit⟩
  case locate =>
    intro s h ctx mode r hm
    exact congrArg Host.Outcome.next (r.locate_queued hm)
  case request =>
    intro s acc ctx mode b1 hm h1 hh
    exact congrArg Host.Outcome.next (State.onB_eq_putB (congrArg WRes.b (locateRequestW_of_mode hm h1 hh)))
  case define =>
    intro s h ctx band nch nmMax winS upd zetaAlarm zetaDrop chans r hp hc hw
    exact congrArg Host.Outcome.next (r.watchDefine_done hp hc hw)
  case remove =>
    intro s h ctx r hw
    exact congrArg Host.Outcome.next (r.watchRemove_done hw)
  case report =>
    intro s h ctx mode r hc hm
    exact congrArg Host.Outcome.next (r.modeReport_one hc hm)
  case branch =>
    intro s h br w0 w1 w2 w3 w4 r hbr hk
    exact congrArg Host.Outcome.next (r.branchDefine_done w0 w1 w2 w4 hbr hk)
  case loads =>
    intro s acc n
    exact ⟨congrArg Host.Outcome.next (State.onB_eq_putB rfl), ⟨_, rfl, congrArg Host.Outcome.next (State.onB_eq_putB rfl)⟩,
      s.b.channelWords (n % 2 ^ 18), s.b.channelWords_length _, fun _ hd => s.b.channelWords_band _ hd,
      congrArg Host.Outcome.next (State.onB_eq_putB (channelWindowLoad_eq acc n s.b))⟩
  case commit =>
    intro s acc ctx b1 r h1 hm hr
    subst h1
    exact congrArg Host.Outcome.next (State.onB_eq_putB (Block.winAct_b F.MOD_W_SEL_ERR _ hm hr))
  case drop =>
    intro s acc ctx b1 r h1 hm hr
    subst h1
    exact congrArg Host.Outcome.next (State.onB_eq_putB (Block.winAct_b F.MOD_W_SEL_ERR _ hm hr))
  case branchCommit =>
    intro s acc br b1 r h1 hm hr
    subst h1
    exact congrArg Host.Outcome.next (State.onB_eq_putB (Block.winAct_b F.MOD_BR_SEL_ERR _ hm hr))

end Sys2Proof.Machine

/-!
SUPPORT. Islanding: what an evaluation of loss of mains leaves of the vector shift, what the commands of the block do in the cases the
statements name, and the statements settled from these.
-/
namespace Sys2Proof.Machine

section
variable {b : Block} {theta th4 fr4 : Q}

/-! ### Loss of mains: an evaluation (R304) -/

/-- An element asserted where it was off is counted and recorded. -/
def Block.lomAssert (b : Block) (hit : Bool) (e : LomElem) (cnt which value t : Nat) : Block :=
  if hit && !e.on then (b.bump cnt).lomRecord which true value t else b

@[simp] theorem Block.lomAssert_isl (b : Block) (hit : Bool) (e : LomElem) (cnt which value t : Nat) :
    (b.lomAssert hit e cnt which value t).isl = b.isl := by
  rw [Block.lomAssert]
  split <;> rfl

@[simp] theorem Block.lomAssert_now (b : Block) (hit : Bool) (e : LomElem) (cnt which value t : Nat) :
    (b.lomAssert hit e cnt which value t).now = b.now := by
  rw [Block.lomAssert]
  split <;> rfl

/-- The element's counter is one more exactly where the element was off before. -/
theorem Block.lomAssert_rd_cnt (b : Block) (hit : Bool) (e : LomElem) (cnt which value t : Nat) :
    (b.lomAssert hit e cnt which value t).rd cnt = if hit && !e.on then (b.bump cnt).rd cnt else b.rd cnt := by
  rw [Block.lomAssert]
  split <;> rfl

theorem Block.lomAssert_rd_ne (b : Block) (hit : Bool) (e : LomElem) {cnt a : Nat} (which value t : Nat) (h : a ≠ cnt) :
    (b.lomAssert hit e cnt which value t).rd a = b.rd a := by
  rw [Block.lomAssert]
  split
  · exact b.rd_bump_ne h
  · rfl

/-- The end of the dip block after a delivery. -/
def Block.lomBlockAfter (b : Block) (low : Bool) : Nat := if low then b.now + b.tBlock else b.isl.lomBlockTo

/-- The delivery kept among the last four, with the end of the dip block. -/
def Block.lomTake (b : Block) (theta freq : Q) (low : Bool) : Block :=
  b.modIsl fun x => { x with qc := ((theta, freq) :: x.qc).take 4, lomBlockTo := b.lomBlockAfter low }

/-- How far the angle moved over the last cycle, less what the frequency four deliveries before explains. -/
def Block.vsMove (b : Block) (theta th4 fr4 : Q) : Q :=
  Q.abs (wrap180 ((theta.sub th4).sub (((Q.ofNat 360).mul (fr4.sub (Q.ofNat b.f0))).div (Q.ofNat b.f0))))

/-- The vector shift is on, outside a dip block, and its movement exceeds the threshold. -/
def Block.vsHit (b : Block) (theta th4 fr4 : Q) (low : Bool) : Bool :=
  b.flag F.ISL_LOM_VS_EN && !decide (b.now < b.lomBlockAfter low) && (Q.norm (b.fld F.ISL_LOM_VS_THR) 10).lt (b.vsMove theta th4 fr4)

theorem Block.vsHit_of_above (he : b.flag F.ISL_LOM_VS_EN = true) (hb : b.isl.lomBlockTo ≤ b.now)
    (hthr : (Q.norm (b.fld F.ISL_LOM_VS_THR) 10).lt (b.vsMove theta th4 fr4) = true) : b.vsHit theta th4 fr4 false = true := by
  have hopen : ¬b.now < b.lomBlockAfter false := Nat.not_lt.mpr hb
  simp only [Block.vsHit, he, hthr, decide_eq_false hopen, Bool.not_false, Bool.and_self]

/-- The ROCOF over the last cycle, in Hz/s. -/
def Block.rocofMove (b : Block) (freq fr4 : Q) : Q := (freq.sub fr4).mul (Q.ofNat b.f0)

/-- The ROCOF element with its runs of values above the threshold and below 0.8 of it. -/
def Block.rocofCounted (b : Block) (freq fr4 : Q) : LomElem :=
  { b.isl.lomRocof with
    run := if (Q.norm (b.fld F.ISL_LOM_ROCOF_THR) 100).lt (Q.abs (b.rocofMove freq fr4)) then b.isl.lomRocof.run + 1 else 0
    low := if (Q.abs (b.rocofMove freq fr4)).lt ((Q.norm (b.fld F.ISL_LOM_ROCOF_THR) 100).mul ⟨4, 5⟩) then b.isl.lomRocof.low + 1 else 0 }

/-- The ROCOF element is on, outside a dip block, and its run above the threshold is long enough. -/
def Block.rocofHit (b : Block) (freq fr4 : Q) (low : Bool) : Bool :=
  b.flag F.ISL_LOM_ROCOF_EN && !decide (b.now < b.lomBlockAfter low) && decide (b.fld F.ISL_LOM_ROCOF_N ≤ (b.rocofCounted freq fr4).run)

/-- An element after an evaluation that found it to hit or not. -/
def LomElem.evaluated (e : LomElem) (hit : Bool) (now : Nat) : LomElem :=
  { e with on := e.on || hit, lastOn := if hit then now else e.lastOn }

/-- Both elements kept as evaluated at this instant. -/
def Block.lomKeep (b : Block) (v : LomElem) (vHit : Bool) (r : LomElem) (rHit : Bool) : Block :=
  b.modIsl fun x => { x with lomVs := v.evaluated vHit b.now, lomRocof := r.evaluated rHit b.now }

section
variable (hlom : b.flag F.ISL_CTRL_LOM_EN = true) (hqc : b.flag F.FLT_PMU_QC_EN = true) (hpast : b.isl.qc[3]? = some (th4, fr4))
include hlom hqc hpast

/-- An evaluation with four earlier deliveries takes the delivery, asserts the elements that hit and keeps both. -/
theorem Block.lomEvaluate_of_past (t : Nat) (theta freq : Q) (low : Bool) :
    b.lomEvaluate t theta freq low =
      (((b.lomTake theta freq low).lomAssert (b.vsHit theta th4 fr4 low) b.isl.lomVs Reg.ISL_CNT_LOM_VS 0
          (qField (b.vsMove theta th4 fr4) 10) t).lomAssert (b.rocofHit freq fr4 low) b.isl.lomRocof Reg.ISL_CNT_LOM_ROCOF 1
          (qField (b.rocofMove freq fr4) 1000) t).lomKeep
        b.isl.lomVs (b.vsHit theta th4 fr4 low) (b.rocofCounted freq fr4) (b.rocofHit freq fr4 low) := by
  have hrun : ¬(!(b.flag F.ISL_CTRL_LOM_EN && b.flag F.FLT_PMU_QC_EN)) = true := by simp [hlom, hqc]
  rw [Block.lomEvaluate, if_neg hrun]
  simp only [hpast]
  rfl

theorem Block.lomEvaluate_lomVs (t : Nat) (theta freq : Q) (low : Bool) :
    (b.lomEvaluate t theta freq low).isl.lomVs = b.isl.lomVs.evaluated (b.vsHit theta th4 fr4 low) b.now := by
  rw [Block.lomEvaluate_of_past hlom hqc hpast, Block.lomKeep, Block.modIsl_isl, Block.lomAssert_now, Block.lomAssert_now]
  rfl

theorem Block.lomEvaluate_rd_cntVs (t : Nat) (theta freq : Q) (low : Bool) :
    (b.lomEvaluate t theta freq low).rd Reg.ISL_CNT_LOM_VS =
      if b.vsHit theta th4 fr4 low && !b.isl.lomVs.on then (b.bump Reg.ISL_CNT_LOM_VS).rd Reg.ISL_CNT_LOM_VS
      else b.rd Reg.ISL_CNT_LOM_VS := by
  rw [Block.lomEvaluate_of_past hlom hqc hpast, Block.lomKeep, Block.modIsl_rd, Block.lomAssert_rd_ne _ _ _ _ _ _ (by decide),
    Block.lomAssert_rd_cnt]
  rfl

end

end

/-- Settles O30: a movement above the threshold outside a dip block is a hit, and a hit asserts and counts the element. -/
theorem vectorShiftAboveItsThresholdAsserts : Obligations.VectorShiftAboveItsThresholdAsserts := by
  unfold Obligations.VectorShiftAboveItsThresholdAsserts
  intro b t theta freq th4 fr4 hlom hqc hvs hpast hb hthr
  have hhit : b.vsHit theta th4 fr4 false = true := Block.vsHit_of_above hvs hb hthr
  have helem := Block.lomEvaluate_lomVs hlom hqc hpast t theta freq false
  have hcnt := Block.lomEvaluate_rd_cntVs hlom hqc hpast t theta freq false
  rw [hhit] at helem hcnt
  refine ⟨?on, ?lastOn, ?count⟩
  case on => rw [helem, LomElem.evaluated, Bool.or_true]
  case lastOn => rw [helem, LomElem.evaluated, if_pos rfl]
  case count =>
    rw [hcnt, Bool.true_and]
    cases b.isl.lomVs.on with
    | true => rfl
    | false => exact b.rd_bump _

section
variable {b : Block} {x : Slot} {run : Nat}

/-! ### ISLAND_EVALUATION (R301, R308, R309) -/

section
variable (hx : b.atStage 1 = some x)
include hx

theorem islandEvaluation_of_on (hon : b.flag F.ISL_CTRL_EN = true) (ht : b.topState ≠ stWatch) :
    islandEvaluation run b = (b.islEvaluate x).finishStage x.s 1 run := by
  simp only [islandEvaluation, hx, hon, Bool.not_true, Bool.false_eq_true, if_false, if_neg ht]

theorem islandEvaluation_of_off (hoff : b.flag F.ISL_CTRL_EN = false) :
    islandEvaluation run b = (b.postIsl x.s false false false 0).finishStage x.s 1 run := by
  simp only [islandEvaluation, hx, hoff, Bool.not_false, if_true]

/-- R309: in WATCH items 0 to 4 and 16 to 31 hold their last values, beside those of loss of mains. -/
theorem islandEvaluation_of_watch {b1 : Block} (hon : b.flag F.ISL_CTRL_EN = true) (ht : b.topState = stWatch)
    (h1 : b1 = b.putFlag F.ISL_STAT_LOCAL_MODE true) :
    islandEvaluation run b =
      (b1.postIsl x.s true true false (((b1.isl.items &&& 0xFFFF001F) ||| 2 ^ 15) ||| maskOf b1.lomItems)).finishStage x.s 1 run := by
  subst h1
  simp only [islandEvaluation, hx, hon, Bool.not_true, Bool.false_eq_true, if_false, if_pos ht]

end

/-! ### GOOSE (R297) -/

section
variable {m : GooseMsg} {n : Nat} {g : GooseSub}

theorem gooseMessageReceive_of_subscribed (hnds : m.ndsCom = false) (hg : b.gooseFor m = some (n, g)) (hc : m.confRev = g.confRev) :
    gooseMessageReceive m b =
      b.modIsl fun x =>
        { x with
          gooses := tabSet x.gooses n
            { g with alive := true, confErr := false, sim := m.sim, liveTo := b.now + m.ttl * tickMs, members := m.members } } := by
  simp only [gooseMessageReceive, hnds, hg, Bool.false_eq_true, if_false, if_neg (not_not_intro hc)]

theorem gooseMessageReceive_of_unknown (hnds : m.ndsCom = false) (hg : b.gooseFor m = none) :
    gooseMessageReceive m b = b.bump Reg.ISL_CNT_GOOSE_REJ := by
  simp only [gooseMessageReceive, hnds, hg, Bool.false_eq_true, if_false]

theorem islGooseTal_of_expired (hg : tabGet b.isl.gooses n = some g) (ha : g.alive = true) (hl : g.liveTo ≤ b.now) :
    islGooseTal n b =
      ((b.modIsl fun x => { x with gooses := tabSet x.gooses n { g with alive := false } }).bump Reg.ISL_CNT_GOOSE_TAL).note 0x0908 n := by
  simp only [islGooseTal, hg]
  exact if_neg (by simp [ha, hl])

end

/-! ### Loss of mains: the hold (R304) -/

theorem lomHoldExpiry_of_vs {value : Nat} (hon : b.isl.lomVs.on = true)
    (hd : b.since b.isl.lomVs.lastOn (b.fld F.ISL_LOM_HOLD * 100 * tickMs) = true) :
    lomHoldExpiry 0 value b =
      (b.modIsl fun x => { x with lomVs := { x.lomVs with on := false } }).lomRecord 0 false value b.tai :=
  if_neg (by simp [hon, hd])

theorem lomHoldExpiry_of_rocof {value : Nat} (hon : b.isl.lomRocof.on = true)
    (hd : b.since b.isl.lomRocof.lastOn (b.fld F.ISL_LOM_HOLD * 100 * tickMs) = true)
    (hlow : b.fld F.ISL_LOM_ROCOF_N ≤ b.isl.lomRocof.low) :
    lomHoldExpiry 1 value b =
      (b.modIsl fun x => { x with lomRocof := { x.lomRocof with on := false } }).lomRecord 1 false value b.tai :=
  if_neg (by simp [hon, hd, hlow])

/-! ### Definitions (R167, R292) -/

/-- Definitions that join those of the next close. -/
abbrev Block.queueDefs (b : Block) (ds : List IslDef) : Block := b.modIsl fun x => { x with pending := x.pending ++ ds }

/-- R167: a definition passes where the fast lane would hold at most 8,192 channels. -/
theorem Block.addIslDef_of_fits {d : IslDef} (hd : (b.islNext.apply d).channels.length ≤ 8192) :
    b.addIslDef d = ⟨yOk, b.queueDefs [d]⟩ :=
  if_neg (Nat.not_lt.mpr hd)

theorem Block.commitStation_of_passed {st : Nat} {w : List W32} (hst : st < 1024)
    (hrep : ((stationOf w).en && !(stationOf w).reps.all (b.repOk st)) = false)
    (hd : (b.islNext.apply (.station st (stationOf w))).channels.length ≤ 8192) :
    b.commitStation st w = ⟨yOk, b.queueDefs [.station st (stationOf w)]⟩ := by
  rw [Block.commitStation, if_neg (Nat.not_le.mpr hst), if_neg (by simp [hrep]), Block.addIslDef_of_fits hd]

theorem Block.commitTie_of_passed {n : Nat} {w : List W32} (hn : n < 4096) (ha : bits (tieOf w).srcA 31 30 ≠ 3)
    (hb : bits (tieOf w).srcB 31 30 ≠ 3) (hd : (b.islNext.apply (.tie n (tieOf w))).channels.length ≤ 8192) :
    b.commitTie n w = ⟨yOk, b.queueDefs [.tie n (tieOf w)]⟩ := by
  rw [Block.commitTie, if_neg (not_or_intro (Nat.not_le.mpr hn) (not_or_intro ha hb)), Block.addIslDef_of_fits hd]

theorem Block.commitGoose_of_passed {n : Nat} {w : List W32} (hn : n < 256)
    (hd : (b.islNext.apply (.goose n (gooseOf w))).channels.length ≤ 8192) :
    b.commitGoose n w = ⟨yOk, b.queueDefs [.goose n (gooseOf w)]⟩ := by
  rw [Block.commitGoose, if_neg (Nat.not_le.mpr hn), Block.addIslDef_of_fits hd]

/-! ### Commands of a session (R292, R445) -/

@[simp] theorem Block.ycpTake_islNext (k : Key) (h : Hdr) (op : Nat) (b : Block) : (b.ycpTake k h op).islNext = b.islNext := by
  rw [Block.islNext, Block.ycpTake_isl, Block.islNext]

section
variable {s : State} {h : Hdr} {n : Nat} {w : List W32}

theorem Ready.stationDefine_done (r : Ready s h 0x0501 ⟨some roleEng, true⟩) (hw : w.length = 11) (hn : n < 1024)
    (hrep : ((stationOf w).en && !(stationOf w).reps.all ((s.taken h 0x0501).repOk n)) = false)
    (hd : (s.b.islNext.apply (.station n (stationOf w))).channels.length ≤ 8192) :
    s.onB (stationDefine h n w) = s.answer h 0x0501 yOk [] (·.queueDefs [.station n (stationOf w)]) := by
  have hdef := Block.commitStation_of_passed hn hrep (by rwa [Block.ycpTake_islNext])
  exact r.onB_answer _ _ _ rfl (by rw [if_neg (not_not_intro hw), hdef]; rfl)

theorem Ready.areaDefine_done {area : Nat} {stations : List Nat} (r : Ready s h 0x0502 ⟨some roleEng, true⟩) (ha : area < 64)
    (hk : stations.all s.b.islNext.knows = true) :
    s.onB (areaDefine h area stations) = s.answer h 0x0502 yOk [] (·.queueDefs (stations.map fun n => .area n area)) :=
  r.onB_answer _ _ _ rfl (if_neg (by simp [hk, Nat.le_of_lt_succ ha]))

theorem Ready.tieDefine_done (r : Ready s h 0x0503 ⟨some roleEng, true⟩) (hw : w.length = 3) (hn : n < 4096)
    (ha : bits (tieOf w).srcA 31 30 ≠ 3) (hb : bits (tieOf w).srcB 31 30 ≠ 3)
    (hd : (s.b.islNext.apply (.tie n (tieOf w))).channels.length ≤ 8192) :
    s.onB (tieDefine h n w) = s.answer h 0x0503 yOk [] (·.queueDefs [.tie n (tieOf w)]) := by
  have hdef := Block.commitTie_of_passed (b := s.taken h 0x0503) hn ha hb (by rwa [Block.ycpTake_islNext])
  exact r.onB_answer _ _ _ rfl (by rw [if_neg (not_not_intro hw), hdef]; rfl)

theorem Ready.gooseSub_done (r : Ready s h 0x0504 ⟨some roleEng, true⟩) (hw : w.length = 3) (hn : n < 256)
    (hd : (s.b.islNext.apply (.goose n (gooseOf w))).channels.length ≤ 8192) :
    s.onB (gooseSub h n w) = s.answer h 0x0504 yOk [] (·.queueDefs [.goose n (gooseOf w)]) := by
  have hdef := Block.commitGoose_of_passed (b := s.taken h 0x0504) hn (by rwa [Block.ycpTake_islNext])
  exact r.onB_answer _ _ _ rfl (by rw [if_neg (not_not_intro hw), hdef]; rfl)

/-- R445: one entry asked for is returned and latched into the session's copy. -/
theorem Ready.islandReport_one (r : Ready s h 0x0505 ⟨some roleObs, false⟩) (hn : n < 16) :
    s.onB (islandReport h n) = s.answer h 0x0505 yOk (wordBytes ((s.taken h 0x0505).islandGroup n)) fun b =>
      b.awrs (accOf h.session) Reg.ISL_IS_ (b.islandGroup n) := by
  have hrange : ¬(16 ≤ n ∧ n ≠ 0xFF) := by omega
  have hone : ¬n = 0xFF := by omega
  refine r.onB_answer _ _ _ rfl ?_
  rw [if_neg hrange]
  simp only [if_neg hone, List.map_cons, List.map_nil, List.flatMap_singleton, List.foldl_cons, List.foldl_nil]

end

end

/-- Settles O29: each command by the case of its meaning that its guard selects, the windows through `winAct`. -/
theorem islandCommandsTakeEffect : Obligations.IslandCommandsTakeEffect := by
  unfold Obligations.IslandCommandsTakeEffect
  refine ⟨?on, ?off, ?watch, ?renewed, ?unknown, ?expired, ?vsHold, ?rocofHold, ?station, ?area, ?tie, ?goose, ?report, ?loads,
    ?stationCommit, ?tieCommit, ?gooseCommit⟩
  case on =>
    intro s run x hx hon ht
    exact congrArg Host.Outcome.next (State.onB_eq_putB (islandEvaluation_of_on hx hon ht))
  case off =>
    intro s run x hx hoff
    exact congrArg Host.Outcome.next (State.onB_eq_putB (islandEvaluation_of_off hx hoff))
  case watch =>
    intro s run x b1 hx hon ht h1
    exact congrArg Host.Outcome.next (State.onB_eq_putB (islandEvaluation_of_watch hx hon ht h1))
  case renewed =>
    intro s m n g hnds hg hc
    exact congrArg Host.Outcome.next (State.onB_eq_putB (gooseMessageReceive_of_subscribed hnds hg hc))
  case unknown =>
    intro s m hnds hg
    exact congrArg Host.Outcome.next (State.onB_eq_putB (gooseMessageReceive_of_unknown hnds hg))
  case expired =>
    intro s n g hg ha hl
    exact congrArg Host.Outcome.next (State.onB_eq_putB (islGooseTal_of_expired hg ha hl))
  case vsHold =>
    intro s value hon hd
    exact congrArg Host.Outcome.next (State.onB_eq_putB (lomHoldExpiry_of_vs hon hd))
  case rocofHold =>
    intro s value hon hd hlow
    exact congrArg Host.Outcome.next (State.onB_eq_putB (lomHoldExpiry_of_rocof hon hd hlow))
  case station =>
    intro s h st w r hw hst hrep hd
    exact congrArg Host.Outcome.next (r.stationDefine_done hw hst hrep hd)
  case area =>
    intro s h area stations r ha hk
    exact congrArg Host.Outcome.next (r.areaDefine_done ha hk)
  case tie =>
    intro s h n w r hw hn ha hb hd
    exact congrArg Host.Outcome.next (r.tieDefine_done hw hn ha hb hd)
  case goose =>
    intro s h n w r hw hn hd
    exact congrArg Host.Outcome.next (r.gooseSub_done hw hn hd)
  case report =>
    intro s h i r hi
    exact congrArg Host.Outcome.next (r.islandReport_one hi)
  case loads =>
    intro s acc n
    exact ⟨congrArg Host.Outcome.next (State.onB_eq_putB rfl), congrArg Host.Outcome.next (State.onB_eq_putB rfl),
      congrArg Host.Outcome.next (State.onB_eq_putB rfl)⟩
  case stationCommit =>
    intro s acc n b1 r h1 hm hr
    subst h1
    exact congrArg Host.Outcome.next (State.onB_eq_putB (Block.winAct_b F.ISL_ST_SEL_ERR _ hm hr))
  case tieCommit =>
    intro s acc n b1 r h1 hm hr
    subst h1
    exact congrArg Host.Outcome.next (State.onB_eq_putB (Block.winAct_b F.ISL_TIE_SEL_ERR _ hm hr))
  case gooseCommit =>
    intro s acc n b1 r h1 hm hr
    subst h1
    exact congrArg Host.Outcome.next (State.onB_eq_putB (Block.winAct_b F.ISL_GS_SEL_ERR _ hm hr))

end Sys2Proof.Machine

/-!
SUPPORT. Bells and the guard's settings: the timers of a bell over unbroken runs of its logic, the bell sequence number and its place
in the frame, what the commands of the settings do in the cases the statements name, and the statements settled from these.
-/
namespace Sys2Proof.Machine

/-! ### A bell's timers (R330) -/

section
variable (x : Bell) (e : BellEntry) (u : Nat)

@[simp] theorem Bell.step_true_trueFrom : (x.step e true u).trueFrom = some (x.trueFrom.getD u) := rfl

theorem Bell.step_true_on : (x.step e true u).on = (x.on || decide (x.trueFrom.getD u + e.pickup * tickMs ≤ u)) := rfl

@[simp] theorem Bell.step_false_falseFrom : (x.step e false u).falseFrom = some (x.falseFrom.getD u) := rfl

@[simp] theorem Bell.step_release (logic : Bool) : (x.step e logic u).release = 0 := rfl

end

section
variable {x : Bell} {e : BellEntry}

theorem Bell.step_false_on (hr : x.release = 0) (hl : e.latch = false) (u : Nat) :
    (x.step e false u).on = (x.on && decide (u < x.falseFrom.getD u + e.dropout * tickMs)) := by
  simp [Bell.step, hr, hl]

/-- Without LATCH a false logic deasserts a bell whose DROPOUT is 0, an ordered release or not. -/
theorem Bell.step_false_on_of_no_dropout (hl : e.latch = false) (hd : e.dropout = 0) {u : Nat} (hf : x.falseFrom.getD u ≤ u) :
    (x.step e false u).on = false := by
  simp [Bell.step, hl, hd, hf]

/-- A run of true that began at `t` asserts the bell at the first evaluation PICKUP or more after `t`. -/
theorem Bell.foldl_step_true_on {t : Nat} (ht : x.trueFrom = some t) (l : List Nat) :
    (l.foldl (fun y u => y.step e true u) x).on = (x.on || l.any fun u => decide (t + e.pickup * tickMs ≤ u)) := by
  induction l generalizing x with
  | nil => simp
  | cons u l ih =>
    have hrun : (x.step e true u).trueFrom = some t := by simp [ht]
    rw [List.foldl_cons, ih hrun, Bell.step_true_on, ht, Option.getD_some, List.any_cons, Bool.or_assoc]

/-- A run of false that began at `t` keeps a bell without LATCH while every evaluation lies less than DROPOUT after `t`. -/
theorem Bell.foldl_step_false_on {t : Nat} (hf : x.falseFrom = some t) (hr : x.release = 0) (hl : e.latch = false) (l : List Nat) :
    (l.foldl (fun y u => y.step e false u) x).on = (x.on && l.all fun u => decide (u < t + e.dropout * tickMs)) := by
  induction l generalizing x with
  | nil => simp
  | cons u l ih =>
    have hrun : (x.step e false u).falseFrom = some t := by simp [hf]
    rw [List.foldl_cons, ih hrun (x.step_release e u false), Bell.step_false_on hr hl, hf, Option.getD_some, List.all_cons,
      Bool.and_assoc]

end

/-- Settles O34: the first evaluation of a run fixes where it began, and the rest of the run keeps that beginning. -/
theorem bellAssertsAndDeassertsByItsTimers : Obligations.BellAssertsAndDeassertsByItsTimers := by
  unfold Obligations.BellAssertsAndDeassertsByItsTimers
  refine ⟨?runTrue, ?runFalse, ?follows⟩
  case runTrue =>
    intro x e t l hx
    have hrun : (x.step e true t).trueFrom = some t := by simp [hx]
    rw [List.foldl_cons, Bell.foldl_step_true_on hrun, Bell.step_true_on, hx, Option.getD_none, List.any_cons, Bool.or_assoc]
  case runFalse =>
    intro x e t l hx hr hl
    have hrun : (x.step e false t).falseFrom = some t := by simp [hx]
    rw [List.foldl_cons, Bell.foldl_step_false_on hrun (x.step_release e t false) hl, Bell.step_false_on hr hl, hx,
      Option.getD_none, List.all_cons, Bool.and_assoc]
  case follows =>
    intro x e logic t hp hd hl hT hF
    cases logic with
    | true => simp [Bell.step_true_on, hp, hT]
    | false => exact Bell.step_false_on_of_no_dropout hl hd hF

/-! ### What a BELLF leaves of the guard (R340 to R342) -/

section
variable (b : Block)

@[simp] theorem Block.wrWords_grd (a : Nat) (ws : List W32) : (b.wrWords a ws).grd = b.grd := by
  induction ws generalizing b a with
  | nil => rfl
  | cons w ws ih => exact ih (b.wr a w) (a + 4)

@[simp] theorem Block.lastGroup_grd (x : Slot) : (b.lastGroup x).grd = b.grd := by
  simp [Block.lastGroup]

/-- A fixed stage that ends changes the slot and the ledger's registers alone. -/
@[simp] theorem Block.finishStage_grd (s i run : Nat) : (b.finishStage s i run).grd = b.grd := by
  unfold Block.finishStage
  split
  · rfl
  · dsimp only
    repeat' split
    all_goals simp

@[simp] theorem Block.send_grd (p kind len : Nat) (body : List Nat) : (b.send p kind len body).grd = b.grd := by
  unfold Block.send
  split
  · rfl
  · split <;> simp

@[simp] theorem Block.sendNet_grd (net kind len : Nat) (body : List Nat) : (b.sendNet net kind len body).grd = b.grd := by
  unfold Block.sendNet
  split <;> simp

@[simp] theorem Block.sendDatagram_grd (s : Nat) (pkt : List Byte) : (b.sendDatagram s pkt).grd = b.grd := by
  simp [Block.sendDatagram]

@[simp] theorem Block.putEvt_grd (s : Nat) (pkt : List Byte) : (b.putEvt s pkt).grd = b.grd := by
  unfold Block.putEvt
  dsimp only
  split <;> simp

@[simp] theorem Block.eventTo_grd (s : Nat) (u : Sub) (record : List Byte) : (b.eventTo s u record).grd = b.grd := by
  unfold Block.eventTo
  dsimp only
  split <;> simp

theorem foldl_grd {α : Type} {f : Block → α → Block} (hf : ∀ c a, (f c a).grd = c.grd) (l : List α) : (l.foldl f b).grd = b.grd := by
  induction l generalizing b with
  | nil => rfl
  | cons a l ih => exact (ih (f b a)).trans (hf b a)

@[simp] theorem Block.event_grd (kind : Nat) (admits : Nat → Bool) (record : List Byte) : (b.event kind admits record).grd = b.grd :=
  foldl_grd b (fun c s => foldl_grd c (fun d u => d.eventTo_grd s u record) _) _

@[simp] theorem Block.bellfOut_grd (n : NetSection) (body : List Byte) : (b.bellfOut n body).grd = b.grd := by
  simp [Block.bellfOut]

@[simp] theorem Block.bellfEvent_grd (shown : Nat × Nat) (body : List Byte) : (b.bellfEvent shown body).grd = b.grd := by
  unfold Block.bellfEvent
  split <;> simp

@[simp] theorem Block.bellfBreach_grd (dep d : Nat) : (b.bellfBreach dep d).grd = b.grd := by
  unfold Block.bellfBreach
  split <;> simp

end

/-! ### The bell sequence number (R340, R341) -/

/-- SEQ(S) is the slot's time in units of 2^-16 s, rounded down. -/
theorem seqOf_eq (t : Nat) : seqOf t = t * 2 ^ 16 / tickS := by
  unfold seqOf tickS
  omega

theorem seqOf_lt_seqOf {t u : Nat} (h : t + 260375 ≤ u) : seqOf t < seqOf u := by
  simp only [seqOf_eq, tickS]
  omega

/-- In a package's force BELLF_SEND takes the next number, whether the unit sends its network bells or not. -/
theorem bellfSend_bseq {b : Block} {x : Slot} (run : Nat) (k : Key) (hx : b.atStage 4 = some x) (hg : b.grd.gsp.isSome = true) :
    (bellfSend run k b).grd.bseq = b.nextBseq x.s := by
  obtain ⟨g, hg⟩ := Option.isSome_iff_exists.mp hg
  have hgsp : (b.finishStage x.s 4 run).grd.gsp = some g := by rw [Block.finishStage_grd, hg]
  have hnext : (b.finishStage x.s 4 run).nextBseq x.s = b.nextBseq x.s := by rw [Block.nextBseq, Block.finishStage_grd, Block.nextBseq]
  cases hs : (b.finishStage x.s 4 run).sendsBells with
  | true => simp [bellfSend_of_sender (k := k) hx rfl hgsp hs rfl, hnext]
  | false => simp [bellfSend_of_silent (k := k) hx rfl hgsp hs, hnext]

section
variable (k : Key) (b : Block) (g : GspPkg) (x : Slot) (run : Nat)

/-- The first fields of a BELLF: the mark, the format, FLAGS, the group and BSEQ. -/
theorem Block.bellfFrame_head : ∃ rest, (b.bellfFrame k g x run).1 =
    beBytes 2 0x4246 ++ (beBytes 1 1 ++ (beBytes 1 (b.bellfFlags (b.seqHeld x.s)) ++ (beBytes 4 g.groupId ++
      (beBytes 8 (b.nextBseq x.s) ++ rest)))) := by
  simp only [Block.bellfFrame, Block.bellfHead, List.append_assoc]
  exact ⟨_, rfl⟩

/-- Byte 3 of a BELLF is FLAGS. -/
theorem Block.bellfFrame_flags : (b.bellfFrame k g x run).1.getD 3 0 = BitVec.ofNat 8 (b.bellfFlags (b.seqHeld x.s)) := by
  obtain ⟨rest, hf⟩ := b.bellfFrame_head k g x run
  rw [hf]
  rfl

/-- Bytes 8 to 15 of a BELLF are BSEQ. -/
theorem Block.bellfFrame_bseq : ((b.bellfFrame k g x run).1.drop 8).take 8 = beBytes 8 (b.nextBseq x.s) := by
  obtain ⟨rest, hf⟩ := b.bellfFrame_head k g x run
  rw [hf]
  generalize b.nextBseq x.s = n
  rfl

end

/-- Bit 2 of a byte of eight flags. -/
theorem testBit_two_flags : ∀ f7 f6 f5 f4 f3 f2 f1 f0 : Bool,
    (f7.toNat * 128 + f6.toNat * 64 + f5.toNat * 32 + f4.toNat * 16 + f3.toNat * 8 + f2.toNat * 4 + f1.toNat * 2 + f0.toNat).testBit 2
      = f2 := by
  decide

/-- SEQ_HELD is bit 2 of FLAGS. -/
theorem Block.bellfFlags_seqHeld (b : Block) (held : Bool) : (b.bellfFlags held).testBit 2 = held :=
  testBit_two_flags _ _ _ _ _ _ _ _

/-- Settles O33: the number BELLF_SEND takes, its bytes in the frame, and SEQ as one division. -/
theorem bellSequenceNumbersOfR340 : Obligations.BellSequenceNumbersOfR340 := by
  unfold Obligations.BellSequenceNumbersOfR340
  refine ⟨?start, ?seq, ?number, ?frame, ?rises, ?worked⟩
  case start => rfl
  case seq =>
    intro t
    rfl
  case number =>
    intro s run x hx hg
    exact ⟨_, rfl, bellfSend_bseq run s.key hx hg⟩
  case frame =>
    intro k b g x run
    exact ⟨b.bellfFrame_flags k g x run, b.bellfFrame_bseq k g x run, b.bellfFlags_seqHeld true, b.bellfFlags_seqHeld false⟩
  case rises =>
    intro t u h
    exact seqOf_lt_seqOf h
  case worked =>
    intro n
    simp only [seqOf_eq, tickS]
    omega

/-! ### Settings: submission (R435) -/

section
variable {s : State} {h : Hdr} {offset total : Nat} {bytes all : List Byte}

/-- The fragment follows those before it, of the same package. -/
abbrev State.GspFollows (s : State) (h : Hdr) (offset total : Nat) : Prop :=
  offset ≠ 0 → offset = ((s.taken h 0x0701).sess h.session).gspBytes.length ∧ total = ((s.taken h 0x0701).sess h.session).gspTotal total

/-- The bytes submitted with a fragment's own; a fragment at offset 0 begins anew. -/
abbrev State.gspWith (s : State) (h : Hdr) (offset : Nat) (bytes : List Byte) : List Byte :=
  (if offset = 0 then [] else ((s.taken h 0x0701).sess h.session).gspBytes) ++ bytes

theorem State.gspWith_length (hf : s.GspFollows h offset total) (bytes : List Byte) :
    (s.gspWith h offset bytes).length = offset + bytes.length := by
  rw [State.gspWith, List.length_append]
  split
  case isTrue hz => rw [hz, List.length_nil]
  case isFalse hz => rw [← (hf hz).1]

section
variable (r : Ready s h 0x0701 ⟨some roleGsb, false⟩) (h1 : 1 ≤ bytes.length) (h4088 : bytes.length ≤ 4088)
  (hf : s.GspFollows h offset total) (hall : all = s.gspWith h offset bytes)
include r h1 h4088 hf hall

/-- A fragment in its order hands a complete package to the guard, and is kept where the package is not complete. -/
theorem Ready.gspSubmit_followed (hfit : offset + bytes.length ≤ total) :
    s.onB (gspSubmit h offset total bytes) =
      if all.length = total then
        s.answer h 0x0701 yPending [] fun b =>
          (b.modSess h.session fun x => { x with gspStage := none }).modGrd fun g =>
            { g with checking := g.checking ++ [(h.session, h.tag, all)] }
      else s.answer h 0x0701 yOk [] fun b => b.modSess h.session fun x => { x with gspStage := some ⟨total, all⟩ } := by
  have hsize : ¬(bytes.length = 0 ∨ 4088 < bytes.length) := by omega
  have hoff : ¬(offset ≠ 0 ∧ offset ≠ ((s.taken h 0x0701).sess h.session).gspBytes.length) := fun hn => hn.2 (hf hn.1).1
  have htot : ¬(total < offset + bytes.length ∨ (offset ≠ 0 ∧ total ≠ ((s.taken h 0x0701).sess h.session).gspTotal total)) :=
    not_or_intro (Nat.not_lt.mpr hfit) fun hn => hn.2 (hf hn.1).2
  subst hall
  split
  case isTrue hc =>
    exact r.onB_answer _ _ _ rfl (by dsimp only; rw [if_neg hsize, if_neg hoff, if_neg htot, if_pos hc])
  case isFalse hc =>
    exact r.onB_answer _ _ _ rfl (by dsimp only; rw [if_neg hsize, if_neg hoff, if_neg htot, if_neg hc]; rfl)

theorem Ready.gspSubmit_kept (hlen : offset + bytes.length < total) :
    s.onB (gspSubmit h offset total bytes) =
      s.answer h 0x0701 yOk [] fun b => b.modSess h.session fun x => { x with gspStage := some ⟨total, all⟩ } := by
  have hpart : all.length ≠ total := by
    rw [hall, State.gspWith_length hf]
    exact Nat.ne_of_lt hlen
  rw [r.gspSubmit_followed h1 h4088 hf hall (Nat.le_of_lt hlen), if_neg hpart]

theorem Ready.gspSubmit_complete (hlen : offset + bytes.length = total) :
    s.onB (gspSubmit h offset total bytes) = s.answer h 0x0701 yPending [] fun b =>
      (b.modSess h.session fun x => { x with gspStage := none }).modGrd fun g =>
        { g with checking := g.checking ++ [(h.session, h.tag, all)] } := by
  have hwhole : all.length = total := by rw [hall, State.gspWith_length hf, hlen]
  rw [r.gspSubmit_followed h1 h4088 hf hall (Nat.le_of_eq hlen), if_pos hwhole]

end

end

/-! ### Settings: checks and commit (R322 to R324, R327) -/

section
variable {k : Key} {b b1 : Block} {body : GspPkg} {ok : Bool} {n tag : Nat} {bytes : List Byte} {rest : List (Nat × Nat × List Byte)}

section
variable (hc : b.grd.checking = (n, tag, bytes) :: rest) (ha : b.grd.accepted = none)
  (h1 : b1 = b.modGrd fun g => { g with checking := rest })
include hc ha h1

theorem gspCheck_of_accept (hv : verdict k b1 (readPkg body bytes) bytes ok = .accept) :
    gspCheck body ok k b = b1.modGrd fun g => { g with accepted := some (n, tag, readPkg body bytes, Config.sha384 bytes) } := by
  subst h1
  simp only [gspCheck, hc, ha, hv]

theorem gspCheck_of_same (hv : verdict k b1 (readPkg body bytes) bytes ok = .same) :
    gspCheck body ok k b = b1.finish n tag 0x0701 yOk [] := by
  subst h1
  simp only [gspCheck, hc, ha, hv]

theorem gspCheck_of_reject {step status : Nat} (hv : verdict k b1 (readPkg body bytes) bytes ok = .reject step status) :
    gspCheck body ok k b =
      ((((b1.put F.GRD_GSP_REJ_STEP step).put F.GRD_GSP_REJ_STATUS status).bump Reg.GRD_CNT_GSP_REJ).note 0x0A02 step status
        (readPkg body bytes).version).finish n tag 0x0701 status [] := by
  subst h1
  simp only [gspCheck, hc, ha, hv]

end

theorem gspCommit_of_accepted {p : GspPkg} {dig : Digest} (ha : b.grd.accepted = some (n, tag, p, dig))
    (h1 : b1 = (((b.storePkg p dig).takePkg p dig).bump Reg.GRD_CNT_GSP_ACC).note 0x0A01 p.version (dig.toNat >>> 352) b.grd.version) :
    gspCommit k b =
      ((((b1.shedHold (b.envelope 0x0102)).clampAll).applyRoles k).settleGuard 3).finish n tag 0x0701 yOk [] := by
  subst h1
  simp only [gspCommit, ha]

end

/-- Settles O32: each command of the settings by the case of its meaning that its guard selects. -/
theorem settingsPackagesAreSubmittedCheckedAndCommitted : Obligations.SettingsPackagesAreSubmittedCheckedAndCommitted := by
  unfold Obligations.SettingsPackagesAreSubmittedCheckedAndCommitted
  refine ⟨?kept, ?complete, ?accept, ?same, ?reject, ?commit⟩
  case kept =>
    intro s h offset total bytes all r h1 h4088 hf hlen hall
    exact congrArg Host.Outcome.next (r.gspSubmit_kept h1 h4088 hf hall hlen)
  case complete =>
    intro s h offset total bytes all r h1 h4088 hf hlen hall
    exact congrArg Host.Outcome.next (r.gspSubmit_complete h1 h4088 hf hall hlen)
  case accept =>
    intro s body ok n tag bytes rest b1 hc ha h1 hv
    exact congrArg Host.Outcome.next (State.onB_eq_putB (gspCheck_of_accept hc ha h1 hv))
  case same =>
    intro s body ok n tag bytes rest b1 hc ha h1 hv
    exact congrArg Host.Outcome.next (State.onB_eq_putB (gspCheck_of_same hc ha h1 hv))
  case reject =>
    intro s body ok n tag step status bytes rest b1 hc ha h1 hv
    exact congrArg Host.Outcome.next (State.onB_eq_putB (gspCheck_of_reject hc ha h1 hv))
  case commit =>
    intro s n tag p dig b1 ha h1
    exact congrArg Host.Outcome.next (State.onB_eq_putB (gspCommit_of_accepted ha h1))

end Sys2Proof.Machine

/-!
SUPPORT. The claim and the heartbeats of a tandem unit: what each of its commands does in the cases the statements name, and the
statement settled from these.
-/
namespace Sys2Proof.Machine

section
variable {k : Key} {b : Block}

/-! ### Pins (R336) -/

theorem bellPins_of_waiting {x : Slot} (run : Nat) (hx : b.atStage 3 = some x) :
    bellPins run b =
      (((b.modGrd fun g => { g with bells := g.bells.map fun y => { y with drive := y.on } }).finishStage x.s 3 run).sendDigest x.s).handNow := by
  simp only [bellPins, hx]

/-! ### Heartbeats and the lane's delay (R350, R352, R366, R367) -/

theorem Block.tdmSend_now (b : Block) (body : List Nat) : (b.tdmSend body).now = b.now := by
  rw [Block.tdmSend]
  split <;> rfl

theorem heartbeatSend_of_due (hen : b.tdm.enNow = true) (hd : (b.tdm.hbSent == 0 || b.since b.tdm.hbSent (250 * tickUs)) = true) :
    heartbeatSend b =
      (((b.tdmSend [1, b.cfgDigest, b.tdmState, b.prefers.toNat, Config.tdmMac, b.islFresh.toNat, b.tdm.katOwn]).modTdm fun t =>
        { t with hbSent := b.now }).flushRelays.maybeTake) := by
  rw [heartbeatSend, if_neg (by simp [hen, hd])]
  dsimp only
  rw [Block.tdmSend_now]

theorem heartbeatReceive_of_lane (hb : Heartbeat) (hen : b.tdm.enNow = true) (hl : b.laneUp = true) :
    heartbeatReceive hb k b =
      ((if (b.takeHeartbeat hb).cfgMatch then b.takeHeartbeat hb else (b.takeHeartbeat hb).goAlone 2).askCatchup).katDecide k :=
  if_neg (by simp [hen, hl])

theorem heartbeatLoss_of_timeout (hen : b.tdm.enNow = true) (hs : b.tdm.hbSeen = true)
    (hd : b.since b.tdm.hbLast (b.fld F.TDM_TIMERS_HB_TMO * tickUs) = true) :
    heartbeatLoss b =
      ((((b.bump Reg.TDM_CNT_HB_LOSS).modTdm fun t =>
        { t with hbSeen := false, partnerLost := t.partnerLost || !b.partnerClaims }).modRad fun r =>
          { r with handFrom := none }).goAlone 0).settleGuard :=
  if_neg (by simp [hen, hs, hd])

theorem tdmDelayMeasure_of_lane {delta : Nat} {offset : Int} {short : Bool} (hen : b.tdm.enNow = true) (hl : b.laneUp = true)
    (hs : short = decide (b.fld F.TDM_XCHG_LEAD * 1000 < 2 * delta + offset.natAbs + 50000)) :
    tdmDelayMeasure delta offset b =
      (((b.wr Reg.TDM_DELAY (BitVec.ofNat 32 (min 0xFFFFFFFF delta))).wr Reg.TDM_OFFSET
        (BitVec.ofInt 32 (clampInt (-2147483648) 2147483647 offset))).putFlag F.TDM_STAT_LEAD_SHORT short).modTdm fun t =>
          { t with shortFrom := if short then some (t.shortFrom.getD b.now) else none } := by
  subst hs
  exact if_neg (by simp [hen, hl])

/-! ### The partner's claim (R354, R355) -/

section
variable {gaps : List Nat} {b1 : Block}

/-- R354: the partner's claim as it is seen at this instant. -/
abbrev Block.seePclaim (b : Block) : Block := (b.put F.TDM_STAT_PCLAIM 1).modTdm fun t => { t with edgeAt := b.now }

/-- R355: and the gate closed by it. -/
abbrev Block.gateShut (b : Block) : Block := b.seePclaim.modGrd fun g => { g with gateOpen := false }

/-- The partner's claim leaves the unit's own. -/
theorem Block.seePclaim_claims (b : Block) : b.seePclaim.claims = b.claims :=
  congrArg (· != 0) (b.fld_put_disj F.TDM_STAT_PCLAIM F.TDM_STAT_CLAIM 1 (by decide) (by decide))

section
variable (hen : b.tdm.enNow = true) (hn : gaps.length = 3) (hg : (gaps.all fun g => decide (4000 ≤ g ∧ g ≤ 6000)) = true)
include hen hn hg

/-- Four edges 4 µs to 6 µs apart close the gate of a unit that claims, and a unit with a claim delay withdraws its claim. -/
theorem claimPresent_of_edges :
    claimPresent gaps b =
      if !b.seePclaim.claims then b.seePclaim.askCatchup
      else if b.gateShut.claimDelay = 0 then b.gateShut
      else (b.gateShut.free.2.releaseClaim (b.gateShut.free.1.toNat % 2 ^ 32)).settleGuard :=
  if_neg (by simp only [hen, hn, hg]; decide)

theorem claimPresent_of_no_claim (hc : b.claims = false) : claimPresent gaps b = b.seePclaim.askCatchup := by
  rw [claimPresent_of_edges hen hn hg, if_pos (by rw [Block.seePclaim_claims, hc]; rfl)]

section
variable (h1 : b1 = b.gateShut) (hc : b1.claims = true)
include h1 hc

theorem claimPresent_of_claim :
    claimPresent gaps b =
      if b1.claimDelay = 0 then b1 else (b1.free.2.releaseClaim (b1.free.1.toNat % 2 ^ 32)).settleGuard := by
  subst h1
  have hown : b.seePclaim.claims = true := hc
  rw [claimPresent_of_edges hen hn hg, if_neg (by simp [hown])]

theorem claimPresent_of_claim_without_delay (hd : b1.claimDelay = 0) : claimPresent gaps b = b1 := by
  rw [claimPresent_of_claim hen hn hg h1 hc, if_pos hd]

theorem claimPresent_of_claim_with_delay (hd : b1.claimDelay ≠ 0) :
    claimPresent gaps b = (b1.free.2.releaseClaim (b1.free.1.toNat % 2 ^ 32)).settleGuard := by
  rw [claimPresent_of_claim hen hn hg h1 hc, if_neg hd]

end

end

theorem claimAbsent_of_silent (hen : b.tdm.enNow = true) (hp : b.partnerClaims = true)
    (hd : b.since b.tdm.edgeAt (30 * tickUs) = true) :
    claimAbsent b = (b.put F.TDM_STAT_PCLAIM 0).modTdm fun t => { t with absentAt := b.now } :=
  if_neg (by simp [hen, hp, hd])

end

/-! ### The unit's own claim (R354 to R358) -/

/-- The unit's claim asserted now and counted. -/
abbrev Block.ownClaim (b : Block) : Block :=
  ((b.put F.TDM_STAT_CLAIM 1).bump Reg.TDM_CNT_CLAIM).modTdm fun t => { t with claimAt := b.now, closedSince := 0, takeSent := false }

theorem tdmClaim_of_eligible {b1 b2 : Block} (he : b.eligible = true) (hc : b.claims = false) (hp : b.partnerClaims = false)
    (hl : b.tdm.lockTo = none) (hd : b.since b.tdm.absentAt b.claimDelay = true) (h1 : b1 = b.ownClaim)
    (h2 : b2 = if b.handedOver then b1.modRad fun r => { r with handFrom := some (sfnAt (b.tai + 2 * sfTicks)) } else b1) :
    tdmClaim b = (b2.degradedStart.note 0x0B02 1 b.handedOver.toNat (lt32 b.tai)).settleGuard := by
  have htai : b2.tai = b.tai := by
    rw [h2, h1]
    split <;> rfl
  rw [← htai, h2, h1]
  exact if_neg (by simp [he, hc, hp, hl, hd])

theorem gateOpen_of_claim (hen : b.tdm.enNow = true) (hc : b.claims = true) (hp : b.partnerClaims = false)
    (hd : b.since b.tdm.claimAt (50 * tickUs) = true) : gateOpen b = b.modGrd fun g => { g with gateOpen := true } :=
  if_neg (by simp [hen, hc, hp, hd])

theorem lockoutEnd_of_due {t : Nat} (hl : b.tdm.lockTo = some t) (ht : t ≤ b.now) :
    lockoutEnd b = b.modTdm fun t => { t with lockTo := none } := by
  simp only [lockoutEnd, hl]
  exact if_neg (Nat.not_lt.mpr ht)

/-! ### The known-answer check (R366) -/

theorem katPartnerTimeout_of_due (ho : b.tdm.katOwn ≠ 0) (hp : b.tdm.katPart = 0)
    (hd : b.since b.tdm.katAt (200 * tickMs) = true) :
    katPartnerTimeout b = (b.note 0x0B04 (b.tdm.katOwn - 1) 2).modTdm fun t => { t with katOwn := 0 } :=
  if_neg (by simp [ho, hp, hd])

theorem tdmKat_of_running (pass : Bool) (hk : b.fld F.TDM_STAT_KAT = 1) :
    tdmKat pass k b =
      ((if pass then (b.put F.TDM_STAT_KAT 2).bump Reg.TDM_CNT_KAT
        else ((b.put F.TDM_STAT_KAT 3).bump Reg.TDM_CNT_KAT).bump Reg.TDM_CNT_KAT_FAIL).modTdm fun t =>
          { t with katOwn := if pass then 1 else 2 }).katDecide k := by
  rw [tdmKat, if_neg (not_not_intro hk)]
  cases pass <;> rfl

end

/-- Settles O35: each command of the tandem by the case of its meaning that its guard selects. -/
theorem heartbeatsAndClaimsTakeEffect : Obligations.HeartbeatsAndClaimsTakeEffect := by
  unfold Obligations.HeartbeatsAndClaimsTakeEffect
  refine ⟨?pins, ?send, ?receive, ?loss, ?delay, ?seen, ?shut, ?withdrawn, ?absent, ?claim, ?gate, ?lockout, ?noPartner, ?kat⟩
  case pins =>
    intro s run x hx
    exact congrArg Host.Outcome.next (State.onB_eq_putB (bellPins_of_waiting run hx))
  case send =>
    intro s hen hd
    exact congrArg Host.Outcome.next (State.onB_eq_putB (heartbeatSend_of_due hen hd))
  case receive =>
    intro s hb b1 hen hl h1
    subst h1
    exact congrArg Host.Outcome.next (State.onKB_congr (heartbeatReceive_of_lane hb hen hl))
  case loss =>
    intro s hen hs hd
    exact congrArg Host.Outcome.next (State.onB_eq_putB (heartbeatLoss_of_timeout hen hs hd))
  case delay =>
    intro s delta offset short hen hl hs
    exact congrArg Host.Outcome.next (State.onB_eq_putB (tdmDelayMeasure_of_lane hen hl hs))
  case seen =>
    intro s gaps hen hn hg hc
    exact congrArg Host.Outcome.next (State.onB_eq_putB (claimPresent_of_no_claim hen hn hg hc))
  case shut =>
    intro s gaps b1 hen hn hg h1 hc hd
    exact congrArg Host.Outcome.next (State.onB_eq_putB (claimPresent_of_claim_without_delay hen hn hg h1 hc hd))
  case withdrawn =>
    intro s gaps b1 hen hn hg h1 hc hd
    exact congrArg Host.Outcome.next (State.onB_eq_putB (claimPresent_of_claim_with_delay hen hn hg h1 hc hd))
  case absent =>
    intro s hen hp hd
    exact congrArg Host.Outcome.next (State.onB_eq_putB (claimAbsent_of_silent hen hp hd))
  case claim =>
    intro s b1 b2 he hc hp hl hd h1 h2
    exact congrArg Host.Outcome.next (State.onB_eq_putB (tdmClaim_of_eligible he hc hp hl hd h1 h2))
  case gate =>
    intro s hen hc hp hd
    exact congrArg Host.Outcome.next (State.onB_eq_putB (gateOpen_of_claim hen hc hp hd))
  case lockout =>
    intro s t hl ht
    exact congrArg Host.Outcome.next (State.onB_eq_putB (lockoutEnd_of_due hl ht))
  case noPartner =>
    intro s ho hp hd
    exact congrArg Host.Outcome.next (State.onB_eq_putB (katPartnerTimeout_of_due ho hp hd))
  case kat =>
    intro s pass hk
    exact congrArg Host.Outcome.next (State.onKB_congr (tdmKat_of_running pass hk))

end Sys2Proof.Machine

/-!
SUPPORT. Reset sources and the end of a reset: what each command does in the cases the statement names, and the statement settled
from these.
-/
namespace Sys2Proof.Machine

section
variable {k : Key} {b : Block}

/-! ### Sources (R505, R506, R508, R538) -/

theorem bor_of_low {rail : Bool} {vin vstore : Nat} (h : rail = true ∨ (vstore < 800 ∧ (vin < 560 ∨ b.top.disconnected = true))) :
    bor rail vin vstore k b = ((assertReset srcBor false false k b).1, (assertReset srcBor false false k b).2.supply vin vstore) := by
  have hlow : (rail || (decide (vstore < 800) && (decide (vin < 560) || b.top.disconnected))) = true := by simpa using h
  exact if_neg (by simp only [hlow]; decide)

theorem bor_of_supplied {vin vstore : Nat} (h : 800 ≤ vstore ∨ (560 ≤ vin ∧ b.top.disconnected = false)) :
    bor false vin vstore k b = (k, b) := by
  have hup : (false || (decide (vstore < 800) && (decide (vin < 560) || b.top.disconnected))) = false := by
    rcases h with h | ⟨hv, hd⟩
    · simp [Nat.not_lt.mpr h]
    · simp [Nat.not_lt.mpr hv, hd]
  exact if_pos (by simp only [hup]; decide)

theorem resetPin_of_low {samples : Nat} (h3 : 3 ≤ samples) (hn : b.top.resetNLow = false) :
    resetPin samples k b = assertReset srcPin false false k b :=
  if_neg (by simp [hn, h3])

theorem resetPin_of_not_low {samples : Nat} (h : samples < 3 ∨ b.top.resetNLow = true) : resetPin samples k b = (k, b) :=
  if_pos h

theorem pllLockLoss_of_lost {lostUs off : Nat} (h : 10 < lostUs ∨ 200 < off) :
    pllLockLoss lostUs off k b = assertReset srcClkf false false k (b.put F.CLK_STAT_PLL_LOCK 0) :=
  if_neg (by omega)

theorem pllLockLoss_of_short {lostUs off : Nat} (hl : lostUs ≤ 10) (ho : off ≤ 200) : pllLockLoss lostUs off k b = (k, b) :=
  if_pos ⟨hl, ho⟩

/-! ### Requests (R505, R506, R540) -/

theorem resetReqW_of_allowed {acc : Nat} (src : Nat) (self : Bool) (h : b.mayWrite k acc roleMnt false = yOk) :
    resetReqW src self acc k b = ⟨yOk, (assertReset src self false k b).1, (assertReset src self false k b).2⟩ :=
  if_neg (not_not_intro h)

theorem resetReqW_of_denied {acc : Nat} (src : Nat) (self : Bool) (h : b.mayWrite k acc roleMnt false ≠ yOk) :
    resetReqW src self acc k b = ⟨b.mayWrite k acc roleMnt false, k, b.writeDenied acc⟩ :=
  if_pos h

section
variable {s : State} {h : Hdr} {reach : Nat} (r : Ready s h 0x0C04 ⟨some roleMnt, false⟩)
include r

theorem Ready.reset_asserted (hreach : reach < 2) :
    reset h reach s.key s.b =
      assertReset (if reach = 0 then srcSwr else srcPin) (reach == 1) false s.key ((s.taken h 0x0C04).lastReply h 0x0C04) := by
  have hok : ¬Block.precheck s.key (s.taken h 0x0C04) h 0x0C04 ⟨some roleMnt, false⟩ ≠ yOk := not_not_intro r.precheck
  rw [reset, if_neg hok, if_neg (Nat.not_le.mpr hreach)]
  match reach, hreach with
  | 0, _ => rfl
  | 1, _ => rfl

theorem Ready.reset_refused (hreach : 2 ≤ reach) :
    reset h reach s.key s.b = (s.key, (s.taken h 0x0C04).ycpReply h 0x0C04 yBadParam []) := by
  have hok : ¬Block.precheck s.key (s.taken h 0x0C04) h 0x0C04 ⟨some roleMnt, false⟩ ≠ yOk := not_not_intro r.precheck
  rw [reset, if_neg hok, if_pos hreach]

end

/-! ### The end of a reset (R508, R509) -/

section
variable {r : ResetRun} (hr : b.top.rstRun = some r)
include hr

section
variable (hd : b.since r.lastAssert (stretch r.reach) = true)
include hd

/-- R509: once the stretch is over and no other source is asserted, the land alone decides. -/
theorem resetEnd_of_stretched {held : Nat} (hh : heldOthers held = 0) :
    resetEnd held k b = if held.testBit srcPin then (k, b.landHolds r.reach) else endReset r k b := by
  simp only [resetEnd, hr]
  exact if_neg (by simp [hd, hh])

theorem resetEnd_of_released : resetEnd 0 k b = endReset r k b := by
  rw [resetEnd_of_stretched hr hd rfl, if_neg (by decide)]

theorem resetEnd_of_land : resetEnd 4 k b = (k, b.landHolds r.reach) := by
  rw [resetEnd_of_stretched hr hd rfl, if_pos (by decide)]

end

theorem resetEnd_of_held {held : Nat} (h : b.since r.lastAssert (stretch r.reach) = false ∨ heldOthers held ≠ 0) :
    resetEnd held k b = (k, b) := by
  simp only [resetEnd, hr]
  exact if_pos (by simpa using h)

end

end

/-- Settles O49: each source, request and end of a reset by the case of its meaning that its guard selects. -/
theorem resetSourcesAndTheirEndTakeEffect : Obligations.ResetSourcesAndTheirEndTakeEffect := by
  unfold Obligations.ResetSourcesAndTheirEndTakeEffect
  refine ⟨?por, ?bor, ?idle, ?pin, ?debug, ?lost, ?short, ?request, ?denied, ?reset, ?badReach, ?ended, ?land, ?held⟩
  case por =>
    intro s vin vstore
    rfl
  case bor =>
    intro s rail vin vstore h
    exact congrArg Host.Outcome.next (State.onKB_congr (bor_of_low h))
  case idle =>
    intro s vin vstore samples hv hs
    exact ⟨congrArg Host.Outcome.next (State.onKB_eq_self (bor_of_supplied hv)),
      congrArg Host.Outcome.next (State.onKB_eq_self (resetPin_of_not_low hs))⟩
  case pin =>
    intro s samples h3 hn
    exact congrArg Host.Outcome.next (State.onKB_congr (resetPin_of_low h3 hn))
  case debug =>
    intro s point
    exact ⟨rfl, rfl⟩
  case lost =>
    intro s lostUs off h
    exact congrArg Host.Outcome.next (State.onKB_congr (pllLockLoss_of_lost h))
  case short =>
    intro s lostUs off hl ho
    exact congrArg Host.Outcome.next (State.onKB_eq_self (pllLockLoss_of_short hl ho))
  case request =>
    intro s acc h
    exact ⟨congrArg Host.Outcome.next (State.onKB_congr (congrArg (fun w => (w.k, w.b)) (resetReqW_of_allowed srcPin true h))),
      congrArg Host.Outcome.next (State.onKB_congr (congrArg (fun w => (w.k, w.b)) (resetReqW_of_allowed srcSwr false h)))⟩
  case denied =>
    intro s acc h
    exact ⟨congrArg Host.Outcome.next (State.onKB_eq_onB (congrArg (fun w => (w.k, w.b)) (resetReqW_of_denied srcPin true h))),
      congrArg Host.Outcome.next (State.onKB_eq_onB (congrArg (fun w => (w.k, w.b)) (resetReqW_of_denied srcSwr false h)))⟩
  case reset =>
    intro s h reach r hreach
    exact congrArg Host.Outcome.next (State.onKB_congr (r.reset_asserted hreach))
  case badReach =>
    intro s h reach r hreach
    exact congrArg Host.Outcome.next (State.onKB_eq_onB
      (g := fun _ _ => (s.taken h 0x0C04).ycpReply h 0x0C04 yBadParam []) (r.reset_refused hreach))
  case ended =>
    intro s r hr hd
    exact congrArg Host.Outcome.next (State.onKB_congr (resetEnd_of_released hr hd))
  case land =>
    intro s r hr hd
    exact congrArg Host.Outcome.next (State.onKB_eq_onB (g := fun _ b => b.landHolds r.reach) (resetEnd_of_land hr hd))
  case held =>
    intro s r held hr h
    exact congrArg Host.Outcome.next (State.onKB_eq_self (resetEnd_of_held hr h))

end Sys2Proof.Machine

/-!
SUPPORT. A step, and what every step keeps of the key block: each command that works on the key block keeps it sound and does not
lower its life-cycle code, and the statements settled from these.
-/
namespace Sys2Proof.Machine

/-! ### A step (R46) -/

/-- Settles O1: the definition of a step at a queue that is not empty. -/
theorem stepRunsTheFrontCommand : Obligations.StepRunsTheFrontCommand := by
  unfold Obligations.StepRunsTheFrontCommand
  intro c rest s hp
  simp only [step, hp]

/-- Settles O2: on an empty queue the time base alone changes, by one tick. -/
theorem emptyQueueIsOneTick : Obligations.EmptyQueueIsOneTick := by
  unfold Obligations.EmptyQueueIsOneTick
  intro s hp
  refine ⟨s.putB (s.b.modTim Tim.tick), ?_, rfl, (Kept.refl [.tim] [] s).modTim List.mem_cons_self _⟩
  simp only [step, hp]
  rfl

/-! ### Changes of the key block -/

/-- From a sound key block a change leads to a sound one, and the life-cycle code is not lowered. -/
def Key.Rises (k k' : Key) : Prop := k.Sound → k'.Sound ∧ k.lcs ≤ k'.lcs

theorem Key.Rises.refl (k : Key) : k.Rises k := fun h => ⟨h, le_rfl⟩

theorem Key.Rises.trans {k k' k'' : Key} (h : k.Rises k') (h' : k'.Rises k'') : k.Rises k'' := fun hs =>
  have ⟨hs', hl⟩ := h hs
  have ⟨hs'', hl'⟩ := h' hs'
  ⟨hs'', hl.trans hl'⟩

/-- A change that leaves the life-cycle code. -/
theorem Key.Rises.of_lcs_eq {k k' : Key} (h : k.Sound → k'.Sound) (hl : k'.lcs = k.lcs) : k.Rises k' :=
  fun hs => ⟨h hs, hl.ge⟩

theorem Key.Rises.foldl {α : Type} {f : Key × Block → α → Key × Block} (hf : ∀ (kb : Key × Block) (x : α), kb.1.Rises (f kb x).1) (l : List α)
    (kb : Key × Block) : kb.1.Rises (l.foldl f kb).1 := by
  induction l generalizing kb with
  | nil => exact .refl _
  | cons x l ih => exact (hf kb x).trans (ih (f kb x))

theorem Key.foldl_lcs {α : Type} {f : Key × Block → α → Key × Block} (hf : ∀ (kb : Key × Block) (x : α), (f kb x).1.lcs = kb.1.lcs)
    (l : List α) (kb : Key × Block) : (l.foldl f kb).1.lcs = kb.1.lcs := by
  induction l generalizing kb with
  | nil => rfl
  | cons x l ih => exact (ih (f kb x)).trans (hf kb x)

section
variable (k : Key) (b : Block)

/-! ### Resets (R455, R471, R507) -/

/-- A reset of any reach; one of reach A or B puts the higher life-cycle copy in force. -/
theorem resetEffects_rises (reach : Nat) : k.Rises (resetEffects reach k b).1 := fun h => by
  refine ⟨resetEffects_sound h reach b, ?_⟩
  unfold resetEffects
  split
  · exact h.lcs
  · split
    · exact h.lcs
    · exact le_rfl

theorem beginReset_rises (mine srcs : Nat) (self noCount : Bool) : k.Rises (beginReset mine srcs self noCount k b).1 := by
  unfold beginReset
  dsimp only
  split
  · exact resetEffects_rises k b _
  · exact .refl k

theorem assertReset_rises (src : Nat) (self noCount : Bool) : k.Rises (assertReset src self noCount k b).1 :=
  beginReset_rises k b _ _ _ _

theorem por_rises (vin vstore : Nat) : k.Rises (por vin vstore k b).1 := assertReset_rises k b srcPor false false

theorem dbgReset_rises : k.Rises (dbgReset k b).1 := assertReset_rises k b srcDbg false false

theorem lockup_rises (point : Nat) : k.Rises (lockup point k b).1 := assertReset_rises k _ srcLockup false false

theorem bor_rises (rail : Bool) (vin vstore : Nat) : k.Rises (bor rail vin vstore k b).1 := by
  unfold bor
  split
  · exact .refl k
  · exact assertReset_rises k b srcBor false false

theorem resetPin_rises (samples : Nat) : k.Rises (resetPin samples k b).1 := by
  unfold resetPin
  split
  · exact .refl k
  · exact assertReset_rises k b _ _ _

theorem pllLockLoss_rises (lostUs off : Nat) : k.Rises (pllLockLoss lostUs off k b).1 := by
  unfold pllLockLoss
  split
  · exact .refl k
  · exact assertReset_rises k _ _ _ _

theorem refclkInvalid_rises : k.Rises (refclkInvalid k b).1 := by
  unfold refclkInvalid
  dsimp only
  split
  · exact .refl k
  split
  · exact .refl k
  · exact assertReset_rises k _ _ _ _

theorem tcxoFail_rises (refin : Bool) : k.Rises (tcxoFail refin k b).1 := by
  unfold tcxoFail
  split
  · exact .refl k
  split
  · exact .refl k
  · exact assertReset_rises k b _ _ _

theorem watchdogStage1_rises : k.Rises (watchdogStage1 k b).1 := by
  unfold watchdogStage1
  dsimp only
  split
  · exact .refl k
  split
  · exact .refl k
  · exact assertReset_rises k _ _ _ _

theorem watchdogStage2_rises : k.Rises (watchdogStage2 k b).1 := by
  unfold watchdogStage2
  split
  · exact .refl k
  split
  · exact .refl k
  · exact assertReset_rises k _ _ _ _

theorem katDecide_rises : k.Rises (b.katDecide k).1 := by
  unfold Block.katDecide
  dsimp only
  split
  · exact .refl k
  split
  · exact .refl k
  split
  · exact .refl k
  split
  · exact .refl k
  · exact assertReset_rises k _ _ _ _

theorem heartbeatReceive_rises (hb : Heartbeat) : k.Rises (heartbeatReceive hb k b).1 := by
  unfold heartbeatReceive
  split
  · exact .refl k
  · exact katDecide_rises k _

theorem tdmKat_rises (pass : Bool) : k.Rises (tdmKat pass k b).1 := by
  unfold tdmKat
  split
  · exact .refl k
  · exact katDecide_rises k _

theorem resetReqW_rises (src : Nat) (self : Bool) (acc : Nat) : k.Rises (resetReqW src self acc k b).k := by
  unfold resetReqW
  dsimp only
  split
  · exact .refl k
  · exact assertReset_rises k b src self false

theorem sysReqW_rises (acc : Nat) : k.Rises (sysReqW acc k b).k := resetReqW_rises k b srcPin true acc

theorem fwReqW_rises (acc : Nat) : k.Rises (fwReqW acc k b).k := resetReqW_rises k b srcSwr false acc

theorem reset_rises (h : Hdr) (reach : Nat) : k.Rises (reset h reach k b).1 := by
  unfold reset
  dsimp only
  split
  · exact .refl k
  split
  · exact .refl k
  split
  · exact assertReset_rises k _ _ _ _
  · exact assertReset_rises k _ _ _ _

theorem endReset_rises (r : ResetRun) : k.Rises (endReset r k b).1 := by
  unfold endReset
  dsimp only
  split
  · exact .refl k
  split
  · exact beginReset_rises k _ _ _ _ _
  · exact .refl k

theorem resetEnd_rises (held : Nat) : k.Rises (resetEnd held k b).1 := by
  unfold resetEnd
  split
  · exact .refl k
  split
  · exact .refl k
  split
  · exact .refl k
  · exact endReset_rises k b _

/-! ### Register writes -/

/-- Of the registers, RST_CTRL alone reaches the key block, through the reset it requests. -/
theorem hostWrite_k (acc addr : Nat) (v m : W32) :
    (hostWrite acc addr v m k b).k = k ∨ (hostWrite acc addr v m k b).k = (sysReqW acc k b).k ∨
      (hostWrite acc addr v m k b).k = (fwReqW acc k b).k := by
  unfold hostWrite
  dsimp only
  split
  · exact .inl rfl
  split
  · exact .inl rfl
  split
  · exact .inl rfl
  · exact .inl rfl
  · exact .inl rfl
  split
  · exact .inl rfl
  split
  · exact .inl rfl
  split
  · split
    · exact .inr (.inl rfl)
    split
    · exact .inr (.inr rfl)
    · exact .inl rfl
  split
  · exact .inl rfl
  split
  · exact .inl rfl
  · exact .inl rfl
  · exact .inl rfl

theorem hostWrite_rises (acc addr : Nat) (v m : W32) : k.Rises (hostWrite acc addr v m k b).k := by
  rcases hostWrite_k k b acc addr v m with h | h | h
  · rw [h]
    exact .refl k
  · rw [h]
    exact sysReqW_rises k b acc
  · rw [h]
    exact fwReqW_rises k b acc

theorem registerWrite_rises (acc addr size : Nat) (value : W32) : k.Rises (registerWrite acc addr size value k b).1 := by
  unfold registerWrite
  split
  · exact .refl k
  · exact hostWrite_rises k b _ _ _ _

theorem ycpK_rises (h : Hdr) (op : Nat) (q : YReq) {body : Key → Block → KRes} (hb : ∀ b, k.Rises (body k b).k) :
    k.Rises (b.ycpK k h op q body).1 := by
  unfold Block.ycpK
  dsimp only
  split
  · exact .refl k
  · exact hb _

theorem regWriteBody_rises (acc addr : Nat) (value mask : W32) : k.Rises (regWriteBody acc addr value mask k b).k := by
  unfold regWriteBody
  split
  · exact .refl k
  · exact hostWrite_rises k b _ _ _ _

theorem regWriteReset_rises (h : Hdr) (addr : Nat) (value mask : W32) : k.Rises (regWriteReset h addr value mask k b).1 := by
  unfold regWriteReset
  extract_lets taken checked st
  split
  · exact hostWrite_rises k _ _ _ _ _
  · exact .refl k

theorem regWrite_rises (h : Hdr) (addr : Nat) (value mask : W32) : k.Rises (regWrite h addr value mask k b).1 := by
  unfold regWrite
  split
  · exact regWriteReset_rises k b _ _ _ _
  · exact ycpK_rises k b _ _ _ fun b => regWriteBody_rises k b _ _ _ _

/-! ### Slots (R459 to R463) -/

theorem keyLoaded_rises (i : Nat) (x : KeySlot) (hx : engineBit x.engine < 8) : k.Rises (keyLoaded k b i x).1 :=
  .of_lcs_eq (fun h => keyLoaded_sound h b i x hx) rfl

theorem Key.zeroise_rises (i : Nat) : k.Rises (k.zeroise i) := .of_lcs_eq (fun h => Key.zeroise_sound h i) rfl

theorem Key.keep_lcs (i : Nat) : (k.keep i).lcs = k.lcs := by
  unfold Key.keep
  dsimp only
  split <;> rfl

theorem vacate_lcs (i mode : Nat) (c : KeyContent) : (vacate i mode c k b).1.lcs = k.lcs := by
  unfold vacate
  dsimp only
  have h1 : (if (k.slot i).state ≠ 0 then keyZeroised (k.modSlot i fun s => { s with gen := s.gen + 1 }) b i else (k, b)).1.lcs = k.lcs := by
    split <;> rfl
  split
  · exact h1
  split
  · exact h1
  · exact h1

theorem keyGenBody_lcs (session slot mode engine alg : Nat) (c : KeyContent) (t : Bool) :
    (keyGenBody session slot mode engine alg c t k b).k.lcs = k.lcs := by
  have hkept : ∀ i, ((vacate i mode c k b).1.keep i).lcs = k.lcs := fun i => (Key.keep_lcs _ i).trans (vacate_lcs k b i mode c)
  unfold keyGenBody
  split
  · rfl
  split
  · rfl
  split
  · rfl
  next i _ =>
    dsimp only
    split
    · rfl
    split
    · rfl
    split
    · exact hkept i
    split
    · exact hkept i
    split
    · exact hkept i
    · exact (Key.keep_lcs _ i).trans (hkept i)

theorem keyGen_rises (h : Hdr) (slot mode engine alg : Nat) (c : KeyContent) (t : Bool) :
    k.Rises (keyGen h slot mode engine alg c t k b).1 :=
  ycpK_rises k b _ _ _ fun b =>
    .of_lcs_eq (fun hk => keyGenBody_sound hk _ _ _ _ _ _ _ b) (keyGenBody_lcs k b _ _ _ _ _ _ _)

theorem loadStored_lcs (bad : List Nat) (kb : Key × Block) (e : Nat × KeySlot) : (loadStored bad e kb).1.lcs = kb.1.lcs := by
  unfold loadStored
  split <;> rfl

theorem loadKeys_lcs (m1 mf : Digest) (bad : List Nat) : (loadKeys m1 mf bad k b).1.lcs = k.lcs := by
  unfold loadKeys
  dsimp only
  split
  · rfl
  · exact Key.foldl_lcs (loadStored_lcs bad) _ _

theorem firmwareStart_rises (f : BootFind) : k.Rises (firmwareStart f k b).1 := by
  unfold firmwareStart
  split
  · exact .refl k
  split
  · exact .refl k
  split
  · exact .refl k
  · exact .of_lcs_eq (fun h => loadKeys_sound h _ _ _ _) (loadKeys_lcs k _ _ _ _)

/-! ### Sessions (R419, R423, R461, R468) -/

theorem endSession_rises (s reason : Nat) : k.Rises (endSession s reason k b).1 :=
  .of_lcs_eq (fun h => Key.closeSession_sound h s) rfl

theorem pcieLinkDown_rises : k.Rises (pcieLinkDown k b).1 :=
  Key.Rises.foldl (fun kb f => endSession_rises kb.1 kb.2 f 2) _ (k, b)

theorem functionLevelReset_rises (f : Nat) : k.Rises (functionLevelReset f k b).1 := by
  unfold functionLevelReset
  split
  · exact endSession_rises k b f 2
  · exact .refl k

theorem udpSessionTimeout_rises (s : Nat) : k.Rises (udpSessionTimeout s k b).1 := by
  unfold udpSessionTimeout
  split
  · exact endSession_rises k b s 1
  · exact .refl k

theorem bye_rises (h : Hdr) : k.Rises (bye h k b).1 := by
  unfold bye
  dsimp only
  split
  · exact .refl k
  · exact endSession_rises k _ _ _

theorem endMgtKeys_rises : k.Rises (endMgtKeys k b).1 :=
  .of_lcs_eq (fun h => Key.closeSession_sound (Key.closeSession_sound (Key.closeSession_sound (Key.closeSession_sound h 4) 5) 6) 7) rfl

theorem watchEntry_rises (vin lowMs : Nat) : k.Rises (watchEntry vin lowMs k b).1 := by
  unfold watchEntry
  split
  · exact .refl k
  · exact endMgtKeys_rises k _

theorem stateSet_rises (h : Hdr) (target vin : Nat) : k.Rises (stateSet h target vin k b).1 := by
  unfold stateSet
  dsimp only
  split
  · exact endMgtKeys_rises k _
  · exact .refl k

/-- The two keys of a session opened over UDP are bound to the session engine alone (R461, R469). -/
theorem helloUdpOpen_rises (h : Hdr) (s roles proved cmdSz rplSz evtSz : Nat) (u : HelloUdp) :
    k.Rises (helloUdpOpen h s roles proved cmdSz rplSz evtSz u k b).1 := by
  refine .of_lcs_eq (fun hk => ?_) rfl
  have hdrawn : ({ k with draws := k.draws + 1 } : Key).Sound := ⟨hk.count, hk.each, hk.kept, hk.pend, hk.lcs, hk.top⟩
  exact Key.load_sound (Key.load_sound hdrawn _ _ (engineBit_pow 5 (by decide))) _ _ (engineBit_pow 5 (by decide))

theorem helloUdp_rises (h : Hdr) (version cmdSz rplSz evtSz : Nat) (u : HelloUdp) (t : Bool) :
    k.Rises (helloUdp h version cmdSz rplSz evtSz u t k b).1 := by
  unfold helloUdp
  split
  · exact .refl k
  split
  · exact .refl k
  next s _ =>
    dsimp only
    split
    · exact .refl k
    split
    · exact .refl k
    split
    · exact .refl k
    split
    · exact .refl k
    split
    · exact (Key.zeroise_rises k (23 + s)).trans (Key.zeroise_rises _ (27 + s))
    · exact helloUdpOpen_rises k _ h s _ _ cmdSz rplSz evtSz u

theorem hello_rises (h : Hdr) (version cmdSz rplSz evtSz : Nat) (udp : Option HelloUdp) (t : Bool) :
    k.Rises (hello h version cmdSz rplSz evtSz udp t k b).1 := by
  cases udp with
  | none => exact .refl k
  | some u => exact helloUdp_rises k b h version cmdSz rplSz evtSz u t

/-! ### The device unique key (R456, R457) -/

theorem Key.enrolled_rises : k.Rises k.enrolled := by
  unfold Key.enrolled
  split
  · exact .of_lcs_eq (fun h => ⟨h.count, h.each, h.kept, h.pend, h.lcs, h.top⟩) rfl
  · exact .refl k

theorem Key.pufFailed_rises : k.Rises k.pufFailed := by
  refine .of_lcs_eq (fun h => ?_) rfl
  have hs := k.mapSlots_sound h (fun s => { KeySlot.empty with gen := s.gen }) fun _ _ _ => KeySlot.empty_sound _ _ _
  exact ⟨hs.count, hs.each, hs.kept, hs.pend, hs.lcs, hs.top⟩

theorem dukRegenerate_rises (tries : List Bool) (corrected : Nat) : k.Rises (dukRegenerate tries corrected k b).1 := by
  unfold dukRegenerate
  split
  · exact .refl k
  dsimp only
  split
  · exact k.enrolled_rises.trans (.of_lcs_eq (fun h => ⟨h.count, h.each, h.kept, h.pend, h.lcs, h.top⟩) rfl)
  · exact k.enrolled_rises.trans k.enrolled.pufFailed_rises

/-! ### Tamper (R472 to R475) -/

theorem Key.tamper_rises (src : Nat) : k.Rises (k.tamper src) := by
  refine .of_lcs_eq (fun h => ?_) rfl
  have hw := k.withhold_sound h
  exact ⟨hw.count, hw.each, hw.kept, hw.pend, hw.lcs, hw.top⟩

theorem tamperEvent_rises (src : Nat) : k.Rises (tamperEvent src k b).1 := by
  unfold tamperEvent
  split
  · exact .refl k
  · exact k.tamper_rises src

theorem meshCheck_rises (ok : Bool) : k.Rises (meshCheck ok k b).1 := by
  have hfails : ∀ n, k.Rises { k with meshFails := n } := fun n =>
    .of_lcs_eq (fun h => ⟨h.count, h.each, h.kept, h.pend, h.lcs, h.top⟩) rfl
  unfold meshCheck
  split
  · exact hfails 0
  dsimp only
  split
  · exact (hfails _).trans (tamperEvent_rises _ b 4)
  · exact hfails _

theorem tamperSourceClear_rises (src out : Nat) : k.Rises (tamperSourceClear src out k b) := by
  unfold tamperSourceClear
  split
  · exact .refl k
  dsimp only
  split
  · exact .of_lcs_eq (fun h => ⟨h.count, h.each, h.kept, h.pend, h.lcs, h.top⟩) rfl
  · exact .of_lcs_eq (fun h => ⟨h.count, h.each, h.kept, h.pend, h.lcs, h.top⟩) rfl

theorem tamperAckBody_rises (session tseq : Nat) (sigOk : Bool) : k.Rises (tamperAckBody session tseq sigOk k b).k := by
  unfold tamperAckBody
  split
  · exact .refl k
  split
  · exact .refl k
  · exact .of_lcs_eq (fun h => Key.unwithhold_sound h tseq) rfl

theorem tamperAck_rises (h : Hdr) (tseq : Nat) (sigOk : Bool) : k.Rises (tamperAck h tseq sigOk k b).1 :=
  ycpK_rises k b h _ _ fun b => tamperAckBody_rises k b h.session tseq sigOk

/-! ### The life cycle (R470, R471) -/

/-- Both copies take a later code that R470 knows; the reset that follows puts it in force. -/
theorem Key.advance_rises {target : Nat} (ht : target = k.lcs + 1) (h4 : target ≤ 4) : k.Rises (k.advance target) := by
  refine .of_lcs_eq (fun h => ⟨h.count, h.each, fun _ he => absurd he List.not_mem_nil, h.pend, ?_, ?_⟩) rfl
  · show k.lcs ≤ max target target
    omega
  · show max target target ≤ 4
    omega

theorem lifecycleAct_rises (h : Hdr) {target : Nat} (ht : target = k.lcs + 1) (h4 : target ≤ 4) :
    k.Rises (lifecycleAct h target k b).1 := fun hs => by
  have ⟨hz, hl⟩ := zeroiseAll_sound hs ((b.lastReply h 0x0C03).bump Reg.KEY_CNT_OP)
  have ha := Key.advance_rises _ (ht.trans (congrArg (· + 1) hl.symm)) h4
  have hr : (zeroiseAll k ((b.lastReply h 0x0C03).bump Reg.KEY_CNT_OP)).1.Rises (lifecycleAct h target k b).1 :=
    ha.trans (assertReset_rises _ _ _ _ _)
  exact ⟨(hr hz).1, hl.ge.trans (hr hz).2⟩

/-- The checks of LIFECYCLE let through the code after the one in force alone. -/
theorem target_of_lifecycleCheck {target : Nat} {sigOk t : Bool} (h : lifecycleCheck target sigOk t k b = yOk) :
    target = k.lcs + 1 ∧ target ≤ 4 := by
  unfold lifecycleCheck at h
  split at h
  · exact absurd h (by decide)
  split at h
  · exact absurd h (by decide)
  · omega

theorem lifecycle_rises (h : Hdr) (target : Nat) (sigOk t : Bool) : k.Rises (lifecycle h target sigOk t k b).1 := by
  unfold lifecycle
  extract_lets taken checked st
  split
  next hst =>
    by_cases hc : checked ≠ yOk
    · exact absurd ((if_pos hc).symm.trans hst) hc
    · have ⟨ht, h4⟩ := target_of_lifecycleCheck k _ ((if_neg hc).symm.trans hst)
      exact lifecycleAct_rises k _ h ht h4
  · exact .refl k

end

/-! ### Every command and every step -/

section
variable {s t : State}

theorem State.rises_of_onB {f : Key → Block → Block} (h : (.next (s.onB f) : Host.Outcome State Fault Refusal) = .next t) :
    s.key.Rises t.key := by
  cases h
  exact .refl _

theorem State.rises_of_onKB {f : Key → Block → Key × Block} (hf : s.key.Rises (f s.key s.b).1)
    (h : (.next (s.onKB f) : Host.Outcome State Fault Refusal) = .next t) : s.key.Rises t.key := by
  cases h
  exact hf

/-- The commands that work on the key block each by its own lemma; the others leave it. -/
theorem exec_rises {c : Instr} (h : exec c s = .next t) : s.key.Rises t.key := by
  cases c
  case dukRegenerate tries bits => exact State.rises_of_onKB (dukRegenerate_rises _ _ tries bits) h
  case keyGen hd slot mode engine alg c tampered => exact State.rises_of_onKB (keyGen_rises _ _ hd slot mode engine alg c tampered) h
  case tamperAck hd tseq sigOk =>
    exact State.rises_of_onKB (tamperAck_rises _ _ hd tseq sigOk) h
  case tamperEvent src => exact State.rises_of_onKB (tamperEvent_rises _ _ src) h
  case meshCheck ok => exact State.rises_of_onKB (meshCheck_rises _ _ ok) h
  case tamperSourceClear src out =>
    cases h
    exact tamperSourceClear_rises _ _ src out
  case watchdogStage1 => exact State.rises_of_onKB (watchdogStage1_rises _ _) h
  case watchdogStage2 => exact State.rises_of_onKB (watchdogStage2_rises _ _) h
  case pcieLinkDown => exact State.rises_of_onKB (pcieLinkDown_rises _ _) h
  case functionLevelReset f => exact State.rises_of_onKB (functionLevelReset_rises _ _ f) h
  case udpSessionTimeout n => exact State.rises_of_onKB (udpSessionTimeout_rises _ _ n) h
  case hello hd version cmdSz rplSz evtSz udp tampered =>
    exact State.rises_of_onKB (hello_rises _ _ hd version cmdSz rplSz evtSz udp tampered) h
  case bye hd => exact State.rises_of_onKB (bye_rises _ _ hd) h
  case heartbeatReceive hb => exact State.rises_of_onKB (heartbeatReceive_rises _ _ hb) h
  case tdmKat pass => exact State.rises_of_onKB (tdmKat_rises _ _ pass) h
  case por vin vstore => exact State.rises_of_onKB (por_rises _ _ vin vstore) h
  case bor rail vin vstore => exact State.rises_of_onKB (bor_rises _ _ rail vin vstore) h
  case resetPin samples => exact State.rises_of_onKB (resetPin_rises _ _ samples) h
  case dbgReset => exact State.rises_of_onKB (dbgReset_rises _ _) h
  case pllLockLoss lostUs off => exact State.rises_of_onKB (pllLockLoss_rises _ _ lostUs off) h
  case lockup point => exact State.rises_of_onKB (lockup_rises _ _ point) h
  case sysReq acc => exact State.rises_of_onKB (f := fun k b => ((sysReqW acc k b).k, (sysReqW acc k b).b)) (sysReqW_rises _ _ acc) h
  case fwReq acc => exact State.rises_of_onKB (f := fun k b => ((fwReqW acc k b).k, (fwReqW acc k b).b)) (fwReqW_rises _ _ acc) h
  case reset hd reach => exact State.rises_of_onKB (reset_rises _ _ hd reach) h
  case resetEnd held => exact State.rises_of_onKB (resetEnd_rises _ _ held) h
  case firmwareStart f => exact State.rises_of_onKB (firmwareStart_rises _ _ f) h
  case stateSet hd target vin => exact State.rises_of_onKB (stateSet_rises _ _ hd target vin) h
  case watchEntry vin lowMs => exact State.rises_of_onKB (watchEntry_rises _ _ vin lowMs) h
  case refclkInvalid => exact State.rises_of_onKB (refclkInvalid_rises _ _) h
  case tcxoFail refin => exact State.rises_of_onKB (tcxoFail_rises _ _ refin) h
  case lifecycle hd target sigOk tampered => exact State.rises_of_onKB (lifecycle_rises _ _ hd target sigOk tampered) h
  case registerWrite acc addr size value => exact State.rises_of_onKB (registerWrite_rises _ _ acc addr size value) h
  case regWrite hd addr value mask => exact State.rises_of_onKB (regWrite_rises _ _ hd addr value mask) h
  all_goals exact State.rises_of_onB h

theorem step_rises (h : step s = .next t) : s.key.Rises t.key := by
  unfold step at h
  split at h
  · exact State.rises_of_onB h
  next c rest _ => exact exec_rises (s := { s with pending := rest }) h

end

/-- Settles O4: State.reset holds 64 empty slots, no stored key and the code 0. -/
theorem soundKeyBlockAtReset : Obligations.SoundKeyBlockAtReset := by
  unfold Obligations.SoundKeyBlockAtReset
  have hempty : ∀ (i : Nat) (x : KeySlot), (List.replicate 64 KeySlot.empty)[i]? = some x → x = .empty := fun i x hx => by
    rw [List.getElem?_replicate] at hx
    split at hx
    · exact (Option.some.inj hx).symm
    · cases hx
  refine ⟨List.length_replicate, fun i x hx => ?_, fun _ he => absurd he List.not_mem_nil, rfl, le_rfl, Nat.zero_le _⟩
  rw [hempty i x hx]
  exact KeySlot.empty_sound _ _ 0

/-- Settles O5: every command keeps the key block sound (`exec_rises`), and a tick leaves it. -/
theorem everyStepKeepsTheKeyBlockSound : Obligations.EveryStepKeepsTheKeyBlockSound := by
  unfold Obligations.EveryStepKeepsTheKeyBlockSound
  intro s t hs h
  exact (step_rises h hs).1

/-- Settles O6: no command lowers the life-cycle code of a sound key block (`exec_rises`), and a tick leaves it. -/
theorem lifeCycleNeverFalls : Obligations.LifeCycleNeverFalls := by
  unfold Obligations.LifeCycleNeverFalls
  intro s t hs h
  exact (step_rises h hs).2

end Sys2Proof.Machine

/-!
SUPPORT. The slot exchange of a tandem, catch-up and takeback: what each command does in the cases the statements name, and the
statements settled from these.
-/
namespace Sys2Proof.Machine

section
variable {k : Key} {b b1 : Block} {t : Nat} {x : Slot}

/-! ### The captain's deadline (R359) -/

theorem schedReceive_of_open {d : Nat} (hs : b.stoker = true) (hl : b.laneUp = true) (ht : b.tai ≤ t + 200 * tickUs)
    (he : b.tooEarly t = false) (hx : (b.openSlot t).slot t = some x) (hp : x.phase = 0) :
    schedReceive t d b = (b.openSlot t).takeSched t d := by
  rw [schedReceive, if_neg (by simp [hs, hl, he, ht])]
  simp only [hx, hp, ne_eq, not_true_eq_false, if_false]

section
variable (hx : b.slot t = some x)
include hx

theorem schedTimeout_of_due (hs : b.stoker = true) (hg : x.schedGot = false) (hp : x.phase = 0) (ht : t + 200 * tickUs ≤ b.tai) :
    schedTimeout t b = b.markIncomplete t := by
  simp only [schedTimeout, hx]
  exact if_neg (by simp [hs, hg, hp, ht])

/-! ### Cuts, needs and fills (R361 to R363) -/

section
variable (hi : b.inExchange = true) (hc : x.cutSent = false) (hp : x.phase = 0) (hd : x.dl.isSome = true)
include hi hc hp hd

/-- An open slot with a deadline is cut at P, and the captain may cut it before. -/
theorem tdmCut_of_open :
    tdmCut t b =
      if x.dl.getD 0 ≤ b.tai + b.leadUs * tickUs then
        (((b.modSlot t fun x => { x with cutSent := true }).tdmSend
          ([3, t, 0, 0] ++ x.bitmap.filter fun n => !x.relayed.contains n)).sendNeeds t)
      else b.earlyCut t := by
  simp only [tdmCut, hx]
  exact if_neg (by simp [hi, hc, hp, Option.isNone_eq_false_iff.mpr hd])

theorem tdmCut_at_p (h : x.dl.getD 0 ≤ b.tai + b.leadUs * tickUs) (h1 : b1 = b.modSlot t fun x => { x with cutSent := true }) :
    tdmCut t b = (b1.tdmSend ([3, t, 0, 0] ++ x.bitmap.filter fun n => !x.relayed.contains n)).sendNeeds t := by
  rw [tdmCut_of_open hx hi hc hp hd, if_pos h, h1]

theorem tdmCut_before_p {p : Nat} (h : b.tai + b.leadUs * tickUs < x.dl.getD 0) (hp' : p = b.tai + 60 * tickUs + Config.earlyLead)
    (hm : b.mayCutEarly x p = true) : tdmCut t b = (b.setEarly t p).tdmSend [3, t, 1, p] := by
  subst hp'
  rw [tdmCut_of_open hx hi hc hp hd, if_neg (Nat.not_le.mpr h)]
  simp only [Block.earlyCut, hx]
  exact if_pos hm

end

section
variable (hi : b.inExchange = true) (hl : b.laneUp = true)
include hi hl

section
variable (hp : x.phase = 0)
include hp

/-- A message of the partner for a slot that is open here. -/
theorem cutReceive_of_open (bitmap : List Nat) (early : Bool) (p : Nat) :
    cutReceive t bitmap early p b =
      if early then (if b.claims || x.cutSent || decide (x.dl.getD 0 < p + b.leadUs * tickUs) then b else b.setEarly t p)
      else (b.modSlot t fun x => { x with partnerCut := some (bitmap.foldl (fun m n => insNat n m) []) }).sendNeeds t := by
  simp only [cutReceive, hx]
  exact if_neg (by simp [hi, hl, hp])

theorem cutReceive_of_bitmap (bitmap : List Nat) (p : Nat) :
    cutReceive t bitmap false p b =
      (b.modSlot t fun x => { x with partnerCut := some (bitmap.foldl (fun m n => insNat n m) []) }).sendNeeds t := by
  rw [cutReceive_of_open hx hi hl hp, if_neg Bool.false_ne_true]

theorem cutReceive_of_early (bitmap : List Nat) {p : Nat} (hn : b.claims = false) (hc : x.cutSent = false)
    (h : p + b.leadUs * tickUs ≤ x.dl.getD 0) : cutReceive t bitmap true p b = b.setEarly t p := by
  rw [cutReceive_of_open hx hi hl hp, if_pos rfl, if_neg (by simp [hn, hc, h])]

end

section
variable {spoke : Nat} {y : Spoke} {v : SpVer} (hy : b.spoke spoke = some y) (hv : y.cur = some v)
include hy hv

theorem needReceive_of_defined : needReceive t spoke b = b.tdmSend ([6, t, spoke] ++ (x.valuesOf v).map BitVec.toNat) := by
  simp only [needReceive, hx, hy, hv]
  exact if_neg (by simp [hi, hl])

theorem fillReceive_of_needed (vals : List W64) (hn : x.needOpen.contains spoke = true) :
    fillReceive t spoke vals b =
      (b.modSlot t fun x => { x with needOpen := x.needOpen.erase spoke }).writeSlot spoke v false y.lastSt b.tai t vals := by
  simp only [fillReceive, hx, hy, hv]
  exact if_neg (by simp only [hi, hl, hn]; decide)

end

end

theorem digestTimeout_of_due (hp : x.phase ≠ 0) (hd : x.digPart = none) (ht : x.c + tickMs ≤ b.tai) :
    digestTimeout t b = b.modSlot t fun x => { x with digOwn := none } := by
  simp only [digestTimeout, hx]
  exact if_neg (by simp [hp, hd, ht])

end

/-! ### Relays (R360) -/

theorem tdmRelayReceive_of_exchange (spoke : Nat) (vals : List W64) (hi : b.inExchange = true) (hl : b.laneUp = true) :
    tdmRelayReceive spoke t vals b =
      (b.bumpBy Reg.TDM_CNT_RELAY_RX (vals.countP entPresent)).takeReport spoke false (relayed b t vals) :=
  if_neg (by simp [hi, hl])

theorem tdmRelayDrop_of_late {n sentAt : Nat} {msg : List Nat} {rest : List (Nat × Nat × List Nat)}
    (hr : b.tdm.relays = (n, sentAt, msg) :: rest) (hn : sentAt + b.fld F.TDM_XCHG_LEAD * tickUs < b.now) :
    tdmRelayDrop b = (b.bumpBy Reg.TDM_CNT_RELAY_DROP n).modTdm fun t => { t with relays := rest } := by
  simp only [tdmRelayDrop, hr]
  exact if_neg (Nat.not_le.mpr hn)

/-! ### Digests and evidence (R364 to R366, R379) -/

theorem digestReceive_of_slot (digest : W64) (inc : Bool) (hi : b.inExchange = true) (hl : b.laneUp = true)
    (hs : (b.slot t).isSome = true) :
    digestReceive t digest inc b =
      ((b.modTdm fun t => { t with pIncRun := if inc then t.pIncRun + 1 else 0 }).modSlot t fun x =>
        { x with digPart := some (digest, inc) }).tryCompare t :=
  if_neg (by simp [hi, hl, Option.isNone_eq_false_iff.mpr hs])

theorem evidenceForwardReceive_of_borrowed {engine : Nat} (v d bl sh : Bool) (rseq slot tq : Nat) (items : BitVec 128)
    (hb : b.borrows = true) (hl : b.laneUp = true) (h3 : 3 ≤ engine) (h8 : engine ≤ 8) :
    evidenceForwardReceive engine v d bl sh rseq slot tq items b =
      b.modGrd fun g => { g with engines := modAt g.engines engine fun x =>
        { x with fwd := (mkEvid engine v d bl sh rseq slot tq items.toNat :: x.fwd).take 256, misses := 0, okAt := b.tai } } :=
  if_neg (by simp [hb, hl, Nat.not_lt.mpr h3, Nat.not_lt.mpr h8])

theorem tdmEvidencePost_of_enabled (slot : Nat) (hen : b.tdm.enNow = true) :
    tdmEvidencePost slot b =
      (b.postEvid (mkEvid 7 true (b.degCaptain || b.tdmState == tdAlone) false false b.tdm.rseq slot b.devClass b.tdmItems)).modTdm
        fun t => { t with rseq := (t.rseq + 1) % 65536 } :=
  if_neg (by simp [hen])

/-! ### Catch-up (R369) -/

theorem catchupRequest_of_holder (hm : b.mayCatchup = true) (hc : b.claims = true) :
    catchupRequest b = b.enterCatchup.tdmSend [9, 1, b.grd.bseq, b.isl.nextId] :=
  if_pos (by simp [hm, hc])

section
variable (d : CatchupData) (ht : b.tdmState = tdCatchup) (hl : b.laneUp = true)
include ht hl

/-- In CATCHUP over a lane that is up, each stage is taken by the unit without the claim, and the whole of them ends catch-up. -/
theorem catchupComplete_of_catchup (whole : Bool) (h1 : b1 = if b.claims || b.tdm.stage1 then b else b.takeStage1 d) :
    catchupComplete d whole b =
      if !whole then b1 else ((if b1.claims then b1 else b1.takeStage2 d).put F.TDM_STAT_STATE tdMatching).freshMatch := by
  subst h1
  exact if_neg (by simp [ht, hl])

theorem catchupComplete_of_stage1 (hc : b.claims = false) (hs : b.tdm.stage1 = false) : catchupComplete d false b = b.takeStage1 d := by
  have h1 : b.takeStage1 d = if b.claims || b.tdm.stage1 then b else b.takeStage1 d := by rw [if_neg (by simp [hc, hs])]
  rw [catchupComplete_of_catchup d ht hl false h1, if_pos (by decide)]

theorem catchupComplete_of_stage2 (hc : b.claims = false) (hs : b.tdm.stage1 = true) :
    catchupComplete d true b = ((b.takeStage2 d).put F.TDM_STAT_STATE tdMatching).freshMatch := by
  have h1 : b = if b.claims || b.tdm.stage1 then b else b.takeStage1 d := by rw [if_pos (by simp [hs])]
  rw [catchupComplete_of_catchup d ht hl true h1, if_neg (by decide), if_neg (by simp [hc])]

theorem catchupComplete_of_holder (hc : b.claims = true) :
    catchupComplete d true b = (b.put F.TDM_STAT_STATE tdMatching).freshMatch := by
  have h1 : b = if b.claims || b.tdm.stage1 then b else b.takeStage1 d := by rw [if_pos (by simp [hc])]
  rw [catchupComplete_of_catchup d ht hl true h1, if_neg (by decide), if_pos hc]

end

theorem catchupTimeout_of_due (ht : b.tdmState = tdCatchup) (hd : b.since b.tdm.catchAt (5 * tickS) = true) :
    catchupTimeout b = (b.goAlone 3).modTdm fun t => { t with retryAt := some (b.now + 10 * tickS) } :=
  if_neg (by simp [ht, hd])

theorem catchupRetry_of_due (hr : b.tdm.retryAt = some t) (ht : t ≤ b.now) :
    catchupRetry b = (b.modTdm fun t => { t with retryAt := none }).askCatchup := by
  simp only [catchupRetry, hr]
  exact if_neg (Nat.not_lt.mpr ht)

/-! ### Holdoff, slow partners and takeback (R364, R372) -/

theorem holdoffMet_of_due (ht : b.tdmState = tdMatching) (hc : b.tdm.compared = true)
    (hd : b.since b.tdm.matchFrom (max 1 (b.fld F.TDM_TIMERS_HOLDOFF) * tickS) = true) (hs : b.tdm.slowLeft = false) :
    holdoffMet b = (b.setTdm tdInStep 4).maybeTake.settleGuard := by
  have hleft : (b.setTdm tdInStep 4).tdm.slowLeft = false := hs
  rw [holdoffMet, if_neg (by simp [ht, hc, hd])]
  dsimp only
  rw [if_neg (by rw [hleft]; decide)]

theorem tdmSlow_of_incomplete (hi : b.inExchange = true)
    (hn : max 1 (b.fld F.TDM_XCHG_SLOW_N) ≤ b.tdm.incRun ∨ max 1 (b.fld F.TDM_XCHG_SLOW_N) ≤ b.tdm.pIncRun) :
    tdmSlow b = ((b.note 0x0B05 1 (b.rd Reg.TDM_DELAY).toNat b.incLast).goAlone 1).settleGuard :=
  if_neg (by simp only [hi, decide_eq_true hn, Bool.true_or]; decide)

theorem takeReceive_of_captain (hm : b.mayHand = true) (hl : b.laneUp = true) :
    takeReceive b = b.modTdm fun t => { t with handDue := true } :=
  if_pos (by simp [hm, hl])

theorem handoverW_of_allowed {acc : Nat} (hm : b.mayWrite k acc roleEng true = yOk) :
    handoverW acc k b = ⟨yOk, if b.mayHand then b.modTdm fun t => { t with handDue := true } else b⟩ :=
  if_neg (not_not_intro hm)

theorem handoverW_of_denied {acc : Nat} (hm : b.mayWrite k acc roleEng true ≠ yOk) :
    handoverW acc k b = wErr b acc (b.mayWrite k acc roleEng true) :=
  if_pos hm

end

/-- Settles O36: each command of the exchange by the case of its meaning that its guard selects. -/
theorem slotExchangeOfATandemTakesEffect : Obligations.SlotExchangeOfATandemTakesEffect := by
  unfold Obligations.SlotExchangeOfATandemTakesEffect
  refine ⟨?sched, ?noSched, ?relay, ?relayDrop, ?cut, ?earlyCut, ?partnerCut, ?partnerEarly, ?need, ?fill, ?digest, ?noDigest, ?forward,
    ?post⟩
  case sched =>
    intro s t d x hs hl ht he hx hp
    exact congrArg Host.Outcome.next (State.onB_eq_putB (schedReceive_of_open hs hl ht he hx hp))
  case noSched =>
    intro s t x hx hs hg hp ht
    exact congrArg Host.Outcome.next (State.onB_eq_putB (schedTimeout_of_due hx hs hg hp ht))
  case relay =>
    intro s spoke t vals hi hl
    exact congrArg Host.Outcome.next (State.onB_eq_putB (tdmRelayReceive_of_exchange spoke vals hi hl))
  case relayDrop =>
    intro s n sentAt msg rest hr hn
    exact congrArg Host.Outcome.next (State.onB_eq_putB (tdmRelayDrop_of_late hr hn))
  case cut =>
    intro s t x b1 hx hi hc hp hd h h1
    exact congrArg Host.Outcome.next (State.onB_eq_putB (tdmCut_at_p hx hi hc hp hd h h1))
  case earlyCut =>
    intro s t p x hx hi hc hp hd h hp' hm
    exact congrArg Host.Outcome.next (State.onB_eq_putB (tdmCut_before_p hx hi hc hp hd h hp' hm))
  case partnerCut =>
    intro s t bitmap p x hx hi hl hp
    exact congrArg Host.Outcome.next (State.onB_eq_putB (cutReceive_of_bitmap hx hi hl hp bitmap p))
  case partnerEarly =>
    intro s t bitmap p x hx hi hl hp hn hc h
    exact congrArg Host.Outcome.next (State.onB_eq_putB (cutReceive_of_early hx hi hl hp bitmap hn hc h))
  case need =>
    intro s t spoke x y v hx hy hv hi hl
    exact congrArg Host.Outcome.next (State.onB_eq_putB (needReceive_of_defined hx hi hl hy hv))
  case fill =>
    intro s t spoke vals x y v hx hy hv hi hl hn
    exact congrArg Host.Outcome.next (State.onB_eq_putB (fillReceive_of_needed hx hi hl hy hv vals hn))
  case digest =>
    intro s t digest inc hi hl hs
    exact congrArg Host.Outcome.next (State.onB_eq_putB (digestReceive_of_slot digest inc hi hl hs))
  case noDigest =>
    intro s t x hx hp hd ht
    exact congrArg Host.Outcome.next (State.onB_eq_putB (digestTimeout_of_due hx hp hd ht))
  case forward =>
    intro s engine v d bl sh rseq slot tq items hb hl h3 h8
    exact congrArg Host.Outcome.next
      (State.onB_eq_putB (evidenceForwardReceive_of_borrowed v d bl sh rseq slot tq items hb hl h3 h8))
  case post =>
    intro s slot hen
    exact congrArg Host.Outcome.next (State.onB_eq_putB (tdmEvidencePost_of_enabled slot hen))

/-- Settles O37: each command of catch-up and takeback by the case of its meaning that its guard selects. -/
theorem catchUpAndTakebackTakeEffect : Obligations.CatchUpAndTakebackTakeEffect := by
  unfold Obligations.CatchUpAndTakebackTakeEffect
  refine ⟨?request, ?stage1, ?stage2, ?holder, ?timeout, ?retry, ?holdoff, ?slow, ?take, ?handover, ?handoverDenied, ?opcode,
    ?opcodeDenied, ?status⟩
  case request =>
    intro s hm hc
    exact congrArg Host.Outcome.next (State.onB_eq_putB (catchupRequest_of_holder hm hc))
  case stage1 =>
    intro s d ht hl hc hs
    exact congrArg Host.Outcome.next (State.onB_eq_putB (catchupComplete_of_stage1 d ht hl hc hs))
  case stage2 =>
    intro s d ht hl hc hs
    exact congrArg Host.Outcome.next (State.onB_eq_putB (catchupComplete_of_stage2 d ht hl hc hs))
  case holder =>
    intro s d ht hl hc
    exact congrArg Host.Outcome.next (State.onB_eq_putB (catchupComplete_of_holder d ht hl hc))
  case timeout =>
    intro s ht hd
    exact congrArg Host.Outcome.next (State.onB_eq_putB (catchupTimeout_of_due ht hd))
  case retry =>
    intro s t hr ht
    exact congrArg Host.Outcome.next (State.onB_eq_putB (catchupRetry_of_due hr ht))
  case holdoff =>
    intro s ht hc hd hs
    exact congrArg Host.Outcome.next (State.onB_eq_putB (holdoffMet_of_due ht hc hd hs))
  case slow =>
    intro s hi hn
    exact congrArg Host.Outcome.next (State.onB_eq_putB (tdmSlow_of_incomplete hi hn))
  case take =>
    intro s hm hl
    exact congrArg Host.Outcome.next (State.onB_eq_putB (takeReceive_of_captain hm hl))
  case handover =>
    intro s acc hm
    exact congrArg Host.Outcome.next (State.onB_eq_putB (congrArg WRes.b (handoverW_of_allowed hm)))
  case handoverDenied =>
    intro s acc hm
    exact congrArg Host.Outcome.next (State.onB_eq_putB (congrArg WRes.b (handoverW_of_denied hm)))
  case opcode =>
    intro s h r hm
    exact congrArg Host.Outcome.next (r.onB_answer yOk [] (fun b => b.modTdm fun t => { t with handDue := true }) rfl (if_pos hm))
  case opcodeDenied =>
    intro s h r hm
    exact congrArg Host.Outcome.next (r.onB_answer yDenied [] (fun b => b) rfl (if_neg (by simp [hm])))
  case status =>
    intro s h r
    exact congrArg Host.Outcome.next (r.onB_answer yOk _ (fun b => b) rfl rfl)

end Sys2Proof.Machine

/-!
SUPPORT. The radio: hopping, superframes, reception, downlink and the host's commands; what each does in the cases the statements
name, and the statements settled from these.
-/
namespace Sys2Proof.Machine

/-! ### Hopping (R393) -/

/-- The primes from 7 to 73, among which STRIDE is sought. -/
def stridePrimes : List Nat := [7, 11, 13, 17, 19, 23, 29, 31, 37, 41, 43, 47, 53, 59, 61, 67, 71, 73]

theorem stride_eq (n : Nat) : stride n = (stridePrimes.find? fun p => n % p != 0).getD 73 := rfl

theorem prime_of_mem_stridePrimes {p : Nat} (h : p ∈ stridePrimes) : p.Prime ∧ 7 ≤ p := by
  simp only [stridePrimes, List.mem_cons, List.not_mem_nil, or_false] at h
  rcases h with rfl | rfl | rfl | rfl | rfl | rfl | rfl | rfl | rfl | rfl | rfl | rfl | rfl | rfl | rfl | rfl | rfl | rfl <;> norm_num

theorem mem_stridePrimes_of_prime {p : Nat} (hp : p.Prime) (h7 : 7 ≤ p) (h73 : p ≤ 73) : p ∈ stridePrimes := by
  revert hp
  interval_cases p <;> norm_num [stridePrimes]

theorem stridePrimes_sorted : stridePrimes.Pairwise (· < ·) := by decide

/-- For 1 to 72 channels the search ends: 73 divides no such number. STRIDE is then the first of the list that does not divide. -/
theorem stride_first {n : Nat} (h0 : 0 < n) (h72 : n ≤ 72) :
    ∃ l l', stridePrimes = l ++ stride n :: l' ∧ ¬stride n ∣ n ∧ ∀ p ∈ l, p ∣ n := by
  have hfound : (stridePrimes.find? fun p => n % p != 0).isSome = true :=
    List.find?_isSome.mpr ⟨73, by decide, by simp [Nat.mod_eq_of_lt (show n < 73 by omega)]; omega⟩
  obtain ⟨q, hq⟩ := Option.isSome_iff_exists.mp hfound
  have hs : stride n = q := by rw [stride_eq, hq, Option.getD_some]
  obtain ⟨hn, l, l', hl, hdiv⟩ := List.find?_eq_some_iff_append.mp hq
  refine ⟨l, l', hs ▸ hl, ?_, fun p hp => ?_⟩
  · rw [hs, Nat.dvd_iff_mod_eq_zero]
    simpa using hn
  · have := hdiv p hp
    rw [Nat.dvd_iff_mod_eq_zero]
    simpa using this

theorem stride_spec {n : Nat} (h0 : 0 < n) (h72 : n ≤ 72) :
    (stride n).Prime ∧ 7 ≤ stride n ∧ ¬stride n ∣ n ∧ ∀ p, p.Prime → 7 ≤ p → p < stride n → p ∣ n := by
  obtain ⟨l, l', hl, hn, hdiv⟩ := stride_first h0 h72
  have hmem : stride n ∈ stridePrimes := by simp [hl]
  obtain ⟨hp, h7⟩ := prime_of_mem_stridePrimes hmem
  refine ⟨hp, h7, hn, fun p hp h7 hlt => hdiv p ?_⟩
  have hsort := stridePrimes_sorted
  have h73 : stride n ≤ 73 := (by decide : ∀ q ∈ stridePrimes, q ≤ 73) _ hmem
  have hin := mem_stridePrimes_of_prime hp h7 (hlt.le.trans h73)
  rw [hl] at hsort hin
  rcases List.mem_append.mp hin with h | h
  · exact h
  · rcases List.mem_cons.mp h with h | h
    · omega
    · have := (List.pairwise_cons.mp (List.pairwise_append.mp hsort).2.1).1 p h
      omega

theorem mapList_sorted (m : Nat) : (mapList m).Pairwise (· < ·) := List.Pairwise.filter _ List.pairwise_lt_range

theorem mem_mapList {m c : Nat} : c ∈ mapList m ↔ c < 72 ∧ m.testBit c = true := by
  simp [mapList, bitsSet]

theorem mapList_length_le (m : Nat) : (mapList m).length ≤ 72 :=
  (List.length_filter_le _ _).trans_eq List.length_range

theorem mapList_nodup (m : Nat) : (mapList m).Nodup := (mapList_sorted m).imp fun h => h.ne

/-- The place in MAP_LIST of a superframe's channel. -/
def hopIndex (n sfn : Nat) : Nat := sfn * stride n % n

theorem getElem?_hopIndex {m : Nat} (hm : mapList m ≠ []) (sfn : Nat) :
    (mapList m)[hopIndex (mapList m).length sfn]? = some (hopChan m sfn) := by
  have h0 : 0 < (mapList m).length := List.length_pos_iff.mpr hm
  have hlt : hopIndex (mapList m).length sfn < (mapList m).length := Nat.mod_lt _ h0
  have hmax : max 1 (mapList m).length = (mapList m).length := Nat.max_eq_right h0
  simp only [hopChan, hmax]
  rw [List.getElem?_eq_getElem hlt]
  exact congrArg some (List.getD_eq_getElem _ _ hlt).symm

/-- STRIDE and N have no common factor, so N superframes in a row take N different places. -/
theorem hopIndex_inj {n start i j : Nat} (h72 : n ≤ 72) (hi : i < n) (hj : j < n)
    (h : hopIndex n (start + i) = hopIndex n (start + j)) : i = j := by
  obtain ⟨hp, _, hn, _⟩ := stride_spec (n := n) (by omega) h72
  have hco : Nat.gcd n (stride n) = 1 := Nat.Coprime.symm ((Nat.Prime.coprime_iff_not_dvd hp).mpr hn)
  have hmod : start + i ≡ start + j [MOD n] := Nat.ModEq.cancel_right_of_coprime hco h
  exact Nat.ModEq.eq_of_lt_of_lt (Nat.ModEq.add_left_cancel' start hmod) hi hj

theorem exists_hopIndex {n start k : Nat} (h72 : n ≤ 72) (hk : k < n) : ∃ j, j < n ∧ hopIndex n (start + j) = k := by
  have hlt : ∀ j, hopIndex n (start + j) < n := fun j => Nat.mod_lt _ (by omega)
  have hinj : Function.Injective fun j : Fin n => (⟨hopIndex n (start + j), hlt j⟩ : Fin n) := fun i j h =>
    Fin.ext (hopIndex_inj h72 i.2 j.2 (Fin.mk.inj h))
  obtain ⟨j, hj⟩ := Finite.surjective_of_injective hinj ⟨k, hk⟩
  exact ⟨j, j.2, Fin.mk.inj hj⟩

theorem hopChan_visits_once {m c : Nat} (start : Nat) (hc : c ∈ mapList m) :
    ∃ j, j < (mapList m).length ∧ hopChan m (start + j) = c ∧ ∀ i, i < (mapList m).length → hopChan m (start + i) = c → i = j := by
  have hm : mapList m ≠ [] := List.ne_nil_of_mem hc
  have h72 := mapList_length_le m
  obtain ⟨k, hk, rfl⟩ := List.getElem_of_mem hc
  obtain ⟨j, hj, hjk⟩ := exists_hopIndex (start := start) h72 hk
  have hchan : ∀ i, hopChan m (start + i) = (mapList m)[k] ↔ hopIndex (mapList m).length (start + i) = k := fun i => by
    have hget := getElem?_hopIndex hm (start + i)
    have hlt : hopIndex (mapList m).length (start + i) < (mapList m).length := Nat.mod_lt _ (by omega)
    rw [List.getElem?_eq_getElem hlt, Option.some.injEq] at hget
    rw [← hget]
    exact (mapList_nodup m).getElem_inj_iff
  exact ⟨j, hj, (hchan j).mpr hjk, fun i hi h => hopIndex_inj h72 hi hj (((hchan i).mp h).trans hjk.symm)⟩

theorem Block.mapAt_modRad (b : Block) (f : Rad → Rad) (a : Nat) : (b.modRad f).mapAt a = b.mapAt a := rfl

/-- A superframe takes a pending map first, and then its channel under the map in force. -/
theorem Block.hop_eq (b : Block) : ∃ (c : Block) (held : Bool), c.rad.sfn = b.rad.sfn ∧
    b.hop = c.modRad fun r => { r with chan := hopChan (c.mapAt Reg.RAD_MAP_EFF) c.rad.sfn, held := held } := by
  unfold Block.hop
  extract_lets c ch held
  refine ⟨c, held, ?_, rfl⟩
  unfold c
  split
  · rfl
  · split <;> rfl

/-- The channel a superframe takes is the one R393 names under the map then in force. -/
theorem Block.hop_chan (b : Block) : b.hop.rad.chan = hopChan (b.hop.mapAt Reg.RAD_MAP_EFF) b.rad.sfn := by
  obtain ⟨c, held, hsfn, hhop⟩ := b.hop_eq
  rw [hhop, Block.mapAt_modRad, ← hsfn]
  rfl

/-- Settles O56: MAP_LIST and STRIDE by their definitions; N superframes take N different places of MAP_LIST, so all of them. -/
theorem hoppingVisitsEveryChannelOfTheMap : Obligations.HoppingVisitsEveryChannelOfTheMap := by
  unfold Obligations.HoppingVisitsEveryChannelOfTheMap
  refine ⟨?list, ?strides, ?channel, ?taken, ?once⟩
  case list => exact fun m c => ⟨mapList_sorted m, mem_mapList⟩
  case strides => exact fun n h0 h72 => stride_spec h0 h72
  case channel => exact fun m sfn hm => getElem?_hopIndex hm sfn
  case taken => exact Block.hop_chan
  case once => exact fun m start c hc => hopChan_visits_once start hc

section
variable {k : Key} {b b1 : Block}

/-! ### Superframes and windows (R387, R390) -/

section
variable {busy : Bool} (hon : b.radOn = true) (ht : (b.timState == tmInit) = false)
  (hs : (b.rad.started && b.rad.origin == b.tai / sfTicks * sfTicks) = false)
  (h1 : b1 = b.settleSuperframe.enterSuperframe (b.tai / sfTicks))
include hon ht hs h1

theorem superframeStart_of_due :
    superframeStart busy k b =
      if (b1.modRad fun r => { r with dueNow := b1.dueSlots, failNow := b1.dueSlots }).radLead then
        ((b1.modRad fun r => { r with dueNow := b1.dueSlots, failNow := b1.dueSlots }).leadSuperframe k busy).radioMessage
      else (b1.modRad fun r => { r with dueNow := b1.dueSlots, failNow := b1.dueSlots }).listenSuperframe := by
  subst h1
  exact if_neg (by simp only [hon, ht, hs]; decide)

theorem superframeStart_of_lead (hl : (b1.modRad fun r => { r with dueNow := b1.dueSlots, failNow := b1.dueSlots }).radLead = true) :
    superframeStart busy k b =
      ((b1.modRad fun r => { r with dueNow := b1.dueSlots, failNow := b1.dueSlots }).leadSuperframe k busy).radioMessage := by
  rw [superframeStart_of_due hon ht hs h1, if_pos hl]

theorem superframeStart_of_listening
    (hl : (b1.modRad fun r => { r with dueNow := b1.dueSlots, failNow := b1.dueSlots }).radLead = false) :
    superframeStart busy k b = (b1.modRad fun r => { r with dueNow := b1.dueSlots, failNow := b1.dueSlots }).listenSuperframe := by
  rw [superframeStart_of_due hon ht hs h1, if_neg (by rw [hl]; decide)]

end

/-! ### A frame through the checks (R405 to R410) -/

section
variable {f : RadFrame} {fwd : Bool} {i : Nat} {r : Option Nat × Block}

theorem Block.bundleIn_of_received {j : Nat} (x : Bundle)
    (hr : r = b.radReceive k f false fwd (b.owner j) fun i => b.owner j == some i) (hi : r.1 = some i) :
    b.bundleIn k j f x fwd = r.2.takeBundle (1 <<< j) i f x := by
  obtain ⟨who, c⟩ := r
  obtain rfl : who = some i := hi
  simp only [Block.bundleIn, ← hr]

theorem Block.commandIn_of_received (act : Nat → Block → Block) (hr : r = b.radReceive k f false fwd none fun _ => true)
    (hi : r.1 = some i) : b.commandIn k f fwd act = act i (r.2.heardFrom i) := by
  obtain ⟨who, c⟩ := r
  obtain rfl : who = some i := hi
  simp only [Block.commandIn, ← hr]

end

section
variable (hon : b.radOn = true) (hst : b.rad.started = true)
include hon hst

theorem slotWindowOpen_of_running (slot : Nat) (busy : Bool) :
    slotWindowOpen slot busy b = (if busy then b.cutReception else b).modRad fun r => { r with rxSlot := some slot } :=
  if_neg (by simp [hon, hst])

section
variable {slot : Nat} {f : RadFrame}

theorem bundleReceive_of_slot (x : Bundle) (h24 : slot < 24) : bundleReceive slot f x k b = b.bundleIn k slot f x false :=
  if_neg (by simp [hon, hst, h24])

/-! ### Requests and commands of sensors (R399, R401, R403) -/

section
variable (ppm gear nch cap : Nat) (hfw : b.top.started = true) (h2 : slot < 2)
include hfw h2

theorem assocReq_of_slot :
    assocReq slot f ppm gear nch cap k b =
      if !b.radLead then (if f.fcsOk then b.forwardRadio slot f [1, ppm, gear, nch, cap] else b)
      else b.joinIn k f ppm gear nch cap false :=
  if_neg (by simp [hon, hst, hfw, h2])

theorem assocReq_of_lead (hl : b.radLead = true) : assocReq slot f ppm gear nch cap k b = b.joinIn k f ppm gear nch cap false := by
  rw [assocReq_of_slot hon hst ppm gear nch cap hfw h2, if_neg (by simp [hl])]

theorem assocReq_of_listening (hl : b.radLead = false) (hf : f.fcsOk = true) :
    assocReq slot f ppm gear nch cap k b = b.forwardRadio slot f [1, ppm, gear, nch, cap] := by
  rw [assocReq_of_slot hon hst ppm gear nch cap hfw h2, if_pos (by simp [hl]), if_pos hf]

end

section
variable (hslot : slot = 2 ∨ slot = 3)
include hslot

theorem poll_of_slot :
    poll slot f k b =
      if !b.radLead then (if f.fcsOk then b.forwardRadio (26 + slot) f [5] else b) else b.commandIn k f false fun _ b => b :=
  if_neg (by rcases hslot with rfl | rfl <;> simp [hon, hst])

theorem disassoc_of_slot (reason : Nat) :
    disassoc slot f reason k b =
      if !b.radLead then (if f.fcsOk then b.forwardRadio (26 + slot) f [6, reason] else b)
      else b.commandIn k f false Block.sensorLeaves :=
  if_neg (by rcases hslot with rfl | rfl <;> simp [hon, hst])

section
variable {r : Option Nat × Block} {i : Nat} (hl : b.radLead = true) (hr : r = b.radReceive k f false false none fun _ => true)
  (hi : r.1 = some i)
include hl hr hi

theorem poll_of_lead : poll slot f k b = r.2.heardFrom i := by
  rw [poll_of_slot hon hst hslot, if_neg (by simp [hl]), Block.commandIn_of_received _ hr hi]

theorem disassoc_of_lead (reason : Nat) : disassoc slot f reason k b = Block.sensorLeaves i (r.2.heardFrom i) := by
  rw [disassoc_of_slot hon hst hslot, if_neg (by simp [hl]), Block.commandIn_of_received _ hr hi]

end

section
variable (hl : b.radLead = false) (hf : f.fcsOk = true)
include hl hf

theorem poll_of_listening : poll slot f k b = b.forwardRadio (26 + slot) f [5] := by
  rw [poll_of_slot hon hst hslot, if_pos (by simp [hl]), if_pos hf]

theorem disassoc_of_listening (reason : Nat) : disassoc slot f reason k b = b.forwardRadio (26 + slot) f [6, reason] := by
  rw [disassoc_of_slot hon hst hslot, if_pos (by simp [hl]), if_pos hf]

end

end

theorem relayReceive_of_received (inner : List (RadFrame × RadBody)) {r : Option Nat × Block} {i : Nat} (h24 : slot < 24)
    (hr : r = b.radReceive k f false false (b.owner slot) fun i => b.owner slot == some i) (hi : r.1 = some i)
    (h1 : b1 = (r.2.modRad fun u => { u with acknow := u.acknow ||| 1 <<< slot }).heardFrom i)
    (hrel : (b1.flag F.RAD_CTRL_RELAY_EN && (b1.assoc i).relayCap && b1.top.started) = true) :
    relayReceive slot f inner k b = inner.foldl (fun b x => b.innerFrame k i x) b1 := by
  obtain ⟨who, c⟩ := r
  obtain rfl : who = some i := hi
  subst h1
  have hmay : ∀ c : Block, (c.flag F.RAD_CTRL_RELAY_EN && (c.assoc i).relayCap && c.top.started) = true →
      ¬(!c.flag F.RAD_CTRL_RELAY_EN || !(c.assoc i).relayCap || !c.top.started) = true := fun c h => by simpa using h
  rw [relayReceive, if_neg (by simp [hon, hst, h24])]
  simp only [← hr]
  exact if_neg (hmay _ hrel)

end

/-! ### A listening unit and its captain (R374 to R376, R404) -/

theorem enhAckReceive_of_lead (n : Nat) (hl : b.radLead = true) : enhAckReceive n b = b.acked n := by
  rw [enhAckReceive, if_neg (by simp [hon, hst]), if_neg (by simp [hl])]

theorem enhAckReceive_of_listening (n : Nat) (hl : b.radLead = false) :
    enhAckReceive n b = (b.bump Reg.TDM_CNT_RADIO_FWD).tdmSend [12, 26, n] := by
  rw [enhAckReceive, if_neg (by simp [hon, hst]), if_pos (by simp [hl])]

section
variable {slot : Nat} {f : RadFrame} (hen : b.tdm.enNow = true) (hl : b.radLead = true)
include hen hl

theorem radioForwardReceive_of_bundle (x : Bundle) (hslot : 2 ≤ slot ∧ slot < 26) :
    radioForwardReceive slot f (.bundle x) k b = b.bundleIn k (slot - 2) f x true := by
  rw [radioForwardReceive, if_neg (by simp [hon, hst, hen, hl])]
  exact if_pos hslot

theorem radioForwardReceive_of_assocReq (ppm gear nch cap : Nat) (hfw : b.top.started = true) :
    radioForwardReceive slot f (.assocReq ppm gear nch cap) k b = b.joinIn k f ppm gear nch cap true := by
  rw [radioForwardReceive, if_neg (by simp [hon, hst, hen, hl])]
  exact if_pos hfw

end

end

theorem beaconReceive_of_listening (x : Beacon) (hon : b.radOn = true) (hl : b.radLead = false) :
    beaconReceive x b =
      ((b.modRad fun r => { r with heard := true, missed := 0, capSfn := x.sfn }).put F.RAD_STAT_MAP_VER x.mapVer).putFlag
        F.RAD_STAT_MAP_PENDING x.mapPending :=
  if_neg (by simp [hon, hl])

theorem radioMessageReceive_of_stoker (m : RadioMsg) (hv : b.top.variant ≠ .n0) (hen : b.tdm.enNow = true) (hc : b.claims = false)
    (hl : b.laneUp = true) (hr : b.rad.lead = false) (h1 : b1 = b.modRad fun r => { r with capFc := some m.coordFc, capSfn := m.sfn }) :
    radioMessageReceive m b = (b1.putMap Reg.RAD_MAP_EFF m.map).takeEntries m.sfn m.entries := by
  subst h1
  have hlead : (b.modRad fun r => { r with capFc := some m.coordFc, capSfn := m.sfn }).rad.lead = false := hr
  rw [radioMessageReceive, if_neg (by simp [hv, hen, hc, hl])]
  dsimp only
  rw [if_neg (by rw [hlead]; decide)]

end

/-- Settles O38: each reception by the case of its meaning that its guard selects. -/
theorem radioReceptionTakesEffect : Obligations.RadioReceptionTakesEffect := by
  unfold Obligations.RadioReceptionTakesEffect
  refine ⟨?lead, ?listen, ?window, ?bundle, ?join, ?joinForward, ?poll, ?leave, ?forward, ?relay, ?ack, ?ackForward, ?beacon, ?forwarded,
    ?message⟩
  case lead =>
    intro s busy b1 hon ht hs h1 hl
    exact congrArg Host.Outcome.next (State.onB_eq_putB (superframeStart_of_lead hon ht hs h1 hl))
  case listen =>
    intro s busy b1 hon ht hs h1 hl
    exact congrArg Host.Outcome.next (State.onB_eq_putB (superframeStart_of_listening hon ht hs h1 hl))
  case window =>
    intro s slot busy hon hst
    exact congrArg Host.Outcome.next (State.onB_eq_putB (slotWindowOpen_of_running hon hst slot busy))
  case bundle =>
    intro s slot f x r i hon hst h24 hr hi
    exact congrArg Host.Outcome.next
      (State.onB_eq_putB ((bundleReceive_of_slot hon hst x h24).trans (Block.bundleIn_of_received x hr hi)))
  case join =>
    intro s slot f ppm gear nch cap hon hst hfw h2 hl
    exact congrArg Host.Outcome.next (State.onB_eq_putB (assocReq_of_lead hon hst ppm gear nch cap hfw h2 hl))
  case joinForward =>
    intro s slot f ppm gear nch cap hon hst hfw h2 hl hf
    exact congrArg Host.Outcome.next (State.onB_eq_putB (assocReq_of_listening hon hst ppm gear nch cap hfw h2 hl hf))
  case poll =>
    intro s slot f r i hon hst hslot hl hr hi
    exact congrArg Host.Outcome.next (State.onB_eq_putB (poll_of_lead hon hst hslot hl hr hi))
  case leave =>
    intro s slot f reason r i hon hst hslot hl hr hi
    exact congrArg Host.Outcome.next (State.onB_eq_putB (disassoc_of_lead hon hst hslot hl hr hi reason))
  case forward =>
    intro s slot f reason hon hst hslot hl hf
    exact ⟨congrArg Host.Outcome.next (State.onB_eq_putB (poll_of_listening hon hst hslot hl hf)),
      congrArg Host.Outcome.next (State.onB_eq_putB (disassoc_of_listening hon hst hslot hl hf reason))⟩
  case relay =>
    intro s slot f inner r i b1 hon hst h24 hr hi h1 hrel
    exact congrArg Host.Outcome.next (State.onB_eq_putB (relayReceive_of_received hon hst inner h24 hr hi h1 hrel))
  case ack =>
    intro s n hon hst hl
    exact congrArg Host.Outcome.next (State.onB_eq_putB (enhAckReceive_of_lead hon hst n hl))
  case ackForward =>
    intro s n hon hst hl
    exact congrArg Host.Outcome.next (State.onB_eq_putB (enhAckReceive_of_listening hon hst n hl))
  case beacon =>
    intro s x hon hl
    exact congrArg Host.Outcome.next (State.onB_eq_putB (beaconReceive_of_listening x hon hl))
  case forwarded =>
    intro s slot f x ppm gear nch cap hon hst hen hl
    exact ⟨fun hslot => congrArg Host.Outcome.next (State.onB_eq_putB (radioForwardReceive_of_bundle hon hst hen hl x hslot)),
      fun hfw => congrArg Host.Outcome.next (State.onB_eq_putB (radioForwardReceive_of_assocReq hon hst hen hl ppm gear nch cap hfw))⟩
  case message =>
    intro s m b1 hv hen hc hl hr h1
    exact congrArg Host.Outcome.next (State.onB_eq_putB (radioMessageReceive_of_stoker m hv hen hc hl hr h1))

section
variable {k : Key} {b b1 : Block}

/-! ### Downlink and supervision (R396, R399, R404) -/

section
variable {busy : Bool} {r : Bool × Block} (hon : (b.radOn && b.rad.started && b.radLead && b.top.started) = true)
include hon

/-- A coordinator with its firmware running sends in C0 and C1. -/
theorem downlink_runs {c : Nat} (h2 : c < 2) : ¬(!b.radOn || !b.rad.started || !b.radLead || !b.top.started || decide (2 ≤ c)) = true := by
  simpa [h2] using hon

theorem downlinkSlot_of_map {p : MapChange} (hp : b.rad.mapPend = some p)
    (hr : r = b.radSecured k Emit.radio (commandPsdu false 12) [0x03, 0xFFFF, b.fld F.RAD_STAT_MAP_VER, p.act % 256, p.map]) :
    downlinkSlot 1 busy k b = if r.1 && busy then r.2.bump Reg.RAD_CNT_RX_ABORT else r.2 := by
  rw [downlinkSlot, if_neg (downlink_runs hon (by decide))]
  simp only [if_true, hp, ← hr]
  cases r.1 <;> rfl

theorem downlinkSlot_of_queued {d : Downlink} (hd : (b.rad.downlink.find? fun d => !d.sent && decide (d.sends < 4)) = some d)
    (hr : r = b.radSecured k Emit.radio (commandPsdu (d.cmd == 0x02) (1 + d.body.length)) ([d.cmd, shortOf d.entry, d.seqNo] ++ d.body))
    (hs : r.1 = true) :
    downlinkSlot 0 busy k b =
      (if busy then r.2.bump Reg.RAD_CNT_RX_ABORT else r.2).modRad fun u => { u with downlink := u.downlink.map fun y =>
        if y.seqNo = d.seqNo then { y with sent := true, sends := y.sends + 1 } else y } := by
  rw [downlinkSlot, if_neg (downlink_runs hon (by decide))]
  simp only [Nat.zero_ne_one, if_false, hd, ← hr, hs]
  rfl

end

theorem supervisionTimeout_of_silent {i : Nat} (hon : (b.radOn && b.rad.started && b.radLead) = true) (ha : (b.assoc i).state ≠ 0)
    (hd : b.since (b.assoc i).heardAt ((b.assoc i).sup * tickMs) = true) :
    supervisionTimeout i b = if (b.assoc i).state = 2 then b.dropAssoc i 0 else b.releaseAssoc i := by
  have hruns : ¬(!b.radOn || !b.rad.started || !b.radLead || (b.assoc i).state == 0 ||
      !b.since (b.assoc i).heardAt ((b.assoc i).sup * tickMs)) = true := by simpa [ha, hd] using hon
  exact if_neg hruns

/-! ### Excised channels, counters and beaconing (R378, R397, R407, R408) -/

theorem channelReinstate_of_held {ch t pct : Nat} (hx : tabGet b.rad.excised ch = some (t, pct)) (hon : (b.radOn && b.radLead) = true)
    (hp : b.rad.mapPend = none) (hd : b.since t (b.fld F.RAD_EXC_HOLD * 10 * tickS) = true)
    (hbase : (b.mapAt Reg.RAD_MAP).testBit ch = true) (heff : (b.mapAt Reg.RAD_MAP_EFF).testBit ch = false)
    (h1 : b1 = (b.modRad fun r => { r with excised := tabDel r.excised ch }).changeMap (b.mapAt Reg.RAD_MAP_EFF ||| 1 <<< ch) 0) :
    channelReinstate ch b = b1.note 0x0C04 ch 0 pct (b1.fld F.RAD_STAT_MAP_VER) := by
  subst h1
  have hdue : ¬(!b.radOn || !b.radLead || b.rad.mapPend.isSome || !b.since t (b.fld F.RAD_EXC_HOLD * 10 * tickS)) = true := by
    simpa [hp, hd] using hon
  simp only [channelReinstate, hx]
  rw [if_neg hdue]
  exact if_neg (by simp [hbase, heff])

theorem frameCounterSave_of_due (hon : b.radOn = true) (hd : b.since b.rad.savedAt (60 * tickS) = true) :
    frameCounterSave b = b.saveAssoc :=
  if_pos (by simp [hon, hd])

theorem coordFcSave_of_due (h : 4096 ≤ b.rad.sinceFc) :
    coordFcSave b = b.modRad fun r => { r with savedFc := (b.rd Reg.RAD_FC_OUT).toNat, sinceFc := 0 } :=
  if_neg (Nat.not_lt.mpr h)

theorem beaconingStart_of_missed (hon : (b.radOn && b.tdm.enNow && b.claims) = true) (hl : b.rad.lead = false) (hm : 3 ≤ b.rad.missed)
    (hp : b.partnerClaims = false) :
    beaconingStart b =
      (b.resumeCap.modRad fun r => { r with lead := true, handFrom := none, lastTo := none }).note 0x0B08 1
        ((b.resumeCap.rad.sfn + 1) % 2 ^ 32) := by
  have hmay : ¬(!b.radOn || !b.tdm.enNow || !b.claims || b.rad.lead || decide (b.rad.missed < 3) || b.partnerClaims) = true := by
    simpa [hl, hm, hp] using hon
  exact if_neg hmay

theorem radEvidencePost_of_radio (slot : Nat) (hv : b.top.variant ≠ .n0) :
    radEvidencePost slot b =
      (b.postEvid (mkEvid 8 b.radOn (b.radItems.testBit 1 || b.radItems.testBit 3) false false b.rad.rseq slot b.devClass
        b.radItems)).modRad fun r => { r with rseq := (r.rseq + 1) % 65536 } :=
  if_neg hv

/-! ### Windows and RAD_CTRL (R415, R416, R570) -/

section
variable {acc : Nat}

theorem assocWindowCommitW_b {i : Nat} {r : WRes} (h1 : b1 = b.aput acc F.RAD_AS_SEL_IDX i) (hm : b1.mayWrite k acc roleEng true = yOk)
    (hr : r = b1.setAssoc (i % 256) ((b1.ard acc Reg.RAD_AS_W).getLsbD 31)
      ((b1.ard acc (Reg.RAD_AS_W + 4)).toNat * 2 ^ 32 + (b1.ard acc (Reg.RAD_AS_W + 8)).toNat) (bits (b1.ard acc (Reg.RAD_AS_W + 12)) 1 0)) :
    (assocWindowCommitW acc i k b).b = r.b.aput acc F.RAD_AS_SEL_ERR (errCode r.status) := by
  subst h1
  exact Block.winAct_b F.RAD_AS_SEL_ERR _ hm hr

theorem assocWindowDropW_b {i : Nat} {r : WRes} (h1 : b1 = b.aput acc F.RAD_AS_SEL_IDX i) (hm : b1.mayWrite k acc roleEng true = yOk)
    (hr : r = b1.hostDrop (i % 256)) :
    (assocWindowDropW acc i k b).b = r.b.aput acc F.RAD_AS_SEL_ERR (errCode r.status) := by
  subst h1
  exact Block.winAct_b F.RAD_AS_SEL_ERR _ hm hr

section
variable {v : W32} (hm : b.mayWrite k acc roleEng true = yOk) (hv : b.top.variant ≠ .n0)
include hm hv

/-- R415: EN is refused while PAN_ID is 0xFFFF. -/
theorem radioEnableW_of_allowed (h1 : b1 = b.wr Reg.RAD_CTRL (v &&& 0x39)) :
    radioEnableW acc v k b =
      if v.getLsbD 0 && b.fld F.RAD_ID_PAN_ID == 0xFFFF then ⟨yBadParam, b⟩
      else if v.getLsbD 0 == b.flag F.RAD_CTRL_EN then ⟨yOk, b1⟩
      else ⟨yOk, (b1.put F.RAD_STAT_STATE (v.getLsbD 0).toNat).modRad fun r => { r with started := false, beaconed := false }⟩ := by
  subst h1
  rw [radioEnableW, if_neg (not_not_intro hm), if_neg hv]

theorem radioEnableW_of_pan (hp : b.fld F.RAD_ID_PAN_ID ≠ 0xFFFF) (h1 : b1 = b.wr Reg.RAD_CTRL (v &&& 0x39)) :
    (radioEnableW acc v k b).b =
      if v.getLsbD 0 == b.flag F.RAD_CTRL_EN then b1
      else (b1.put F.RAD_STAT_STATE (v.getLsbD 0).toNat).modRad fun r => { r with started := false, beaconed := false } := by
  rw [radioEnableW_of_allowed hm hv h1, if_neg (by simp [hp])]
  split <;> rfl

theorem radioEnableW_of_no_pan (hp : b.fld F.RAD_ID_PAN_ID = 0xFFFF) (hen : v.getLsbD 0 = true) : (radioEnableW acc v k b).b = b := by
  rw [radioEnableW_of_allowed hm hv rfl, if_pos (by simp [hp, hen])]

end

end

end

/-! ### Commands of hosts (R396, R399, R416, R433) -/

section
variable {s : State} {h : Hdr}

theorem Ready.assocList_ok (r : Ready s h 0x0901 ⟨some roleObs, false⟩) {first count : Nat} (hv : s.b.top.variant ≠ .n0) (h1 : 1 ≤ count)
    (h256 : first + count ≤ 256) :
    s.onB (assocList h first count) =
      s.answer h 0x0901 yOk (wordBytes ((List.range count).flatMap fun n => (s.taken h 0x0901).assocWords (first + n))) fun b => b := by
  have hradio : (s.taken h 0x0901).top.variant ≠ .n0 := by rwa [Block.ycpTake_top]
  exact r.onB_answer _ _ (fun b => b) rfl (by rw [if_neg hradio, if_neg (by omega)])

theorem Ready.assocSet_done (r : Ready s h 0x0902 ⟨some roleEng, true⟩) {i eui gear : Nat} {en : Bool} {w : WRes}
    (hw : w = (s.taken h 0x0902).setAssoc (i % 256) en (eui % 2 ^ 64) (gear % 4)) :
    s.onB (assocSet h i en eui gear) = s.answer h 0x0902 w.status [] fun _ => w.b := by
  refine r.onB_answer _ _ _ rfl ?_
  rw [← hw, WRes.toY, ite_self]

theorem Ready.assocDrop_ok (r : Ready s h 0x0903 ⟨some roleEng, true⟩) (i : Nat) (hv : s.b.top.variant ≠ .n0) :
    s.onB (assocDrop h i) =
      s.answer h 0x0903 yOk [] fun b => if (b.assoc (i % 256)).state = 2 then b.dropAssoc (i % 256) 1 else b := by
  have hradio : (s.taken h 0x0903).top.variant ≠ .n0 := by rwa [Block.ycpTake_top]
  exact r.onB_answer _ _ _ rfl (by rw [Block.hostDrop, if_neg hradio]; rfl)

/-- A map at or above the floor lies within the envelope, whose minimum is one of the floors. -/
theorem Block.envelope_min_of_mapFloor {b : Block} {n : Nat} (h : b.mapFloor ≤ n) :
    ((b.envelope 0x0701).map fun e => decide (n < e.min)).getD false = false := by
  unfold Block.mapFloor at h
  cases he : b.envelope 0x0701 with
  | none => rfl
  | some e =>
    simp only [he] at h
    have : e.min ≤ n := (Nat.le_max_right _ _).trans h
    simp [this]

theorem Ready.chanmapSet_ok (r : Ready s h 0x0904 ⟨some roleEng, true⟩) {map : Nat} (hv : s.b.top.variant ≠ .n0)
    (hp : map &&& (s.taken h 0x0904).planMap = map) (hf : (s.taken h 0x0904).mapFloor ≤ (mapList map).length) :
    s.onB (chanmapSet h map) =
      s.answer h 0x0904 yOk (beBytes 1 (((s.taken h 0x0904).setMap map).fld F.RAD_STAT_MAP_VER) ++
        beBytes 4 ((s.taken h 0x0904).setMap map).mapActNow) fun b => b.setMap map := by
  have hradio : (s.taken h 0x0904).top.variant ≠ .n0 := by rwa [Block.ycpTake_top]
  refine r.onB_answer _ _ (fun b => b.setMap map) rfl ?_
  dsimp only
  rw [if_neg hradio, if_neg (not_not_intro hp), if_neg (by rw [Block.envelope_min_of_mapFloor hf]; decide), if_neg (Nat.not_lt.mpr hf)]

end

/-- Settles O39: each command by the case of its meaning that its guard selects, the windows through `winAct`. -/
theorem radioMaintenanceTakesEffect : Obligations.RadioMaintenanceTakesEffect := by
  unfold Obligations.RadioMaintenanceTakesEffect
  refine ⟨?map, ?queued, ?silent, ?reinstate, ?save, ?saveFc, ?beaconing, ?post, ?list, ?set, ?drop, ?chanmap, ?load, ?commit, ?windowDrop,
    ?enable, ?refused⟩
  case map =>
    intro s busy p r hon hp hr
    exact congrArg Host.Outcome.next (State.onB_eq_putB (downlinkSlot_of_map hon hp hr))
  case queued =>
    intro s busy d r hon hd hr hs
    exact congrArg Host.Outcome.next (State.onB_eq_putB (downlinkSlot_of_queued hon hd hr hs))
  case silent =>
    intro s i hon ha hd
    exact congrArg Host.Outcome.next (State.onB_eq_putB (supervisionTimeout_of_silent hon ha hd))
  case reinstate =>
    intro s ch t pct b1 hx hon hp hd hbase heff h1
    exact congrArg Host.Outcome.next (State.onB_eq_putB (channelReinstate_of_held hx hon hp hd hbase heff h1))
  case save =>
    intro s hon hd
    exact congrArg Host.Outcome.next (State.onB_eq_putB (frameCounterSave_of_due hon hd))
  case saveFc =>
    intro s h
    exact congrArg Host.Outcome.next (State.onB_eq_putB (coordFcSave_of_due h))
  case beaconing =>
    intro s hon hl hm hp
    exact congrArg Host.Outcome.next (State.onB_eq_putB (beaconingStart_of_missed hon hl hm hp))
  case post =>
    intro s slot hv
    exact congrArg Host.Outcome.next (State.onB_eq_putB (radEvidencePost_of_radio slot hv))
  case list =>
    intro s h first count r hv h1 h256
    exact congrArg Host.Outcome.next (r.assocList_ok hv h1 h256)
  case set =>
    intro s h i en eui gear w r hw
    exact congrArg Host.Outcome.next (r.assocSet_done hw)
  case drop =>
    intro s h i r hv
    exact congrArg Host.Outcome.next (r.assocDrop_ok i hv)
  case chanmap =>
    intro s h map r hv hp hf
    exact congrArg Host.Outcome.next (r.chanmapSet_ok hv hp hf)
  case load =>
    intro s acc i
    rfl
  case commit =>
    intro s acc i b1 r h1 hm hr
    exact congrArg Host.Outcome.next (State.onB_eq_putB (assocWindowCommitW_b h1 hm hr))
  case windowDrop =>
    intro s acc i b1 r h1 hm hr
    exact congrArg Host.Outcome.next (State.onB_eq_putB (assocWindowDropW_b h1 hm hr))
  case enable =>
    intro s acc v b1 hm hv hp h1
    exact congrArg Host.Outcome.next (State.onB_eq_putB (radioEnableW_of_pan hm hv hp h1))
  case refused =>
    intro s acc v hm hv hp hen
    exact congrArg Host.Outcome.next (State.onB_eq_self (radioEnableW_of_no_pan hm hv hp hen))

end Sys2Proof.Machine

/-!
SUPPORT. A session's command that check 7, 8 or 9 refuses: what `exec` answers then, and the statement settled from it.
-/
namespace Sys2Proof.Machine

/-! ### A command that fails check 7, 8 or 9 (R430) -/

/-- A command does not reach its body: the first of checks 7 to 9 that fails gives this status. -/
abbrev Refused (s : State) (h : Hdr) (op : Nat) (q : YReq) (st : Nat) : Prop :=
  (s.taken h op).precheck s.key h op q = st ∧ st ≠ yOk

section
variable {s : State} {h : Hdr} {op st : Nat} {q : YReq}

theorem Refused.of_denied
    (hd : (s.taken h op).allowed op = false ∨ (s.taken h op).hasRole s.key h.session (q.role.getD roleObs) = false) :
    Refused s h op q yDenied := by
  refine ⟨?_, by decide⟩
  unfold Block.precheck
  rcases hd with hd | hd
  · rw [if_pos (by rw [hd]; rfl)]
  · split
    · rfl
    · rw [if_pos (by rw [hd]; rfl)]

section
variable (ha : (s.taken h op).allowed op = true) (hr : (s.taken h op).hasRole s.key h.session (q.role.getD roleObs) = true)
include ha hr

theorem Refused.of_no_saddle (hq : q.saddle = true) (hs : (s.taken h op).hasSaddle h.session = false) : Refused s h op q yNoSaddle := by
  refine ⟨?_, by decide⟩
  unfold Block.precheck
  rw [if_neg (by rw [ha]; decide), if_neg (by rw [hr]; decide), if_pos (by rw [hq, hs]; rfl)]

theorem Refused.of_busy (hs : (q.saddle && !(s.taken h op).hasSaddle h.session) = false)
    (hb : ((s.taken h op).sess h.session).pending.any (fun e => e.1 == h.tag) = true ∨
      4 ≤ ((s.taken h op).sess h.session).pending.length) : Refused s h op q yBusy := by
  refine ⟨?_, by decide⟩
  unfold Block.precheck
  rw [if_neg (by rw [ha]; decide), if_neg (by rw [hr]; decide), if_neg (by rw [hs]; decide), if_pos (by simpa using hb)]

end

/-- Checks 7 to 9 give no other status than these. -/
theorem Block.precheck_cases (k : Key) (b : Block) (h : Hdr) (op : Nat) (q : YReq) :
    b.precheck k h op q = yOk ∨ b.precheck k h op q = yDenied ∨ b.precheck k h op q = yNoSaddle ∨ b.precheck k h op q = yBusy := by
  unfold Block.precheck
  dsimp only
  split
  · exact .inr (.inl rfl)
  split
  · exact .inr (.inl rfl)
  split
  · exact .inr (.inr (.inl rfl))
  split
  · exact .inr (.inr (.inr rfl))
  · exact .inl rfl

variable (r : Refused s h op q st)
include r

theorem Refused.not_ok : (s.taken h op).precheck s.key h op q ≠ yOk := r.1.symm ▸ r.2

theorem Refused.status_mem : st = yDenied ∨ st = yNoSaddle ∨ st = yBusy := by
  have h4 := Block.precheck_cases s.key (s.taken h op) h op q
  rw [r.1] at h4
  exact h4.resolve_left r.2

theorem Refused.ycp (body : Block → YRes) : s.b.ycp s.key h op q body = (s.taken h op).ycpReply h op st [] :=
  (if_pos r.not_ok).trans (by rw [r.1])

theorem Refused.ycpK (body : Key → Block → KRes) : s.b.ycpK s.key h op q body = (s.key, (s.taken h op).ycpReply h op st []) :=
  (if_pos r.not_ok).trans (by rw [r.1])

theorem Refused.ycpBack (check : Block → Nat) (act : Block → YRes) :
    s.b.ycpBack s.key h op q check act = (s.taken h op).ycpReply h op st [] := by
  unfold Block.ycpBack
  dsimp only
  rw [if_neg r.not_ok, if_pos r.not_ok, r.1]

omit r in
/-- The step of a refused command that leaves the key block. -/
theorem Refused.onB {m : Key → Block → Block} (hm : m s.key s.b = (s.taken h op).ycpReply h op st []) :
    (.next (s.onB m) : Host.Outcome State Fault Refusal) = .next (s.answer h op st [] id) :=
  congrArg Host.Outcome.next (State.onB_congr (g := fun _ _ => (s.taken h op).ycpReply h op st []) hm)

omit r in
/-- The step of a refused command whose body works on the key block too. -/
theorem Refused.onKB {m : Key → Block → Key × Block} (hm : m s.key s.b = (s.key, (s.taken h op).ycpReply h op st [])) :
    (.next (s.onKB m) : Host.Outcome State Fault Refusal) = .next (s.answer h op st [] id) :=
  congrArg Host.Outcome.next (State.onKB_eq_onB (g := fun _ _ => (s.taken h op).ycpReply h op st []) hm)

end

/-! ### The commands that make the checks themselves -/

section
variable {s : State} {h : Hdr} {st : Nat}

theorem Refused.captureRead (r : Refused s h 0x0304 ⟨some roleObs, false⟩ st) (bay first rows : Nat) :
    captureRead h bay first rows s.key s.b = (s.taken h 0x0304).ycpReply h 0x0304 st [] :=
  (if_neg r.not_ok).trans (r.ycp _)

theorem Refused.fwUpdate (r : Refused s h 0x0C05 ⟨some roleMnt, false⟩ st) (offset total : Nat) (bytes : List Byte) (c : FwContent) :
    fwUpdate h offset total bytes c s.key s.b = (s.taken h 0x0C05).ycpReply h 0x0C05 st [] := by
  unfold Machine.fwUpdate
  split
  · exact r.ycpBack _ _
  · exact r.ycp _

theorem Refused.bye (r : Refused s h 0x0002 ⟨none, false⟩ st) : bye h s.key s.b = (s.key, (s.taken h 0x0002).ycpReply h 0x0002 st []) :=
  (if_pos r.not_ok).trans (by rw [r.1])

theorem Refused.reset (r : Refused s h 0x0C04 ⟨some roleMnt, false⟩ st) (reach : Nat) :
    reset h reach s.key s.b = (s.key, (s.taken h 0x0C04).ycpReply h 0x0C04 st []) :=
  (if_pos r.not_ok).trans (by rw [r.1])

theorem Refused.stateSet (r : Refused s h 0x0C06 ⟨some roleMnt, false⟩ st) (target vin : Nat) :
    stateSet h target vin s.key s.b = (s.key, (s.taken h 0x0C06).ycpReply h 0x0C06 st []) :=
  (if_neg fun hn => r.not_ok hn.2.1).trans (congrArg (s.key, ·) (r.ycpBack _ _))

/-- A refusal by checks 7 to 9 is neither a failed signature nor an abort, which LIFECYCLE would count. -/
theorem Refused.lifecycle (r : Refused s h 0x0C03 ⟨some roleMnt, false⟩ st) (target : Nat) (sigOk tampered : Bool) :
    lifecycle h target sigOk tampered s.key s.b = (s.key, (s.taken h 0x0C03).ycpReply h 0x0C03 st []) := by
  unfold Machine.lifecycle
  dsimp only
  rw [if_pos r.not_ok, r.1, if_neg r.2]
  rcases r.status_mem with rfl | rfl | rfl <;> rfl

theorem Refused.regWrite (r : Refused s h 0x0102 ⟨none, false⟩ st) (addr : Nat) (value mask : W32) :
    regWrite h addr value mask s.key s.b = (s.key, (s.taken h 0x0102).ycpReply h 0x0102 st []) := by
  unfold Machine.regWrite
  split
  · unfold regWriteReset
    dsimp only
    rw [if_pos r.not_ok, r.1, if_neg r.2]
  · exact r.ycpK _

end

/-- The need of a command read off, its refusal is a refusal of that need. -/
theorem next_of_need {o : Host.Outcome State Fault Refusal} {s : State} {h h' : Hdr} {op op' st : Nat} {q q' : YReq}
    (hn : some (h', op', q') = some (h, op, q)) (r : Refused s h op q st)
    (ho : Refused s h' op' q' st → o = .next (s.answer h' op' st [] id)) : o = .next (s.answer h op st [] id) := by
  cases hn
  exact ho r

/-- A session's command that fails check 7, 8 or 9 is taken, counted and answered with that status, and nothing else happens: most run
their bodies through `ycp`, and the others by the lemmas above. -/
theorem exec_of_refused {c : Instr} {s : State} {h : Hdr} {op st : Nat} {q : YReq} (hn : needOf c = some (h, op, q))
    (r : Refused s h op q st) : exec c s = .next (s.answer h op st [] id) := by
  unfold needOf at hn
  split at hn
  case h_1 hd => exact next_of_need hn r fun r => Refused.onKB r.bye
  case h_7 hd addr value mask => exact next_of_need hn r fun r => Refused.onKB (r.regWrite addr value mask)
  case h_15 hd bay first rows => exact next_of_need hn r fun r => Refused.onB (r.captureRead bay first rows)
  case h_39 hd slot mode engine alg c t => exact next_of_need hn r fun r => Refused.onKB (r.ycpK _)
  case h_41 hd tseq sigOk => exact next_of_need hn r fun r => Refused.onKB (r.ycpK _)
  case h_46 hd target sigOk t => exact next_of_need hn r fun r => Refused.onKB (r.lifecycle target sigOk t)
  case h_47 hd reach => exact next_of_need hn r fun r => Refused.onKB (r.reset reach)
  case h_48 hd offset total bytes c => exact next_of_need hn r fun r => Refused.onB (r.fwUpdate offset total bytes c)
  case h_49 hd target vin => exact next_of_need hn r fun r => Refused.onKB (r.stateSet target vin)
  case h_53 => cases hn
  all_goals exact next_of_need hn r fun r => Refused.onB (r.ycp _)

/-- Settles O3: the first of checks 7 to 9 that fails refuses the command with its status (`exec_of_refused`). -/
theorem commandFailingAChecksIsAnsweredAndDoesNothing : Obligations.CommandFailingAChecksIsAnsweredAndDoesNothing := by
  unfold Obligations.CommandFailingAChecksIsAnsweredAndDoesNothing
  refine ⟨?denied, ?noSaddle, ?busy⟩
  case denied =>
    intro c s h op q hn hd
    exact exec_of_refused hn (.of_denied hd)
  case noSaddle =>
    intro c s h op q hn ha hr hq hs
    exact exec_of_refused hn (.of_no_saddle ha hr hq hs)
  case busy =>
    intro c s h op q hn ha hr hs hb
    exact exec_of_refused hn (.of_busy ha hr hs hb)

end Sys2Proof.Machine

/-!
SUPPORT. Pannier pointers, sessions, the saddle, packets and panniers: what each command does in the cases the
statements name, and the statements settled from these.
-/
namespace Sys2Proof.Machine

/-! ### Pannier pointers (R439) -/

section
variable {p : Pannier}

theorem Pannier.next_eq (p : Pannier) : p.next = if p.rp = p.wp then p else { p with rp := p.rp + 1 } := by
  unfold Pannier.next Pannier.isEmpty
  simp only [beq_iff_eq]

theorem Pannier.rewind_of_no_mark (h : p.mark = none) : p.rewind = { p with result := yNoMark } := by
  simp only [Pannier.rewind, h]

theorem Pannier.rewind_of_mark {m : W32} (h : p.mark = some m) : p.rewind = { p with rp := m, result := yOk } := by
  simp only [Pannier.rewind, h]

/-- The cells RELEASE(n) frees, as positions counted from FP. -/
def Pannier.freedBy (p : Pannier) (n : Nat) : Nat := if n = 0 then (p.rp - p.fp).toNat else min n (p.rp - p.fp).toNat

theorem Pannier.freedBy_le (p : Pannier) (n : Nat) : p.freedBy n ≤ (p.rp - p.fp).toNat := by
  unfold Pannier.freedBy
  split
  · exact le_rfl
  · exact Nat.min_le_right _ _

theorem Pannier.release_fp (p : Pannier) (n : Nat) : (p.release n).fp = p.fp + BitVec.ofNat 32 (p.freedBy n) := rfl

theorem Pannier.release_of_no_mark (h : p.mark = none) (n : Nat) : (p.release n).mark = none ∧ (p.release n).result = yOk := by
  simp [Pannier.release, h]

/-- A mark that lies before the released position is lost. -/
theorem Pannier.release_of_lost {m : W32} {n : Nat} (h : p.mark = some m) (hl : (m - p.fp).toNat < p.freedBy n) :
    (p.release n).mark = none ∧ (p.release n).result = yMarkLost := by
  have hd : decide ((m - p.fp).toNat < p.freedBy n) = true := decide_eq_true hl
  unfold Pannier.release
  simp only [h]
  exact ⟨if_pos hd, if_pos hd⟩

theorem Pannier.release_of_kept {m : W32} {n : Nat} (h : p.mark = some m) (hl : p.freedBy n ≤ (m - p.fp).toNat) :
    (p.release n).mark = some m ∧ (p.release n).result = yOk := by
  have hd : ¬decide ((m - p.fp).toNat < p.freedBy n) = true := by simpa using hl
  unfold Pannier.release
  simp only [h]
  exact ⟨if_neg hd, if_neg hd⟩

/-- Of two positions less than 2^31 past a third, the signed difference is the difference of their distances. -/
theorem toInt_sub_of_near (f a b : W32) (ha : (a - f).toNat < 2 ^ 31) (hb : (b - f).toNat < 2 ^ 31) :
    (a - b).toInt = ((a - f).toNat : Int) - (b - f).toNat := by
  have hab : a - b = (a - f) - (b - f) := by bv_omega
  rw [hab, BitVec.toInt_eq_toNat_cond, BitVec.toNat_sub]
  split <;> omega

theorem toNat_add_ofNat_sub {n : Nat} (f : W32) (h : n < 2 ^ 31) : (f + BitVec.ofNat 32 n - f).toNat = n := by
  bv_omega

section
variable {n : Nat} {target : W32} (hr : (p.rp - p.fp).toNat < 2 ^ 31) (hn : n < 2 ^ 31)
  (ht : target = if n = 0 then p.rp else if (p.fp + BitVec.ofNat 32 n - p.rp).toInt ≤ 0 then p.fp + BitVec.ofNat 32 n else p.rp)
include hr hn ht

/-- The target of RELEASE(n), compared by signed difference, lies as far past FP as the cells it frees. -/
theorem Pannier.target_sub_fp : (target - p.fp).toNat = p.freedBy n := by
  have hn' := toNat_add_ofNat_sub p.fp hn
  have hd := toInt_sub_of_near p.fp (p.fp + BitVec.ofNat 32 n) p.rp (hn'.symm ▸ hn) hr
  rw [hn'] at hd
  rw [ht]
  unfold Pannier.freedBy
  split
  · rfl
  · split
    · rw [hn']
      omega
    · omega

theorem Pannier.release_fp_target : (p.release n).fp = target := by
  rw [Pannier.release_fp, ← Pannier.target_sub_fp hr hn ht]
  bv_omega

theorem Pannier.toInt_target_sub {m : W32} (hm : (m - p.fp).toNat ≤ (p.rp - p.fp).toNat) :
    (target - m).toInt = (p.freedBy n : Int) - (m - p.fp).toNat := by
  have ht' := Pannier.target_sub_fp hr hn ht
  have hle := p.freedBy_le n
  rw [toInt_sub_of_near p.fp target m (by omega) (by omega), ht']

end

end

/-- Settles O42: each operation by its definition; the signed differences from FP are the differences of distances. -/
theorem pannierPointersFollowR439 : Obligations.PannierPointersFollowR439 := by
  unfold Obligations.PannierPointersFollowR439
  refine ⟨?next, ?mark, ?release, ?write⟩
  case next => exact Pannier.next_eq
  case mark =>
    intro p m
    refine ⟨rfl, Pannier.rewind_of_no_mark, fun h => ⟨Pannier.rewind_of_mark h, ?_⟩⟩
    rw [Pannier.rewind_of_mark h]
    exact h
  case release =>
    intro p n target hr hn hmark ht
    refine ⟨Pannier.release_fp_target hr hn ht, rfl, rfl, fun h => Pannier.release_of_no_mark h n, fun m h => ?_⟩
    have hd := Pannier.toInt_target_sub hr hn ht (hmark m h)
    exact ⟨fun hlt => Pannier.release_of_lost h (by omega), fun hle => Pannier.release_of_kept h (by omega)⟩
  case write => exact fun p pkt => rfl

section
variable {k : Key} {b b1 : Block}

/-! ### Opening a session (R422, R424, R468) -/

theorem helloPcie_of_closed {h : Hdr} {c r e : Nat} (h4 : h.session < 4) (hs : (b.sess h.session).state ≠ 1)
    (ht : ¬(b.topState = stKick ∧ h.session ≠ 0)) (hp : helloParamsOk 1 c r e = true) (hr : b.gspRoles h.session ≠ 0)
    (h1 : b1 = (b.openSession h.session (b.gspRoles h.session) c r e none 0).helloTake h.session h) :
    helloPcie h 1 c r e b = b1.reply h.session 0x0001 h.tag yOk (helloReply b1 h.session (b.gspRoles h.session)) := by
  subst h1
  rw [helloPcie, if_neg (Nat.not_le.mpr h4), if_neg hs, if_neg ht, if_neg (by simp [hp]), if_neg hr]

/-- A new peer with a proved and granted role takes the first closed session of 4 to 7. -/
theorem helloUdp_of_new_peer {h : Hdr} {c r e n proved granted : Nat} {u : HelloUdp} (hu : b.udpSession u.ip u.port = none)
    (hn : ([4, 5, 6, 7].find? fun s => (b.sess s).state == 0) = some n) (ht : ¬(b.topState = stKick ∧ u.mgt ≠ 0))
    (hp : helloParamsOk 1 c r e = true) (h1 : 1 ≤ u.sigs.length) (h5 : u.sigs.length ≤ 5) (hpr : proved = provedRoles k u.sigs)
    (hg : granted = b.gspRoles n &&& proved) (h0 : granted ≠ 0) :
    helloUdp h 1 c r e u false k b =
      helloUdpOpen h n (granted ||| 1) proved c r e u k (b.bumpBy Reg.KEY_CNT_AUTH_FAIL (u.sigs.filter fun e => !e.2).length) := by
  have hproved : proved ≠ 0 := fun hz => h0 (by rw [hg, hz, Nat.and_zero])
  have hsigs : u.sigs.isEmpty = false := List.isEmpty_eq_false_iff.mpr (List.ne_nil_of_length_pos h1)
  subst hg hpr
  simp only [helloUdp, hu, hn]
  rw [if_neg ht, if_neg (by simp [hp, hsigs, h5]), if_neg hproved, if_neg h0, if_neg Bool.false_ne_true]

/-! ### Closing a session (R419, R422, R423) -/

theorem functionLevelReset_of_function {f : Nat} (hf : f < 4) : functionLevelReset f k b = endSession f 2 k b := if_pos hf

theorem udpSessionTimeout_of_due {n : Nat} (h4 : 4 ≤ n) (h8 : n < 8) (hs : (b.sess n).state = 1)
    (hd : b.since (b.sess n).lastAuth (b.fld F.HST_CTRL_UDP_TMO * tickS) = true) : udpSessionTimeout n k b = endSession n 1 k b :=
  if_pos (by simp [udpTimedOut, isUdp, h4, h8, hs, hd])

theorem saddleExpiry_of_due (hh : b.hst.holder.isSome = true) (hd : b.hst.leaseEnd ≤ b.now) : saddleExpiry b = b.releaseSaddle 2 :=
  if_pos (by simp [hh, hd])

/-! ### The saddle (R426) -/

section
variable {n lease : Nat} (h10 : 10 ≤ lease) (h3600 : lease ≤ 3600)
include h10 h3600

theorem saddleTakeBody_of_own (force : Bool) (hh : b.hst.holder = none ∨ b.hst.holder = some n) :
    saddleTakeBody n lease force k b = ⟨yOk, beBytes 6 (lt48 (b.tai + lease * tickS)).toNat, b.grantSaddle n lease 0⟩ := by
  rw [saddleTakeBody, if_neg (by omega)]
  rcases hh with hh | hh
  · simp only [hh]
  · simp only [hh, if_true]

section
variable {t : Nat} (hh : b.hst.holder = some t) (ht : t ≠ n)
include hh ht

theorem saddleTakeBody_of_other (force : Bool) :
    saddleTakeBody n lease force k b =
      if force && b.hasRole k n roleMnt then
        ⟨yOk, beBytes 6 (lt48 (b.tai + lease * tickS)).toNat,
          (b.modSess t fun x => { x with outStage := none, gspStage := none, fwStage := none }).grantSaddle n lease 4⟩
      else yErr b yBusy := by
  rw [saddleTakeBody, if_neg (by omega)]
  simp only [hh]
  exact if_neg ht

theorem saddleTakeBody_of_force (hr : b.hasRole k n roleMnt = true) :
    saddleTakeBody n lease true k b =
      ⟨yOk, beBytes 6 (lt48 (b.tai + lease * tickS)).toNat,
        (b.modSess t fun x => { x with outStage := none, gspStage := none, fwStage := none }).grantSaddle n lease 4⟩ := by
  rw [saddleTakeBody_of_other h10 h3600 hh ht, if_pos (by rw [hr]; rfl)]

theorem saddleTakeBody_of_busy {force : Bool} (hr : (force && b.hasRole k n roleMnt) = false) :
    saddleTakeBody n lease force k b = yErr b yBusy := by
  rw [saddleTakeBody_of_other h10 h3600 hh ht, if_neg (by rw [hr]; decide)]

end

end

end

section
variable {s : State} {h : Hdr}

theorem Ready.bye_closes (r : Ready s h 0x0002 ⟨none, false⟩) {b1 : Block} {pkt : List Byte} (h1 : b1 = s.taken h 0x0002)
    (hp : pkt = ycpPacket h.session flReply 0x0002 h.tag yOk (b1.creditByte h.session) 0 []) :
    bye h s.key s.b =
      endSession h.session 0 s.key
        (if isUdp h.session then b1.sendDatagram h.session pkt else b1.emit 10 Emit.ycp (pkt.map BitVec.toNat)) := by
  subst h1 hp
  exact if_neg (not_not_intro r.precheck)

end

/-- Settles O40: each command by the case of its meaning that its guard selects. -/
theorem sessionsAndTheSaddleTakeEffect : Obligations.SessionsAndTheSaddleTakeEffect := by
  unfold Obligations.SessionsAndTheSaddleTakeEffect
  refine ⟨?pcie, ?udp, ?bye, ?linkDown, ?flr, ?timeout, ?credit, ?take, ?force, ?busy, ?drop, ?expiry⟩
  case pcie =>
    intro s h c r e t b1 h4 hs ht hp hr h1
    exact congrArg Host.Outcome.next
      (State.onKB_eq_onB (g := fun _ _ => _) (congrArg (s.key, ·) (helloPcie_of_closed h4 hs ht hp hr h1)))
  case udp =>
    intro s h c r e n proved granted u hu hn ht hp h1 h5 hpr hg h0
    exact congrArg Host.Outcome.next (State.onKB_congr (helloUdp_of_new_peer hu hn ht hp h1 h5 hpr hg h0))
  case bye =>
    intro s h b1 pkt r h1 hp
    exact congrArg Host.Outcome.next (State.onKB_congr (r.bye_closes h1 hp))
  case linkDown =>
    intro s
    rfl
  case flr =>
    intro s f hf
    exact congrArg Host.Outcome.next (State.onKB_congr (functionLevelReset_of_function hf))
  case timeout =>
    intro s n h4 h8 hs hd
    exact congrArg Host.Outcome.next (State.onKB_congr (udpSessionTimeout_of_due h4 h8 hs hd))
  case credit =>
    intro s h x r hx
    subst hx
    exact congrArg Host.Outcome.next (r.onB_answer yOk _ (fun b => b) rfl rfl)
  case take =>
    intro s h lease force r h10 h3600 hh
    exact congrArg Host.Outcome.next (r.onB_answer yOk _ (fun b => b.grantSaddle h.session lease 0) rfl
      (saddleTakeBody_of_own h10 h3600 force hh))
  case force =>
    intro s h lease n r h10 h3600 hh hn hr
    exact congrArg Host.Outcome.next (r.onB_answer yOk _ (fun b =>
      (b.modSess n fun x => { x with outStage := none, gspStage := none, fwStage := none }).grantSaddle h.session lease 4) rfl
      (saddleTakeBody_of_force h10 h3600 hh hn hr))
  case busy =>
    intro s h lease n force r h10 h3600 hh hn hr
    exact congrArg Host.Outcome.next (r.onB_answer yBusy [] (fun b => b) rfl (saddleTakeBody_of_busy h10 h3600 hh hn hr))
  case drop =>
    intro s h r
    exact congrArg Host.Outcome.next (r.onB_answer yOk [] (fun b => b.releaseSaddle 1) rfl rfl)
  case expiry =>
    intro s hh hd
    exact congrArg Host.Outcome.next (State.onB_eq_putB (saddleExpiry_of_due hh hd))

section
variable {k : Key} {b b1 : Block}

/-! ### Command packets (R421, R429, R430, R437) -/

section
variable {f : Nat} (hf : f < 4)
include hf

theorem panCmdCellAppend_of_credit (v : W32) (hc : (b.sess f).cmdFree ≠ 0) :
    panCmdCellAppend f v b =
      b.modSess f fun x => { x with cellBuf := x.cellBuf.set 15 v, staged := x.staged ++ [cellBytes (x.cellBuf.set 15 v)] } := by
  rw [panCmdCellAppend, if_neg (Nat.not_le.mpr hf), if_neg hc]

theorem panCmdCellAppend_of_no_credit (v : W32) (hc : (b.sess f).cmdFree = 0) :
    panCmdCellAppend f v b = b.modSess f fun x => { x with cellBuf := x.cellBuf.set 15 v, overrun := true, cellLost := true } := by
  rw [panCmdCellAppend, if_neg (Nat.not_le.mpr hf), if_pos hc]

section
variable {n : Nat} {pkt : List Byte} (h1 : 1 ≤ n) (hp : pkt = (b.sess f).staged.flatten)
include h1 hp

theorem panCmdPush_of_other_number (hn : (b.sess f).staged.length ≠ n) :
    panCmdPush f n b =
      (b.modSess f fun x => { x with staged := [], cellLost := false }).reply f (pktNat pkt 6 2) (pktNat pkt 8 2)
        (if (b.sess f).cellLost then yNoCredit else yBadLength) [] := by
  subst hp
  rw [panCmdPush, if_neg (by omega)]
  exact if_pos (.inl hn)

section
variable (h65 : n ≤ 65) (hn : (b.sess f).staged.length = n)
include h65 hn

theorem panCmdPush_of_staged :
    panCmdPush f n b =
      if packetStatus f pkt (fun len => cellsFor len == n) ≠ yOk then
        ((b.modSess f fun x => { x with staged := [], cellLost := false }).reply f (pktNat pkt 6 2) (pktNat pkt 8 2)
          (packetStatus f pkt fun len => cellsFor len == n) []).emit 10 Emit.pcie [f, 2]
      else (b.modSess f fun x => { x with staged := [], cellLost := false }).takePacket f n pkt := by
  subst hp
  rw [panCmdPush, if_neg (by omega)]
  exact if_neg (by omega)

theorem panCmdPush_of_good (hs : (packetStatus f pkt fun len => cellsFor len == n) = yOk) :
    panCmdPush f n b = (b.modSess f fun x => { x with staged := [], cellLost := false }).takePacket f n pkt := by
  rw [panCmdPush_of_staged hf h1 hp h65 hn, if_neg (not_not_intro hs)]

theorem panCmdPush_of_failed {st : Nat} (hs : (packetStatus f pkt fun len => cellsFor len == n) = st) (hst : st ≠ yOk) :
    panCmdPush f n b =
      ((b.modSess f fun x => { x with staged := [], cellLost := false }).reply f (pktNat pkt 6 2) (pktNat pkt 8 2) st []).emit 10
        Emit.pcie [f, 2] := by
  subst hs
  rw [panCmdPush_of_staged hf h1 hp h65 hn, if_pos hst]

end

end

end

theorem ycpDatagramReceive_of_authentic {d : Datagram} {n : Nat}
    (hup : (if d.mgt = 0 then b.flag F.HST_CTRL_UDP_MGT0 else b.flag F.HST_CTRL_UDP_MGT1) = true)
    (hport : d.dport = b.fld F.HST_CTRL_UDP_PORT) (hn : b.udpSession d.ip d.port = some n) (hop : pktNat d.pkt 6 2 ≠ 1)
    (hmac : d.mac = ycpMac (b.sess n).sessKey d.pkt d.counter) (hctr : (b.sess n).rxCtr < d.counter)
    (hroom : cellsFor (d.pkt.length - 20) ≤ (b.sess n).cmdFree)
    (hs : (packetStatus n d.pkt fun len => d.pkt.length == 20 + len) = yOk) :
    ycpDatagramReceive d b =
      (b.modSess n fun x => { x with rxCtr := d.counter, lastAuth := b.now }).takePacket n (cellsFor (d.pkt.length - 20)) d.pkt := by
  have hhello : (pktNat d.pkt 6 2 == 1 && d.counter == 0 && d.mac.all (· == 0)) = false := by simp [hop]
  have hgood : (d.mac != ycpMac (b.sess n).sessKey d.pkt d.counter) = false := by simp [← hmac]
  rw [ycpDatagramReceive]
  simp only [hup, hport, hn, hhello, hgood, Nat.not_le.mpr hctr, Nat.not_lt.mpr hroom, hs, bne_self_eq_false, Bool.not_true, Bool.not_false,
    Bool.true_and, Bool.or_false, Bool.false_eq_true, decide_false, ne_eq, not_true_eq_false, if_false]

/-! ### Background commands, fragments, events and shares (R425, R431, R448) -/

theorem pendingCommandComplete_of_pending {n tag op st : Nat} (pl : List Byte)
    (hp : ((b.sess n).pending.find? fun e => e.1 == tag) = some (tag, op)) (h1 : st ≠ yPending) (h2 : st ≠ yNotReady) :
    pendingCommandComplete n tag st pl b = b.finish n tag op st pl := by
  simp only [pendingCommandComplete, hp]
  exact if_neg (not_or_intro h1 h2)

theorem hostEvtGap_of_room {n sub : Nat} {u : Sub} {pkt : List Byte}
    (hu : ((b.sess n).subs.find? fun u => u.num == sub && u.dropped != 0) = some u) (hf : 1 ≤ (b.sess n).evt.free)
    (hp : pkt = ycpPacket n flEvent 0x0D0F u.num yOk (b.creditByte n) u.seqNo (beBytes 4 u.dropped))
    (h1 : b1 = b.modSess n fun x => { x with subs := x.subs.map fun v =>
      if v.num = u.num then { v with dropped := 0, seqNo := (v.seqNo + 1) % 65536 } else v }) :
    hostEvtGap n sub b = (b1.putEvt n pkt).note 0x0D04 n u.num u.dropped := by
  subst h1 hp
  simp only [hostEvtGap, hu]
  exact if_neg (Nat.not_lt.mpr hf)

section
variable {acc which : Nat} {v : W32} (hm : b.mayWrite k acc roleEng true = yOk)
include hm

theorem hostShareW_of_sum
    (hs : shareSum v + shareSum (b.rd (if which = 0 then Reg.HST_SHARE_B else Reg.HST_SHARE_A)) ≤ 100)
    (h1 : b1 = (b.wr (if which = 0 then Reg.HST_SHARE_A else Reg.HST_SHARE_B) v).put F.HST_STAT_SHARE_ERR 0) :
    hostShareW acc which v k b = ⟨yOk, b1.note 0x0D05 (b1.rd Reg.HST_SHARE_A).toNat (b1.rd Reg.HST_SHARE_B).toNat⟩ := by
  subst h1
  rw [hostShareW, if_neg (not_not_intro hm)]
  exact if_neg (Nat.not_lt.mpr hs)

theorem hostShareW_of_excess
    (hs : 100 < shareSum v + shareSum (b.rd (if which = 0 then Reg.HST_SHARE_B else Reg.HST_SHARE_A))) :
    hostShareW acc which v k b = ⟨yBadParam, b.put F.HST_STAT_SHARE_ERR 1⟩ := by
  rw [hostShareW, if_neg (not_not_intro hm)]
  exact if_pos hs

end

/-! ### Pannier operations by register (R439) -/

theorem panOp_of_reg {fn op : Nat} (p : Nat) (f : Pannier → Pannier) (hf : fn < 4) : panOp (.reg fn) op p f k b = b.modPan fn p f :=
  if_pos hf

theorem panRplNext_of_function {fn : Nat} (p : Nat) (hf : fn < 4) : panRplNext fn p b = b.modPan fn p .next := if_pos hf

end

/-! ### Pannier operations and queries by opcode (R431, R439, R441, R446) -/

section
variable {s : State} {h : Hdr} {op : Nat}

section
variable (r : Ready s h op ⟨none, false⟩)
include r

/-- A ready operation by opcode is refused over PCIe; over UDP it acts, and a control reply carries its status. -/
theorem Ready.panOp_eq {p : Nat} (f : Pannier → Pannier) :
    panOp (.ycp h) op p f s.key s.b =
      if !isUdp h.session then (s.taken h op).ycpReply h op yDenied []
      else if 1 < p then (s.taken h op).controlReply h.session op h.tag yBadParam []
      else ((s.taken h op).modPan h.session p f).controlReply h.session op h.tag
        (((s.taken h op).modPan h.session p f).pan h.session p).result [] :=
  if_neg (not_not_intro r.precheck)

theorem Ready.panOp_udp {p : Nat} {b1 : Block} (f : Pannier → Pannier) (h4 : 4 ≤ h.session) (hp : p ≤ 1)
    (h1 : b1 = (s.taken h op).modPan h.session p f) :
    panOp (.ycp h) op p f s.key s.b = b1.controlReply h.session op h.tag (b1.pan h.session p).result [] := by
  subst h1
  rw [r.panOp_eq, if_neg (by simp [isUdp, h4]), if_neg (Nat.not_lt.mpr hp)]

theorem Ready.panOp_pcie {p : Nat} (f : Pannier → Pannier) (h4 : h.session < 4) :
    panOp (.ycp h) op p f s.key s.b = (s.answer h op yDenied [] id).b := by
  rw [r.panOp_eq, if_pos (by simp [isUdp, Nat.not_le.mpr h4])]
  rfl

end

theorem Ready.panRewind_udp (r : Ready s h 0x0007 ⟨none, false⟩) {p : Nat} {b1 b2 : Block} (h4 : 4 ≤ h.session) (hp : p ≤ 1)
    (h1 : b1 = (s.taken h 0x0007).modPan h.session p .rewind)
    (h2 : b2 = b1.controlReply h.session 0x0007 h.tag (b1.pan h.session p).result []) :
    panRewind (.ycp h) p s.key s.b = if (s.b.pan h.session p).mark.isSome then b2.resend h.session p else b2 := by
  subst h2
  have hudp : viaUdp (.ycp h) = true := decide_eq_true h4
  have hlt : decide (p < 2) = true := decide_eq_true (Nat.lt_succ_of_le hp)
  rw [panRewind, r.panOp_udp Pannier.rewind h4 hp h1]
  simp only [hudp, hlt, Bool.true_and, Bool.and_true]
  rfl

theorem panRewind_of_pcie {via : PanVia} {p : Nat} {k : Key} {b : Block} (hv : viaUdp via = false) :
    panRewind via p k b = panOp via 0x0007 p .rewind k b := by
  rw [panRewind, if_neg (by simp [hv])]

theorem Ready.tagQuery_done (r : Ready s h 0x0009 ⟨none, false⟩) {tag : Nat} {x : Session} (hx : x = (s.taken h 0x0009).sess h.session) :
    s.onB (tagQuery h tag) =
      s.answer h 0x0009 (if x.pending.any (fun e => e.1 == tag) || x.taken.any (fun t => t.tag == tag) then yNotReady
        else ((x.done.find? fun e => e.1 == tag).map (·.2)).getD yBadParam) [] fun b => b := by
  subst hx
  refine r.onB_answer _ _ (fun b => b) rfl ?_
  dsimp only
  split <;> rfl

theorem Ready.subAdd_ok (r : Ready s h 0x0D01 ⟨some roleObs, false⟩) {kind filter : Nat} {l : List Sub} (hk : kind ≤ 4)
    (hl : l = ((s.taken h 0x0D01).sess h.session).subs) (h16 : l.length < 16) :
    s.onB (subAdd h kind filter) =
      s.answer h 0x0D01 yOk (beBytes 1 (freeSub l)) fun b =>
        b.modSess h.session fun x => { x with subs := x.subs ++ [⟨freeSub l, kind, filter, 0, 0⟩] } := by
  subst hl
  exact r.onB_answer _ _ _ rfl (by dsimp only; rw [if_neg (Nat.not_lt.mpr hk), if_neg (Nat.not_le.mpr h16)])

theorem Ready.subRemove_ok (r : Ready s h 0x0D02 ⟨some roleObs, false⟩) {sub : Nat}
    (hs : ((s.taken h 0x0D02).sess h.session).subs.any (fun u => u.num == sub) = true) :
    s.onB (subRemove h sub) =
      s.answer h 0x0D02 yOk [] fun b => b.modSess h.session fun x => { x with subs := x.subs.filter (·.num != sub) } :=
  r.onB_answer _ _ _ rfl (if_pos hs)

end

/-- Settles O41: each command by the case of its meaning that its guard selects, the pannier operations through `panOp`. -/
theorem packetsAndPanniersTakeEffect : Obligations.PacketsAndPanniersTakeEffect := by
  unfold Obligations.PacketsAndPanniersTakeEffect
  refine ⟨?cell, ?overrun, ?push, ?number, ?failed, ?datagram, ?byReg, ?udp, ?rewind, ?pcie, ?tag, ?complete, ?fragment, ?gap, ?subAdd,
    ?subRemove, ?subList, ?share, ?excess⟩
  case cell =>
    intro s f v hf hc
    exact congrArg Host.Outcome.next (State.onB_eq_putB (panCmdCellAppend_of_credit hf v hc))
  case overrun =>
    intro s f v hf hc
    exact congrArg Host.Outcome.next (State.onB_eq_putB (panCmdCellAppend_of_no_credit hf v hc))
  case push =>
    intro s f n pkt hf h1 h65 hn hp hs
    exact congrArg Host.Outcome.next (State.onB_eq_putB (panCmdPush_of_good hf h1 hp h65 hn hs))
  case number =>
    intro s f n pkt hf h1 hn hp
    exact congrArg Host.Outcome.next (State.onB_eq_putB (panCmdPush_of_other_number hf h1 hp hn))
  case failed =>
    intro s f n st pkt hf h1 h65 hn hp hs hst
    exact congrArg Host.Outcome.next (State.onB_eq_putB (panCmdPush_of_failed hf h1 hp h65 hn hs hst))
  case datagram =>
    intro s d n hup hport hn hop hmac hctr hroom hs
    exact congrArg Host.Outcome.next (State.onB_eq_putB (ycpDatagramReceive_of_authentic hup hport hn hop hmac hctr hroom hs))
  case byReg =>
    intro s f p n hf
    exact ⟨congrArg Host.Outcome.next (State.onB_eq_putB (panOp_of_reg p .setMark hf)),
      congrArg Host.Outcome.next (State.onB_eq_putB ((panRewind_of_pcie rfl).trans (panOp_of_reg p .rewind hf))),
      congrArg Host.Outcome.next (State.onB_eq_putB (panOp_of_reg p (·.release n) hf)),
      congrArg Host.Outcome.next (State.onB_eq_putB (panRplNext_of_function p hf))⟩
  case udp =>
    intro s h p n b1 b2 r6 r8 h4 hp h1 h2
    exact ⟨congrArg Host.Outcome.next (State.onB_eq_putB (r6.panOp_udp .setMark h4 hp h1)),
      congrArg Host.Outcome.next (State.onB_eq_putB (r8.panOp_udp (·.release n) h4 hp h2))⟩
  case rewind =>
    intro s h p b1 b2 r h4 hp h1 h2
    exact congrArg Host.Outcome.next (State.onB_eq_putB (r.panRewind_udp h4 hp h1 h2))
  case pcie =>
    intro s h p n h4 r6 r7 r8
    have hvia : viaUdp (.ycp h) = false := decide_eq_false (Nat.not_le.mpr h4)
    exact ⟨congrArg Host.Outcome.next (State.onB_eq_putB (r6.panOp_pcie .setMark h4)),
      congrArg Host.Outcome.next (State.onB_eq_putB ((panRewind_of_pcie hvia).trans (r7.panOp_pcie .rewind h4))),
      congrArg Host.Outcome.next (State.onB_eq_putB (r8.panOp_pcie (·.release n) h4))⟩
  case tag =>
    intro s h tag x r hx
    exact congrArg Host.Outcome.next (r.tagQuery_done hx)
  case complete =>
    intro s n tag op st pl hp h1 h2
    exact congrArg Host.Outcome.next (State.onB_eq_putB (pendingCommandComplete_of_pending pl hp h1 h2))
  case fragment =>
    intro s n
    rfl
  case gap =>
    intro s n sub u b1 pkt hu hf hp h1
    exact congrArg Host.Outcome.next (State.onB_eq_putB (hostEvtGap_of_room hu hf hp h1))
  case subAdd =>
    intro s h kind filter l r hk hl h16
    exact congrArg Host.Outcome.next (r.subAdd_ok hk hl h16)
  case subRemove =>
    intro s h sub r hs
    exact congrArg Host.Outcome.next (r.subRemove_ok hs)
  case subList =>
    intro s h r
    exact congrArg Host.Outcome.next (r.onB_answer yOk _ (fun b => b) rfl rfl)
  case share =>
    intro s acc which v b1 hm hs h1
    exact congrArg Host.Outcome.next (State.onB_eq_putB (congrArg WRes.b (hostShareW_of_sum hm hs h1)))
  case excess =>
    intro s acc which v hm hs
    exact congrArg Host.Outcome.next (State.onB_eq_putB (congrArg WRes.b (hostShareW_of_excess hm hs)))

end Sys2Proof.Machine

/-!
SUPPORT. Keys and tamper: what the PUF's regeneration, KEY_GEN, certificates, quotes, the slot window and the tamper commands do
in the cases the statements name, and the statements settled from these.
-/
namespace Sys2Proof.Machine

section
variable {k k1 : Key} {b : Block}

/-! ### The device unique key (R454 to R457) -/

section
variable {tries : List Bool} (hd : k.duk = none) (hr : b.top.rstRun = none) (hs : b.top.started = false) (h1 : k1 = k.enrolled)
include hd hr hs h1

/-- Without a DUK, before the firmware starts and outside a reset, the attempts decide. -/
theorem dukRegenerate_of_none (c : Nat) :
    dukRegenerate tries c k b =
      if (k1.helperA || k1.helperB) && (tries.take 3).contains true then
        ({ k1 with duk := some Config.duk, pufOk := true, pufFail := false, pufTries := (tries.take 3).findIdx id + 1 },
         (b.bumpBy Reg.KEY_CNT_PUF_RETRY ((tries.take 3).findIdx id + 1 - 1)).note 0x0E01
           (if (tries.take 3).findIdx id + 1 = 1 then 0 else 1) c ((tries.take 3).findIdx id + 1))
      else (k1.pufFailed, (b.bumpBy Reg.KEY_CNT_PUF_RETRY 2).note 0x0E01 2 c 3) := by
  subst h1
  exact if_neg (by simp [hd, hr, hs])

theorem dukRegenerate_of_pass {n : Nat} (c : Nat) (hh : (k1.helperA || k1.helperB) = true) (ht : (tries.take 3).contains true = true)
    (hn : n = (tries.take 3).findIdx id + 1) :
    dukRegenerate tries c k b =
      ({ k1 with duk := some Config.duk, pufOk := true, pufFail := false, pufTries := n },
       (b.bumpBy Reg.KEY_CNT_PUF_RETRY (n - 1)).note 0x0E01 (if n = 1 then 0 else 1) c n) := by
  subst hn
  rw [dukRegenerate_of_none hd hr hs h1, if_pos (by rw [hh, ht]; rfl)]

theorem dukRegenerate_of_fail (c : Nat) (hf : ((k1.helperA || k1.helperB) && (tries.take 3).contains true) = false) :
    dukRegenerate tries c k b = (k1.pufFailed, (b.bumpBy Reg.KEY_CNT_PUF_RETRY 2).note 0x0E01 2 c 3) := by
  rw [dukRegenerate_of_none hd hr hs h1, hf, if_neg Bool.false_ne_true]

end

/-! ### KEY_GEN (R462, R463, R477) -/

section
variable {slot i mode engine alg session : Nat} {c : KeyContent} {kb : Key × Block}

/-- What a KEY_GEN of modes 0 to 4 answers and leaves, its slot vacated: the key loaded, or AUTH_FAIL where there is none. -/
def keyGenMade (session i mode engine alg : Nat) (c : KeyContent) (kb : Key × Block) : KRes :=
  match (kb.1.keep i).genKey i mode engine alg session kb.2.tim.sec c with
  | none => ⟨yAuthFail, [], kb.1.keep i, (kb.2.bump Reg.KEY_CNT_AUTH_FAIL).bump Reg.KEY_CNT_OP⟩
  | some x =>
    let kb2 := keyLoaded { kb.1.keep i with draws := (kb.1.keep i).draws + 1 } kb.2 i x
    ⟨yOk, beBytes 1 i ++ beBytes 4 ((kb2.1.keep i).slot i).gen ++ x.pubBytes alg, kb2.1.keep i, kb2.2.bump Reg.KEY_CNT_OP⟩

theorem contentFits_zeroise (k : Key) (c : KeyContent) : contentFits k 5 c = true := by
  cases c <;> rfl

theorem keyGenBody_of_scrap (t : Bool) (hl : k.lcs = 4) : keyGenBody session slot mode engine alg c t k b = ⟨yDenied, [], k, b⟩ :=
  if_pos hl

section
variable (hl : k.lcs ≠ 4) (h5 : mode ≤ 5) (hi : k.genSlot slot = some i)
include hl h5 hi

theorem keyGenBody_of_refused (t : Bool) (hr : k.genRefusal i mode engine alg ≠ yOk) :
    keyGenBody session slot mode engine alg c t k b = ⟨k.genRefusal i mode engine alg, [], k, b⟩ := by
  rw [keyGenBody, if_neg hl, if_neg (Nat.not_lt.mpr h5)]
  simp only [hi]
  exact if_pos hr

section
variable (hr : k.genRefusal i mode engine alg = yOk) (hc : contentFits k mode c = true) (hkb : kb = vacate i mode c k b)
include hr hc hkb

/-- A KEY_GEN that passes its checks vacates its slot; the tamper monitor, the mode and the unwrap decide what follows. -/
theorem keyGenBody_of_allowed (t : Bool) :
    keyGenBody session slot mode engine alg c t k b =
      if t then ⟨yTamperAbort, [], (kb.1.keep i).zeroise i, keyAbort (kb.1.keep i) kb.2 0x0A02 i⟩
      else if mode = 5 then ⟨yOk, beBytes 1 i ++ beBytes 4 ((kb.1.keep i).slot i).gen, kb.1.keep i, kb.2.bump Reg.KEY_CNT_OP⟩
      else keyGenMade session i mode engine alg c kb := by
  subst hkb
  rw [keyGenBody, if_neg hl, if_neg (Nat.not_lt.mpr h5)]
  simp only [hi]
  rw [if_neg (not_not_intro hr), if_neg (by simp [hc])]
  rfl

theorem keyGenBody_of_tamper :
    keyGenBody session slot mode engine alg c true k b =
      ⟨yTamperAbort, [], (kb.1.keep i).zeroise i, keyAbort (kb.1.keep i) kb.2 0x0A02 i⟩ := by
  rw [keyGenBody_of_allowed hl h5 hi hr hc hkb, if_pos rfl]

section
variable (h4 : mode ≠ 5)
include h4

theorem keyGenBody_of_key {x : KeySlot} {kb2 : Key × Block}
    (hx : (kb.1.keep i).genKey i mode engine alg session kb.2.tim.sec c = some x)
    (h2 : kb2 = keyLoaded { kb.1.keep i with draws := (kb.1.keep i).draws + 1 } kb.2 i x) :
    keyGenBody session slot mode engine alg c false k b =
      ⟨yOk, beBytes 1 i ++ beBytes 4 ((kb2.1.keep i).slot i).gen ++ x.pubBytes alg, kb2.1.keep i, kb2.2.bump Reg.KEY_CNT_OP⟩ := by
  subst h2
  rw [keyGenBody_of_allowed hl h5 hi hr hc hkb, if_neg Bool.false_ne_true, if_neg h4]
  simp only [keyGenMade, hx]

theorem keyGenBody_of_failed_unwrap (hx : (kb.1.keep i).genKey i mode engine alg session kb.2.tim.sec c = none) :
    keyGenBody session slot mode engine alg c false k b =
      ⟨yAuthFail, [], kb.1.keep i, (kb.2.bump Reg.KEY_CNT_AUTH_FAIL).bump Reg.KEY_CNT_OP⟩ := by
  rw [keyGenBody_of_allowed hl h5 hi hr hc hkb, if_neg Bool.false_ne_true, if_neg h4]
  simp only [keyGenMade, hx]

end

end

end

theorem keyGenBody_of_zeroise (hl : k.lcs ≠ 4) (hi : k.genSlot slot = some i) (hr : k.genRefusal i 5 engine alg = yOk)
    (hkb : kb = vacate i 5 c k b) :
    keyGenBody session slot 5 engine alg c false k b =
      ⟨yOk, beBytes 1 i ++ beBytes 4 ((kb.1.keep i).slot i).gen, kb.1.keep i, kb.2.bump Reg.KEY_CNT_OP⟩ := by
  rw [keyGenBody_of_allowed hl le_rfl hi hr (contentFits_zeroise k c) hkb, if_neg Bool.false_ne_true, if_pos rfl]

end

/-! ### The slot window (R480) -/

theorem keySlotLoad_of_allowed {acc slot : Nat} {x : KeySlot} (hm : b.mayWrite k acc roleObs false = yOk) (hx : x = k.slot (slot % 64)) :
    keySlotLoad acc slot k b =
      (((b.aput acc F.KEY_SLOT_SEL_SLOT slot).awr acc Reg.KEY_SLOT_INFO (BitVec.ofNat 32 x.info)).awr acc Reg.KEY_SLOT_GEN
        (BitVec.ofNat 32 x.gen)).awr acc Reg.KEY_SLOT_KCV (BitVec.ofNat 32 (if x.state = 0 then 0 else x.kcv32)) := by
  subst hx
  exact if_neg (not_not_intro hm)

end

section
variable {s : State} {h : Hdr}

/-- A ready KEY_GEN whose body answers so. -/
theorem Ready.keyGen {slot mode engine alg st : Nat} {c : KeyContent} {t : Bool} {pl : List Byte} {k : Key} {b : Block}
    (r : Ready s h 0x0A02 (keyGenReq slot mode))
    (hb : keyGenBody h.session slot mode engine alg c t s.key (s.taken h 0x0A02) = ⟨st, pl, k, b⟩) :
    exec (.keyGen h slot mode engine alg c t) s = .next (s.answerK h 0x0A02 st pl k b) :=
  congrArg Host.Outcome.next (r.onKB_answerK st pl k b rfl hb)

/-! ### Certificates and quotes (R465 to R467, R477) -/

theorem Ready.keyCertify_done {slot : Nat} {nonce : BitVec 256} (r : Ready s h 0x0A03 ⟨some roleObs, false⟩) (t : Bool) (h64 : slot < 64)
    (hs : (s.key.slot slot).state ≠ 0) :
    s.onB (keyCertify h slot nonce t) =
      if t then s.answer h 0x0A03 yTamperAbort [] fun b => keyAbort s.key b 0x0A03 0xFF
      else s.answer h 0x0A03 yOk (s.key.certificate slot nonce ++ s.key.aliasDoc) fun b => b.bump Reg.KEY_CNT_OP := by
  have hn : ¬(64 ≤ slot ∨ (s.key.slot slot).state = 0) := by omega
  cases t
  · exact r.onB_answer yOk _ (fun b => b.bump Reg.KEY_CNT_OP) rfl (if_neg hn)
  · exact r.onB_answer yTamperAbort [] (fun b => keyAbort s.key b 0x0A03 0xFF) rfl (if_neg hn)

theorem Ready.attestQuote_done {nonce : BitVec 256} (r : Ready s h 0x0A01 ⟨some roleObs, false⟩) (t : Bool) :
    s.onB (attestQuote h nonce t) =
      if t then s.answer h 0x0A01 yTamperAbort [] fun b => keyAbort s.key b 0x0A01 0xFF
      else s.answer h 0x0A01 yOk (s.key.quote (s.taken h 0x0A01) nonce 0 ++ s.key.aliasDoc) fun b => b.bump Reg.KEY_CNT_OP := by
  cases t
  · exact r.onB_answer yOk _ (fun b => b.bump Reg.KEY_CNT_OP) rfl rfl
  · exact r.onB_answer yTamperAbort [] (fun b => keyAbort s.key b 0x0A01 0xFF) rfl rfl

end

/-- Settles O43: each command by the case of its meaning that its guards select. -/
theorem keyCommandsTakeEffect : Obligations.KeyCommandsTakeEffect := by
  unfold Obligations.KeyCommandsTakeEffect
  refine ⟨?pass, ?fail, ?key, ?unwrap, ?zeroise, ?tamper, ?refused, ?certify, ?quote, ?aborted, ?window⟩
  case pass =>
    intro s tries n c k1 hd hr hs h1 hh ht hn
    exact congrArg Host.Outcome.next (State.onKB_congr (dukRegenerate_of_pass hd hr hs h1 c hh ht hn))
  case fail =>
    intro s tries c k1 hd hr hs h1 hf
    exact congrArg Host.Outcome.next (State.onKB_congr (dukRegenerate_of_fail hd hr hs h1 c hf))
  case key =>
    intro s h slot i mode engine alg c kb kb2 x r hl h4 hi hr hc hkb hx h2
    exact r.keyGen (keyGenBody_of_key hl (by omega) hi hr hc hkb (by omega) hx h2)
  case unwrap =>
    intro s h slot i mode engine alg c kb r hl h4 hi hr hc hkb hx
    exact r.keyGen (keyGenBody_of_failed_unwrap hl (by omega) hi hr hc hkb (by omega) hx)
  case zeroise =>
    intro s h slot i engine alg c kb r hl hi hr hkb
    exact r.keyGen (keyGenBody_of_zeroise hl hi hr hkb)
  case tamper =>
    intro s h slot i mode engine alg c kb r hl h5 hi hr hc hkb
    exact r.keyGen (keyGenBody_of_tamper hl h5 hi hr hc hkb)
  case refused =>
    intro s h slot i mode engine alg c t r hi h5 hx
    by_cases hl : s.key.lcs = 4
    · rw [if_pos hl]
      exact r.keyGen (keyGenBody_of_scrap t hl)
    · rw [if_neg hl]
      exact r.keyGen (keyGenBody_of_refused hl h5 hi t (hx.resolve_left hl))
  case certify =>
    intro s h slot nonce r h64 hs
    exact congrArg Host.Outcome.next (r.keyCertify_done false h64 hs)
  case quote =>
    intro s h nonce r
    exact congrArg Host.Outcome.next (r.attestQuote_done false)
  case aborted =>
    intro s h slot nonce rc rq h64 hs
    exact ⟨congrArg Host.Outcome.next (rc.keyCertify_done true h64 hs), congrArg Host.Outcome.next (rq.attestQuote_done true)⟩
  case window =>
    intro s acc slot x hm hx
    exact congrArg Host.Outcome.next (State.onB_eq_putB (keySlotLoad_of_allowed hm hx))

section
variable {k : Key} {b : Block}

/-! ### Tamper events (R472 to R476) -/

theorem tamperEvent_of_armed {src : Nat} {b1 : Block} (hw : b.tamperWatched src = true) (hl : k.live.testBit src = false)
    (ha : k.armed.testBit src = true) (h1 : b1 = (b.bump Reg.KEY_CNT_TAMPER).secDown) :
    tamperEvent src k b =
      (k.tamper src, b1.recBy (if b.topState = stWatch then 3 else 4) (decide (b.topState = stWatch)) 0x0E03 (1 <<< src)
        (k.tamper src).tseq b1.topState (!k.withheld).toNat) := by
  subst h1
  rw [tamperEvent, if_neg (by simp [hw, hl, ha])]
  simp only [decide_eq_true_eq]

theorem meshCheck_of_first_failure (h0 : k.meshFails = 0) : meshCheck false k b = ({ k with meshFails := 1 }, b) := by
  simp [meshCheck, h0]

theorem meshCheck_of_second_failure (h1 : 1 ≤ k.meshFails) : meshCheck false k b = tamperEvent 4 { k with meshFails := 2 } b := by
  have h2 : min 2 (k.meshFails + 1) = 2 := by omega
  simp [meshCheck, h2]

theorem tamperSourceClear_of_source {src : Nat} (out : Nat) (h8 : src < 8) :
    tamperSourceClear src out k b =
      { k with live := k.live &&& (0xFF - 1 <<< src),
               armed := if b.fld F.KEY_TMP_CTRL_DEBOUNCE ≤ out then k.armed ||| 1 <<< src else k.armed } := by
  rw [tamperSourceClear, if_neg (Nat.not_le.mpr h8)]
  dsimp only
  split <;> rfl

/-- Withholding turns the LOADED slots that R474 names to WITHHELD and leaves the others. -/
theorem Key.withhold_slot_state {i : Nat} (hi : i < k.slots.length) :
    (k.withhold.slot i).state = if isWithheldSlot i && (k.slot i).state == 1 then 2 else (k.slot i).state := by
  simp only [Key.withhold, Key.slot, List.getD_eq_getElem?_getD, List.getElem?_map, List.getElem?_zipIdx, List.getElem?_eq_getElem hi,
    Option.map_some, Option.getD_some, Nat.zero_add]
  split <;> rfl

/-! ### TAMPER_ACK (R475) -/

section
variable {tseq session : Nat} {ok : Bool}

theorem tamperAckBody_of_live (hk : ok = true) (h3 : k.usable 3 = true) (h : tseq ≠ k.tseq ∨ k.live ≠ 0) :
    tamperAckBody session tseq ok k b = ⟨yDenied, [], k, b⟩ := by
  rw [tamperAckBody, if_neg (by simp [hk, h3]), if_pos h]

theorem tamperAckBody_of_good (hk : ok = true) (h3 : k.usable 3 = true) (ht : tseq = k.tseq) (hl : k.live = 0) :
    tamperAckBody session tseq ok k b =
      ⟨yOk, [], { k.unwithhold with pend := false, acked := tseq }, b.note 0x0E04 tseq session⟩ := by
  rw [tamperAckBody, if_neg (by simp [hk, h3]), if_neg (by simp [ht, hl])]

theorem tamperAckBody_of_bad (h : ok = false ∨ k.usable 3 = false) :
    tamperAckBody session tseq ok k b = ⟨yAuthFail, [], k, b.bump Reg.KEY_CNT_AUTH_FAIL⟩ :=
  if_pos (by rcases h with h | h <;> simp [h])

end

end

/-- Settles O44: each event and TAMPER_ACK by the case of its meaning that its guards select. -/
theorem tamperEventsLatchWithholdAndAreAcknowledged : Obligations.TamperEventsLatchWithholdAndAreAcknowledged := by
  unfold Obligations.TamperEventsLatchWithholdAndAreAcknowledged
  refine ⟨?event, ?leaves, ?first, ?second, ?passes, ?clear, ?ack⟩
  case event =>
    intro s src b1 hw hl ha h1
    exact congrArg Host.Outcome.next (State.onKB_congr (tamperEvent_of_armed hw hl ha h1))
  case leaves =>
    intro k src i hi hk hw
    exact ⟨rfl, rfl, rfl, rfl, Key.withhold_slot_state (hk ▸ hi)⟩
  case first =>
    intro s h0
    exact congrArg Host.Outcome.next (State.onKB_congr (g := fun k b => ({ k with meshFails := 1 }, b)) (meshCheck_of_first_failure h0))
  case second =>
    intro s h1
    exact congrArg Host.Outcome.next (State.onKB_congr (meshCheck_of_second_failure h1))
  case passes =>
    intro s
    rfl
  case clear =>
    intro s src out h8
    exact congrArg (fun k => Host.Outcome.next { s with key := k }) (tamperSourceClear_of_source out h8)
  case ack =>
    intro s h tseq ok r
    refine ⟨fun hk h3 ht hl => ?_, fun hk h3 hd => ?_, fun hb => ?_⟩
    · exact congrArg Host.Outcome.next (r.onKB_answerK _ _ _ _ rfl (tamperAckBody_of_good hk h3 ht hl))
    · exact congrArg Host.Outcome.next (r.onKB_answerK _ _ _ _ rfl (tamperAckBody_of_live hk h3 hd))
    · exact congrArg Host.Outcome.next (r.onKB_answerK _ _ _ _ rfl (tamperAckBody_of_bad hb))

end Sys2Proof.Machine

/-!
SUPPORT. The event recorder: records accepted, numbered, committed and sealed, and the log read, verified and cleared, in the cases
the statements name, and the statements settled from these.
-/
namespace Sys2Proof.Machine

section
variable {k : Key} {b : Block} {r : Rec} {rest : List Rec}

/-! ### A record arrives (R484 to R486, R493, R495, R496) -/

/-- The block once the record offered first has left the list. -/
abbrev Block.offering (b : Block) (rest : List Rec) : Block := b.modLog fun l => { l with offered := rest }

theorem recordAccept_of_offered (ho : b.log.offered = r :: rest) :
    recordAccept k b = (b.offering rest).arrive k r.code r.src r.aon r.p0 r.p1 r.p2 r.p3 := by
  simp only [recordAccept, ho]

theorem recordAccept_of_taken (ho : b.log.offered = r :: rest) (hp : (b.pfail && r.src == 1) = false) :
    recordAccept k b = (b.offering rest).takeIn k r.code r.src r.aon r.p0 r.p1 r.p2 r.p3 := by
  rw [recordAccept_of_offered ho]
  exact if_neg (Bool.eq_false_iff.mp hp)

theorem recordAccept_of_dropped (ho : b.log.offered = r :: rest) (hp : b.pfail = true) (hs : r.src = 1) :
    recordAccept k b = (b.modLog fun l => { l with offered := rest, dropped := l.dropped + 1 }).bump Reg.LOG_CNT_DROP := by
  rw [recordAccept_of_offered ho]
  exact if_pos (show (b.pfail && r.src == 1) = true by simp [hp, hs])

theorem recordAccept_of_nothing (ho : b.log.offered = []) : recordAccept k b = b := by simp only [recordAccept, ho]

/-- A record numbered now has operating-seconds form where R486 says so. -/
theorem LogRec.tform_of_flags {x : LogRec} {op aon fixed : Bool} (hf : x.flags = 128 * op.toNat + 64 * aon.toNat + 32 * fixed.toNat) :
    x.tform = op := by
  rw [LogRec.tform, hf]
  cases op <;> cases aon <;> cases fixed <;> rfl

theorem Log.fix_of_circulating {l : Log} (h : l.size ≠ 65536) : l.fix = l.fixed :=
  if_neg (by simpa [Log.forensic] using h)

section
variable {x : LogRec} {code src : Nat} {aon op : Bool} {p0 p1 p2 p3 : W32}

/-- The record's fields determine it: its CRC covers the others. -/
theorem Block.mkRec_eq (hsize : b.log.size ≠ 65536) (hop : op = (code != 0x0F03 && b.tformNow src)) (hr : x.rnum = b.log.rnumNext)
    (hc : x.code = code) (hs : x.src = src)
    (hf : x.flags = 128 * op.toNat + 64 * aon.toNat + 32 * (decide (b.log.rnumNext < b.log.fixed)).toNat)
    (ht : x.time = if op then (b.opsec % 2 ^ 40) * 2 ^ 24 + b.log.pcc else b.log.seq)
    (h0 : x.p0 = p0) (h1 : x.p1 = p1) (h2 : x.p2 = p2) (h3 : x.p3 = p3) (hcrc : x.crc = crc32c x.head) :
    b.mkRec code src aon false p0 p1 p2 p3 = x := by
  obtain ⟨rnum, code, src, flags, time, p0, p1, p2, p3, crc⟩ := x
  dsimp only at hr hc hs hf ht h0 h1 h2 h3 hcrc
  subst hop hr hc hs hf ht h0 h1 h2 h3
  simp only [Block.mkRec, Log.fix_of_circulating hsize]
  exact congrArg _ hcrc.symm

/-- A record that follows nothing owed, into a queue with room. -/
theorem Block.takeIn_of_room (hd : b.log.dropped = 0) (hs : b.sealDue k = false) (hq : b.log.queue.length < 64)
    (hf : b.log.full = false) (hsize : b.log.size ≠ 65536) :
    b.takeIn k code src aon p0 p1 p2 p3 = b.enqueue (b.mkRec code src aon false p0 p1 p2 p3) := by
  have hdrop : logDropped b = b := if_neg (by simp [Block.dropDue, hd])
  have hseal : logSeal k b = b := if_neg (Bool.eq_false_iff.mp hs)
  have hroom : b.log.room = true := by simp [Log.room, hq]
  have hforensic : b.log.forensic = false := by simpa [Log.forensic] using hsize
  simp only [Block.takeIn, hdrop, hseal, hroom, if_true, Block.accept, hf, hforensic, Bool.false_and, Bool.false_eq_true, if_false]

/-- A circulating log once a record of either form has joined the queue at this many operating seconds. -/
def Log.joined (l : Log) (x : LogRec) (op : Bool) (secs : Nat) : Log :=
  { l with queue := l.queue ++ [x], rnumNext := (if l.rnumNext = 0xFFFFFFFF then l.fixed else l.rnumNext + 1),
           seq := (if op then l.seq else (l.seq + 1) % 2 ^ 64), lastSeq := (if op then l.lastSeq else l.seq), lastOpsec := secs,
           sealCount := l.sealCount + 1, sealBytes := l.sealBytes ++ x.bytes }

/-- A record other than LOG_SEAL into the queue of a log that circulates. -/
theorem Block.enqueue_of_record (hsize : b.log.size ≠ 65536) (hc : x.code ≠ 0x0F04) (hform : x.tform = op)
    (ht : op = false → x.time = b.log.seq) :
    b.enqueue x = (b.modLog fun l => l.joined x op b.opsec).deliver x := by
  have hseal : (x.code == 0x0F04) = false := by simpa using hc
  subst hform
  rw [Block.enqueue]
  simp only [hseal, Bool.false_eq_true, if_false, Block.modLog, Log.joined, Log.succ, Log.fix_of_circulating hsize]
  cases hx : x.tform
  · rw [ht hx]
  · rfl

end

/-! ### Commit, seal, mark and save (R487, R488, R493, R497) -/

theorem recordCommit_of_queued {r : LogRec} {rest : List LogRec} (hq : b.log.queue = r :: rest) :
    recordCommit b = (b.commitRec r).modLog fun l => { l with queue := rest } := by
  simp only [recordCommit, hq]

theorem recordCommit_of_empty (hq : b.log.queue = []) : recordCommit b = b := by simp only [recordCommit, hq]

theorem logDropped_of_due (h : b.dropDue = true) :
    logDropped b =
      (b.modLog fun l => { l with dropped := 0 }).accept 0x0F05 1 false false (BitVec.ofNat 32 b.log.dropped) 0 0 0 := if_pos h

theorem logDropped_of_not_due (h : b.dropDue = false) : logDropped b = b := if_neg (Bool.eq_false_iff.mp h)

theorem timeMark_of_due (h : b.markDue = true) :
    timeMark k b =
      b.marked.arrive k 0x0F03 1 false (BitVec.ofNat 32 b.tim.sec) (BitVec.ofNat 32 b.tim.ns) b.markP2 (BitVec.ofNat 32 b.opsec) :=
  if_pos h

theorem timeMark_of_not_due (h : b.markDue = false) : timeMark k b = b := if_neg (Bool.eq_false_iff.mp h)

theorem logSeal_of_due (h : b.sealDue k = true) : logSeal k b = b.sealWith k (b.sealNow k) := if_pos h

theorem logSeal_of_not_due (h : b.sealDue k = false) : logSeal k b = b := if_neg (Bool.eq_false_iff.mp h)

theorem opsecSave_of_due (h : b.log.opsecSaved + 60 ≤ b.opsec) :
    opsecSave b = b.modLog fun l => { l with opsecSaved := b.opsec, savedAtPfail := false, lostSaved := l.lost } := if_pos h

theorem opsecSave_of_not_due (h : b.opsec < b.log.opsecSaved + 60) : opsecSave b = b := if_neg (Nat.not_le.mpr h)

end

/-- Settles O45: each command by the case of its meaning that its condition selects. -/
theorem recorderAcceptsCommitsSealsAndMarks : Obligations.RecorderAcceptsCommitsSealsAndMarks := by
  unfold Obligations.RecorderAcceptsCommitsSealsAndMarks
  refine ⟨?accept, ?firmware, ?commit, ?nothing, ?dropped, ?noDrop, ?mark, ?noMark, ?sealed, ?noSeal, ?save, ?noSave⟩
  case accept =>
    intro s r rest ho hp
    exact congrArg Host.Outcome.next (State.onB_congr (recordAccept_of_taken ho hp))
  case firmware =>
    intro s r rest ho hp hs
    exact congrArg Host.Outcome.next (State.onB_congr (recordAccept_of_dropped ho hp hs))
  case commit =>
    intro s r rest hq
    exact congrArg Host.Outcome.next (State.onB_congr (recordCommit_of_queued hq))
  case nothing =>
    intro s ho hq
    exact ⟨congrArg Host.Outcome.next (State.onB_eq_self (recordAccept_of_nothing ho)),
      congrArg Host.Outcome.next (State.onB_eq_self (recordCommit_of_empty hq))⟩
  case dropped =>
    intro s h
    exact congrArg Host.Outcome.next (State.onB_congr (logDropped_of_due h))
  case noDrop =>
    intro s h
    exact congrArg Host.Outcome.next (State.onB_eq_self (logDropped_of_not_due h))
  case mark =>
    intro s h
    exact congrArg Host.Outcome.next (State.onB_congr (timeMark_of_due h))
  case noMark =>
    intro s h
    exact congrArg Host.Outcome.next (State.onB_eq_self (timeMark_of_not_due h))
  case sealed =>
    intro s h
    exact congrArg Host.Outcome.next (State.onB_congr (logSeal_of_due h))
  case noSeal =>
    intro s h
    exact congrArg Host.Outcome.next (State.onB_eq_self (logSeal_of_not_due h))
  case save =>
    intro s h
    exact congrArg Host.Outcome.next (State.onB_congr (opsecSave_of_due h))
  case noSave =>
    intro s h
    exact congrArg Host.Outcome.next (State.onB_eq_self (opsecSave_of_not_due h))

/-- Settles O47: nothing is owed first, so the record is numbered by the log as it stands and joins its queue. -/
theorem recordsTakeTheirNumbersInOrder : Obligations.RecordsTakeTheirNumbersInOrder := by
  unfold Obligations.RecordsTakeTheirNumbersInOrder
  intro s r rest op x ho hp hd hs hq hf hsize hc hop hrnum hcode hsrc hflags htime h0 h1 h2 h3 hcrc
  refine congrArg Host.Outcome.next (State.onB_congr ?_)
  have hrec : (s.b.offering rest).mkRec r.code r.src r.aon false r.p0 r.p1 r.p2 r.p3 = x :=
    Block.mkRec_eq hsize hop hrnum hcode hsrc hflags htime h0 h1 h2 h3 hcrc
  have hseq : op = false → x.time = (s.b.offering rest).log.seq := fun h => by rw [htime, h]; rfl
  rw [recordAccept_of_taken ho (by rw [hp]; rfl), Block.takeIn_of_room (k := s.key) (b := s.b.offering rest) hd hs hq hf hsize, hrec,
    Block.enqueue_of_record (b := s.b.offering rest) hsize (hcode ▸ hc) (LogRec.tform_of_flags hflags) hseq]
  rfl

section
variable {k : Key} {b : Block}

/-! ### The log read, verified and cleared (R489, R497 to R500) -/

theorem logReadBody_of_held {first count : Nat} {l : List LogRec} (h1 : 1 ≤ count) (h128 : count ≤ 128)
    (hl : b.log.range count first = some l) :
    logReadBody first count b = ⟨yOk, l.flatMap LogRec.bytes, b.bumpBy Reg.LOG_CNT_CRC (l.filter fun r => !r.crcOk).length⟩ := by
  rw [logReadBody, if_neg (by omega)]
  simp only [hl]

theorem logReadBody_of_refused {first count : Nat} (h : count < 1 ∨ 128 < count ∨ b.log.range count first = none) :
    logReadBody first count b = yErr b yBadParam := by
  rw [logReadBody]
  rcases or_assoc.mpr h with h | h
  · rw [if_pos h]
  · simp only [h, ite_self]

theorem sealVerifyW_of_allowed {acc : Nat} (hm : b.mayWrite k acc roleEng true = yOk) : sealVerifyW acc k b = ⟨yOk, b.verifyChains k⟩ :=
  if_neg (not_not_intro hm)

theorem sealVerifyW_of_denied {acc : Nat} (hm : b.mayWrite k acc roleEng true ≠ yOk) :
    sealVerifyW acc k b = wErr b acc (b.mayWrite k acc roleEng true) := if_pos hm

/-- The status of a LOG_CLEAR: the checks of R499 in their order. -/
def logClearStatus (k : Key) (b : Block) (clrNo newSize newFixed : Nat) (sigOk : Bool) : Nat :=
  if logSizesOk newSize newFixed = false then yBadParam
  else if (k.slot 3).state = 0 then yDenied
  else if sigOk = false then yAuthFail
  else if clrNo ≠ b.log.clrCnt then yDenied
  else yOk

theorem logClearBody_eq (session clrNo newSize newFixed : Nat) (sigOk : Bool) :
    logClearBody session clrNo newSize newFixed sigOk k b =
      if logClearStatus k b clrNo newSize newFixed sigOk ≠ yOk then yErr b (logClearStatus k b clrNo newSize newFixed sigOk)
      else yDone ((b.newLog newSize newFixed).accept 0x0F01 1 false false (BitVec.ofNat 32 b.log.rnumNext) (BitVec.ofNat 32 b.log.lost)
        (BitVec.ofNat 32 session) (BitVec.ofNat 32 clrNo)) := by
  unfold logClearBody logClearStatus
  simp only [Bool.not_eq_true']
  split
  · rfl
  · split
    · rfl
    · split
      · rfl
      · split <;> rfl

theorem logClearStatus_of_good {clrNo newSize newFixed : Nat} (hs : logSizesOk newSize newFixed = true) (h3 : (k.slot 3).state ≠ 0)
    (hc : clrNo = b.log.clrCnt) : logClearStatus k b clrNo newSize newFixed true = yOk := by
  simp [logClearStatus, hs, h3, hc]

end

/-- What is held does not depend on the records offered. -/
theorem Log.range_offering (l : Log) (o : List Rec) (count first : Nat) :
    ({ l with offered := o } : Log).range count first = l.range count first := by
  induction count generalizing first with
  | zero => rfl
  | succ n ih =>
    have hrec : ({ l with offered := o } : Log).recOf first = l.recOf first := rfl
    have hsucc : ({ l with offered := o } : Log).succ first = l.succ first := rfl
    simp only [Log.range, hrec, hsucc, ih]

theorem Block.ycpTake_range (k : Key) (h : Hdr) (op count first : Nat) (b : Block) :
    (b.ycpTake k h op).log.range count first = b.log.range count first := by
  rw [Block.ycpTake_log]
  exact Log.range_offering _ _ _ _

theorem Block.ycpTake_clrCnt (k : Key) (h : Hdr) (op : Nat) (b : Block) : (b.ycpTake k h op).log.clrCnt = b.log.clrCnt := by
  rw [Block.ycpTake_log]

section
variable {s : State} {h : Hdr} {first count : Nat} (r : Ready s h 0x0B01 ⟨some roleObs, false⟩)
include r

/-- A ready LOG_READ that answers these bytes and counts this many failing CRCs. -/
theorem Ready.logRead_counted {pl : List Byte} {n : Nat}
    (hb : logReadBody first count (s.taken h 0x0B01) = ⟨yOk, pl, (s.taken h 0x0B01).bumpBy Reg.LOG_CNT_CRC n⟩) :
    s.onB (logRead h first count) = s.answer h 0x0B01 yOk pl fun b => b.bumpBy Reg.LOG_CNT_CRC n :=
  r.onB_answer yOk pl (fun b => b.bumpBy Reg.LOG_CNT_CRC n) rfl hb

theorem Ready.logRead_done {l : List LogRec} (h1 : 1 ≤ count) (h128 : count ≤ 128) (hl : s.b.log.range count first = some l) :
    s.onB (logRead h first count) =
      s.answer h 0x0B01 yOk (l.flatMap LogRec.bytes) fun b => b.bumpBy Reg.LOG_CNT_CRC (l.filter fun r => !r.crcOk).length :=
  r.logRead_counted (logReadBody_of_held h1 h128 ((Block.ycpTake_range s.key h 0x0B01 count first s.b).trans hl))

theorem Ready.logRead_refused (hc : count < 1 ∨ 128 < count ∨ s.b.log.range count first = none) :
    s.onB (logRead h first count) = s.answer h 0x0B01 yBadParam [] id :=
  r.onB_answer yBadParam [] id (body := logReadBody first count) rfl
    (logReadBody_of_refused (by rwa [Block.ycpTake_range]))

end

/-- Settles O46: the body of each command by the case that its operands select; taking a command leaves what the log holds. -/
theorem logReadVerifyAndClearTakeEffect : Obligations.LogReadVerifyAndClearTakeEffect := by
  unfold Obligations.LogReadVerifyAndClearTakeEffect
  refine ⟨?read, ?notRead, ?verify, ?notVerified, ?clear, ?notCleared⟩
  case read =>
    intro s h first count l r h1 h128 hl
    exact congrArg Host.Outcome.next (r.logRead_done h1 h128 hl)
  case notRead =>
    intro s h first count r hc
    exact congrArg Host.Outcome.next (r.logRead_refused hc)
  case verify =>
    intro s acc hm
    exact congrArg Host.Outcome.next (State.onB_congr (congrArg WRes.b (sealVerifyW_of_allowed hm)))
  case notVerified =>
    intro s acc hm
    exact congrArg Host.Outcome.next (State.onB_congr (congrArg WRes.b (sealVerifyW_of_denied hm)))
  case clear =>
    intro s h clrNo newSize newFixed r hs h3 hc
    have hgood : logClearStatus s.key (s.taken h 0x0B02) clrNo newSize newFixed true = yOk :=
      logClearStatus_of_good hs h3 (hc.trans (Block.ycpTake_clrCnt ..).symm)
    refine congrArg Host.Outcome.next (r.onB_answer yOk [] (fun b => (b.newLog newSize newFixed).accept 0x0F01 1 false false
      (BitVec.ofNat 32 b.log.rnumNext) (BitVec.ofNat 32 b.log.lost) (BitVec.ofNat 32 h.session) (BitVec.ofNat 32 clrNo)) rfl ?_)
    rw [logClearBody_eq, hgood, if_neg (not_not_intro rfl)]
    rfl
  case notCleared =>
    intro s h clrNo newSize newFixed sigOk st r hst hbad
    have hsame : logClearStatus s.key (s.taken h 0x0B02) clrNo newSize newFixed sigOk = st := by
      rw [hst, logClearStatus, Block.ycpTake_clrCnt]
    refine congrArg Host.Outcome.next (r.onB_answer st [] id rfl ?_)
    rw [logClearBody_eq, hsame, if_pos hbad]
    rfl

end Sys2Proof.Machine

/-!
SUPPORT. Supply, temperature, clocks and device states: what each event and command does in the cases the statements name, PWR_THR
written over the three write paths, and the statements settled from these.
-/
namespace Sys2Proof.Machine

section
variable {k : Key} {b : Block} {vin vstore : Nat}

/-! ### The supply (R531, R532, R534, R535) -/

section
variable {part : LineCycle}

theorem pfailAssert_of_fall (hf : b.failsAt vin = true) (hp : b.pfail = false) :
    pfailAssert vin vstore part b = (b.failInputs vin vstore).assertPfail vin vstore part := by
  rw [pfailAssert, if_neg (by simp [hf]), if_neg (by simp [hp])]

theorem pfailAssert_of_pfail (hf : b.failsAt vin = true) (hp : b.pfail = true) :
    pfailAssert vin vstore part b = (b.failInputs vin vstore).addFeed vin vstore := by
  rw [pfailAssert, if_neg (by simp [hf]), if_pos hp]

theorem pfailAssert_of_good (hf : b.failsAt vin = false) : pfailAssert vin vstore part b = b := if_pos (by simp [hf])

end

theorem pfailClear_of_recovered {goodUs : Nat} (h : b.recovers vin goodUs = true) :
    pfailClear vin vstore goodUs b =
      (((((b.supply vin vstore).put F.PWR_STAT_PFAIL 0).put F.PWR_STAT_ON_STORE 0).modTop fun t => { t with pfailAt := none }).bump
        Reg.PWR_CNT_RIDE).pwrFail false vin b.pfailUs vstore := by
  rw [pfailClear, if_neg (by simp [h])]

theorem pfailClear_of_no_pfail (goodUs : Nat) (hp : b.pfail = false) : pfailClear vin vstore goodUs b = b :=
  if_pos (by simp [Block.recovers, hp])

theorem overvoltageReconnect_of_fall (hd : b.top.disconnected = true) (hv : vin ≤ 6200) :
    overvoltageReconnect vin vstore b =
      ((b.supply vin vstore).modTop fun t => { t with disconnected := false }).putFlag F.PWR_STAT_ON_STORE
        (decide (vin < 560 ∨ vin < vstore)) :=
  if_neg (by simp [hd, hv])

theorem overvoltageReconnect_of_connected (hd : b.top.disconnected = false) : overvoltageReconnect vin vstore b = b :=
  if_pos (by simp [hd])

theorem storeReachesVin_of_reached (hp : b.pfail = true) (hd : b.top.disconnected = false) (h560 : 560 ≤ vin) (hv : vstore ≤ vin) :
    storeReachesVin vin vstore b = (b.supply vin vstore).put F.PWR_STAT_ON_STORE 0 :=
  if_neg (by simp [hp, hd, h560, hv])

theorem storeReachesVin_of_no_pfail (hp : b.pfail = false) : storeReachesVin vin vstore b = b := if_pos (by simp [hp])

/-! ### The thresholds (R533) -/

section
variable {acc : Nat} {value : W32}

theorem powerThresholdW_of_denied (hm : b.mayWrite k acc roleEng false ≠ yOk) :
    powerThresholdW acc value k b = wErr b acc (b.mayWrite k acc roleEng false) := if_pos hm

theorem powerThresholdW_of_apart (hm : b.mayWrite k acc roleEng false = yOk)
    (h : clampNat 58 500 (bits value 9 0) + 10 ≤ min 550 (bits value 25 16)) :
    powerThresholdW acc value k b =
      ⟨yOk, (b.put F.PWR_THR_WATCH_THR (min 550 (bits value 25 16))).put F.PWR_THR_PFAIL_THR (clampNat 58 500 (bits value 9 0))⟩ := by
  rw [powerThresholdW, if_neg (not_not_intro hm)]
  exact if_neg (Nat.not_lt.mpr h)

theorem powerThresholdW_of_close (hm : b.mayWrite k acc roleEng false = yOk)
    (h : min 550 (bits value 25 16) < clampNat 58 500 (bits value 9 0) + 10) :
    powerThresholdW acc value k b = ⟨yBadParam, b.put F.PWR_STAT_CFG_ERR 1⟩ := by
  rw [powerThresholdW, if_neg (not_not_intro hm)]
  exact if_pos h

end

/-! ### The temperature (R541, R554) -/

section
variable {t : Int}

theorem tempMeasure_of_not_loaded (hl : b.top.loaded = false) : tempMeasure t b = b := if_pos (by simp [hl])

theorem tempMeasure_of_quiet (hl : b.top.loaded = true) (h : t ≤ 1250 ∨ b.within b.top.overTick (60 * tickS) = true) :
    tempMeasure t b = b.measured t := by
  rw [tempMeasure, if_neg (by simp [hl]), if_pos h]

theorem tempMeasure_of_hot (hl : b.top.loaded = true) (ht : 1250 < t) (hw : b.within b.top.overTick (60 * tickS) = false) :
    tempMeasure t b = ((b.measured t).modTop fun x => { x with overTick := some b.now }).note 0x010A (s32 t % 65536) := by
  rw [tempMeasure, if_neg (by simp [hl]), if_neg (by simp [ht, hw])]

end

end

/-- Settles O48: each event and write by the case of its meaning that its condition selects. -/
theorem supplyAndTemperatureEventsTakeEffect : Obligations.SupplyAndTemperatureEventsTakeEffect := by
  unfold Obligations.SupplyAndTemperatureEventsTakeEffect
  refine ⟨?assert, ?standing, ?clear, ?reconnect, ?store, ?nothing, ?write, ?denied, ?measure, ?hot, ?early⟩
  case assert =>
    intro s vin vstore part hf hp
    exact congrArg Host.Outcome.next (State.onB_congr (pfailAssert_of_fall hf hp))
  case standing =>
    intro s vin vstore part hf hp
    exact congrArg Host.Outcome.next (State.onB_congr (pfailAssert_of_pfail hf hp))
  case clear =>
    intro s vin vstore goodUs h
    exact congrArg Host.Outcome.next (State.onB_congr (pfailClear_of_recovered h))
  case reconnect =>
    intro s vin vstore hd hv
    exact congrArg Host.Outcome.next (State.onB_congr (overvoltageReconnect_of_fall hd hv))
  case store =>
    intro s vin vstore hp hd h560 hv
    exact congrArg Host.Outcome.next (State.onB_congr (storeReachesVin_of_reached hp hd h560 hv))
  case nothing =>
    intro s vin vstore goodUs part hf hp hd
    exact ⟨congrArg Host.Outcome.next (State.onB_eq_self (pfailAssert_of_good hf)),
      congrArg Host.Outcome.next (State.onB_eq_self (pfailClear_of_no_pfail goodUs hp)),
      congrArg Host.Outcome.next (State.onB_eq_self (overvoltageReconnect_of_connected hd)),
      congrArg Host.Outcome.next (State.onB_eq_self (storeReachesVin_of_no_pfail hp))⟩
  case write =>
    intro s acc value hm h
    exact congrArg Host.Outcome.next (State.onB_congr (congrArg WRes.b (powerThresholdW_of_apart hm h)))
  case denied =>
    intro s acc value hm
    exact congrArg Host.Outcome.next (State.onB_congr (congrArg WRes.b (powerThresholdW_of_denied hm)))
  case measure =>
    intro s t hl h
    exact congrArg Host.Outcome.next (State.onB_congr (tempMeasure_of_quiet hl h))
  case hot =>
    intro s t hl ht hw
    exact congrArg Host.Outcome.next (State.onB_congr (tempMeasure_of_hot hl ht hw))
  case early =>
    intro s t hl
    exact congrArg Host.Outcome.next (State.onB_eq_self (tempMeasure_of_not_loaded hl))

/-! ### PWR_THR over the write paths (R10, R533, R565) -/

/-- PWR_THR as the register map describes it. -/
abbrev pwrThrDesc : RegDesc := ⟨0x10204, 1, 0x4, .eng, [⟨25, 16, .clamp 0 550⟩, ⟨9, 0, .clamp 58 500⟩]⟩

theorem regAt_pwrThr : regAt Reg.PWR_THR = some pwrThrDesc := rfl

/-- A write of PWR_THR under a mask, as the two fields are taken: one that no bit selects keeps its value. -/
theorem bits_merge_pwrThr (old value mask : W32) :
    bits (pwrThrDesc.merge old value mask) 25 16 =
        (if mask &&& 0x03FF0000 = 0 then bits old 25 16 else min 550 (bits ((old &&& ~~~mask) ||| (value &&& mask)) 25 16)) ∧
      bits (pwrThrDesc.merge old value mask) 9 0 =
        (if mask &&& 0x000003FF = 0 then bits old 9 0 else clampNat 58 500 (bits ((old &&& ~~~mask) ||| (value &&& mask)) 9 0)) := by
  have hw : fieldMask 25 16 = 0x03FF0000 := by decide
  have hp : fieldMask 9 0 = 0x000003FF := by decide
  have hlt : ∀ n, clampNat 58 500 n < 1024 := fun n => by
    unfold clampNat
    omega
  have hclamp : ∀ n, clampNat 0 550 n = min 550 n := fun n => Nat.zero_max _
  simp only [RegDesc.merge, List.foldl_cons, List.foldl_nil, FKind.take, hw, hp, hclamp]
  constructor
  · split <;> split <;> simp [bits_putBits, bits_putBits_disj]
  · split <;> split <;> simp [bits_putBits, bits_putBits_disj, hlt]

section
variable {k : Key} {b : Block} {acc : Nat} {value mask new : W32}

theorem blockWrite_pwrThr (old ones : W32) :
    blockWrite ⟨acc, Reg.PWR_THR, old, new, mask, ones⟩ k b = powerThresholdW acc new k b := by
  have hblock : Reg.PWR_THR / 0x10000 = 1 := rfl
  simp [blockWrite, hblock]

/-- R533 for a write of PWR_THR under any mask that selects a field of it. -/
theorem hostWrite_pwrThr_of_close (hm : b.mayWrite k acc roleEng false = yOk) (hsel : mask &&& 0x03FF03FF ≠ 0)
    (hnew : new = (b.rd Reg.PWR_THR &&& ~~~mask) ||| (value &&& mask))
    (h : min 550 (if mask &&& 0x03FF0000 = 0 then bits (b.rd Reg.PWR_THR) 25 16 else bits new 25 16) <
      clampNat 58 500 (if mask &&& 0x000003FF = 0 then bits (b.rd Reg.PWR_THR) 9 0 else bits new 9 0) + 10) :
    hostWrite acc Reg.PWR_THR value mask k b = ⟨yBadParam, k, b.put F.PWR_STAT_CFG_ERR 1⟩ := by
  have hwritable : pwrThrDesc.writable = 0x03FF03FF := by decide
  obtain ⟨hw, hp⟩ := bits_merge_pwrThr (b.rd Reg.PWR_THR) value mask
  rw [← hnew] at hw hp
  have hclose : min 550 (bits (pwrThrDesc.merge (b.rd Reg.PWR_THR) value mask) 25 16) <
      clampNat 58 500 (bits (pwrThrDesc.merge (b.rd Reg.PWR_THR) value mask) 9 0) + 10 := by
    rw [hw, hp]
    unfold clampNat at h ⊢
    by_cases hw0 : mask &&& 0x03FF0000 = 0 <;> by_cases hp0 : mask &&& 0x000003FF = 0 <;>
      simp only [hw0, hp0, if_true, if_false] at h ⊢ <;> omega
  rw [hostWrite_of_allowed regAt_pwrThr rfl (by decide) (by decide) (by decide) hm (by rwa [hwritable]) (by decide) rfl,
    blockWrite_pwrThr]
  exact congrArg (WRes.withKey · k) (powerThresholdW_of_close hm hclose)

end

/-- Settles O54: the three write paths reach `powerThresholdW`, which refuses thresholds that stand too close. -/
theorem watchThresholdStaysAboveThePfailThreshold : Obligations.WatchThresholdStaysAboveThePfailThreshold := by
  unfold Obligations.WatchThresholdStaysAboveThePfailThreshold
  refine ⟨?host, ?ycp⟩
  case host =>
    intro s acc value hm hf h
    have hall : (0xFFFFFFFF : W32) = BitVec.allOnes 32 := rfl
    have hnew : value = (s.b.rd Reg.PWR_THR &&& ~~~0xFFFFFFFF) ||| (value &&& 0xFFFFFFFF) := by
      rw [hall, BitVec.not_allOnes, BitVec.and_zero, BitVec.zero_or, BitVec.and_allOnes]
    have hwrite := hostWrite_pwrThr_of_close (mask := 0xFFFFFFFF) hm (by decide) hnew h
    exact ⟨congrArg Host.Outcome.next (State.onB_congr (congrArg WRes.b (powerThresholdW_of_close hm h))),
      congrArg Host.Outcome.next (State.onKB_eq_onB ((registerWrite_of_word rfl hf).trans (by rw [hwrite])))⟩
  case ycp =>
    intro s h value mask new r hm hsel hnew hclose
    have hrd : s.b.rd Reg.PWR_THR = (s.taken h 0x0102).rd Reg.PWR_THR :=
      (Block.ycpTake_rd_ne s.key h 0x0102 s.b _ (Nat.lt_of_lt_of_le (by decide) (Nat.le_add_right _ _)).ne).symm
    rw [hrd] at hnew hclose
    refine congrArg Host.Outcome.next ((r.regWrite_ok rfl (.inl (by decide))).trans ?_)
    rw [hostWrite_pwrThr_of_close hm hsel hnew hclose]
    rfl

section
variable {k : Key} {b : Block}

/-! ### References and clocks (R536 to R538) -/

theorem refclkInvalid_of_selected {b1 : Block} (h1 : b1 = b.put F.CLK_STAT_REFIN_OK 0) (ha : b1.fld F.CLK_STAT_REF_ACTIVE = 1) :
    refclkInvalid k b = if b1.flag F.CLK_CTRL_REF_AUTO then (k, b1.switchRef 0 0) else clkf k b1 := by
  subst h1
  exact if_neg (not_not_intro ha)

theorem refclkInvalid_of_other {b1 : Block} (h1 : b1 = b.put F.CLK_STAT_REFIN_OK 0) (ha : b1.fld F.CLK_STAT_REF_ACTIVE ≠ 1) :
    refclkInvalid k b = (k, b1) := by
  subst h1
  exact if_pos ha

theorem tcxoFail_of_selected (refin : Bool) (ha : b.fld F.CLK_STAT_REF_ACTIVE = 0) :
    tcxoFail refin k b =
      if (b.flag F.CLK_CTRL_REF_AUTO && refin) = true then (k, (b.put F.CLK_STAT_REFIN_OK 1).switchRef 1 0) else clkf k b :=
  if_neg (not_not_intro ha)

theorem tcxoFail_of_other (refin : Bool) (ha : b.fld F.CLK_STAT_REF_ACTIVE ≠ 0) : tcxoFail refin k b = (k, b) := if_pos ha

theorem ckAonBad_of_bad {hz : Nat} (hr : hz < 20000 ∨ 45000 < hz)
    (hf : (b.put F.CLK_AON_HZ_HZ (min 65535 hz)).flag F.CLK_STAT_AON_BAD = false) :
    ckAonBad hz b = ((b.put F.CLK_AON_HZ_HZ (min 65535 hz)).put F.CLK_STAT_AON_BAD 1).note 0x0107 0 (min 65535 hz) := by
  have hout : decide (20000 ≤ hz ∧ hz ≤ 45000) = false := decide_eq_false (by omega)
  exact if_neg (by simp only [hout, hf]; decide)

theorem ckAonBad_of_range {hz : Nat} (h20 : 20000 ≤ hz) (h45 : hz ≤ 45000) : ckAonBad hz b = b.put F.CLK_AON_HZ_HZ hz := by
  have hmin : min 65535 hz = hz := by omega
  rw [ckAonBad, hmin]
  exact if_pos (by simp [h20, h45])

section
variable {acc : Nat} {value : W32} {refin : Bool}

theorem refSwitchRequestW_of_allowed {b1 : Block} (hm : b.mayWrite k acc roleEng false = yOk)
    (h1 : b1 = ((b.put F.CLK_CTRL_REF_SEL (bits value 1 1)).put F.CLK_CTRL_REF_AUTO (bits value 0 0)).putFlag F.CLK_STAT_REFIN_OK refin) :
    (refSwitchRequestW acc value refin k b).b =
      if bits value 1 1 = b1.fld F.CLK_STAT_REF_ACTIVE ∨ b1.top.refTo.isSome = true ∨ (bits value 1 1 = 1 ∧ refin = false) then b1
      else b1.switchRef (bits value 1 1) 1 := by
  subst h1
  rw [refSwitchRequestW, if_neg (not_not_intro hm)]
  simp only [Bool.not_eq_true']
  split <;> rfl

theorem refSwitchRequestW_of_denied (hm : b.mayWrite k acc roleEng false ≠ yOk) :
    refSwitchRequestW acc value refin k b = wErr b acc (b.mayWrite k acc roleEng false) := if_pos hm

end

theorem pllRelock_of_switch (h : b.top.refTo.isSome = true) :
    pllRelock b = ((b.put F.CLK_STAT_HOLDOVER 0).put F.CLK_STAT_PLL_LOCK 1).modTop fun t => { t with refTo := none } :=
  if_neg (by simpa [Option.isSome_iff_ne_none] using h)

theorem pllRelock_of_no_switch (h : b.top.refTo = none) : pllRelock b = b := if_pos (by rw [h]; rfl)

/-! ### Device states (R529, R530) -/

theorem watchEntry_of_low {vin lowMs : Nat} (hs : b.topState = stRun ∨ b.topState = stMaint) (ha : b.flag F.PWR_CTRL_WATCH_AUTO = true)
    (hv : vin < b.watchThr) (hl : 100 ≤ lowMs) : watchEntry vin lowMs k b = endMgtKeys k ((b.put F.PWR_VIN_VIN vin).enterWatch 0) := by
  have hstate : (b.topState == stRun || b.topState == stMaint) = true := by simpa using hs
  exact if_neg (by simp [hstate, ha, hv, hl])

theorem watchEntry_of_other_state {vin lowMs : Nat} (hs : b.topState = stStart ∨ b.topState = stKick) :
    watchEntry vin lowMs k b = (k, b) :=
  if_pos (by rcases hs with hs | hs <;> simp [hs])

theorem watchExit_of_high {vin highMs : Nat} (hs : b.topState = stWatch) (hc : b.fld F.TOP_STATE_WATCH_CAUSE = 1)
    (hv : b.watchThr + b.watchHys ≤ vin) (hd : 1000 * max 1 (b.fld F.PWR_WATCH_DWELL) ≤ highMs) :
    watchExit vin highMs b = (b.put F.PWR_VIN_VIN vin).exitWatch 0 :=
  if_neg (by
    rintro (h | h | h | h)
    · exact h hs
    · exact h hc
    · exact Nat.not_lt.mpr hv h
    · exact Nat.not_lt.mpr hd h)

theorem watchExit_of_other_state {vin highMs : Nat} (hs : b.topState ≠ stWatch) : watchExit vin highMs b = b := if_pos (.inl hs)

/-- R529 has a row for a STATE_SET to WATCH, RUN or MAINT alone. -/
theorem Block.target_of_stateAllowed {target vin : Nat} (h : b.stateAllowed target vin = true) : 2 ≤ target ∧ target ≤ 4 := by
  simp only [Block.stateAllowed, Bool.or_eq_true, Bool.and_eq_true, beq_iff_eq] at h
  omega

@[simp] theorem Block.ycpTake_stateAllowed (k : Key) (h : Hdr) (op target vin : Nat) (b : Block) :
    (b.ycpTake k h op).stateAllowed target vin = b.stateAllowed target vin := by
  have hthr : (b.ycpTake k h op).watchThr = b.watchThr :=
    congrArg (10 * ·) (Block.ycpTake_fld k h op b _ _ _ (by decide))
  simp [Block.stateAllowed, hthr]

end

section
variable {s : State} {h : Hdr} {op : Nat} {q : YReq}

/-- A ready command that would answer PENDING first, refused by its own check. -/
theorem Ready.onB_refused (r : Ready s h op q) {m : Key → Block → Block} {check : Block → Nat} {act : Block → YRes} {st : Nat}
    (hm : m s.key s.b = s.b.ycpBack s.key h op q check act) (hc : check (s.taken h op) = st) (hst : st ≠ yOk) :
    s.onB m = s.answer h op st [] id := by
  subst hc
  simp [State.onB, hm, Block.ycpBack, r.precheck, hst, State.answer]

section
variable {target vin : Nat} (r : Ready s h 0x0C06 ⟨some roleMnt, false⟩)
include r

theorem Ready.stateSet_done (ha : s.b.stateAllowed target vin = true) :
    s.onKB (stateSet h target vin) =
      (s.late h 0x0C06 fun b => ⟨yOk, beBytes 1 (b.stateTo target).topState, b.stateTo target⟩).onKB fun k b =>
        if target = 3 then endMgtKeys k b else (k, b) := by
  have ht := Block.target_of_stateAllowed ha
  have hlate : s.onB (Block.stateSetB h target vin) =
      s.late h 0x0C06 fun b => ⟨yOk, beBytes 1 (b.stateTo target).topState, b.stateTo target⟩ :=
    r.onB_late rfl (by simp [ha]; omega)
  rw [← hlate]
  simp only [State.onKB, State.onB, stateSet, r.precheck, Block.ycpTake_stateAllowed, true_and]
  by_cases h3 : target = 3
  · subst h3
    simp [ha]
  · simp [h3]

theorem Ready.stateSet_refused (ha : s.b.stateAllowed target vin = false) :
    s.onKB (stateSet h target vin) = s.answer h 0x0C06 (if target < 2 ∨ 4 < target then yBadParam else yDenied) [] id := by
  have hst : (if target < 2 ∨ 4 < target then yBadParam else yDenied) ≠ yOk := by split <;> decide
  have hrefused : s.onB (Block.stateSetB h target vin) = s.answer h 0x0C06 (if target < 2 ∨ 4 < target then yBadParam else yDenied) [] id :=
    r.onB_refused rfl (by simp [ha]) hst
  have h3 : ¬(target = 3 ∧ Block.precheck s.key (s.taken h 0x0C06) h 0x0C06 ⟨some roleMnt, false⟩ = yOk ∧
      (s.taken h 0x0C06).stateAllowed 3 vin = true) := by
    rintro ⟨rfl, -, h3⟩
    simp [ha] at h3
  rw [← hrefused]
  exact State.onKB_eq_onB (if_neg h3)

end

end

/-- Settles O51: each event and command by the case of its meaning that its condition selects. -/
theorem clocksAndDeviceStatesTakeEffect : Obligations.ClocksAndDeviceStatesTakeEffect := by
  unfold Obligations.ClocksAndDeviceStatesTakeEffect
  refine ⟨?refclk, ?refclkOther, ?tcxo, ?tcxoOther, ?aon, ?aonRange, ?switch, ?denied, ?relock, ?noRelock, ?entry, ?exit, ?noRow, ?set,
    ?notSet⟩
  case refclk =>
    intro s b1 h1 ha
    exact congrArg Host.Outcome.next (State.onKB_congr (refclkInvalid_of_selected h1 ha))
  case refclkOther =>
    intro s b1 h1 ha
    exact congrArg Host.Outcome.next (State.onKB_congr (refclkInvalid_of_other h1 ha))
  case tcxo =>
    intro s refin ha
    exact congrArg Host.Outcome.next (State.onKB_congr (tcxoFail_of_selected refin ha))
  case tcxoOther =>
    intro s refin ha
    exact congrArg Host.Outcome.next (State.onKB_eq_self (tcxoFail_of_other refin ha))
  case aon =>
    intro s hz hr hf
    exact congrArg Host.Outcome.next (State.onB_congr (ckAonBad_of_bad hr hf))
  case aonRange =>
    intro s hz h20 h45
    exact congrArg Host.Outcome.next (State.onB_congr (ckAonBad_of_range h20 h45))
  case switch =>
    intro s acc value refin b1 hm h1
    exact congrArg Host.Outcome.next (State.onB_congr (refSwitchRequestW_of_allowed hm h1))
  case denied =>
    intro s acc value refin hm
    exact congrArg Host.Outcome.next (State.onB_congr (congrArg WRes.b (refSwitchRequestW_of_denied hm)))
  case relock =>
    intro s h
    exact congrArg Host.Outcome.next (State.onB_congr (pllRelock_of_switch h))
  case noRelock =>
    intro s h
    exact congrArg Host.Outcome.next (State.onB_eq_self (pllRelock_of_no_switch h))
  case entry =>
    intro s vin lowMs hs ha hv hl
    exact congrArg Host.Outcome.next (State.onKB_congr (watchEntry_of_low hs ha hv hl))
  case exit =>
    intro s vin highMs hs hc hv hd
    exact congrArg Host.Outcome.next (State.onB_congr (watchExit_of_high hs hc hv hd))
  case noRow =>
    intro s vin lowMs highMs hs
    have hw : s.b.topState ≠ stWatch := by rcases hs with hs | hs <;> rw [hs] <;> decide
    exact ⟨congrArg Host.Outcome.next (State.onKB_eq_self (watchEntry_of_other_state hs)),
      congrArg Host.Outcome.next (State.onB_eq_self (watchExit_of_other_state hw))⟩
  case set =>
    intro s h target vin r ha
    exact congrArg Host.Outcome.next (r.stateSet_done ha)
  case notSet =>
    intro s h target vin r ha
    exact congrArg Host.Outcome.next (r.stateSet_refused ha)

end Sys2Proof.Machine

/-!
SUPPORT. Taking a reset of reach A or B: what stays of the registers, the recorder and the key block, and the statement settled from it.
-/
namespace Sys2Proof.Machine

/-! ### Changes that only offer records -/

/-- Registers and TOP are the same, and of the recorder only the records offered may differ. -/
def Block.OnlyOffers (b c : Block) : Prop :=
  c.regs = b.regs ∧ c.top = b.top ∧ c.log = { b.log with offered := c.log.offered }

section
variable {b c : Block}

theorem Block.OnlyOffers.refl (b : Block) : b.OnlyOffers b := ⟨rfl, rfl, rfl⟩

theorem Block.OnlyOffers.note (h : b.OnlyOffers c) (code p0 p1 p2 p3 : Nat) : b.OnlyOffers (c.note code p0 p1 p2 p3) := by
  obtain ⟨hregs, htop, hlog⟩ := h
  exact ⟨hregs, htop, congrArg (fun l : Log => { l with offered := (c.note code p0 p1 p2 p3).log.offered }) hlog⟩

theorem Block.OnlyOffers.modHst (h : b.OnlyOffers c) (f : Hst → Hst) : b.OnlyOffers (c.modHst f) := h

theorem Block.OnlyOffers.modSess (h : b.OnlyOffers c) (n : Nat) (f : Session → Session) : b.OnlyOffers (c.modSess n f) := h

theorem Block.OnlyOffers.releaseSaddle (h : b.OnlyOffers c) (reason : Nat) : b.OnlyOffers (c.releaseSaddle reason) := by
  unfold Block.releaseSaddle
  split
  · exact h
  · exact ((h.modSess _ _).modHst _).note _ _ _ _ _

theorem Block.OnlyOffers.closeSession (h : b.OnlyOffers c) (n reason : Nat) : b.OnlyOffers (c.closeSession n reason) := by
  unfold Block.closeSession
  split
  · exact h
  · refine Block.OnlyOffers.note (Block.OnlyOffers.modSess ?_ _ _) _ _ _ _ _
    split
    · exact h.releaseSaddle _
    · exact h

theorem Block.OnlyOffers.foldl {α : Type} {f : Block → α → Block} (hf : ∀ c x, b.OnlyOffers c → b.OnlyOffers (f c x)) (l : List α)
    (h : b.OnlyOffers c) : b.OnlyOffers (l.foldl f c) := by
  induction l generalizing c with
  | nil => exact h
  | cons x l ih => exact ih (hf c x h)

theorem Block.onlyOffers_closeAll (b : Block) (reason : Nat) : b.OnlyOffers (b.closeAll reason) :=
  .foldl (fun _ n h => h.closeSession n reason) _ (.refl b)

theorem Block.onlyOffers_repairHeaders (b : Block) (l : Log) : b.OnlyOffers (b.repairHeaders l) := by
  unfold Block.repairHeaders
  split
  · exact (Block.OnlyOffers.refl b).note _ _ _ _ _
  · split
    · exact (Block.OnlyOffers.refl b).note _ _ _ _ _
    · exact .refl b

theorem Block.OnlyOffers.fld (h : b.OnlyOffers c) (f : Fld) : c.fld f = b.fld f := by
  simp only [Block.fld, Block.rd, h.1]

end

/-! ### Registers a reset keeps -/

theorem keepRegs_get (old new : RegFile) {l : List Nat} {a : Nat} (h : a ∈ l ∨ new.get a = old.get a) :
    (keepRegs old new l).get a = old.get a := by
  induction l generalizing new with
  | nil => exact h.resolve_left List.not_mem_nil
  | cons x l ih =>
    refine ih (new.set x (old.get x)) ?_
    rw [RegFile.get_set]
    split
    next hx => exact .inr (congrArg _ hx.symm)
    next hx => exact h.imp_left fun hm => (List.mem_cons.mp hm).resolve_left hx

section
variable {b : Block}

/-- RST_CAUSE.SRC after a reset of reach A is 0, after one of reach B what it was (R505, R507). -/
theorem Block.deepBlock_cause (b : Block) :
    (b.deepBlock true).fld F.RST_CAUSE_SRC = 0 ∧ (b.deepBlock false).fld F.RST_CAUSE_SRC = b.fld F.RST_CAUSE_SRC := by
  have hreset : ∀ v, bits ((resetRegs v).get Reg.RST_CAUSE) 7 0 = 0 := fun v => by cases v <;> decide
  have hkept : (b.deepBlock false).rd Reg.RST_CAUSE = b.rd Reg.RST_CAUSE := keepRegs_get _ _ (.inl List.mem_cons_self)
  exact ⟨hreset b.top.variant, congrArg (bits · 7 0) hkept⟩

theorem Block.deepReset_reachA (b : Block) : b.deepReset true = ((b.closeAll 3).deepBlock true).repairHeaders (b.closeAll 3).log := by
  simp only [Block.deepReset, if_true]

theorem Block.deepReset_reachB (b : Block) : b.deepReset false = ((b.closeAll 3).deepBlock false).put F.PWR_STAT_CFG_ERR 0 := by
  simp only [Block.deepReset, Bool.false_eq_true, if_false]

theorem Block.deepReset_cause (b : Block) :
    (b.deepReset true).fld F.RST_CAUSE_SRC = 0 ∧ (b.deepReset false).fld F.RST_CAUSE_SRC = b.fld F.RST_CAUSE_SRC := by
  obtain ⟨hA, hB⟩ := (b.closeAll 3).deepBlock_cause
  rw [Block.deepReset_reachA, Block.deepReset_reachB, (Block.onlyOffers_repairHeaders _ _).fld, Block.fld_put_ne _ _ _ _ (by decide), hB]
  exact ⟨hA, (b.onlyOffers_closeAll 3).fld _⟩

/-! ### MRAM's part of TOP, and the recorder -/

/-- Two blocks hold the same of TOP in MRAM: the boot bank, the version floor and the failed-start counter. -/
def Block.SameMram (b c : Block) : Prop :=
  c.top.mramBank = b.top.mramBank ∧ c.top.mramFloor = b.top.mramFloor ∧ c.top.mramFsc = b.top.mramFsc

/-- What a reset of reach A keeps of the recorder: the committed records, the sizes and the clear number; the power-cycle count goes on
and the queue is lost. -/
def Block.LogAfterA (b c : Block) : Prop :=
  c.log.queue = [] ∧ c.log.area = b.log.area ∧ c.log.size = b.log.size ∧ c.log.fixed = b.log.fixed ∧ c.log.clrCnt = b.log.clrCnt ∧
    c.log.pcc = (b.log.pcc + 1) % 2 ^ 24

/-- What a reset of reach B keeps of the recorder besides: the queue, OPSEC and the power-cycle count. -/
def Block.LogAfterB (b c : Block) : Prop :=
  c.log.queue = b.log.queue ∧ c.log.area = b.log.area ∧ c.log.opsec = b.log.opsec ∧ c.log.pcc = b.log.pcc

theorem Block.deepBlock_mram (b : Block) (reachA : Bool) : b.SameMram (b.deepBlock reachA) := ⟨rfl, rfl, rfl⟩

theorem Block.deepBlock_logA (b : Block) : b.LogAfterA (b.deepBlock true) := ⟨rfl, rfl, rfl, rfl, rfl, rfl⟩

theorem Block.deepBlock_logB (b : Block) : b.LogAfterB (b.deepBlock false) := ⟨rfl, rfl, rfl, rfl⟩

section
variable {c d : Block}

theorem Block.SameMram.trans (h : b.SameMram c) (h' : c.SameMram d) : b.SameMram d := by
  obtain ⟨hbank, hfloor, hfsc⟩ := h
  obtain ⟨hbank', hfloor', hfsc'⟩ := h'
  exact ⟨hbank'.trans hbank, hfloor'.trans hfloor, hfsc'.trans hfsc⟩

theorem Block.SameMram.of_top (h : c.top = b.top) : b.SameMram c := by
  unfold Block.SameMram
  rw [h]
  exact ⟨rfl, rfl, rfl⟩

theorem Block.LogAfterA.of_log (h : b.LogAfterA c) (hlog : d.log = { c.log with offered := d.log.offered }) : b.LogAfterA d := by
  obtain ⟨hqueue, harea, hsize, hfixed, hclr, hpcc⟩ := h
  unfold Block.LogAfterA
  rw [hlog]
  exact ⟨hqueue, harea, hsize, hfixed, hclr, hpcc⟩

theorem Block.LogAfterA.from_log (hlog : c.log = { b.log with offered := c.log.offered }) (h : c.LogAfterA d) : b.LogAfterA d := by
  unfold Block.LogAfterA at h
  rw [hlog] at h
  exact h

theorem Block.LogAfterB.of_log (h : b.LogAfterB c) (hlog : d.log = c.log) : b.LogAfterB d := by
  unfold Block.LogAfterB
  rw [hlog]
  exact h

theorem Block.LogAfterB.from_log (hlog : c.log = { b.log with offered := c.log.offered }) (h : c.LogAfterB d) : b.LogAfterB d := by
  unfold Block.LogAfterB at h
  rw [hlog] at h
  exact h

end

theorem Block.deepReset_keepsA (b : Block) : b.SameMram (b.deepReset true) ∧ b.LogAfterA (b.deepReset true) := by
  obtain ⟨-, htop, hlog⟩ := b.onlyOffers_closeAll 3
  obtain ⟨-, htop', hlog'⟩ := Block.onlyOffers_repairHeaders ((b.closeAll 3).deepBlock true) (b.closeAll 3).log
  rw [Block.deepReset_reachA]
  exact ⟨(Block.SameMram.of_top htop).trans (((b.closeAll 3).deepBlock_mram true).trans (.of_top htop')),
    .from_log hlog ((b.closeAll 3).deepBlock_logA.of_log hlog')⟩

theorem Block.deepReset_keepsB (b : Block) : b.SameMram (b.deepReset false) ∧ b.LogAfterB (b.deepReset false) := by
  obtain ⟨-, htop, hlog⟩ := b.onlyOffers_closeAll 3
  rw [Block.deepReset_reachB]
  exact ⟨(Block.SameMram.of_top htop).trans (((b.closeAll 3).deepBlock_mram false).trans (.of_top (Block.put_top ..))),
    .from_log hlog ((b.closeAll 3).deepBlock_logB.of_log (Block.put_log ..))⟩

/-! ### A source asserts where no reset is in progress (R505, R509) -/

/-- The block of an asserted reset: it is in progress, and RST_CAUSE names its sources. -/
def Block.asserted (b : Block) (run : ResetRun) : Block :=
  (b.modTop fun t => { t with rstRun := some run, resetNLow := decide (run.reach < 2) }).cause run.srcs run.self

theorem assertReset_of_idle {k : Key} (src : Nat) (self noCount : Bool) (hr : b.top.rstRun = none) :
    assertReset src self noCount k b =
      ((resetEffects (srcReach src) k b).1,
        (resetEffects (srcReach src) k b).2.asserted ⟨srcReach src, 1 <<< src, b.now, self, noCount⟩) := by
  simp only [assertReset, beginReset, Block.joinedRun, Block.deepens, Block.joinedReach, hr, if_true, Block.asserted]

section
variable {run : ResetRun}

theorem Block.asserted_cause (hs : run.self = false) (hsrc : run.srcs < 2 ^ 8) (b : Block) :
    (b.asserted run).fld F.RST_CAUSE_SRC = b.fld F.RST_CAUSE_SRC ||| run.srcs := by
  have hlt : b.fld F.RST_CAUSE_SRC ||| run.srcs < 2 ^ 8 := Nat.or_lt_two_pow (bits_lt _ 7 0) hsrc
  rw [Block.asserted, hs]
  exact (Block.fld_put _ F.RST_CAUSE_SRC _ (by decide)).trans (Nat.mod_eq_of_lt hlt)

theorem Block.asserted_top (hs : run.self = false) (b : Block) :
    (b.asserted run).top = { b.top with rstRun := some run, resetNLow := decide (run.reach < 2) } := by
  rw [Block.asserted, hs]
  rfl

theorem Block.asserted_log (hs : run.self = false) (b : Block) : (b.asserted run).log = b.log := by
  rw [Block.asserted, hs]
  rfl

end

/-! ### The supply measured (R531) -/

theorem Block.supply_log (b : Block) (vin vstore : Nat) :
    ∃ secs since, (b.supply vin vstore).log = { b.log with opsec := secs, opsecFrom := since } := by
  unfold Block.supply
  dsimp only
  split
  · exact ⟨_, _, rfl⟩
  · split
    · exact ⟨_, _, rfl⟩
    · exact ⟨_, _, rfl⟩

theorem Block.supply_top (b : Block) (vin vstore : Nat) : (b.supply vin vstore).top = b.top := by
  unfold Block.supply
  dsimp only
  split
  · rfl
  · split <;> rfl

theorem Block.supply_cause (b : Block) (vin vstore : Nat) : (b.supply vin vstore).fld F.RST_CAUSE_SRC = b.fld F.RST_CAUSE_SRC := by
  have hputs : (((b.put F.PWR_VIN_VIN vin).put F.PWR_VIN_VSTORE vstore).putFlag F.PWR_STAT_HOLDUP_OK (decide (3800 ≤ vstore))).fld
      F.RST_CAUSE_SRC = b.fld F.RST_CAUSE_SRC := by
    rw [Block.putFlag, Block.fld_put_ne _ _ _ _ (by decide), Block.fld_put_ne _ _ _ _ (by decide), Block.fld_put_ne _ _ _ _ (by decide)]
  rw [← hputs]
  unfold Block.supply
  dsimp only
  split
  · rfl
  · split <;> rfl

end

/-! ### POR and LOCKUP where no reset is in progress -/

theorem Key.deepReset_keeps (k : Key) (reachA : Bool) :
    (k.deepReset reachA).duk = none ∧ (k.deepReset reachA).slots = k.slots.map (fun x => { KeySlot.empty with gen := x.gen }) ∧
      (k.deepReset reachA).lcsA = k.lcsA ∧ (k.deepReset reachA).lcsB = k.lcsB ∧ (k.deepReset reachA).store = k.store ∧
      (k.deepReset reachA).tseq = k.tseq := ⟨rfl, rfl, rfl, rfl, rfl, rfl⟩

theorem Key.deepReset_latch (k : Key) : (k.deepReset false).latch = k.latch := rfl

section
variable {k : Key} {b d : Block} {src : Nat}

theorem assertReset_of_reachA (self noCount : Bool) (hr : b.top.rstRun = none) (hs : srcReach src = 0) :
    assertReset src self noCount k b =
      (k.deepReset true, (b.deepReset true).asserted ⟨0, 1 <<< src, b.now, self, noCount⟩) := by
  rw [assertReset_of_idle src self noCount hr, hs, resetEffects, if_pos rfl]

theorem assertReset_of_reachB (self noCount : Bool) (hr : b.top.rstRun = none) (hs : srcReach src = 1) :
    assertReset src self noCount k b =
      (k.deepReset false, (b.deepReset false).asserted ⟨1, 1 <<< src, b.now, self, noCount⟩) := by
  rw [assertReset_of_idle src self noCount hr, hs, resetEffects, if_neg (by decide), if_pos rfl]

/-- The reset a POR begins, and the one a LOCKUP begins. -/
abbrev porRun (now : Nat) : ResetRun := ⟨0, 1 <<< srcPor, now, false, false⟩
abbrev lockupRun (now : Nat) : ResetRun := ⟨1, 1 <<< srcLockup, now, false, false⟩

theorem por_of_idle {vin vstore : Nat} (hr : b.top.rstRun = none) :
    por vin vstore k b =
      (k.deepReset true, ((b.deepReset true).asserted (porRun b.now)).supply vin vstore) := by
  simp only [por, assertReset_of_reachA false false hr (show srcReach srcPor = 0 by decide)]

theorem lockup_of_idle {point : Nat} (hr : b.top.rstRun = none) (hd : d = b.modGrd fun g => { g with lockup := some point }) :
    lockup point k b = (k.deepReset false, (d.deepReset false).asserted (lockupRun b.now)) := by
  subst hd
  exact assertReset_of_reachB false false hr (by decide)

/-- The assertion and the supply's measure, after the effects of reach A, keep what these kept. -/
theorem Block.asserted_supply_reachA (hm : b.SameMram d) (hl : b.LogAfterA d) {run : ResetRun} (hs : run.self = false) (vin vstore : Nat) :
    b.SameMram ((d.asserted run).supply vin vstore) ∧ b.LogAfterA ((d.asserted run).supply vin vstore) := by
  obtain ⟨secs, since, hlog⟩ := (d.asserted run).supply_log vin vstore
  unfold Block.SameMram Block.LogAfterA
  rw [Block.supply_top, Block.asserted_top hs, hlog, Block.asserted_log hs]
  exact ⟨hm, hl⟩

theorem Block.asserted_reachB (hm : b.SameMram d) (hl : b.LogAfterB d) {run : ResetRun} (hs : run.self = false) :
    b.SameMram (d.asserted run) ∧ b.LogAfterB (d.asserted run) := by
  unfold Block.SameMram
  rw [Block.asserted_top hs]
  exact ⟨hm, hl.of_log (Block.asserted_log hs d)⟩

/-- An asserted reset of reach A or B drives RESET_N. -/
theorem Block.asserted_deep {run : ResetRun} (hs : run.self = false) (hreach : run.reach < 2) (d : Block) :
    (d.asserted run).top.resetNLow = true ∧ (d.asserted run).top.rstRun.map (·.reach) = some run.reach := by
  rw [Block.asserted_top hs]
  exact ⟨decide_eq_true hreach, rfl⟩

end

/-- Settles O58: the effects of the reach on key block, recorder and TOP, then the assertion, which names the source. -/
theorem aResetKeepsWhatItsReachKeeps : Obligations.AResetKeepsWhatItsReachKeeps := by
  unfold Obligations.AResetKeepsWhatItsReachKeeps
  refine ⟨?por, ?lockup⟩
  case por =>
    intro s vin vstore hr
    obtain ⟨hduk, hslots, hlcsA, hlcsB, hstore, htseq⟩ := s.key.deepReset_keeps true
    obtain ⟨hm, hl⟩ := s.b.deepReset_keepsA
    obtain ⟨hzero, -⟩ := s.b.deepReset_cause
    have hpor := por_of_idle (k := s.key) (vin := vin) (vstore := vstore) hr
    generalize s.b.deepReset true = d at hm hl hzero hpor
    obtain ⟨⟨hbank, hfloor, hfsc⟩, hqueue, harea, hsize, hfixed, hclr, hpcc⟩ :=
      Block.asserted_supply_reachA hm hl (run := porRun s.b.now) rfl vin vstore
    obtain ⟨hlow, hreach⟩ := Block.asserted_deep (run := porRun s.b.now) rfl Nat.zero_lt_two d
    rw [← Block.supply_top _ vin vstore] at hlow hreach
    have hcause : ((d.asserted (porRun s.b.now)).supply vin vstore).fld F.RST_CAUSE_SRC = 1 := by
      rw [Block.supply_cause, Block.asserted_cause rfl (show 1 <<< srcPor < 2 ^ 8 by decide), hzero, Nat.zero_or]
      rfl
    refine ⟨s.onKB (por vin vstore), rfl, ?_⟩
    simp only [State.onKB, hpor]
    exact ⟨hcause, hlow, hreach, hduk, hslots, hlcsA, hlcsB, hstore, htseq, hqueue, harea, hsize, hfixed, hclr, hpcc, hbank, hfloor, hfsc⟩
  case lockup =>
    intro s point hr
    obtain ⟨b, hb⟩ : ∃ b, b = s.b.modGrd fun g => { g with lockup := some point } := ⟨_, rfl⟩
    have hsame : s.b.OnlyOffers b := by
      subst hb
      exact .refl s.b
    have hsrc := hsame.fld F.RST_CAUSE_SRC
    obtain ⟨-, htop, hlog⟩ := hsame
    obtain ⟨hduk, hslots, hlcsA, hlcsB, hstore, htseq⟩ := s.key.deepReset_keeps false
    obtain ⟨hm, hl⟩ := b.deepReset_keepsB
    obtain ⟨-, hkept⟩ := b.deepReset_cause
    have hlockup := lockup_of_idle (k := s.key) hr hb
    generalize b.deepReset false = d at hm hl hkept hlockup
    obtain ⟨⟨hbank, hfloor, hfsc⟩, hqueue, harea, hopsec, hpcc⟩ :=
      Block.asserted_reachB ((Block.SameMram.of_top htop).trans hm) (.from_log hlog hl)
        (run := lockupRun s.b.now) rfl
    obtain ⟨hlow, hreach⟩ := Block.asserted_deep (run := lockupRun s.b.now) rfl Nat.one_lt_two d
    have hcause : (d.asserted (lockupRun s.b.now)).fld F.RST_CAUSE_SRC = s.b.fld F.RST_CAUSE_SRC ||| 0x80 := by
      rw [Block.asserted_cause rfl (show 1 <<< srcLockup < 2 ^ 8 by decide), hkept, hsrc]
      rfl
    refine ⟨s.onKB (lockup point), rfl, ?_⟩
    simp only [State.onKB, hlockup]
    exact ⟨hcause, hlow, hreach, hduk, hslots, hlcsA, hlcsB, hstore, htseq, s.key.deepReset_latch, hqueue, harea, hopsec, hpcc, hbank,
      hfloor, hfsc⟩

end Sys2Proof.Machine
